-- ==== Sys2Proof/Word.lean ====
section
/-!
DEFINITION. The words of the device: a byte, a 32-bit register (R13), a 64-bit word (R11) and the plain
arithmetic of a word of any width.
-/
namespace Sys2Proof

/-- One byte of memory. -/
abbrev Byte := BitVec 8

/-- A 32-bit register (R13). -/
abbrev Reg := BitVec 32

/-- A 64-bit word of memory or of a verdict core (R11). -/
abbrev Word := BitVec 64

end Sys2Proof
end

