-- ==== Sys2Proof/Syntax.lean ====
section
/-!
DEFINITION. The commands of the device: one constructor per row of the opcode table, with the operands the command
carries. Register writes carry the page instance and the 32-bit word written; events carry what the event brings.
-/
namespace Sys2Proof


/-- What a STATE frame tells beyond its payload (R389, R394): the sender's EPOCH, DSEQ and strand heads, the LAST_MIRRORED of
its promotion, and whether it grants a resumption. -/
structure TwinPos where
  epoch : Nat := 0
  dseq : Nat := 0
  heads : List Nat := []
  mirrored : List Nat := []
  resume : Bool := false
deriving DecidableEq, Repr

/-- The commands, in the order of the opcode table. -/
inductive Instr where
  /-- REGISTER_WRITE (R14) -/
  | registerWrite (cust : Bool) (be : BitVec 4) (a : Nat) (v : Reg)
  /-- LO_READ_LATCH (R13) -/
  | loReadLatch (cust : Bool) (a : Nat)
  /-- RND_VCK_PLL_LOSS (R35) -/
  | rndVckPllLoss (o : Nat) (vck : Bool)
  /-- XOZ_PLL_LOSS (R35) -/
  | xozPllLoss (o k : Nat)
  /-- FAB_PLL_LOSS (R643) -/
  | fabPllLoss (o : Nat)
  /-- FAB_RELOCK_TIMEOUT (R643) -/
  | fabRelockTimeout (o : Nat)
  /-- TIM_PLL_LOSS (R35) -/
  | timPllLoss
  /-- LRX_LOSS_OF_LOCK (R35) -/
  | lrxLossOfLock (n : Nat)
  /-- PORTMODE_WRITE (R52) -/
  | portmodeWrite (d : Nat) (v : Reg)
  /-- CLAUSE73_PAGE_RX (R49) -/
  | clause73PageRx (n : Nat)
  /-- RX_FRAME_START (R81) -/
  | rxFrameStart (n : Nat) (d : List Byte)
  /-- RX_FRAME_END (R51) -/
  | rxFrameEnd (n : Nat) (rest : List Byte) (err : Bool)
  /-- RX_OVERSIZE_DETECT (R110) -/
  | rxOversizeDetect (n : Nat)
  /-- FEC_CODEWORD_DECODED (R56) -/
  | fecCodewordDecoded (n : Nat) (bad : Bool) (bits : Nat) (syms : List Nat)
  /-- CONTROL_SLOT_TX (R682) -/
  | controlSlotTx (n : Nat)
  /-- CONTROL_SLOT_RX (R60) -/
  | controlSlotRx (n : Nat) (w : Word)
  /-- SIGNAL_LOCK (R65) -/
  | signalLock (n : Nat)
  /-- TRAIN_DONE (R62) -/
  | trainDone (n : Nat) (tx rx : Reg)
  /-- TRAIN_TIMEOUT (R62) -/
  | trainTimeout (n : Nat)
  /-- EQ_COEFF_UPDATE (R64) -/
  | eqCoeffUpdate (n : Nat) (tx rx : Reg)
  /-- KEEP_UP_TIMEOUT (R64) -/
  | keepUpTimeout (n : Nat)
  /-- ALIGN_LOCKS_REACHED (R680) -/
  | alignLocksReached (n : Nat)
  /-- ALIGN_TIMEOUT (R65) -/
  | alignTimeout (n : Nat)
  /-- LINK_LOSS (R65) -/
  | linkLoss (n : Nat)
  /-- FAULT_CLEAR_TIMEOUT (R65) -/
  | faultClearTimeout (n : Nat)
  /-- FAULT_ORDERED_SET_RX (R66) -/
  | faultOrderedSetRx (n : Nat) (remote : Bool)
  /-- FAULT_CEASE_TIMEOUT (R66) -/
  | faultCeaseTimeout (n : Nat)
  /-- LN_UP (R71) -/
  | lnUp (n : Nat) (v : Reg)
  /-- LN_DOWN (R65) -/
  | lnDown (n : Nat) (v : Reg)
  /-- LN_TEST (R628) -/
  | lnTest (n : Nat) (v : Reg)
  /-- LN_RETRAIN (R65) -/
  | lnRetrain (n : Nat) (v : Reg)
  /-- LN_CLR_CNT (R72) -/
  | lnClrCnt (n : Nat) (v : Reg)
  /-- LN_CFG_WRITE (R69) -/
  | lnCfgWrite (n : Nat) (v : Reg)
  /-- LN_TXEQ_WRITE (R70) -/
  | lnTxeqWrite (n : Nat) (v : Reg)
  /-- LN_MAXFRAME_WRITE (R109) -/
  | lnMaxframeWrite (n : Nat) (v : Reg)
  /-- NORIOLYS_FRAME_RX (R74) -/
  | noriolysFrameRx (n : Nat) (b : List Byte)
  /-- NAK_RX (R75) -/
  | nakRx (i : Nat)
  /-- BOND_RX (R76) -/
  | bondRx
  /-- SA_INSTALL (R86) -/
  | saInstall (d r i : Nat)
  /-- SA_DISABLE (R90) -/
  | saDisable (d r i : Nat)
  /-- SA_READ (R119) -/
  | saRead (d r i : Nat)
  /-- SA_CMD_COMPLETE (R119) -/
  | saCmdComplete (d : Nat)
  /-- SC_EVENT_READ (R117) -/
  | scEventRead (d : Nat)
  /-- GRAIN_DISPATCH (R96) -/
  | grainDispatch (n : Nat)
  /-- ICV_RESULT (R99) -/
  | icvResult (n : Nat)
  /-- COMMIT_CHECK (R91) -/
  | commitCheck (n : Nat)
  /-- TRUST_OUTCOME_ARRIVAL (R683) -/
  | trustOutcomeArrival (n : Nat)
  /-- EGRESS_ICV_EMIT (R107) -/
  | egressIcvEmit (l : Nat)
  /-- TX_FRAME_START (R87) -/
  | txFrameStart (l : Nat)
  /-- KAT_SLOT_EXPIRY (R112) -/
  | katSlotExpiry (k : Nat)
  /-- KAT_TEST_ENTER (R112) -/
  | katTestEnter (k : Nat)
  /-- GRAIN_KAT_VECTOR (R113) -/
  | grainKatVector (k : Nat) (pass : Bool)
  /-- SC_KAT_CTL_WRITE (R115) -/
  | scKatCtlWrite (d : Nat) (v : Reg)
  /-- SC_PORT_WRITE (R118) -/
  | scPortWrite (n : Nat) (v : Reg)
  /-- FIRST_BLOCKS_CLASSIFY (R125) -/
  | firstBlocksClassify (n : Nat)
  /-- FT_ADD (R124) -/
  | ftAdd (o : Nat)
  /-- FT_DELETE (R124) -/
  | ftDelete (o : Nat)
  /-- FT_LOOKUP (R124) -/
  | ftLookup (o : Nat)
  /-- FT_CMD_COMPLETE (R124) -/
  | ftCmdComplete
  /-- CONG_MAP_PROPAGATE (R130) -/
  | congMapPropagate (o b : Nat)
  /-- DQ_QCFG_WRITE (R158) -/
  | dqQcfgWrite (q : Nat) (v : Reg)
  /-- DQ_PORT_WRITE (R158) -/
  | dqPortWrite (n : Nat) (v : Reg)
  /-- ENQUEUE_NOTICE (R134) -/
  | enqueueNotice (n : Nat)
  /-- QUEUE_HEAD_STAMP (R140) -/
  | queueHeadStamp (q : Nat)
  /-- END_NOTICE (R141) -/
  | endNotice (n : Nat)
  /-- LEVEL1_NOMINATE (R135) -/
  | level1Nominate (l : Nat)
  /-- PULL_GRANT (R137) -/
  | pullGrant (d : Nat)
  /-- INPUT_DRAM_GRANT (R136) -/
  | inputDramGrant (src : Nat)
  /-- LINK_GRANT (R146) -/
  | linkGrant (a b : Nat)
  /-- EGRESS_DRAM_GRANT (R135) -/
  | egressDramGrant (d : Nat)
  /-- LINK_CELL_RX (R146) -/
  | linkCellRx (a b ch : Nat) (bad : Bool)
  /-- LINK_CREDIT_RETURN (R146) -/
  | linkCreditReturn (a b ch : Nat)
  /-- LINK_DELIVERY_TIMEOUT (R147) -/
  | linkDeliveryTimeout (a b : Nat)
  /-- HOLD_EXPIRY (R155) -/
  | holdExpiry (q : Nat)
  /-- CVL_CREDIT_RX (R148) -/
  | cvlCreditRx (n ctr : Nat) (pay : List Word) (tag : Word)
  /-- CVL_ECHO_REQ_RX (R151) -/
  | cvlEchoReqRx (n : Nat) (pay : List Word)
  /-- CVL_ECHO_RSP_RX (R151) -/
  | cvlEchoRspRx (n : Nat) (pay : List Word)
  /-- CVL_QUENCH_RX (R152) -/
  | cvlQuenchRx (n ctr : Nat) (pay : List Word) (tag : Word)
  /-- CVL_RESUME_RX (R152) -/
  | cvlResumeRx (n ctr : Nat) (pay : List Word) (tag : Word)
  /-- CVL_FIRMWARE_RX (R151) -/
  | cvlFirmwareRx (n type ctr : Nat) (pay : List Word) (tag : Word)
  /-- QUENCH_EXPIRY (R152) -/
  | quenchExpiry (i : Nat)
  /-- CVL_TX_MESSAGE (R153) -/
  | cvlTxMessage (d : Nat) (v : Reg)
  /-- CVL_TX_FRAME (R153) -/
  | cvlTxFrame (d : Nat) (v : Reg)
  /-- CVL_KEY_INSTALL (R150) -/
  | cvlKeyInstall (n : Nat) (v : Reg)
  /-- CVL_RXSTAT_READ (R157) -/
  | cvlRxstatRead (d : Nat)
  /-- ENVELOPE_CHECK (R163) -/
  | envelopeCheck (n : Nat)
  /-- DIA_DATA_ACCESS (R167) -/
  | diaDataAccess (o : Nat) (write : Bool) (v : Reg)
  /-- DIA_EN_WRITE (R167) -/
  | diaEnWrite (o h : Nat) (v : Reg)
  /-- RECORD_COMPLETE (R172) -/
  | recordComplete (n : Nat)
  /-- SLOT_FILLED (R174) -/
  | slotFilled (v : Nat)
  /-- HELD_APPEND_ROOM (R176) -/
  | heldAppendRoom (v : Nat)
  /-- RESP_TMO_EXPIRY (R178) -/
  | respTmoExpiry (v : Nat)
  /-- VERDICT_FWD_REQUEST_RX (R181) -/
  | verdictFwdRequestRx
  /-- VERDICT_FWD_RESPONSE_RX (R181) -/
  | verdictFwdResponseRx
  /-- FWD_ENTRY_TIMEOUT (R180) -/
  | fwdEntryTimeout (i : Nat)
  /-- OZ_VP_CFG_WRITE (R185) -/
  | ozVpCfgWrite (o : Nat) (v : Reg)
  /-- VP_SERVICE_REG_WRITE (R185) -/
  | vpServiceRegWrite (o off : Nat) (v : Reg)
  /-- KEY_ENGINE_TAKE (R187) -/
  | keyEngineTake (o : Nat)
  /-- PIN_XLATE (R204) -/
  | pinXlate (o e : Nat)
  /-- MAC_GEN (R208) -/
  | macGen (o e : Nat)
  /-- MAC_VER (R208) -/
  | macVer (o e : Nat)
  /-- DUKPT_DERIVE (R210) -/
  | dukptDerive (o e : Nat)
  /-- ARQC_VERIFY (R211) -/
  | arqcVerify (o e : Nat)
  /-- FF1_ENC (R214) -/
  | ff1Enc (o e : Nat)
  /-- FF1_DEC (R214) -/
  | ff1Dec (o e : Nat)
  /-- KB_IMPORT (R216) -/
  | kbImport (o e : Nat)
  /-- KB_EXPORT (R217) -/
  | kbExport (o e : Nat)
  /-- KEY_OP_COMPLETE (R201) -/
  | keyOpComplete (o e : Nat)
  /-- KE_SELF_TEST (R219) -/
  | keSelfTest (o e : Nat) (pass : Bool)
  /-- KV_PCF_CFG_WRITE (R222) -/
  | kvPcfCfgWrite (o : Nat) (v : Reg)
  /-- KV_PCF_CLR_CNT (R221) -/
  | kvPcfClrCnt (o : Nat)
  /-- ADD (R232) -/
  | add (c : Nat) (rd ra rb : BitVec 5) (w : Bool)
  /-- SUB (R232) -/
  | sub (c : Nat) (rd ra rb : BitVec 5) (w : Bool)
  /-- ADDO (R234) -/
  | addo (c : Nat) (rd ra rb : BitVec 5) (w : Bool)
  /-- SUBO (R234) -/
  | subo (c : Nat) (rd ra rb : BitVec 5) (w : Bool)
  /-- NEG (R234) -/
  | neg (c : Nat) (rd ra rb : BitVec 5) (w : Bool)
  /-- ABS (R234) -/
  | abs (c : Nat) (rd ra rb : BitVec 5) (w : Bool)
  /-- AND (R232) -/
  | and (c : Nat) (rd ra rb : BitVec 5)
  /-- OR (R232) -/
  | or (c : Nat) (rd ra rb : BitVec 5)
  /-- XOR (R232) -/
  | xor (c : Nat) (rd ra rb : BitVec 5)
  /-- SLL (R234) -/
  | sll (c : Nat) (rd ra rb : BitVec 5) (w : Bool)
  /-- SRL (R234) -/
  | srl (c : Nat) (rd ra rb : BitVec 5) (w : Bool)
  /-- SRA (R234) -/
  | sra (c : Nat) (rd ra rb : BitVec 5) (w : Bool)
  /-- ROR (R234) -/
  | ror (c : Nat) (rd ra rb : BitVec 5) (w : Bool)
  /-- SLT (R232) -/
  | slt (c : Nat) (rd ra rb : BitVec 5)
  /-- SLTU (R232) -/
  | sltu (c : Nat) (rd ra rb : BitVec 5)
  /-- SEQ (R232) -/
  | seq (c : Nat) (rd ra rb : BitVec 5)
  /-- MIN (R232) -/
  | min (c : Nat) (rd ra rb : BitVec 5)
  /-- MAX (R232) -/
  | max (c : Nat) (rd ra rb : BitVec 5)
  /-- MUL (R232) -/
  | mul (c : Nat) (rd ra rb : BitVec 5) (w : Bool)
  /-- MULH (R232) -/
  | mulh (c : Nat) (rd ra rb : BitVec 5)
  /-- MULHU (R232) -/
  | mulhu (c : Nat) (rd ra rb : BitVec 5)
  /-- MULO (R234) -/
  | mulo (c : Nat) (rd ra rb : BitVec 5) (w : Bool)
  /-- DIV (R235) -/
  | div (c : Nat) (rd ra rb : BitVec 5) (w : Bool)
  /-- DIVU (R235) -/
  | divu (c : Nat) (rd ra rb : BitVec 5) (w : Bool)
  /-- REM (R235) -/
  | rem (c : Nat) (rd ra rb : BitVec 5) (w : Bool)
  /-- REMU (R235) -/
  | remu (c : Nat) (rd ra rb : BitVec 5) (w : Bool)
  /-- CLZ (R232) -/
  | clz (c : Nat) (rd ra rb : BitVec 5)
  /-- CTZ (R232) -/
  | ctz (c : Nat) (rd ra rb : BitVec 5)
  /-- POPC (R232) -/
  | popc (c : Nat) (rd ra rb : BitVec 5)
  /-- BSWAP (R232) -/
  | bswap (c : Nat) (rd ra rb : BitVec 5)
  /-- SEXTB (R232) -/
  | sextb (c : Nat) (rd ra rb : BitVec 5)
  /-- SEXTH (R232) -/
  | sexth (c : Nat) (rd ra rb : BitVec 5)
  /-- ZEXTW (R232) -/
  | zextw (c : Nat) (rd ra rb : BitVec 5)
  /-- CMOVZ (R232) -/
  | cmovz (c : Nat) (rd ra rb : BitVec 5)
  /-- CMOVN (R232) -/
  | cmovn (c : Nat) (rd ra rb : BitVec 5)
  /-- ADDI (R233) -/
  | addi (c : Nat) (rd ra : BitVec 5) (imm : BitVec 16)
  /-- ADDIW (R233) -/
  | addiw (c : Nat) (rd ra : BitVec 5) (imm : BitVec 16)
  /-- ANDI (R233) -/
  | andi (c : Nat) (rd ra : BitVec 5) (imm : BitVec 16)
  /-- ORI (R233) -/
  | ori (c : Nat) (rd ra : BitVec 5) (imm : BitVec 16)
  /-- XORI (R233) -/
  | xori (c : Nat) (rd ra : BitVec 5) (imm : BitVec 16)
  /-- SLTI (R233) -/
  | slti (c : Nat) (rd ra : BitVec 5) (imm : BitVec 16)
  /-- SLTIU (R233) -/
  | sltiu (c : Nat) (rd ra : BitVec 5) (imm : BitVec 16)
  /-- LUI (R233) -/
  | lui (c : Nat) (rd ra : BitVec 5) (imm : BitVec 16)
  /-- SLLI (R233) -/
  | slli (c : Nat) (rd ra : BitVec 5) (cnt : BitVec 8) (w : Bool)
  /-- SRLI (R233) -/
  | srli (c : Nat) (rd ra : BitVec 5) (cnt : BitVec 8) (w : Bool)
  /-- SRAI (R233) -/
  | srai (c : Nat) (rd ra : BitVec 5) (cnt : BitVec 8) (w : Bool)
  /-- RORI (R233) -/
  | rori (c : Nat) (rd ra : BitVec 5) (cnt : BitVec 8) (w : Bool)
  /-- MFS (R225) -/
  | mfs (c : Nat) (rd ra : BitVec 5) (imm : BitVec 16)
  /-- MTS (R225) -/
  | mts (c : Nat) (rd ra : BitVec 5) (imm : BitVec 16)
  /-- LOAD (R237) -/
  | load (c : Nat) (rd ra : BitVec 5) (sub : BitVec 4) (off : BitVec 12)
  /-- STORE (R238) -/
  | store (c : Nat) (rs ra : BitVec 5) (sub : BitVec 4) (off : BitVec 12)
  /-- STORE_BUFFER_DRAIN (R239) -/
  | storeBufferDrain (c : Nat)
  /-- LATE_STORE_REPORT (R284) -/
  | lateStoreReport (c : Nat)
  /-- CAS (R240) -/
  | cas (c : Nat) (rd ra rb : BitVec 5)
  /-- AMOADD (R240) -/
  | amoadd (c : Nat) (rd ra rb : BitVec 5)
  /-- AMOSWAP (R240) -/
  | amoswap (c : Nat) (rd ra rb : BitVec 5)
  /-- FENCE (R239) -/
  | fence (c : Nat) (rd ra rb : BitVec 5)
  /-- ISYNC (R241) -/
  | isync (c : Nat) (rd ra rb : BitVec 5)
  /-- BRK (R285) -/
  | brk (c : Nat) (rd ra rb : BitVec 5)
  /-- BEQZ (R242) -/
  | beqz (c : Nat) (ra : BitVec 5) (off : BitVec 21)
  /-- BNEZ (R242) -/
  | bnez (c : Nat) (ra : BitVec 5) (off : BitVec 21)
  /-- BLTZ (R242) -/
  | bltz (c : Nat) (ra : BitVec 5) (off : BitVec 21)
  /-- BGEZ (R242) -/
  | bgez (c : Nat) (ra : BitVec 5) (off : BitVec 21)
  /-- BGTZ (R242) -/
  | bgtz (c : Nat) (ra : BitVec 5) (off : BitVec 21)
  /-- BLEZ (R242) -/
  | blez (c : Nat) (ra : BitVec 5) (off : BitVec 21)
  /-- J (R242) -/
  | j (c : Nat) (off : BitVec 26)
  /-- CALL (R243) -/
  | call (c : Nat) (off : BitVec 26)
  /-- JR (R242) -/
  | jr (c : Nat) (rd ra rb : BitVec 5)
  /-- JALR (R243) -/
  | jalr (c : Nat) (rd ra rb : BitVec 5)
  /-- GATE (R270) -/
  | gate (c : Nat) (rd ra : BitVec 5) (imm : BitVec 16)
  /-- RETG (R273) -/
  | retg (c : Nat) (rd ra rb : BitVec 5)
  /-- ERET (R280) -/
  | eret (c : Nat) (rd ra rb : BitVec 5)
  /-- LOOP (R246) -/
  | loop (c : Nat) (n imm : Bool) (cnt : BitVec 10) (len : BitVec 14)
  /-- WAIT (R257) -/
  | wait (c : Nat) (rd ra rb : BitVec 5)
  /-- POLL (R257) -/
  | poll (c : Nat) (rd ra rb : BitVec 5)
  /-- WFE (R259) -/
  | wfe (c : Nat) (rd ra rb : BitVec 5)
  /-- RDTIM (R260) -/
  | rdtim (c : Nat) (rd ra rb : BitVec 5)
  /-- JAPP (R253) -/
  | japp (c : Nat) (rd ra rb : BitVec 5)
  /-- LREAD (R255) -/
  | lread (c : Nat) (rd ra rb : BitVec 5)
  /-- LWRITE (R255) -/
  | lwrite (c : Nat) (rd ra rb : BitVec 5)
  /-- RESPOND (R254) -/
  | respond (c : Nat) (rd ra rb : BitVec 5)
  /-- CTXUPD (R255) -/
  | ctxupd (c : Nat) (rd ra rb : BitVec 5)
  /-- DMA (R256) -/
  | dma (c : Nat) (rd ra rb : BitVec 5)
  /-- SLREL (R258) -/
  | slrel (c : Nat) (rd ra rb : BitVec 5)
  /-- KOP (R252) -/
  | kop (c : Nat) (rd ra : BitVec 5) (lo : BitVec 16)
  /-- TICKET_COMPLETE (R251) -/
  | ticketComplete (c t code : Nat)
  /-- DMA_COMPLETE (R256) -/
  | dmaComplete (o i : Nat)
  /-- INTERRUPT_ENTRY (R288) -/
  | interruptEntry (c : Nat)
  /-- TIMER_COMPARE (R287) -/
  | timerCompare (c : Nat)
  /-- VBUDGET_EXPIRY (R292) -/
  | vbudgetExpiry (c k : Nat)
  /-- WDOG_STAGE1 (R294) -/
  | wdogStage1 (c : Nat)
  /-- WDOG_STAGE2 (R294) -/
  | wdogStage2 (c : Nat)
  /-- VC_RUN (R264) -/
  | vcRun (c : Nat) (run : Bool)
  /-- VC_RESET (R264) -/
  | vcReset (c : Nat) (run : Bool)
  /-- VAULT_FILL (R307) -/
  | vaultFill (o h : Nat)
  /-- VAULT_FILL_DONE (R309) -/
  | vaultFillDone (o h : Nat)
  /-- READ_ATTR (R310) -/
  | readAttr (o : Nat)
  /-- RETIRE (R304) -/
  | retire (o : Nat)
  /-- DELETE (R304) -/
  | delete (o : Nat)
  /-- EVICT (R310) -/
  | evict (o : Nat)
  /-- KEY_CMD_COMPLETE (R310) -/
  | keyCmdComplete (o : Nat)
  /-- ZONE_START (R327) -/
  | zoneStart (o : Nat)
  /-- ZONE_STOP (R313) -/
  | zoneStop (o : Nat)
  /-- ZONE_REKEY (R314) -/
  | zoneRekey (o : Nat)
  /-- REKEY_WALK_END (R314) -/
  | rekeyWalkEnd (z : Nat)
  /-- ZONE_EXPORT (R315) -/
  | zoneExport (o : Nat)
  /-- ZONE_LOAD (R315) -/
  | zoneLoad (o : Nat)
  /-- ZONE_TRANSFER_DONE (R315) -/
  | zoneTransferDone (z : Nat)
  /-- ZONE_RANGE_WRITE (R299) -/
  | zoneRangeWrite (o : Nat) (isCount : Bool) (v : Reg)
  /-- KV_BASE_WRITE (R326) -/
  | kvBaseWrite (o off : Nat) (v : Reg)
  /-- KV_CFG_WRITE (R328) -/
  | kvCfgWrite (o : Nat) (v : Reg)
  /-- CREATE (R318) -/
  | create (o i : Nat)
  /-- MODIFY (R318) -/
  | modify (o i : Nat)
  /-- CTX_READ (R318) -/
  | ctxRead (o i : Nat)
  /-- DESTROY (R318) -/
  | destroy (o i : Nat)
  /-- RESET_LIMITER (R318) -/
  | resetLimiter (o i : Nat)
  /-- CTX_CMD_COMPLETE (R318) -/
  | ctxCmdComplete (o : Nat)
  /-- CONTEXT_FILL_DONE (R320) -/
  | contextFillDone (i : Nat)
  /-- CONTEXT_WRITEBACK (R322) -/
  | contextWriteback (i : Nat)
  /-- CTXUPD_STORE (R324) -/
  | ctxupdStore (c t : Nat)
  /-- CTXUPD_ADD (R324) -/
  | ctxupdAdd (c t : Nat)
  /-- CTXUPD_READ (R324) -/
  | ctxupdRead (c t : Nat)
  /-- PK_Q_PROD_WRITE (R331) -/
  | pkQProdWrite (o q v : Nat)
  /-- PK_DOORBELL_STORE (R331) -/
  | pkDoorbellStore (c k : Nat) (v : Word)
  /-- PK_DESCRIPTOR_TAKE (R332) -/
  | pkDescriptorTake (o : Nat)
  /-- MODEXP (R337) -/
  | modexp (o e : Nat)
  /-- RSA_VERIFY (R338) -/
  | rsaVerify (o e : Nat)
  /-- RSA_SIGN (R338) -/
  | rsaSign (o e : Nat)
  /-- RSA_ENCRYPT (R338) -/
  | rsaEncrypt (o e : Nat)
  /-- RSA_DECRYPT (R338) -/
  | rsaDecrypt (o e : Nat)
  /-- ECDSA_VERIFY (R338) -/
  | ecdsaVerify (o e : Nat)
  /-- ECDSA_SIGN (R338) -/
  | ecdsaSign (o e : Nat)
  /-- ECDH (R338) -/
  | ecdh (o e : Nat)
  /-- ED25519_VERIFY (R339) -/
  | ed25519Verify (o e : Nat)
  /-- ED25519_SIGN (R339) -/
  | ed25519Sign (o e : Nat)
  /-- X25519 (R339) -/
  | x25519 (o e : Nat)
  /-- PKGEN (R342) -/
  | pkgen (o e : Nat)
  /-- PK_IMPORT (R342) -/
  | pkImport (o e : Nat)
  /-- PK_REWRAP (R342) -/
  | pkRewrap (o e : Nat)
  /-- PK_OPERANDS_READY (R345) -/
  | pkOperandsReady (o e : Nat)
  /-- PK_RESULT_ISSUE (R345) -/
  | pkResultIssue (o e : Nat) (agree : Bool)
  /-- SEAL_REQUEST (R352) -/
  | sealRequest (o : Nat)
  /-- SEAL_COMPLETE (R373) -/
  | sealComplete (o : Nat) (fault : Bool)
  /-- PK_SELF_TEST (R357) -/
  | pkSelfTest (o : Nat) (seals : Bool)
  /-- PK_SELF_TEST_END (R358) -/
  | pkSelfTestEnd (o e : Nat) (pass : Bool)
  /-- PK_CFG_WRITE (R362) -/
  | pkCfgWrite (o : Nat) (v : Reg)
  /-- PK_Q_CFG_WRITE (R362) -/
  | pkQCfgWrite (o q off : Nat) (v : Reg)
  /-- PK_BFLOOR_WRITE (R343) -/
  | pkBfloorWrite (o : Nat) (v : Reg)
  /-- STRAND_ADMIT (R367) -/
  | strandAdmit (k : Nat)
  /-- JOURNAL_EXPORT (R370) -/
  | journalExport (o r : Nat)
  /-- JN_XCONS_WRITE (R401) -/
  | jnXconsWrite (o r : Nat) (v : Reg)
  /-- SEAL_TRIGGER (R371) -/
  | sealTrigger (o : Nat)
  /-- GENESIS (R401) -/
  | genesis (o : Nat)
  /-- SEAL_NOW (R371) -/
  | sealNow (o : Nat)
  /-- TWIN_ACK_RX (R377) -/
  | twinAckRx
  /-- JOURNAL_FRAME_RX (R379) -/
  | journalFrameRx
  /-- STANDBY_CHAIN_VERIFY (R379) -/
  | standbyChainVerify (k : Nat)
  /-- SEAL_RECORD_RX (R380) -/
  | sealRecordRx
  /-- DELTA_FRAME_RX (R385) -/
  | deltaFrameRx
  /-- CHECKPOINT_TIMER (R386) -/
  | checkpointTimer
  /-- CHECKPOINT_SEGMENT_RX (R387) -/
  | checkpointSegmentRx
  /-- CHECKPOINT_END_RX (R387) -/
  | checkpointEndRx
  /-- HEARTBEAT_TX (R390) -/
  | heartbeatTx
  /-- HEARTBEAT_RX (R390) -/
  | heartbeatRx (st ckpt : Nat)
  /-- HEARTBEAT_LOSS (R390) -/
  | heartbeatLoss
  /-- PROBE_TIMEOUT (R391) -/
  | probeTimeout
  /-- PROBE_RSP_RX (R391) -/
  | probeRspRx
  /-- TWIN_LINK_UP (R394) -/
  | twinLinkUp
  /-- SWAP_STATE_RX (R394) -/
  | swapStateRx (p : TwinPos)
  /-- SWAP_REQ_RX (R396) -/
  | swapReqRx
  /-- SWAP_ACCEPT_RX (R397) -/
  | swapAcceptRx
  /-- SWAP_COMMIT_RX (R397) -/
  | swapCommitRx
  /-- SWAP_DONE_RX (R397) -/
  | swapDoneRx
  /-- SWAP_REJECT_RX (R396) -/
  | swapRejectRx
  /-- SWAP_DRAIN_END (R397) -/
  | swapDrainEnd
  /-- TW_ACTIVATE (R399) -/
  | twActivate
  /-- TW_STANDBY (R399) -/
  | twStandby
  /-- TW_SWAP (R395) -/
  | twSwap
  /-- TW_CHECKPOINT (R386) -/
  | twCheckpoint
  /-- TW_DETACH (R399) -/
  | twDetach
  /-- TW_CFG_WRITE (R403) -/
  | twCfgWrite (off : Nat) (v : Reg)
  /-- TW_LINK_KEY_WRITE (R381) -/
  | twLinkKeyWrite (v : Reg)
  /-- JOIN (R412) -/
  | join
  /-- LEAVE (R412) -/
  | leave
  /-- KEY_ARM (R430) -/
  | keyArm
  /-- LEAVE_TIMEOUT (R412) -/
  | leaveTimeout
  /-- JOIN_TIMEOUT (R412) -/
  | joinTimeout
  /-- RING_ISOLATE_TIMEOUT (R412) -/
  | ringIsolateTimeout
  /-- RING_HELLO_RX (R416) -/
  | ringHelloRx (l : Nat)
  /-- RING_FRAME_RX (R418) -/
  | ringFrameRx (l : Nat)
  /-- PRESENCE_TX (R421) -/
  | presenceTx
  /-- PRESENCE_RX (R422) -/
  | presenceRx
  /-- PRESENCE_EXPIRY (R422) -/
  | presenceExpiry (p : Nat)
  /-- SEG_DOWN_TIMEOUT (R422) -/
  | segDownTimeout (l : Nat)
  /-- TIME_SYNC_TX (R425) -/
  | timeSyncTx (t0 t1 : Nat)
  /-- TIME_SYNC_RX (R426) -/
  | timeSyncRx (tin tout : Nat)
  /-- PDELAY_REQ_TX (R427) -/
  | pdelayReqTx (l t1 : Nat)
  /-- PDELAY_REQ_RX (R427) -/
  | pdelayReqRx (l t2 t3 : Nat)
  /-- PDELAY_RSP_RX (R427) -/
  | pdelayRspRx (l t4 : Nat)
  /-- MASTER_SELF_ELECT (R423) -/
  | masterSelfElect
  /-- HOLDOVER_ENTRY (R428) -/
  | holdoverEntry
  /-- TIME_VALID_LOSS (R428) -/
  | timeValidLoss
  /-- KEY_SWITCH_TIME (R430) -/
  | keySwitchTime
  /-- KEY_SWITCH_COMMIT (R430) -/
  | keySwitchCommit
  /-- RING_MGMT_RX (R431) -/
  | ringMgmtRx
  /-- CR_TX_SEND (R431) -/
  | crTxSend (v : Reg)
  /-- CR_RX_READ (R444) -/
  | crRxRead
  /-- RING_PROBE_RX (R432) -/
  | ringProbeRx
  /-- LEASE_REQ_READ_RX (R436) -/
  | leaseReqReadRx
  /-- LEASE_REQ_SET_RX (R437) -/
  | leaseReqSetRx
  /-- LEASE_REQ_ADD_RX (R437) -/
  | leaseReqAddRx
  /-- LEASE_RSP_RX (R435) -/
  | leaseRspRx
  /-- LEASE_MIRROR_RX (R440) -/
  | leaseMirrorRx
  /-- LEASE_MACK_RX (R440) -/
  | leaseMackRx
  /-- MIRROR_TMO_EXPIRY (R441) -/
  | mirrorTmoExpiry (n : Nat)
  /-- CTR_SYNC_RX (R442) -/
  | ctrSyncRx
  /-- LEASE_RETRY (R438) -/
  | leaseRetry (tag : Nat)
  /-- LEASE_READ_DEADLINE (R438) -/
  | leaseReadDeadline (tag : Nat)
  /-- LEASE_WRITE_DEADLINE (R438) -/
  | leaseWriteDeadline (tag : Nat)
  /-- LEASE_EXPIRY (R436) -/
  | leaseExpiry (e : Nat)
  /-- RESULT_ENTRY_EXPIRY (R433) -/
  | resultEntryExpiry (req tag : Nat)
  /-- CTR_READ (R444) -/
  | ctrRead
  /-- CTR_SET (R444) -/
  | ctrSet
  /-- CLEAR_ALL (R444) -/
  | clearAll
  /-- CR_CFG_WRITE (R445) -/
  | crCfgWrite (off : Nat) (v : Reg)
  /-- PCIE_RESET (R450) -/
  | pcieReset (down : Bool)
  /-- MSIX_UNMASK (R453) -/
  | msixUnmask (v : Nat)
  /-- RG_PROD_WRITE (R454) -/
  | rgProdWrite (r : Nat) (v : Reg)
  /-- TX_DESCRIPTOR_TAKE (R455) -/
  | txDescriptorTake
  /-- TX_FRAME_READ_DONE (R455) -/
  | txFrameReadDone (r : Nat) (err : Bool)
  /-- HOST_RX_PULL (R458) -/
  | hostRxPull
  /-- HOST_RX_COMPLETE (R459) -/
  | hostRxComplete (r : Nat)
  /-- RING_IRQ_MODERATION (R460) -/
  | ringIrqModeration (r : Nat)
  /-- RG_CFG_WRITE (R469) -/
  | rgCfgWrite (r : Nat) (v : Reg)
  /-- MB_DATA_WRITE (R463) -/
  | mbDataWrite (cust : Bool) (ch k : Nat) (v : Reg)
  /-- MB_SEND (R463) -/
  | mbSend (cust : Bool) (ch : Nat) (v : Reg)
  /-- MB_TAKE (R463) -/
  | mbTake (cust : Bool) (ch : Nat) (v : Reg)
  /-- MB_ACK (R463) -/
  | mbAck (cust : Bool) (ch : Nat) (v : Reg)
  /-- MB_OVF_CLEAR (R464) -/
  | mbOvfClear (ch : Nat)
  /-- MB_CH_CFG_WRITE (R467) -/
  | mbChCfgWrite (ch : Nat) (v : Reg)
  /-- DEVICE_WIDE_WRITE (R475) -/
  | deviceWideWrite (cust : Bool) (a : Nat) (v : Reg)
  /-- DEVICE_WIDE_APPLY (R475) -/
  | deviceWideApply
  /-- PG_IRQ_RAW_WRITE (R482) -/
  | pgIrqRawWrite (p : Nat) (v : Reg)
  /-- PG_IRQ_EN_WRITE (R453) -/
  | pgIrqEnWrite (p : Nat) (v : Reg)
  /-- PG_IRQ_FORCE_WRITE (R483) -/
  | pgIrqForceWrite (p : Nat) (v : Reg)
  /-- PG_ERR_INFO_CLEAR (R478) -/
  | pgErrInfoClear (p : Nat) (v : Reg)
  /-- EVC_SEL_WRITE (R486) -/
  | evcSelWrite (p n : Nat) (v : Reg)
  /-- EVC_CLR (R486) -/
  | evcClr (p : Nat)
  /-- SNAPSHOT_TAKE (R490) -/
  | snapshotTake
  /-- SNAPSHOT_CAPTURE (R490) -/
  | snapshotCapture (p : Nat)
  /-- POWER_ON (R494) -/
  | powerOn (keep : Bool)
  /-- SYS_RESET_ASSERT (R494) -/
  | sysResetAssert
  /-- START_WARM (R497) -/
  | startWarm
  /-- START_COLD (R494) -/
  | startCold
  /-- FW_LOAD (R505) -/
  | fwLoad
  /-- WARM_PREP_DONE (R497) -/
  | warmPrepDone
  /-- WARM_PREP_TIMEOUT (R497) -/
  | warmPrepTimeout
  /-- START_STEP_DONE (R498) -/
  | startStepDone (ok : Bool) (bad : List Nat)
  /-- START_STEP_TIMEOUT (R498) -/
  | startStepTimeout
  /-- TWIN_SYNC_TIMEOUT (R501) -/
  | twinSyncTimeout
  /-- COLD_RETRY_TIMER (R500) -/
  | coldRetryTimer
  /-- CUSTODY_WD_EXPIRY (R494) -/
  | custodyWdExpiry
  /-- DEVICE_WD_EXPIRY (R505) -/
  | deviceWdExpiry
  /-- GLB_WD_KICK (R505) -/
  | glbWdKick (v : Reg)
  /-- WD_KICK_STORE (R505) -/
  | wdKickStore (c : Nat) (v : Word)
  /-- THERMAL_SAMPLE (R506) -/
  | thermalSample (temps : List Nat)
  /-- THERMAL_TRIP (R506) -/
  | thermalTrip
  /-- THERMAL_RESTART_TIMER (R506) -/
  | thermalRestartTimer
  /-- UNDERVOLTAGE_DETECT (R657) -/
  | undervoltageDetect (rail : Nat)
  /-- PW_ON (R507) -/
  | pwOn (cust : Bool)
  /-- PW_OFF (R507) -/
  | pwOff (cust : Bool)
  /-- DOMAIN_TRANSITION_DONE (R508) -/
  | domainTransitionDone (d : Nat)
  /-- WAKE_EVENT (R510) -/
  | wakeEvent (d src : Nat)
  /-- SLOW_INPUT_ACCEPT (R511) -/
  | slowInputAccept (i : Nat) (active : Bool)
  /-- SLOW_INPUT_CHATTER (R512) -/
  | slowInputChatter (i : Nat)
  /-- MONITOR_ARM (R519) -/
  | monitorArm (m : Nat)
  /-- MONITOR_DEPARTURE (R520) -/
  | monitorDeparture (m : Nat) (high : Bool)
  /-- GLITCH_ALARM (R520) -/
  | glitchAlarm (m : Nat)
  /-- SLOW_ALARM (R520) -/
  | slowAlarm (m : Nat) (high : Bool)
  /-- POWER_LOSS_CLASSIFY (R520) -/
  | powerLossClassify (m : Nat)
  /-- SEQUENCE_ALARM (R521) -/
  | sequenceAlarm (m : Nat)
  /-- STATE_ALARM (R522) -/
  | stateAlarm (m : Nat)
  /-- LINK_ALARM (R523) -/
  | linkAlarm (o : Nat)
  /-- LK_FORCE (R523) -/
  | lkForce (v : Reg)
  /-- AON_ALARM_LATCH (R523) -/
  | aonAlarmLatch
  /-- VBAT_MEASURE (R532) -/
  | vbatMeasure (mv : Nat)
  /-- CUSTODY_REG_READ (R554) -/
  | custodyRegRead
  /-- CUSTODY_REG_WRITE (R554) -/
  | custodyRegWrite
  /-- CUSTODY_POWER (R507) -/
  | custodyPower
  /-- FENCE_WRITE (R552) -/
  | fenceWrite
  /-- ALARM_READ (R554) -/
  | alarmRead
  /-- ALARM_CLEAR (R525) -/
  | alarmClear
  /-- UNLOCK_BEGIN (R535) -/
  | unlockBegin
  /-- UNLOCK_END (R536) -/
  | unlockEnd
  /-- UNLOCK_SESSION_TIMEOUT (R536) -/
  | unlockSessionTimeout
  /-- ROOT_GENERATE (R534) -/
  | rootGenerate
  /-- LC_ADVANCE (R539) -/
  | lcAdvance
  /-- LC_SET_DIGEST (R538) -/
  | lcSetDigest
  /-- ZONE_DIGEST (R541) -/
  | zoneDigest
  /-- ZONE_LC (R541) -/
  | zoneLc
  /-- ZONE_RECYCLE (R541) -/
  | zoneRecycle
  /-- ZONE_SEED_EXPORT (R543) -/
  | zoneSeedExport
  /-- ZONE_SEED_IMPORT (R543) -/
  | zoneSeedImport
  /-- CERT_READ (R545) -/
  | certRead
  /-- DBG_CHALLENGE (R547) -/
  | dbgChallenge
  /-- DBG_RESPONSE (R547) -/
  | dbgResponse
  /-- DBG_CLOSE (R548) -/
  | dbgClose
  /-- WRITE_REGION (R552) -/
  | writeRegion (cust : Bool)
  /-- READ_REGION (R557) -/
  | readRegion (cust : Bool)
  /-- WRITE_DEFAULT (R552) -/
  | writeDefault (cust : Bool)
  /-- READ_DEFAULT (R557) -/
  | readDefault (cust : Bool)
  /-- LOG_CLEAR (R557) -/
  | logClear (cust : Bool)
  /-- FLASH_READ (R561) -/
  | flashRead
  /-- FLASH_PROGRAM (R562) -/
  | flashProgram
  /-- FLASH_ERASE (R562) -/
  | flashErase
  /-- FLASH_PROTECT (R570) -/
  | flashProtect
  /-- FLASH_UNPROTECT (R570) -/
  | flashUnprotect
  /-- FLASH_UNLOCK (R570) -/
  | flashUnlock
  /-- FLASH_RELOCK (R570) -/
  | flashRelock
  /-- FLASH_SET_PASSWORD (R570) -/
  | flashSetPassword
  /-- FLASH_OP_DONE (R563) -/
  | flashOpDone (corr uncorr : List Nat) (fail : Option Nat)
  /-- GAP_MOVE_DONE (R567) -/
  | gapMoveDone
  /-- CS_WRITE (R575) -/
  | csWrite
  /-- CS_READ (R576) -/
  | csRead
  /-- ERASE_BOTH (R576) -/
  | eraseBoth
  /-- CS_WRITE_DONE (R575) -/
  | csWriteDone (ok : Bool)
  /-- SEED_BLOCK_COMPLETE (R585) -/
  | seedBlockComplete
  /-- HEALTH_RATE_WINDOW (R590) -/
  | healthRateWindow
  /-- DRBG_GENERATE (R595) -/
  | drbgGenerate (i : Nat)
  /-- DRBG_DRAW (R595) -/
  | drbgDraw (i : Nat)
  /-- DRBG_RESEED_DUE (R596) -/
  | drbgReseedDue (i : Nat)
  /-- DRBG_RESEED_DONE (R596) -/
  | drbgReseedDone (fault : Bool)
  /-- RESEED (R598) -/
  | reseed (i : Nat)
  /-- REINSTANTIATE (R598) -/
  | reinstantiate (i : Nat)
  /-- TAP_START (R600) -/
  | tapStart (k : Nat)
  /-- TAP_STOP (R600) -/
  | tapStop
  /-- TAP_FULL (R600) -/
  | tapFull
  /-- RNG_CFG_WRITE (R586) -/
  | rngCfgWrite (v : Reg)
  /-- RNG_TP_CTL_WRITE (R599) -/
  | rngTpCtlWrite (v : Reg)
  /-- CARD_INSERT (R606) -/
  | cardInsert
  /-- CARD_POWER_TIMER (R606) -/
  | cardPowerTimer
  /-- CARD_RESET (R610) -/
  | cardReset
  /-- IDENTIFY (R610) -/
  | identify
  /-- AUTH_INIT (R611) -/
  | authInit
  /-- AUTH_PROOF (R611) -/
  | authProof
  /-- AUTH_FINISH (R611) -/
  | authFinish
  /-- READ_SHARE (R611) -/
  | readShare
  /-- BEGIN (R614) -/
  | begin
  /-- ENROLL (R617) -/
  | enroll
  /-- WRITE_SHARE (R611) -/
  | writeShare
  /-- COMMIT (R614) -/
  | commit
  /-- ABORT (R614) -/
  | abort
  /-- CARD_RESPONSE_RX (R607) -/
  | cardResponseRx (frame : BitVec 48)
  /-- WAIT_EXTENSION_RX (R608) -/
  | waitExtensionRx (b : Byte)
  /-- CARD_RESPONSE_DEADLINE (R608) -/
  | cardResponseDeadline
  /-- CARD_DATA_BLOCK (R609) -/
  | cardDataBlock (data : List Byte) (crc : List Nat)
  /-- CARD_RAW_REMOVAL (R615) -/
  | cardRawRemoval (out : Bool)
  /-- CARD_REMOVAL (R615) -/
  | cardRemoval
  /-- GENERATION_TIMEOUT (R617) -/
  | generationTimeout
  /-- EJECT (R606) -/
  | eject
  /-- CLEAR_UNKNOWN (R616) -/
  | clearUnknown
  /-- REVOKE (R624) -/
  | revoke
  /-- CLEAR_LOG (R625) -/
  | clearLog
  /-- CB_CFG_WRITE (R618) -/
  | cbCfgWrite (v : Reg)
  /-- BADGE_PING (R620) -/
  | badgePing (amp : Nat)
  /-- FIELD_CYCLE_TIMEOUT (R620) -/
  | fieldCycleTimeout
  /-- ANTICOLL_RETRY_TIMER (R623) -/
  | anticollRetryTimer
  /-- WUPA (R622) -/
  | wupa
  /-- HLTA (R622) -/
  | hlta (uid atqa sak : Nat)
  /-- ORIGIN_READ (R621) -/
  | originRead
  /-- ORIGIN_VERIFY_DONE (R621) -/
  | originVerifyDone
  /-- AUTH1 (R621) -/
  | auth1
  /-- AUTH2 (R621) -/
  | auth2
  /-- PASS_AUTH (R621) -/
  | passAuth
  /-- COUNT_READ (R621) -/
  | countRead
  /-- COUNT_STEP (R621) -/
  | countStep
  /-- SET_KEY (R624) -/
  | setKey
  /-- KILL (R621) -/
  | kill
  /-- BADGE_RESPONSE_RX (R621) -/
  | badgeResponseRx (data : List Byte) (ok : Bool)
  /-- BADGE_RESPONSE_TIMEOUT (R619) -/
  | badgeResponseTimeout (left : Bool)
  /-- LN_TEST_CFG_WRITE (R630) -/
  | lnTestCfgWrite (n : Nat) (v : Reg)
  /-- PRBS_INJECT (R629) -/
  | prbsInject (n : Nat)
  /-- DRAM_OUT (R633) -/
  | dramOut (d : Nat)
  /-- DRAM_IN (R633) -/
  | dramIn (d : Nat)
  /-- DRAM_CYCLE (R633) -/
  | dramCycle (d : Nat)
  /-- DRAM_DRAIN_DONE (R633) -/
  | dramDrainDone (d : Nat)
  /-- DRAM_DRAIN_TIMEOUT (R633) -/
  | dramDrainTimeout (d : Nat)
  /-- DRAM_CLOSE_DONE (R633) -/
  | dramCloseDone (d : Nat)
  /-- DRAM_BIST_DONE (R634) -/
  | dramBistDone (d sram : Nat)
  /-- CORE_BIST (R636) -/
  | coreBist (o k : Nat)
  /-- RELOAD (R636) -/
  | reload (o k : Nat)
  /-- CORE_TEST_DONE (R636) -/
  | coreTestDone (o : Nat) (pass : Bool)
  /-- VERDICT_DRAIN_TIMEOUT (R637) -/
  | verdictDrainTimeout (o : Nat)
  /-- ISOLATE (R638) -/
  | isolate (o : Nat)
  /-- RESTORE (R640) -/
  | restore (o : Nat)
  /-- ISOLATION_STEP_DONE (R638) -/
  | isolationStepDone (o : Nat)
  /-- TEST_LOGIC_RESET (R644) -/
  | testLogicReset
  /-- EXTEST (R645) -/
  | extest
  /-- IDCODE (R644) -/
  | idcode
  /-- SAMPLE_PRELOAD (R645) -/
  | samplePreload
  /-- HIGHZ (R645) -/
  | highz
  /-- CLAMP (R645) -/
  | clamp
  /-- EXTEST_PULSE (R645) -/
  | extestPulse
  /-- EXTEST_TRAIN (R645) -/
  | extestTrain
  /-- CORE_SEL (R646) -/
  | coreSel (c : Nat)
  /-- CORE_ACCESS_READ (R646) -/
  | coreAccessRead (a : Nat)
  /-- CORE_ACCESS_WRITE (R646) -/
  | coreAccessWrite (a : Nat) (v : Word)
  /-- CORE_ACCESS_HALT (R646) -/
  | coreAccessHalt
  /-- CORE_ACCESS_RUN (R646) -/
  | coreAccessRun
  /-- CUST_DBG (R546) -/
  | custDbg
  /-- BYPASS (R644) -/
  | bypass
  /-- NORIOLYS_FRAME_TX (R378) -/
  | noriolysFrameTx (i : Nat)
  /-- NOISE_SOURCE_SAMPLE (R588) -/
  | noiseSourceSample (k : Nat) (raw : Bool)
  /-- PRBS_LOCK_CHANGE (R629) -/
  | prbsLockChange (n : Nat) (lock : Bool) (bits errs : Nat)
  /-- PLL_RELOCK (R35) -/
  | pllRelock (o pll : Nat)
  /-- CROSS_OUNCE_LINK_RESTORED (R147) -/
  | crossOunceLinkRestored (a b : Nat)
  /-- HI_BER_WINDOW (R65) -/
  | hiBerWindow (n : Nat) (bad : Bool)
  /-- SYS_RESET_DEASSERT (R654) -/
  | sysResetDeassert
  /-- PCIE_RESET_END (R450) -/
  | pcieResetEnd (width speed : Nat)
deriving DecidableEq, Repr

end Sys2Proof
end

