-- ==== Sys2Proof/Decode.lean ====
section
/-!
DEFINITION. The commands a word spells. The opcode table gives no row any bits: its commands are events and register
accesses, not encodings, so no word spells one.
-/
namespace Sys2Proof

/-- The command that a word of the table's bits spells: no row of the table has bits. -/
def decodeTableWord (_nbits _w : Nat) : Option Instr := none

end Sys2Proof
end

