-- ==== Sys2Proof/Machine/Bits.lean ====
section
/-!
DEFINITION. Bit fields (R10), byte order (R11, R12) and saturating counts (R72): the helpers every other file of
the machine uses.
-/
namespace Sys2Proof.Machine

/-- Bits [hi:lo] of a natural number, read as a number (R10). -/
def natField (n hi lo : Nat) : Nat := (n >>> lo) % 2 ^ (hi + 1 - lo)

/-- Bits [hi:lo] of a bit vector, read as a number (R10). -/
def getField {w : Nat} (v : BitVec w) (hi lo : Nat) : Nat := natField v.toNat hi lo

/-- The bit vector `v` with bits [hi:lo] replaced by the low bits of `x` (R10). -/
def setField {w : Nat} (v : BitVec w) (hi lo x : Nat) : BitVec w :=
  (v &&& ~~~ (BitVec.ofNat w (2 ^ (hi + 1 - lo) - 1) <<< lo)) |||
    (BitVec.ofNat w (x % 2 ^ (hi + 1 - lo)) <<< lo)

/-- Bit `i` as a Boolean. -/
def bitAt {w : Nat} (v : BitVec w) (i : Nat) : Bool := v.getLsbD i

/-- The number 1 or 0 for a Boolean. -/
def b2n (b : Bool) : Nat := if b then 1 else 0

/-- The `n` low bytes of a number, least significant first (R11). -/
def leBytes : Nat → Nat → List Byte
  | 0, _ => []
  | n + 1, v => BitVec.ofNat 8 v :: leBytes n (v >>> 8)

/-- The number that a list of bytes spells, least significant first (R11). -/
def ofLe : List Byte → Nat
  | [] => 0
  | b :: bs => b.toNat + 256 * ofLe bs

/-- The `n` low bytes of a number, most significant first (R12). -/
def beBytes (n v : Nat) : List Byte := (leBytes n v).reverse

/-- The number that a list of bytes spells, most significant first (R12). -/
def ofBe (bs : List Byte) : Nat := bs.foldl (fun a b => a * 256 + b.toNat) 0

/-- `n` bytes of `bs` from offset `o`; bytes beyond the end are absent. -/
def sliceBytes (bs : List Byte) (o n : Nat) : List Byte := (bs.drop o).take n

/-- `bs` cut or padded with zero bytes to exactly `n` bytes. -/
def padTo (n : Nat) (bs : List Byte) : List Byte := (bs ++ List.replicate (n - bs.length) 0).take n

/-- `bs` with the bytes from offset `o` on replaced by `new`, its length kept. -/
def spliceBytes (bs : List Byte) (o : Nat) (new : List Byte) : List Byte :=
  (bs.take o ++ new ++ bs.drop (o + new.length)).take bs.length

/-- Byte-wise exclusive or of two lists, as long as the shorter. -/
def xorBytes (a b : List Byte) : List Byte := List.zipWith (· ^^^ ·) a b

/-- The largest value of a 64-bit counter: counters stop there (R72). -/
def ctrMax : Nat := 2 ^ 64 - 1

/-- A 64-bit counter raised by `n`, saturating (R72). -/
def satAdd64 (v : Word) (n : Nat) : Word := BitVec.ofNat 64 (min (v.toNat + n) ctrMax)

/-- Sum of a list of numbers. -/
def sumNat (l : List Nat) : Nat := l.foldl (· + ·) 0

/-- The low-order value of a Boolean list as bits, index 0 the least significant. -/
def bitsOf : List Bool → Nat
  | [] => 0
  | b :: bs => b2n b + 2 * bitsOf bs

/-- Element `i` of a list, or `d` beyond its end. -/
def nth {α : Type} (d : α) (l : List α) (i : Nat) : α := l.getD i d

/-- `l` with element `i` replaced, where it exists. -/
def setNth {α : Type} (l : List α) (i : Nat) (v : α) : List α := l.set i v

end Sys2Proof.Machine
end

