-- ==== Sys2Proof/Machine/Crc.lean ====
section
/-!
DEFINITION. The cyclic redundancy checks the spec uses: the Ethernet FCS (R51), CRC-32C of the flash and
configuration records (R568, R573), and the CRC-7 and CRC-16 of the card bus (R607, R609).
-/
namespace Sys2Proof.Machine

/-- One bit of a reflected CRC of 32 bits. -/
def crcRefBit (poly r : Nat) : Nat := if r % 2 = 1 then (r / 2) ^^^ poly else r / 2

/-- One byte of a reflected CRC of 32 bits. -/
def crcRefByte (poly r : Nat) (b : Byte) : Nat :=
  let f := crcRefBit poly
  f (f (f (f (f (f (f (f (r ^^^ b.toNat))))))))

/-- A reflected CRC of 32 bits with initial value and final exclusive-or of all ones. -/
def crcRef (poly : Nat) (m : List Byte) : Nat := (m.foldl (crcRefByte poly) 0xFFFFFFFF) ^^^ 0xFFFFFFFF

/-- The Ethernet frame check sequence as a number. -/
def crc32 (m : List Byte) : Nat := crcRef 0xEDB88320 m

/-- CRC-32C. -/
def crc32c (m : List Byte) : Nat := crcRef 0x82F63B78 m

/-- The four FCS bytes in the order they leave on the wire. -/
def fcsBytes (m : List Byte) : List Byte := leBytes 4 (crc32 m)

/-- A non-reflected CRC of `w` bits over a list of bits, most significant first (R607, R609). -/
def crcBits (w poly init : Nat) (bits : List Bool) : Nat :=
  bits.foldl (fun r b =>
    let top := (r.testBit (w - 1)) != b
    ((r * 2) % 2 ^ w) ^^^ (if top then poly else 0)) init

/-- The bits of a number of `n` bits, most significant first. -/
def msbBits (n v : Nat) : List Bool := (List.range n).map fun i => v.testBit (n - 1 - i)

/-- The CRC-7 of a card frame: x^7 + x^2 + x + 1 from 0x7F over bits 47 to 7 (R607). -/
def crc7 (v : Nat) : Nat := crcBits 7 0x07 0x7F (msbBits 41 v)

/-- The CRC-16 of a card data line: x^16 + x^15 + x^2 + 1 from 0xFFFF (R609). -/
def crc16 (m : List Byte) : Nat := crcBits 16 0x8005 0xFFFF (m.flatMap fun b => msbBits 8 b.toNat)

/-- One byte of CRC_A. -/
def crcAByte (r : Nat) (b : Byte) : Nat :=
  let x := (b.toNat ^^^ (r % 256))
  let x := (x ^^^ (x * 16)) % 256
  (r / 256) ^^^ (x * 256) ^^^ (x * 8) ^^^ (x / 16)
/-- CRC_A of a standard badge frame (R619), the two bytes in the order they are sent: the ISO/IEC 14443-3 check that the
spec names (log entry 4). -/
def crcA (m : List Byte) : List Byte := leBytes 2 ((m.foldl crcAByte 0x6363) % 2 ^ 16)

end Sys2Proof.Machine
end

