-- ==== Sys2Proof/Machine/Ecc.lean ====
section
/-!
DEFINITION. Modular arithmetic, the NIST prime curves, Ed25519, X25519, RSA and their encodings, as the standards that R336
to R339 name define them. PRESUMED (log entry 4).
-/
namespace Sys2Proof.Machine

/-! ### Modular arithmetic -/

/-- Square and multiply: `n` bits of `e`, lowest first. -/
def modPowLoop (m : Nat) : Nat → Nat → Nat → Nat → Nat
  | 0, _, _, r => r
  | n + 1, b, e, r => modPowLoop m n (b * b % m) (e / 2) (if e % 2 = 1 then r * b % m else r)
/-- b^e mod m. -/
def modPow (b e m : Nat) : Nat := modPowLoop m (e.log2 + 1) (b % m) e (1 % m)
/-- The inverse modulo a prime. -/
def modInv (a p : Nat) : Nat := modPow a (p - 2) p
/-- a − b mod p. -/
def modSub (a b p : Nat) : Nat := (a + p - b % p) % p

/-! ### Weierstrass curves -/

/-- A curve y² = x³ − 3x + b: the prime, b, the base point, its order, the field width and the order width in bytes. -/
structure Curve where
  p : Nat
  b : Nat
  gx : Nat
  gy : Nat
  n : Nat
  fw : Nat
  bits : Nat
deriving DecidableEq, Repr

/-- P-256. -/
def p256 : Curve :=
  { p := 2 ^ 256 - 2 ^ 224 + 2 ^ 192 + 2 ^ 96 - 1
    b := 0x5AC635D8AA3A93E7B3EBBD55769886BC651D06B0CC53B0F63BCE3C3E27D2604B
    gx := 0x6B17D1F2E12C4247F8BCE6E563A440F277037D812DEB33A0F4A13945D898C296
    gy := 0x4FE342E2FE1A7F9B8EE7EB4A7C0F9E162BCE33576B315ECECBB6406837BF51F5
    n := 0xFFFFFFFF00000000FFFFFFFFFFFFFFFFBCE6FAADA7179E84F3B9CAC2FC632551
    fw := 32, bits := 256 }
/-- P-384. -/
def p384 : Curve :=
  { p := 2 ^ 384 - 2 ^ 128 - 2 ^ 96 + 2 ^ 32 - 1
    b := 0xB3312FA7E23EE7E4988E056BE3F82D19181D9C6EFE8141120314088F5013875AC656398D8A2ED19D2A85C8EDD3EC2AEF
    gx := 0xAA87CA22BE8B05378EB1C71EF320AD746E1D3B628BA79B9859F741E082542A385502F25DBF55296C3A545E3872760AB7
    gy := 0x3617DE4A96262C6F5D9E98BF9292DC29F8F41DBD289A147CE9DA3113B5F0B8C00A60B1CE1D7E819D7A431D7C90EA0E5F
    n := 0xFFFFFFFFFFFFFFFFFFFFFFFFFFFFFFFFFFFFFFFFFFFFFFFFC7634D81F4372DDF581A0DB248B0A77AECEC196ACCC52973
    fw := 48, bits := 384 }
/-- P-521. -/
def p521 : Curve :=
  { p := 2 ^ 521 - 1
    b := 0x0051953EB9618E1C9A1F929A21A0B68540EEA2DA725B99B315F3B8B489918EF109E156193951EC7E937B1652C0BD3BB1BF073573DF883D2C34F1EF451FD46B503F00
    gx := 0x00C6858E06B70404E9CD9E3ECB662395B4429C648139053FB521F828AF606B4D3DBAA14B5E77EFE75928FE1DC127A2FFA8DE3348B3C1856A429BF97E7E31C2E5BD66
    gy := 0x011839296A789A3BC0045C8A5FB42C7D1BD998F54449579B446817AFBD17273E662C97EE72995EF42640C550B9013FAD0761353C7086A272C24088BE94769FD16650
    n := 0x01FFFFFFFFFFFFFFFFFFFFFFFFFFFFFFFFFFFFFFFFFFFFFFFFFFFFFFFFFFFFFFFFFA51868783BF2F966B7FCC0148F709A5D03BB5C9B8899C47AEBB6FB71E91386409
    fw := 66, bits := 521 }

/-- An affine point; none is the point at infinity. -/
abbrev EcPoint := Option (Nat × Nat)

/-- Whether a point lies on the curve, its coordinates below p. -/
def Curve.on (c : Curve) (x y : Nat) : Bool :=
  decide (x < c.p) && decide (y < c.p) && decide (y * y % c.p = (x * x * x + (c.p - 3) * x + c.b) % c.p)
/-- Point addition. -/
def Curve.add (c : Curve) (u v : EcPoint) : EcPoint :=
  match u, v with
  | none, q => q
  | q, none => q
  | some (x1, y1), some (x2, y2) =>
    if x1 = x2 ∧ (y1 + y2) % c.p = 0 then none
    else
      let l :=
        if x1 = x2 then (3 * x1 * x1 + c.p - 3) * modInv (2 * y1) c.p % c.p
        else modSub y2 y1 c.p * modInv (modSub x2 x1 c.p) c.p % c.p
      let x := modSub (l * l) (x1 + x2) c.p
      some (x, modSub (l * modSub x1 x c.p) y1 c.p)
/-- Double and add: `n` bits of `k`, highest first. -/
def Curve.mulLoop (c : Curve) (k : Nat) (q : EcPoint) : Nat → EcPoint → EcPoint
  | 0, r => r
  | n + 1, r =>
    let d := c.add r r
    c.mulLoop k q n (if k.testBit n then c.add d q else d)
/-- k × Q. -/
def Curve.mul (c : Curve) (k : Nat) (q : EcPoint) : EcPoint := c.mulLoop k q (k.log2 + 1) none
/-- The base point. -/
def Curve.g (c : Curve) : EcPoint := some (c.gx, c.gy)
/-- The uncompressed encoding of a point (R336). -/
def Curve.encode (c : Curve) (q : EcPoint) : List Byte :=
  match q with
  | none => List.replicate (2 * c.fw + 1) 0
  | some (x, y) => 4 :: (beBytes c.fw x ++ beBytes c.fw y)
/-- The valid point that bytes encode (Table 10.5). -/
def Curve.decode (c : Curve) (b : List Byte) : Option (Nat × Nat) :=
  let x := ofBe (sliceBytes b 1 c.fw)
  let y := ofBe (b.drop (1 + c.fw))
  if b.length = 2 * c.fw + 1 ∧ nth 0 b 0 = 4 ∧ c.on x y then some (x, y) else none
/-- The number of a digest: its leftmost bits up to those of the order. -/
def Curve.digest (c : Curve) (d : List Byte) : Nat := ofBe d >>> (8 * d.length - c.bits)

/-- ECDSA verification of r, s in 1 … n − 1. -/
def Curve.verify (c : Curve) (q : Nat × Nat) (d : List Byte) (r s : Nat) : Bool :=
  let w := modInv s c.n
  match c.add (c.mul (c.digest d * w % c.n) c.g) (c.mul (r * w % c.n) (some q)) with
  | none => false
  | some (x, _) => x % c.n = r

/-- The hash that goes with a digest length. -/
def hashOfLen (n : Nat) (m : List Byte) : List Byte := if n = 32 then sha256 m else if n = 48 then sha384 m else sha512 m
/-- HMAC with that hash. -/
def hmacOfLen (n : Nat) (k m : List Byte) : List Byte := hmac (hashOfLen n) (if n = 32 then 64 else 128) k m

/-- One more candidate block string of RFC 6979 step h: V repeated until there are enough bits. -/
def rfcBlocks (h : Nat) (k : List Byte) (need : Nat) : Nat → List Byte → List Byte → List Byte × List Byte
  | 0, v, t => (t, v)
  | n + 1, v, t => if need ≤ t.length then (t, v) else let v := hmacOfLen h k v; rfcBlocks h k need n v (t ++ v)
/-- The signature search of RFC 6979 step h: candidates in turn until one gives r and s other than 0. -/
def Curve.signLoop (c : Curve) (h d z : Nat) : Nat → List Byte → List Byte → Option (Nat × Nat)
  | 0, _, _ => none
  | fuel + 1, k, v =>
    let need := (c.bits + 7) / 8
    let (t, v) := rfcBlocks h k need 4 v []
    let x := ofBe (t.take need) >>> (8 * need - c.bits)
    let next (_ : Unit) : Option (Nat × Nat) :=
      let k := hmacOfLen h k (v ++ [0])
      c.signLoop h d z fuel k (hmacOfLen h k v)
    if x = 0 ∨ c.n ≤ x then next ()
    else match c.mul x c.g with
      | none => next ()
      | some (px, _) =>
        let r := px % c.n
        let s := modInv x c.n * (z + r * d) % c.n
        if r = 0 ∨ s = 0 then next () else some (r, s)
/-- ECDSA signing with the nonce of RFC 6979 section 3.6 and additional data (R338). -/
def Curve.sign (c : Curve) (d : Nat) (digest extra : List Byte) : Option (Nat × Nat) :=
  let h := digest.length
  let nw := (c.bits + 7) / 8
  let z := c.digest digest
  let seed := beBytes nw d ++ beBytes nw (z % c.n) ++ extra
  let k := hmacOfLen h (List.replicate h 0) (List.replicate h 1 ++ [0] ++ seed)
  let v := hmacOfLen h k (List.replicate h 1)
  let k := hmacOfLen h k (v ++ [1] ++ seed)
  let v := hmacOfLen h k v
  c.signLoop h d z 64 k v

/-! ### Ed25519 and X25519 -/

/-- 2^255 − 19. -/
def p25519 : Nat := 2 ^ 255 - 19
/-- The order of the base point. -/
def l25519 : Nat := 2 ^ 252 + 27742317777372353535851937790883648493
/-- d of the Edwards curve. -/
def edD : Nat := (p25519 - 121665) * modInv 121666 p25519 % p25519
/-- Addition on the Edwards curve. -/
def edAdd (u v : Nat × Nat) : Nat × Nat :=
  let p := p25519
  let t := edD * u.1 % p * v.1 % p * u.2 % p * v.2 % p
  ((u.1 * v.2 + u.2 * v.1) * modInv (1 + t) p % p, (u.2 * v.2 + u.1 * v.1) * modInv (modSub 1 t p) p % p)
/-- Double and add. -/
def edMulLoop (k : Nat) (q : Nat × Nat) : Nat → Nat × Nat → Nat × Nat
  | 0, r => r
  | n + 1, r => let d := edAdd r r; edMulLoop k q n (if k.testBit n then edAdd d q else d)
/-- k × Q. -/
def edMul (k : Nat) (q : Nat × Nat) : Nat × Nat := edMulLoop k q (k.log2 + 1) (0, 1)
/-- The x coordinate of sign `s` for y, if there is one. -/
def edX (y s : Nat) : Option Nat :=
  let p := p25519
  let xx := modSub (y * y) 1 p * modInv (edD * y * y + 1) p % p
  let x := modPow xx ((p + 3) / 8) p
  let x := if x * x % p = xx then x else x * modPow 2 ((p - 1) / 4) p % p
  if x * x % p ≠ xx ∨ (x = 0 ∧ s = 1) then none else some (if x % 2 = s then x else p - x)
/-- The base point. -/
def edBase : Nat × Nat := let y := 4 * modInv 5 p25519 % p25519; ((edX y 0).getD 0, y)
/-- Decode a point; none for an encoding that is not canonical or names no point. -/
def edDecode (b : List Byte) : Option (Nat × Nat) :=
  let n := ofLe b
  let y := n % 2 ^ 255
  if b.length ≠ 32 ∨ p25519 ≤ y then none else (edX y (n / 2 ^ 255)).map fun x => (x, y)
/-- Encode a point. -/
def edEncode (q : Nat × Nat) : List Byte := leBytes 32 (q.2 + 2 ^ 255 * (q.1 % 2))
/-- The clamped scalar of RFC 7748 and RFC 8032. -/
def clamp25519 (b : List Byte) : Nat := ofLe (b.take 32) % 2 ^ 254 / 8 * 8 + 2 ^ 254
/-- The public key of a seed. -/
def edPublic (seed : List Byte) : List Byte := edEncode (edMul (clamp25519 (sha512 seed)) edBase)
/-- The Ed25519 signature of a message. -/
def edSign (seed m : List Byte) : List Byte :=
  let h := sha512 seed
  let a := clamp25519 h
  let pub := edEncode (edMul a edBase)
  let r := ofLe (sha512 (h.drop 32 ++ m)) % l25519
  let re := edEncode (edMul r edBase)
  let k := ofLe (sha512 (re ++ pub ++ m)) % l25519
  re ++ leBytes 32 ((r + k * a) % l25519)
/-- Verification (R339): none for an invalid input, else whether the cofactored equation holds. -/
def edVerify (pub m sig : List Byte) : Option Bool :=
  let s := ofLe (sig.drop 32)
  match edDecode pub, edDecode (sig.take 32) with
  | some a, some r =>
    if l25519 ≤ s ∨ edMul 8 a = (0, 1) then none
    else
      let k := ofLe (sha512 (sig.take 32 ++ pub ++ m)) % l25519
      some (edMul (8 * s) edBase = edAdd (edMul 8 r) (edMul 8 (edMul k a)))
  | _, _ => none

/-- One step of the Montgomery ladder: x2, z2, x3, z3. -/
def x25519Step (x1 : Nat) (s : Nat × Nat × Nat × Nat) : Nat × Nat × Nat × Nat :=
  let p := p25519
  let (x2, z2, x3, z3) := s
  let a := (x2 + z2) % p
  let b := modSub x2 z2 p
  let aa := a * a % p
  let bb := b * b % p
  let e := modSub aa bb p
  let da := modSub x3 z3 p * a % p
  let cb := (x3 + z3) * b % p
  let t := (da + cb) % p
  let w := modSub da cb p
  (aa * bb % p, e * (aa + 121665 * e) % p, t * t % p, x1 * (w * w) % p)
/-- The ladder over `n` bits of the scalar, highest first. -/
def x25519Loop (k x1 : Nat) : Nat → Nat × Nat × Nat × Nat → Nat × Nat × Nat × Nat
  | 0, s => s
  | n + 1, s =>
    if k.testBit n then
      let r := x25519Step x1 (s.2.2.1, s.2.2.2, s.1, s.2.1)
      x25519Loop k x1 n (r.2.2.1, r.2.2.2, r.1, r.2.1)
    else x25519Loop k x1 n (x25519Step x1 s)
/-- X25519 (RFC 7748). -/
def x25519 (scalar u : List Byte) : List Byte :=
  let x1 := ofLe u % 2 ^ 255 % p25519
  let r := x25519Loop (clamp25519 scalar) x1 255 (1, 0, x1, 1)
  leBytes 32 (r.1 * modInv r.2.1 p25519 % p25519)
/-- The public u-coordinate of a scalar. -/
def x25519Public (scalar : List Byte) : List Byte := x25519 scalar (leBytes 32 9)

/-! ### RSA (RFC 8017) -/

/-- MGF1 with the hash of a digest length. -/
def mgf1 (h : Nat) (seed : List Byte) (n : Nat) : List Byte :=
  ((List.range ((n + h - 1) / h)).flatMap fun i => hashOfLen h (seed ++ beBytes 4 i)).take n
/-- The DigestInfo prefix of EMSA-PKCS1-v1_5. -/
def digestPrefix (h : Nat) : List Byte :=
  [0x30, BitVec.ofNat 8 (17 + h), 0x30, 0x0D, 0x06, 0x09, 0x60, 0x86, 0x48, 0x01, 0x65, 0x03, 0x04, 0x02,
   if h = 32 then 1 else if h = 48 then 2 else 3, 0x05, 0x00, 0x04, BitVec.ofNat 8 h]
/-- EMSA-PKCS1-v1_5. -/
def emsaPkcs1 (k : Nat) (d : List Byte) : List Byte :=
  let t := digestPrefix d.length ++ d
  [0, 1] ++ List.replicate (k - t.length - 3) 0xFF ++ [0] ++ t
/-- EMSA-PSS encoding into `k` bytes for a modulus of 8 × k bits; none when the modulus is too short. -/
def emsaPss (k : Nat) (d salt : List Byte) : Option (List Byte) :=
  let h := d.length
  if k < 2 * h + 2 then none
  else
    let hh := hashOfLen h (List.replicate 8 0 ++ d ++ salt)
    let db := List.replicate (k - 2 * h - 2) 0 ++ [1] ++ salt
    let masked := xorBytes db (mgf1 h hh (k - h - 1))
    some (((nth 0 masked 0) &&& 0x7F) :: masked.drop 1 ++ hh ++ [0xBC])
/-- EMSA-PSS verification. -/
def pssVerify (k : Nat) (d em : List Byte) : Bool :=
  let h := d.length
  if k < 2 * h + 2 then false
  else
    let masked := em.take (k - h - 1)
    let hh := sliceBytes em (k - h - 1) h
    let db := xorBytes masked (mgf1 h hh (k - h - 1))
    let db := ((nth 0 db 0) &&& 0x7F) :: db.drop 1
    let z := k - 2 * h - 2
    decide (nth 0 em (k - 1) = 0xBC) && !bitAt (nth 0 em 0) 7 && decide (db.take z = List.replicate z 0) && decide (nth 0 db z = 1) &&
      decide (hashOfLen h (List.replicate 8 0 ++ d ++ db.drop (z + 1)) = hh)
/-- EME-OAEP encoding with an empty label. -/
def oaepEncode (k h : Nat) (m seed : List Byte) : List Byte :=
  let db := hashOfLen h [] ++ List.replicate (k - m.length - 2 * h - 2) 0 ++ [1] ++ m
  let mdb := xorBytes db (mgf1 h seed (k - h - 1))
  0 :: xorBytes seed (mgf1 h mdb h) ++ mdb
/-- EME-OAEP decoding. -/
def oaepDecode (k h : Nat) (em : List Byte) : Option (List Byte) :=
  let mdb := em.drop (h + 1)
  let seed := xorBytes (sliceBytes em 1 h) (mgf1 h mdb h)
  let db := xorBytes mdb (mgf1 h seed (k - h - 1))
  let rest := (db.drop h).dropWhile (· = 0)
  if nth 1 em 0 = 0 ∧ db.take h = hashOfLen h [] ∧ nth 0 rest 0 = 1 then some (rest.drop 1) else none

end Sys2Proof.Machine
end

