-- ==== Sys2Proof/Machine/PageMap.lean ====
section
/-!
DEFINITION. The register pages as the spec lays them out: which pages exist, the die and the switched domain of each
(Table 14.6), where each page keeps its 64-bit counters (R489), and the reset value of every register that does not
reset to 0.
-/
namespace Sys2Proof.Machine

/-- BAR0 address of offset `off` of the page of type `t`, instance `i` (R472). -/
def ra (t i off : Nat) : Nat := t * 0x100000 + i * 0x1000 + off

/-- Number of a page: type and instance. -/
def pageNo (t i : Nat) : Nat := t * 0x100 + i

/-- Address of offset `off` of page number `p`. -/
def pra (p off : Nat) : Nat := p * 0x1000 + off

/-- Where BAR2 and BAR4 (Table 13.2) lie in the register table of the state, above BAR0. -/
def bar2 : Nat := 0x10000000
/-- The start of BAR4. -/
def bar4 : Nat := 0x10010000
/-- Where the PCIe configuration space lies in the register table of the state: the Command register at 0x004, and the
AER Uncorrectable Error Status, Mask and Severity registers at 0x104, 0x108 and 0x10C (log entry 27). -/
def cfgSpace : Nat := 0x10020000

/-- Page types (Table 14.6). -/
def tGLB : Nat := 0x01
/-- Ounce pages. -/
def tOZ : Nat := 0x02
/-- Dram service pages. -/
def tDR : Nat := 0x03
/-- Queue pages. -/
def tDQ : Nat := 0x04
/-- Lane pages. -/
def tLN : Nat := 0x05
/-- Link-protection pages. -/
def tSC : Nat := 0x06
/-- Verdict-core pages. -/
def tVC : Nat := 0x07
/-- Key-vault pages. -/
def tKV : Nat := 0x08
/-- Public-key pages. -/
def tPK : Nat := 0x09
/-- Journal pages. -/
def tJN : Nat := 0x0A
/-- The twin page. -/
def tTW : Nat := 0x0B
/-- The control-ring page. -/
def tCR : Nat := 0x0C
/-- The host page. -/
def tHI : Nat := 0x0D
/-- The mailbox page. -/
def tMB : Nat := 0x0E
/-- Custody pages. -/
def tCD : Nat := 0x0F
/-- The power page. -/
def tPW : Nat := 0x10
/-- Test pages. -/
def tTS : Nat := 0x11

/-- Number of instances of a page type (Table 14.6); 0 for a type that does not exist. -/
def pageCount (t : Nat) : Nat :=
  match t with
  | 0x01 => 1 | 0x02 => 4 | 0x03 => 64 | 0x04 => 64 | 0x05 => 65 | 0x06 => 64 | 0x07 => 4 | 0x08 => 4 | 0x09 => 4
  | 0x0A => 4 | 0x0B => 1 | 0x0C => 1 | 0x0D => 1 | 0x0E => 1 | 0x0F => 8 | 0x10 => 1 | 0x11 => 4
  | _ => 0

/-- The switched domain of a page's block, if it has one (R480, Table 14.6). -/
def pageDomain (p : Nat) : Option Nat :=
  let i := p % 0x100
  match p / 0x100 with
  | 0x04 => some i
  | 0x05 => some (if i = 64 then 73 else i)
  | 0x06 => some i
  | 0x07 => some (64 + i)
  | 0x0F => if i = 7 then some 79 else none
  | _ => none

/-- The die a page lies on: ounce 0–3, or 4 for the custody die (Table 14.6). -/
def pageDie (p : Nat) : Nat :=
  let i := p % 0x100
  match p / 0x100 with
  | 0x01 => 0
  | 0x02 => i | 0x07 => i | 0x08 => i | 0x09 => i | 0x0A => i | 0x11 => i
  | 0x03 => i / 16 | 0x04 => i / 16 | 0x06 => i / 16
  | 0x05 => if i = 64 then 2 else i / 16
  | 0x0B => 2 | 0x0C => 2
  | 0x0D => 1 | 0x0E => 1
  | _ => 4

/-- Whether a page type holds device-wide registers (R475, R493). -/
def pageDevWide (p : Nat) : Bool :=
  p / 0x100 = 0x02 ∨ p / 0x100 = 0x08 ∨ p / 0x100 = 0x09 ∨ p / 0x100 = 0x0A

/-- The 64-bit counters of a page type in ascending order of offset (R489): offset, stride of its units, and how many
units lie in registers of their own. The k-th entry is counter k. -/
def counterTable (t i : Nat) : List (Nat × Nat × Nat) :=
  match t with
  | 0x01 => (List.range 4).map (fun k => (0x2C0 + 8 * k, 0, 1))
  | 0x02 => [(0x140, 0, 1)] ++ (List.range 16).map (fun k => (0x840 + 8 * k, 0, 1))
  | 0x03 => [(0x140, 0, 1), (0x148, 0, 1)]
  | 0x04 => (List.range 5).map (fun k => (0x220 + 8 * k, 0, 1)) ++ (List.range 8).map (fun k => (0x300 + 8 * k, 0x40, 16))
  | 0x05 => (List.range 20).map (fun k => (0x140 + 8 * k, 0xE0, 16))
  | 0x06 => (List.range 16).map (fun k => (0x200 + 8 * k, 0x80, 16))
  | 0x07 => (List.range 4).map (fun k => (0x110 + 8 * k, 0x40, 32))
  | 0x08 => (List.range 8).map (fun k => (0x400 + 8 * k, 0, 1)) ++ (List.range 8).map (fun k => (0xC40 + 8 * k, 0, 1))
  | 0x09 => (List.range 8).map (fun k => (0x400 + 8 * k, 0, 1))
  | 0x0A => (List.range 6).map (fun k => (0x340 + 8 * k, 0, 1))
  | 0x0B => (List.range 14).map (fun k => (0x200 + 8 * k, 0, 1))
  | 0x0C => (List.range 14).map (fun k => (0x300 + 8 * k, 0, 1))
  | 0x0D => (List.range 4).map (fun k => (0x308 + 8 * k, 0, 1)) ++ [(0x400, 0, 1)]
  | 0x0F =>
    (match i with
    | 0 => (List.range 4).map (fun k => (0x340 + 8 * k, 0, 1))
    | 1 => (List.range 4).map (fun k => (0x380 + 8 * k, 0, 1))
    | 2 => [(0x200, 0, 1)]
    | 7 => (List.range 10).map (fun k => (0x400 + 8 * k, 0, 1))
    | 4 => (List.range 6).map (fun k => (0x180 + 8 * k, 0, 1))
    | 5 => [(0x140, 0, 1), (0x148, 0, 1)]
    | 6 => [(0x200, 16, 4), (0x208, 16, 4)] ++ (List.range 4).map (fun k => (0x240 + 8 * k, 0, 1))
    | _ => [])
  | 0x10 => [(0x200, 0, 1), (0x208, 0, 1)]
  | 0x0E => [(0x208, 0, 1), (0x210, 0, 1), (0x218, 0, 1)]
  | _ => []

/-- What a register resets to, by page type, instance and offset; registers not named reset to 0. -/
def resetOff (t i off : Nat) : Nat :=
  if off = 0x008 then 0x4
  else if off = 0x040 then (if t = 0x06 then 0x01FF0160 else 0x01FF0000)
  else if off = 0x050 then (if t = 0x06 then 0x01FF0161 else 0x01FF0000)
  else if off = 0x060 ∨ off = 0x070 then 0x01FF0000
  else
  match t with
  | 0x01 =>
    (match off with
    | 0x114 => 1 | 0x140 => 0x10247921 | 0x144 => 0x41 | 0x204 => 0x10000141 | 0x284 => 1000 | _ => 0)
  | 0x02 =>
    (match off with
    | 0x10C => 200 | 0x114 => 0x3F | 0x118 => 0x010101 | 0x800 => 0x27100004 | 0x804 => 0x88B6 | 0x810 => 0xE4
    | 0x818 => 0xFFFFFFFF | _ => 0)
  | 0x03 => (match off with | 0x104 => 3 | 0x10C => 1000 | _ => 0)
  | 0x04 =>
    if off = 0x100 then 1000
    else if 0x140 ≤ off ∧ off < 0x180 then 0x80
    else if 0x800 ≤ off then 0x10000001 else 0
  | 0x05 =>
    if off < 0x100 ∨ 0xF00 ≤ off then 0 else
    (match (off - 0x100) % 0xE0 with
    | 0x00 => 0x8C | 0x08 => 0x3F00 | 0x10 => 1518 | 0x18 => 500 | _ => 0)
  | 0x06 =>
    if 0x140 ≤ off ∧ off < 0x180 then 4 else
    (match off with
    | 0x100 => 0xF | 0x104 => 0x88B5 | 0x108 => 0x888E | 0x10C => 0x1401 | _ => 0)
  | 0x07 => (match off with | 0xD00 => 1 | _ => 0)
  | 0x08 => (match off with | 0x100 => 0x3214 | 0xC00 => 0x8004 | _ => 0)
  | 0x09 => (match off with | 0x104 => 0xF0000003 | _ => 0)
  | 0x0A => (match off with | 0x100 => 0x00640002 | 0x120 => 16 | _ => 0)
  | 0x0B =>
    (match off with
    | 0x100 => 0x00C80810 | 0x118 => 0x03E81000 | 0x140 => 26 | 0x144 => 600 | 0x148 => 100 | _ => 0)
  | 0x0C => (match off with | 0x100 => 0x0F050000 | 0x104 => 0x00200000 | 0x140 => 0x14320898 | _ => 0)
  | 0x0D =>
    if off = 0x108 then 1000
    else if 0x200 ≤ off ∧ off < 0x300 ∧ off % 8 = 0 then 0x10000001 else 0
  | 0x0F =>
    (match i, off with
    | 6, 0x100 => 0xF | 6, 0x110 => 1000 | 7, 0x100 => 0x03100002 | _, _ => 0)
  | 0x10 => (match off with | 0x148 => 0x10F | _ => 0)
  | _ => 0

/-- Reset value of the register at a BAR address. -/
def resetWord (a : Nat) : Reg :=
  if a < bar2 then BitVec.ofNat 32 (resetOff (a / 0x100000) (a / 0x1000 % 0x100) (a % 0x1000))
  else if a < bar4 then (if 0x4000 ≤ a - bar2 ∧ a - bar2 < 0x8000 ∧ (a - bar2) % 0x40 = 8 then 0x40 else 0)
  else if a < cfgSpace then (if a - bar4 < 0x8000 ∧ (a - bar4) % 16 = 12 then 1 else 0)
  else if a = cfgSpace + 0x10C then 0x00462030 else 0

end Sys2Proof.Machine
end

