-- ==== Sys2Proof/Config.lean ====
section
/-!
DEFINITION. What the spec leaves to the implementation or leaves open: constants with no body (free values), and
the fixed sizes that several chapters share.
-/
namespace Sys2Proof.Config

/-- A fresh free byte string source: value number `n` of a value the spec leaves open (log entry 2). -/
opaque freeWord : Nat → BitVec 64

/-- The device's unique identifier (R18), fixed at manufacture; the spec gives no value (log entry 6). -/
opaque uid : BitVec 128

/-- The key-encryption key of a zone: from the zone seed, INCARNATION, epoch and zone number (R542). The spec names
the inputs and not the derivation (log entry 7). -/
opaque zoneKek : List Byte → Nat → Nat → Nat → List Byte

/-- The AES-256 key under which an ounce's PK key blobs of a zone and epoch are wrapped (R340), derived from the zone
KEK in a way the spec does not spell out (log entry 7). -/
opaque pkBlobKey : List Byte → List Byte

/-- The key of a zone image tag, derived from the zone KEK of its epoch (Table 9.4), in a way the spec does not spell
out (log entry 7). -/
opaque zoneImageKey : List Byte → List Byte

/-- The tag of a NAK, CREDIT or BOND frame under a link key. The SEQ field of these frames carries data (Table 2.12), so
the spec's IV rules give them none; the tag is a free value of the key and the header (log entry 2). -/
opaque controlTag : List Byte → List Byte → List Byte

/-- The custody identity certificate (256 bytes, Table 16.20), programmed by Noriolys (log entry 6). -/
opaque custodyCert : List Byte

/-- The custody identity private key (R545), which never leaves the custody die (log entry 6). -/
opaque custodyPriv : Nat

/-- The Noriolys device-issuing public key (R543), a P-384 point (log entry 6). -/
opaque issuerPub : Nat × Nat

/-- The Octux debug-grant public key (R547), a P-384 point (log entry 6). -/
opaque octuxPub : Nat × Nat

/-- The badge issuer public key (R621), a P-256 point (log entry 6). -/
opaque badgeIssuerPub : Nat × Nat

/-- The digest of the life-cycle token of a slot programmed by Noriolys (R538), 48 bytes (log entry 6). -/
opaque makerDigest : Nat → List Byte

/-- The firmware key that verifies firmware images (Table 15.3, step 1): whether an image verifies (log entry 8). -/
opaque imageVerifies : List Byte → Bool

end Sys2Proof.Config
end

