-- ==== Sys2Proof/Machine/Table.lean ====
section
/-!
DEFINITION. Sparse tables in one canonical form: a list of (key, value) pairs whose keys rise strictly and which
lists no value equal to what an unlisted key holds. Memory, the register pages and every replicated unit of the
device are held so, and equal tables are equal lists.
-/
namespace Sys2Proof.Machine

/-- A sparse table from keys to values. -/
abbrev Tbl (α : Type) := List (Nat × α)

/-- What key `k` holds; an unlisted key holds `d k`. -/
def tget {α : Type} (d : Nat → α) : Tbl α → Nat → α
  | [], k => d k
  | (k', v) :: t, k => if k' = k then v else tget d t k

/-- The table with key `k` holding `v`, in canonical form again. -/
def tput {α : Type} [DecidableEq α] (d : Nat → α) (v : α) (k : Nat) : Tbl α → Tbl α
  | [] => if v = d k then [] else [(k, v)]
  | (k', v') :: t =>
    if k < k' then (if v = d k then (k', v') :: t else (k, v) :: (k', v') :: t)
    else if k = k' then (if v = d k then t else (k, v) :: t)
    else (k', v') :: tput d v k t

/-- The canonical form of a table. -/
def tblWf {α : Type} [DecidableEq α] (d : Nat → α) (t : Tbl α) : Bool :=
  decide (t.Pairwise fun a b => a.1 < b.1) && t.all fun p => decide (p.2 ≠ d p.1)

/-- A table whose unlisted keys all hold `d`: what key `k` holds. -/
def cget {α : Type} (d : α) (t : Tbl α) (k : Nat) : α := tget (fun _ => d) t k

/-- A table whose unlisted keys all hold `d`, with key `k` holding `v`. -/
def cput {α : Type} [DecidableEq α] (d : α) (v : α) (k : Nat) (t : Tbl α) : Tbl α := tput (fun _ => d) v k t

/-- The table with every entry whose key satisfies `p` taken out (it then holds its default). -/
def tdrop {α : Type} (p : Nat → Bool) (t : Tbl α) : Tbl α := t.filter (fun e => ! p e.1)

/-- The keys listed. -/
def tkeys {α : Type} (t : Tbl α) : List Nat := t.map (·.1)

/-- Lookup in a table of optional records. -/
def oget {α : Type} (t : Tbl α) (k : Nat) : Option α := (t.find? (fun e => e.1 == k)).map (·.2)

/-- Insert a record under a key (an unlisted key holds no record). -/
def oput {α : Type} (v : α) (k : Nat) : Tbl α → Tbl α
  | [] => [(k, v)]
  | (k', v') :: t =>
    if k < k' then (k, v) :: (k', v') :: t
    else if k = k' then (k, v) :: t
    else (k', v') :: oput v k t

/-- Remove the record of a key. -/
def odel {α : Type} (k : Nat) (t : Tbl α) : Tbl α := t.filter (fun e => e.1 != k)

/-- Change the record of a key, where there is one. -/
def omod {α : Type} (k : Nat) (f : α → α) (t : Tbl α) : Tbl α :=
  t.map (fun e => if e.1 = k then (e.1, f e.2) else e)

end Sys2Proof.Machine
end

