-- ==== Sys2Proof/Machine/State.lean ====
section
/-!
DEFINITION. The state of the device as plain data, the faults and refusals, and the state right after reset. Every
32-bit register of the register pages, the ring blocks, the mailbox windows and the MSI-X table is one entry of
`regs`, keyed by its BAR address (R472, R448); every 64-bit counter is one entry of `ctrs`; all byte memories are one
`mem`; the rest is one structure per chapter.
-/
namespace Sys2Proof.Machine

/-- A sparse byte memory: what no entry lists reads 0. -/
abbrev Memory := List Host.Cell

/-- The canonical form of a memory: addresses rise strictly, and no entry holds what an unlisted address reads as. -/
def Memory.wf (m : Memory) : Bool := tblWf (fun _ => (0 : Byte)) m

/-- The TRUST field of a frame (R102); 0b11 never occurs. -/
inductive Trust where
  | pending | pass | fail
deriving DecidableEq, Repr

/-- A secure-association record (Table 3.3). -/
structure SaRec where
  keyHandle : Nat := 0
  inUse : Bool := false
  expired : Bool := false
  suite : Nat := 0
  an : Nat := 0
  conf : Bool := false
  roll : Bool := false
  rekeySent : Bool := false
  pn : Nat := 0
  rekeyPn : Nat := 0
  ssci : Nat := 0
  window : Nat := 0
  salt : List Byte := List.replicate 12 0
deriving DecidableEq, Repr

/-- An endpoint context (Table 9.5): the 128-byte header, four receive records with their replay bitmaps, and the two
transmit records (4 current, 5 next). -/
structure Ctx where
  hdr : List Byte := List.replicate 128 0
  sa : List SaRec := List.replicate 6 {}
  bitmap : List Nat := List.replicate 4 0
deriving DecidableEq, Repr

/-- A key shadow of one record (R321): the SAK, empty when there is none. -/
abbrev Shadow := Option (List Byte)

/-- A cached context (R320): the context, a key shadow per record, whether it changed since its last write-back, and
per transmit record the PN limit stored in HBM (R323). -/
structure CachedCtx where
  c : Ctx := {}
  shadow : List Shadow := List.replicate 6 none
  changed : Bool := false
  limit : List Nat := [0, 0]
deriving DecidableEq, Repr

/-- Where a frame is (Table 1.2, Table 3.8). -/
inductive Place where
  /-- in the dispatch buffer of its lane, its context not yet in the cache (R320) -/
  | missing
  /-- accepted and waiting in the dispatch buffer for grains or a parse context (R96, R161) -/
  | waiting
  /-- in the ingress grains, not yet classified -/
  | ingress
  /-- its enqueue notice is on the way to queue `q` (R134) -/
  | noticed (q : Nat)
  /-- in egress queue `q` -/
  | queued (q : Nat)
  /-- pulled for lane `l`, waiting at arbiter level `lvl` (3, 4 or 5) -/
  | pulled (l lvl : Nat)
  /-- staged at lane `l` -/
  | staged (l : Nat)
  /-- being transmitted on lane `l` -/
  | sending (l : Nat)
  /-- being written to host receive ring `r` -/
  | hostWrite (r : Nat)
  /-- taken by the verdict parser of ounce `o` (R160) -/
  | parsing (o : Nat)
  /-- a verdict message whose record has been dispatched (its trust still matters) -/
  | dispatched
  /-- passed to the firmware MKA queue (Table 3.2, row 1) -/
  | mka
  /-- dropped, kept only until its commit or its end -/
  | discarded
deriving DecidableEq, Repr

/-- A frame in flight. -/
structure Frame where
  /-- ingress port 0–1023, 1024 for the host, 1025 + o for a verdict response of ounce o -/
  src : Nat := 0
  /-- bytes that have arrived, from the destination address on -/
  data : List Byte := []
  rxTime : Nat := 0
  prot : Bool := false
  ctx : Nat := 0
  recNo : Nat := 0
  saRec : SaRec := {}
  key : List Byte := []
  sci : Nat := 0
  pn : Nat := 0
  trust : Trust := .pending
  cause : Nat := 0
  /-- 0 still arriving, 1 ended, 2 the rest will never arrive (R108, R110) -/
  ended : Nat := 0
  /-- gang size, 0 before dispatch; `full` when it is the whole gang of R96 -/
  gang : Nat := 0
  full : Bool := true
  /-- ICV result: 0 none, 1 match, 2 mismatch, 3 the stomp pattern -/
  icv : Nat := 0
  committed : Bool := false
  /-- what leaves the device: the bytes from the EtherType of the payload on, known once classified or built -/
  body : List Byte := []
  /-- destination and source address of what leaves the device -/
  dmac : List Byte := []
  smac : List Byte := []
  cls : Nat := 0
  place : Place := .ingress
  /-- it has passed classification: part of it may have been forwarded (R110) -/
  fwd : Bool := false
  /-- shared and headroom cells held in the ingress dram -/
  cells : Nat := 0
  head : Nat := 0
  /-- TIM at its enqueue (R155) -/
  enqT : Nat := 0
  /-- finish tag once stamped, and what the stamp used (R140, R141) -/
  tag : Option Nat := none
  stampW : Nat := 0
  stampWt : Nat := 0
  stampLen : Nat := 0
  /-- staging cells reserved at the lane -/
  stg : Nat := 0
  /-- cells not yet sent over the cross-ounce link -/
  linkLeft : Nat := 0
  /-- cells not yet arrived over the cross-ounce link -/
  linkDue : Nat := 0
  /-- transmit record (4 or 5) and PN taken at the start of transmission -/
  txRec : Nat := 0
  txSa : SaRec := {}
  txKey : List Byte := []
  txCtx : Nat := 0
  txPn : Nat := 0
  txProt : Bool := false
  /-- egress gang smaller than G: no cut-through (R98) -/
  egPartial : Bool := false
  /-- verdict message: its key into the verdict table; for a response, the Plynun reference fields -/
  isVerdict : Bool := false
  vref : Nat := 0
  jseq : Nat := 0
  strand : Nat := 0
  isResp : Bool := false
  /-- the body already carries its Plynun tag (R179) -/
  tagged : Bool := false
  /-- the outcome as the place of the frame knows it (R683) -/
  known : Trust := .pending
  /-- egress gang (R96); the end notice has been given (R134) -/
  egGang : Nat := 0
  endNoted : Bool := false
  /-- verdict message: its envelope has passed R163; the dialect table its parse began with (none: disabled) -/
  envOk : Bool := false
  dia : Option (Tbl Reg) := none
  /-- a message forwarded by the standby: its FWD_ID and its port there (Table 5.9) -/
  isFwd : Bool := false
  fwdId : Nat := 0
  fwdPort : Nat := 0
  /-- admission of its bytes to the limiter of its context was given (R133) -/
  limited : Bool := false
  /-- it was passed to the uncontrolled port (Table 3.2, row 1) -/
  eapol : Bool := false
deriving DecidableEq, Repr

/-- What left the device on a lane most recently: the model's own observation of the balls (log entry 9). -/
structure TxRec where
  bytes : List Byte := []
  /-- 0 normal, 1 stomped, 2 ended with an error control block -/
  kind : Nat := 0
deriving DecidableEq, Repr

/-- State of one serial lane beyond its registers: 0–1023 fabric, 1024 + b for lane block b of LN instance 64. -/
structure Lane where
  /-- codewords received, and the numbers of the uncorrectable ones in the window of R56 -/
  cwCount : Nat := 0
  cwBad : List Nat := []
  /-- control slots sent since the last transmitted marker, and received since the last marker position (R60) -/
  txSlot : Nat := 0
  rxSlot : Nat := 0
  mkMiss : Nat := 0
  /-- the frame being received, or the drop decision that already fell on it: 0 none, 1 + the SC counter,
  20 MACCTL, 21 PRE_OPEN_DROP -/
  rxCur : Option Nat := none
  rxDrop : Nat := 0
  rxDropData : List Byte := []
  /-- bytes of an oversize or dropped frame are discarded until the next start block -/
  rxSkip : Bool := false
  txCur : Option Nat := none
  lastTx : TxRec := {}
  /-- the frame nominated at level 1 (R135) -/
  nominee : Option Nat := none
  /-- X_L (R139) -/
  vclk : Nat := 0
  /-- staging cells in use, headroom cells missing (R127) -/
  stgUsed : Nat := 0
  headUsed : Nat := 0
  /-- messages of the CVL transmit queue, frames of a PARTNER = 0 port, and the slots of the message being sent (R148,
  R153) -/
  cvlTx : List (List Word) := []
  cvlFrames : List (List Byte) := []
  cvlCur : List Word := []
  cvlCredits : Nat := 256
  cvlOwed : Nat := 0
  cvlTxCtr : Nat := 0
  cvlRxCtr : Nat := 0
  /-- CVL byte credit of a PARTNER = 0 port (R153); the slot last sent -/
  cvlBytes : Int := 0
  cvlLast : Word := 0
  /-- ns up to which the CVL byte credit has grown -/
  cvlT : Nat := 0
  /-- the key of the CVL tags, kept from its installation (R150) -/
  cvlKey : List Byte := []
  /-- the lane runs from kept coefficients (R64) -/
  kept : Bool := false
deriving DecidableEq, Repr

/-- One entry of a firmware CVL receive queue (R157). -/
structure CvlEntry where
  lane : Nat := 0
  type : Nat := 0
  npay : Nat := 0
  data : List Word := []
  lost : Bool := false
deriving DecidableEq, Repr

/-- A queue of at most 16 events or 64 entries with the loss flag of R117 and R157. -/
structure EventQ where
  items : List Nat := []
  lost : Bool := false
deriving DecidableEq, Repr

/-- The firmware CVL receive queue of a DQ page. -/
structure CvlQ where
  items : List CvlEntry := []
  lost : Bool := false
deriving DecidableEq, Repr

/-- One direction of one scruple's grains (R112): the grain whose turn it is, whether it has entered its test, the
next vector, and the grains busy with frames. -/
structure GrainDir where
  turn : Nat := 0
  inTest : Bool := true
  vec : Nat := 0
  busy : Nat := 0
deriving DecidableEq, Repr

/-- A forwarding-table entry (Table 4.1). -/
structure FtEntry where
  port : Nat := 0
  clsValid : Bool := false
  cls : Nat := 0
deriving DecidableEq, Repr

/-- A forwarding-table command under way (R124). -/
structure FtOp where
  op : Nat := 0
  key : Nat := 0
  entry : FtEntry := {}
deriving DecidableEq, Repr

/-- One direction of a cross-ounce link (R146): credits per virtual channel, cells in flight, cells in the receive
buffer, and the frame whose cells are passing (R136). -/
structure LinkDir where
  credits : List Nat := [64, 256, 256]
  flight : List Nat := [0, 0, 0]
  buffer : List Nat := [0, 0, 0]
  cur : Option Nat := none
  /-- the frame of each fabric cell in flight, oldest first -/
  cells : List Nat := []
  /-- ns of the cells that had to be sent again within the last millisecond -/
  resent : List Nat := []
deriving DecidableEq, Repr

/-- An event-counter snapshot (R490). -/
structure Snap where
  valid : Bool := false
  count : Nat := 0
  ovf : Bool := false
  seq : Nat := 0
deriving DecidableEq, Repr

/-- Time (Table 1.4, R35): nanoseconds since reset as the custody die counts them, the TIM counter and whether it is
held. -/
structure Clock where
  ns : Nat := 0
  tim : Nat := 0
  held : Bool := false
deriving DecidableEq, Repr

/-- The fabric: lanes, frames, queues, forwarding, links (chapters 2 to 4). -/
structure Fabric where
  lanes : Tbl Lane := []
  frames : Tbl Frame := []
  nextFrame : Nat := 0
  queues : Tbl (List Nat) := []
  /-- F_q of a queue (R140) -/
  fq : Tbl Nat := []
  /-- own congestion bits of the egress drams, and the copies of the four ounce bases (R130) -/
  cong : Tbl Bool := []
  congCopy : Tbl Bool := []
  /-- shared cells in use per dram -/
  shared : Tbl Nat := []
  grains : Tbl GrainDir := []
  ft : Tbl FtEntry := []
  ftOp : Option FtOp := none
  links : Tbl LinkDir := []
  linkDown : Tbl Bool := []
  /-- SC_EVENT queues by dram, firmware CVL receive queues by dram, frames of the uncontrolled port -/
  scEvents : Tbl EventQ := []
  cvlRx : Tbl CvlQ := []
  mka : List (Nat × List Byte) := []
  /-- parse contexts in use per ounce (R161) -/
  parseBusy : Tbl Nat := []
deriving DecidableEq, Repr

/-- A CTXUPD operation on its way to the cache of its context (R324, R325). -/
structure CtxOp where
  ctx : Nat := 0
  core : Nat := 0
  tkt : Nat := 0
  block : List Byte := []
deriving DecidableEq, Repr

/-- Endpoint contexts (chapter 9): the copy in HBM, and the cached copy. -/
structure Contexts where
  hbm : Tbl Ctx := []
  cache : Tbl CachedCtx := []
  /-- CTXUPD operations that have not reached their cache, oldest first -/
  ops : List CtxOp := []
deriving DecidableEq, Repr

/-- Pages: snapshots, and the device-wide writes waiting at ounce 0 (R475). -/
structure Pages where
  snaps : Tbl Snap := []
  /-- instant of the pending snapshot and the pages still to capture -/
  snapT : Option Nat := none
  snapDue : List Nat := []
  snapBegun : List Nat := []
  /-- device-wide writes accepted and not yet applied: register address in ounce 0, value, the ounces still due -/
  wide : List (Nat × Reg × List Nat) := []
deriving DecidableEq, Repr

/-- A key-operation request (R187, R189): the block as copied at issue. -/
structure KReq where
  core : Nat := 0
  tkt : Nat := 0
  ring : Nat := 0
  block : List Byte := []
  /-- the verdict on whose behalf it runs -/
  vid : Option Nat := none
deriving DecidableEq, Repr

/-- A held effect of a verdict (R175, Table 5.7). -/
inductive Held where
  /-- a journal append: the 160-byte record -/
  | append (record : List Byte)
  /-- an endpoint-context update: block and ticket -/
  | ctxupd (block : List Byte) (tkt : Nat)
  /-- a WRITE-WITH-LEASE: block and ticket -/
  | lwrite (block : List Byte) (tkt : Nat)
  /-- a key operation that stores a key (R197) -/
  | keyOp (r : KReq)
deriving DecidableEq, Repr

/-- A response as issued by RESPOND (R254). -/
structure Resp where
  data : List Byte := []
  cls : Nat := 0
  /-- custody-clock instant of the RESPOND, ns -/
  at_ : Nat := 0
deriving DecidableEq, Repr

/-- A verdict message whose record is complete (R172): the record without VREF, the ISO 8583 message, and what the
response will need. -/
structure VMsg where
  ctx : Nat := 0
  port : Nat := 0
  record : List Byte := []
  msg : List Byte := []
  /-- the frame whose TRUST is not yet known; none when TRUST was PASS from the start -/
  frame : Option Nat := none
  fwd : Bool := false
  fwdId : Nat := 0
  plynun : Bool := false
  host : Bool := false
  reqId : Nat := 0
  rxTime : Nat := 0
  src : List Byte := []
  parser : Nat := 0
deriving DecidableEq, Repr

/-- A dispatched verdict (R171–R178). -/
structure Verdict where
  vref : Nat := 0
  core : Nat := 0
  slot : Nat := 0
  /-- the program still owns the slot -/
  owns : Bool := true
  m : VMsg := {}
  /-- pending, pass, or fail for ABORTED -/
  trust : Trust := .pending
  held : List Held := []
  /-- appends accepted (held ones included), given to the strand, and committed -/
  appends : Nat := 0
  given : Nat := 0
  committed : Nat := 0
  lastSeq : Nat := 0
  resp : Option Resp := none
  /-- a RESPOND was accepted once -/
  responded : Bool := false
  /-- SLOT_READY at this CYCLE; the VBUDGET event has fallen (R292) -/
  ready : Nat := 0
  /-- VBUDGET when the slot became ready (R292) -/
  budget : Nat := 0
  budgetHit : Bool := false
  /-- the record has reached the slot (R174) -/
  filled : Bool := false
  /-- the verdict is no longer in progress (R172) -/
  ended : Bool := false
deriving DecidableEq, Repr

/-- An entry of the standby's forwarding table (R180). -/
structure FwdEntry where
  ctx : Nat := 0
  port : Nat := 0
  reqId : Nat := 0
  src : List Byte := []
  /-- ns at which it was taken -/
  at_ : Nat := 0
deriving DecidableEq, Repr

/-- A dialect table (R166) as its words that differ from reset, by word number. -/
abbrev Dialect := Tbl Reg

/-- The verdict pipeline (chapter 5). -/
structure Pipeline where
  /-- copies of the dialect tables, by ounce * 64 + table -/
  dialects : Tbl Dialect := []
  /-- dispatch queues (R172), by ounce -/
  queues : Tbl (List VMsg) := []
  verdicts : Tbl Verdict := []
  nextVerdict : Nat := 0
  /-- response-buffer units in use, by ounce -/
  units : Tbl Nat := []
  fwd : Tbl FwdEntry := []
  /-- bytes of the transfer being received: requests (0), responses (1) -/
  fwdIn : Tbl (List Byte) := []
  /-- payloads of VERDICT_FWD frames waiting for the twin link, with FLAGS.LAST -/
  fwdOut : List (List Byte × Bool) := []
deriving DecidableEq, Repr

/-- A key as an engine holds it: its bytes, its 12 attribute bytes (Table 9.2), its zone and whether it is retired. -/
structure KeyVal where
  key : List Byte := []
  h : List Byte := []
  attr : List Byte := List.replicate 12 0
  zone : Nat := 0
  handle : Nat := 0
  retired : Bool := false
deriving DecidableEq, Repr

/-- An operation in a key engine (R187): the request, the keys it read (R198), and its result once computed. -/
structure KRun where
  r : KReq := {}
  keys : List KeyVal := []
  computed : Bool := false
  status : Nat := 0
  result : List Byte := []
  /-- the key it will store, or place in a transient register -/
  out : Option KeyVal := none
deriving DecidableEq, Repr

/-- The key engines (chapter 6). -/
structure Pay where
  /-- request queue of each ounce -/
  queue : Tbl (List KReq) := []
  /-- running operations by ounce * 16 + engine -/
  run : Tbl KRun := []
  /-- transient registers by core * 32 + slot * 4 + register (R194) -/
  trans : Tbl KeyVal := []
  /-- slots released while operations are outstanding, core * 8 + slot (R196) -/
  closing : List Nat := []
deriving DecidableEq, Repr

/-- A ticket (R251): never taken, outstanding, completed; whether WAIT has returned it. -/
structure Ticket where
  taken : Bool := false
  done : Bool := false
  waited : Bool := false
  status : Nat := 0
deriving DecidableEq, Repr

/-- A control transfer whose delay slot is the next instruction (R243): its address, its target, and the link register
with the value it had before (R279). -/
structure Slot where
  src : Word := 0
  target : Word := 0
  link : Nat := 0
  old : Word := 0
deriving DecidableEq, Repr

/-- Loop registers LS, LE, LC of both levels (Table 7.1). -/
structure Loops where
  ls0 : Nat := 0
  le0 : Nat := 0
  lc0 : Nat := 0
  ls1 : Nat := 0
  le1 : Nat := 0
  lc1 : Nat := 0
deriving DecidableEq, Repr

/-- One verdict core (chapters 7 and 8) beside its SRAMs, which lie in the memory. -/
structure Core where
  /-- g0–g31; g0 and g30 of this list are not used: g30 is the `sp` of the ring -/
  g : List Word := List.replicate 32 0
  sp : List Word := List.replicate 4 0
  pc : Word := 0
  ring : Nat := 0
  exl : Bool := false
  dxl : Bool := false
  ds : Option Slot := none
  /-- ARSTAT: V and DZ of each ring -/
  v : List Bool := List.replicate 4 false
  dz : List Bool := List.replicate 4 false
  /-- TRAPCTL: OV and DZ of each ring (R226) -/
  tov : List Bool := List.replicate 4 false
  tdz : List Bool := List.replicate 4 true
  loops : Loops := {}
  xloops : Loops := {}
  cycle : Nat := 0
  instret : Nat := 0
  stallMem : Nat := 0
  stallTkt : Nat := 0
  evpend : Nat := 0
  evmask : Nat := 0
  tickets : List Ticket := List.replicate 16 {}
  lsmore : Bool := false
  pring : Nat := 0
  epc : Nat := 0
  ecause : Nat := 0
  eaddr : Word := 0
  evec0 : Nat := 0x1FF00
  evec1 : Nat := 0x1FE00
  edeleg : Nat := 0
  gatebase : Nat := 0
  gatecount : Nat := 0
  ien : Nat := 0
  iroute : Nat := 0
  ictl : Nat := 0
  vbstat : Nat := 0
  vbudget : Nat := 0
  tmcmp : Nat := 0
  wden : Bool := false
  wdstage : Bool := false
  wdload : Nat := 0xFFFFFFFF
  wdcnt : Nat := 0xFFFFFFFF
  depc : Nat := 0
  dcause : Nat := 0
  daddr : Word := 0
  /-- the eight-entry store buffer, oldest first: address, bytes and ring of the store -/
  sbuf : List (Nat × List Byte × Nat) := []
  /-- a reported LATE_STORE not yet taken: address and subcause; a WDOG stage 1 not yet taken -/
  late : Option (Nat × Nat) := none
  wdog : Bool := false
  /-- VC_STAT.STATE: 0 RESET, 1 RUN, 2 WFE, 3 STALL, 4 HALTED -/
  st : Nat := 0
  /-- a write of 0 to RUN takes effect after the delay slot -/
  stopping : Bool := false
  /-- the 47-bit dispatch count of R174, kept over a core reset -/
  vcount : Nat := 0
  /-- the verdict in each message slot -/
  slots : List (Option Nat) := List.replicate 8 none
deriving DecidableEq, Repr

/-- A DMA transfer of a cluster (R256). -/
structure DmaOp where
  core : Nat := 0
  tkt : Nat := 0
  daddr : Nat := 0
  toHbm : Bool := false
  len : Nat := 0
  haddr : Nat := 0
  laddr : Nat := 0
deriving DecidableEq, Repr

/-- The verdict cores. -/
structure Cores where
  cores : Tbl Core := []
  /-- DMA transfers of each cluster in issue order -/
  dma : Tbl (List DmaOp) := []
deriving DecidableEq, Repr

/-- A key resident in a vault (R308). -/
structure Resident where
  k : KeyVal := {}
  used : Nat := 0
deriving DecidableEq, Repr

/-- A zone: its place in the key store, its counters and its custody record (R298–R302, R541). -/
structure Zone where
  zbase : Nat := 0
  count : Nat := 0
  started : Bool := false
  epoch : Nat := 0
  floor : Nat := 0
  gen : Nat := 0
  /-- the GEN ceiling acknowledged by, and last sent to, the standby (R384) -/
  ceil : Nat := 0
  ceilSent : Nat := 0
  rekey : Bool := false
  /-- the zone command under way: 0 none, 4 EXPORT, 5 LOAD -/
  busy : Nat := 0
  /-- SEQ of the last export -/
  seq : Nat := 0
  /-- zone life cycle, 0 BLANK to 3 END_OF_LIFE -/
  lc : Nat := 0
  digests : List (List Byte) := [[], [], []]
  seed : List Byte := []
  inc : Nat := 0
  fails : Nat := 0
deriving DecidableEq, Repr

/-- The vault (chapter 9): zones, resident keys by ounce * 2^32 + handle, fills under way (ounce, handle, still
wanted). -/
structure Vault where
  zones : Tbl Zone := []
  resident : Tbl Resident := []
  fills : List (Nat × Nat × Bool) := []
  /-- orders the uses of resident keys -/
  clock : Nat := 0
  /-- BFLOOR of each zone by ounce * 64 + zone (R343) -/
  bfloor : Tbl Nat := []
  /-- a RETIRE that waits for a GEN below the ceiling (R384), by ounce: its handle -/
  retire : Tbl Nat := []
  /-- KV_ZONE_HADDR as the zone transfer under way took it -/
  haddr : Nat := 0
deriving DecidableEq, Repr


/-- An operation of the PK engines (R332, R349–R351): its queue and descriptor, its engines, the operands once read, and its
result once computed. -/
structure PkRun where
  q : Nat := 0
  /-- where its descriptor lies -/
  space : Nat := 0
  at_ : Nat := 0
  desc : List Byte := []
  /-- the KBPK of PK_IMPORT -/
  kbpk : List Byte := []
  e1 : Nat := 0
  /-- the second engine of a duplicated operation -/
  e2 : Option Nat := none
  ready : Bool := false
  computed : Bool := false
  retried : Bool := false
  /-- engines that faulted on it -/
  bad : List Nat := []
  args : List (List Byte) := []
  status : Nat := 0
  out : List Byte := []
  pub : List Byte := []
deriving DecidableEq, Repr

/-- The PK engines (chapter 10): operations by ounce * 16 + lower engine, retries that wait for an engine, engines under
test, the queue served last and the engine tested last of each ounce. -/
structure PkUnit where
  run : Tbl PkRun := []
  retry : List (Nat × PkRun) := []
  test : List Nat := []
  lastQ : Tbl Nat := []
  lastTest : Tbl Nat := []
deriving DecidableEq, Repr

/-- An append before its chain value is computed (R365). -/
structure App where
  kind : Nat := 1
  flags : Nat := 0
  vref : Nat := 0
  reqId : Nat := 0
  ctx : Nat := 0
  port : Nat := 0
  core : Nat := 0xFF
  index : Nat := 0
  record : List Byte := []
  vid : Option Nat := none
deriving DecidableEq, Repr

/-- A journal strand (R364–R370). -/
structure Strand where
  seq : Nat := 0
  chain : List Byte := List.replicate 48 0
  queue : List App := []
  /-- tokens of the admission bucket and the ns at which it was last filled -/
  tokens : Nat := 64
  tokT : Nat := 0
  /-- ring places promised to JAPPs that have not been admitted -/
  reserved : Nat := 0
  /-- SEQ of the oldest entry in the ring minus 1; SEQ of the last exported entry -/
  left : Nat := 0
  exported : Nat := 0
  /-- entries not yet committed: SEQ and verdict -/
  uncommitted : List (Nat × Option Nat) := []
  /-- entries admitted since the ounce's last seal trigger -/
  admitted : Nat := 0
  /-- as a standby: last SEQ accepted whose chain has been verified, and its chain value -/
  verified : Nat := 0
  /-- entries accepted as a standby whose chain value is not yet checked -/
  toVerify : List (List Byte) := []
  /-- recent heads (SEQ, CHAIN) kept for the digests of seals (R380) -/
  heads : List (Nat × List Byte) := []
  /-- the GENESIS marker accepted since the last accepted seal of the ounce (R380) -/
  genesisSeen : Bool := false
deriving DecidableEq, Repr

/-- Seals of one ounce (R371–R373). -/
structure Seal where
  no : Nat := 0
  prev : List Byte := List.replicate 48 0
  /-- the record being signed and its D; whether it was retried -/
  cur : Option (List Byte × List Byte) := none
  retried : Bool := false
  waiting : Bool := false
  /-- the seal request was accepted by the seal engine (R352) -/
  asked : Bool := false
  /-- seal records written to the seal export ring, and not exported yet -/
  out : List (List Byte) := []
  /-- first seal after a genesis, as a standby -/
  fresh : Bool := true
deriving DecidableEq, Repr

/-- An item of the mirror queue (R377). -/
inductive Mirror where
  | entry (strand seq : Nat) (vid : Option Nat) (bytes : List Byte)
  | sealRec (bytes : List Byte)
  | delta (dseq : Nat) (bytes : List Byte)
deriving DecidableEq, Repr

/-- A checkpoint under way (R386, R387): as the active sends it, or as a standby receives it. -/
structure Ckpt where
  active : Bool := false
  epoch : Nat := 0
  /-- number of the next segment -/
  seg : Nat := 0
  dseqStart : Nat := 0
  /-- the active: region and first index of the next segment; the end segment has been sent -/
  region : Nat := 0
  idx : Nat := 0
  ended : Bool := false
  /-- strand heads captured at the start -/
  heads : List (Nat × List Byte) := []
  /-- the data of every segment so far -/
  data : List Byte := []
  /-- delta records logged since DSEQ_START -/
  log : List (List Byte) := []
  /-- ns before which the next segment waits for TW_CKPT_RATE (R388) -/
  nextT : Nat := 0
deriving DecidableEq, Repr

/-- The Noriolys link of a direction pair: twin (w lanes) or one ring lane (R73–R76). -/
structure NLink where
  up : Bool := false
  /-- next SEQ to send and next SEQ expected -/
  txSeq : Nat := 0
  rxSeq : Nat := 0
  /-- ESEQ or RSC prefixes above 2^32 (R381, R415) -/
  txHi : Nat := 0
  rxHi : Nat := 0
  lost : Bool := true
  /-- frames sent and not acknowledged by credit, oldest first: SEQ and bytes -/
  replay : List (Nat × List Byte) := []
  /-- transmit credits received, in units of 256 bytes -/
  credits : Nat := 0
  /-- ns of the last NAK sent, and the SEQ from which frames are sent again -/
  nakT : Option Nat := none
  resend : Option Nat := none
  /-- bond width and lanes in use, bit per lane (twin only) -/
  width : Nat := 0
  lanes : Nat := 0
  /-- lanes the partner reported UP in its last BOND frame -/
  peer : Nat := 0
  /-- link frames waiting: type, SEQ field of NAK, CREDIT and BOND, payload -/
  ctl : List (Nat × Nat × List Byte) := []
  /-- frames accepted and not yet acted on: type, flags, SEQ, payload -/
  inbox : List (Nat × Nat × Nat × List Byte) := []
  /-- the twin link key as installed (R381) -/
  key : List Byte := []
deriving DecidableEq, Repr

/-- Journal and twin (chapter 11). -/
structure Journal where
  strands : Tbl Strand := []
  seals : Tbl Seal := []
  mirror : List Mirror := []
  unacked : List Mirror := []
  /-- instants at which the unacknowledged items were sent, ns -/
  sentT : List Nat := []
  link : NLink := {}
  /-- partner as last known: its STATE; its ROLE_GEN -/
  partState : Nat := 0
  partGen : Nat := 0
  /-- the swap under way: its generation; the REQ this device sent -/
  swapG : Option Nat := none
  swapSent : Option Nat := none
  /-- a loss was declared and the probe is outstanding -/
  probing : Bool := false
  /-- the partner was declared lost and has not been met again -/
  gone : Bool := false
  /-- role and LOCKED of the partner as last known -/
  partRole : Nat := 0
  partLocked : Bool := false
  /-- entries commit as SOLO since SOLO_START was written -/
  solo : Bool := false
  /-- next DSEQ, and the mirror position as a standby -/
  dseq : Nat := 0
  /-- the delta ring: DSEQ and record, oldest first -/
  deltas : List (Nat × List Byte) := []
  tx : Ckpt := {}
  rx : Ckpt := {}
  /-- SHADOW: the stone records and key records of the epoch under construction, by region * 2^40 + index -/
  shadow : Tbl (List Byte) := []
  /-- mirrored GEN ceilings and zone state are in the zones; mirror frames are accepted -/
  accepting : Bool := true
  /-- the ounce 2 base has lost an HBM stack (Table 11.10) -/
  cutOff : Bool := false
  /-- the swap drain has ended, its markers are written (R397) -/
  drained : Bool := false
deriving DecidableEq, Repr

/-- A ring lane (CE 0, CW 1): its link, the HELLO exchange (R416) and its peer delay (R427). -/
structure RingLane where
  link : NLink := {}
  /-- own nonce of the exchange, the neighbour's nonce last received, whether the exchange is done -/
  nonce : Nat := 0
  echo : Nat := 0
  hello : Bool := false
  /-- a HELLO waits for the DRBG of ounce 2 (R601) -/
  waiting : Bool := false
  npos : Nat := 0
  nrsc : Nat := 0
  rsc : Nat := 0
  /-- t1 of the outstanding PDELAY_REQ; the measurements in use, newest first, in 2^-16 ns; a response owed: t1, t2 -/
  t1 : Option Nat := none
  delays : List Int := []
  answer : Option Nat := none
  /-- frames waiting, urgent and bulk: own or forwarded, type, payload; which kind was sent last -/
  urgent : List (Bool × Nat × List Byte) := []
  bulk : List (Bool × Nat × List Byte) := []
  lastOwn : Bool := false
  /-- the present outage was counted in SEG_DOWN -/
  segDown : Bool := false
  /-- consecutive urgent frames sent while a bulk frame waited -/
  run : Nat := 0
deriving DecidableEq, Repr

/-- A position in the presence map (R421, R422). -/
structure Present where
  at_ : Nat := 0
  uid : List Byte := []
  roleGen : Nat := 0
  twState : Nat := 0
  flags : Nat := 0
  prio : Nat := 15
deriving DecidableEq, Repr

/-- Delivered MSGIDs of a source (R419). -/
structure MsgWin where
  high : Nat := 0
  marks : Nat := 0
  any : Bool := false
deriving DecidableEq, Repr

/-- A lease at its home (R436). -/
structure Lease where
  used : Bool := false
  idx : Nat := 0
  req : Nat := 0
  tag : Nat := 0
  gen : Nat := 0
  version : Nat := 0
  expiry : Nat := 0
deriving DecidableEq, Repr

/-- An answer kept for 8 ms (R433). -/
structure LeaseAns where
  req : Nat := 0
  tag : Nat := 0
  body : List Byte := []
  at_ : Nat := 0
deriving DecidableEq, Repr

/-- A grant or write waiting for its MACK (R440), and whether its desync is under way (R441). -/
structure LeaseMirror where
  mseq : Nat := 0
  idx : Nat := 0
  write : Bool := false
  value : Nat := 0
  version : Nat := 0
  entry : Nat := 0
  lease : Lease := {}
  ans : LeaseAns := {}
  desync : Bool := false
deriving DecidableEq, Repr

/-- A request of this device (R435, R438). -/
structure LeaseReq where
  tag : Nat := 0
  core : Nat := 0
  tkt : Nat := 0
  raddr : Nat := 0
  wop : Nat := 0
  ctr : Nat := 0
  lease : Nat := 0
  value : Nat := 0
  first : Nat := 0
  deadline : Nat := 0
deriving DecidableEq, Repr

/-- The control ring (chapter 12). -/
structure Ring where
  lanes : Tbl RingLane := []
  rscKept : Nat := 0
  msgid : Nat := 0
  wins : Tbl MsgWin := []
  present : Tbl Present := []
  /-- last SYNC used: SYNC_SEQ, hops, ring; ns of the last accepted one -/
  syncSeq : Nat := 0
  syncHops : Nat := 0
  syncT : Nat := 0
  txSeq : Nat := 0
  /-- the last 16 offsets in ns, newest first -/
  offsets : List Int := []
  armed : Bool := false
  switched : Bool := false
  rxq : List (Nat × Nat × List Byte) := []
  rxLost : Bool := false
  leases : Tbl Lease := []
  answers : List LeaseAns := []
  mirrors : List LeaseMirror := []
  mseqTx : Nat := 0
  mseqRx : Nat := 0
  reqs : Tbl LeaseReq := []
  nextTag : Nat := 0
  /-- EXPIRY of the leases granted to this device, by LEASE_ID -/
  expiry : Tbl Nat := []
  /-- counter sync: records received; the home is sending; its phase, next index and records sent -/
  syncRx : Nat := 0
  syncing : Bool := false
  syncPhase : Nat := 0
  syncPos : Nat := 0
  syncCount : Nat := 0
  /-- ring keys as installed: the current one and the successor -/
  keyCur : List Byte := []
  keyNext : List Byte := []
  /-- messages delivered and not yet acted on: type, lane, payload -/
  inbox : List (Nat × Nat × List Byte) := []
  /-- a TIME_SYNC was accepted since JOIN -/
  gotSync : Bool := false
deriving DecidableEq, Repr

/-- A mailbox slot (R461). -/
structure Mbox where
  full : Bool := false
  words : Nat := 0
  ovf : Bool := false
  code : Nat := 0
  ackValid : Bool := false
  ack : Nat := 0
  data : List Word := List.replicate 16 0
deriving DecidableEq, Repr

/-- A frame pulled into a receive ring and the buffers reserved for it (R458, R459). -/
structure RxPull where
  frame : Nat := 0
  count : Nat := 0
deriving DecidableEq, Repr

/-- A transmit descriptor taken (R454, R455): its ring, its 32 bytes, and its frame once that is in the parser. -/
structure TxPull where
  ring : Nat := 0
  desc : List Byte := []
  frame : Option Nat := none
deriving DecidableEq, Repr

/-- Host interface and mailboxes (chapter 13). -/
structure HostIf where
  mbox : Tbl Mbox := []
  /-- TXDONE of each core -/
  txdone : Tbl Nat := []
  /-- mailbox events waiting for a core whose cluster is off (R466) -/
  mbWait : List Nat := []
  /-- custody channels 48-55 that are FULL, in order of arrival (R554) -/
  custQ : List Nat := []
  /-- frames being written, by ring, oldest first -/
  rx : Tbl (List RxPull) := []
  /-- descriptors taken and not completed, oldest first -/
  tx : List TxPull := []
  /-- the ring served last, for the rotation of R455 -/
  txTurn : Nat := 0
  /-- rings whose advance waits for IMOD, and 1 + the ns of the last message -/
  modWait : List Nat := []
  modT : Tbl Nat := []
  /-- Header Log (R464): channel and offset of the request it holds; ERR_NONFATAL messages sent -/
  hdrLog : Option (Nat × Nat) := none
  nonfatal : Nat := 0
deriving DecidableEq, Repr

/-- A slow control input (R511–R513): raw and filtered state (true = active), ns of the last raw change, whether it has
been accepted inactive since the start, ns from which it may act again. -/
structure SlowIn where
  raw : Bool := false
  filt : Bool := false
  changed : Nat := 0
  seenInactive : Bool := false
  inactiveT : Nat := 0
  acted : Bool := false
deriving DecidableEq, Repr

/-- Start, power and heat (chapter 15). -/
structure Startup where
  /-- ns of the failed cold starts on record, oldest first (R500) -/
  fails : List Nat := []
  retryDue : Bool := false
  /-- the firmware image that starts load from: words of the HBM copy that are not erased, by word index; and the device is
  off after a trip or an undervoltage detection (R506, R657) -/
  fw : List (Nat × Word) := []
  off : Bool := false
  /-- cause of the warm start being prepared (R497) -/
  prep : Option Nat := none
  /-- the image staged by FW_LOAD -/
  staged : List Byte := []
  /-- a thermal trip, and the ns since which every die has read below 95 °C -/
  tripped : Bool := false
  coolT : Option Nat := none
  /-- last readings of the five sensors, °C -/
  temp : List Nat := [0, 0, 0, 0, 0]
  /-- the domains of the power request that is BUSY, and one of an ounce isolated meanwhile (R509) -/
  req : List Nat := []
  reqIso : Option Nat := none
  /-- domains on their way to a state: whether to ON (R42) -/
  want : List (Nat × Bool) := []
  /-- wakes waiting: domain and source; wakes held by PW_WAKE_EN -/
  wakes : List (Nat × Nat) := []
  held : List (Nat × Nat) := []
  /-- ns of the last change of each domain -/
  domT : Tbl Nat := []
  slow : Tbl SlowIn := []
  /-- ns of the last custody kick; SYS_RESET_N asserted; PCIe link in reset -/
  custKick : Nat := 0
  sysReset : Bool := false
  pcieReset : Bool := false
  /-- a frame was dropped under R502 since the last start -/
  preOpen : Bool := false
  /-- rails whose undervoltage detector has tripped (R657) -/
  rails : List Nat := []
  /-- ns at which the running step began; the ounces whose engines are throttled (R506), bit o for ounce o -/
  stepT : Nat := 0
  throttle : Nat := 0
deriving DecidableEq, Repr

/-- A fence region (R550). -/
structure Region where
  start : Nat := 0
  last : Nat := 0
  en : Bool := false
  perm : Nat := 0
deriving DecidableEq, Repr

/-- A fence violation as logged (Table 16.17). -/
structure Violation where
  addr : Nat := 0
  fence : Nat := 0
  cls : Nat := 0
  write : Bool := false
  fetch : Bool := false
deriving DecidableEq, Repr

/-- A supply monitor (R518–R520). -/
structure Monitor where
  armed : Bool := false
  /-- the departure under classification: 0 none, 1 high side, 2 low side -/
  dep : Nat := 0
  outGlitch : Bool := false
  outSlow : Bool := false
  below : Bool := false
deriving DecidableEq, Repr

/-- An unlock session (R535). -/
structure Session where
  open_ : Bool := false
  begun : Nat := 0
  cards : List Nat := []
  badges : List Nat := []
  shares : List (Nat × List Byte) := []
deriving DecidableEq, Repr

/-- An enrolled custodian badge (R621, R624): UID, Kb, password and CREC. -/
structure BadgeRec where
  uid : Nat := 0
  kb : List Byte := []
  pw : Nat := 0
  crec : Nat := 0
deriving DecidableEq, Repr

/-- A ROOT_GENERATE under way (R534, R617): the new root and GEN_ID, the shares, M and N, the cards written with their
keys, whether the badges are being enrolled, and the ns at which it began. -/
structure Generation where
  root : List Byte := []
  genId : List Byte := []
  shares : List (List Byte) := []
  m : Nat := 0
  n : Nat := 0
  cards : List (Nat × List Byte) := []
  badgePhase : Bool := false
  begun : Nat := 0
deriving DecidableEq, Repr

/-- Custody (chapter 16). -/
structure Custody where
  /-- encoding of the latch (Table 16.4); the spec gives no value for a new device: UNLOCKED (log entry 5) -/
  latch : Nat := 0x3C5A
  /-- the device stays as under LOCK until a cold start (R540) -/
  coldDue : Bool := false
  /-- provisional hold (R520): monitors whose departure is being classified -/
  monitors : Tbl Monitor := []
  sticky : Bool := false
  /-- alarms whose sticky flag waits for the AON logic: source, unit, flags, TIM -/
  alarmWait : List (Nat × Nat × Nat × Nat) := []
  /-- alarm records held (R525) -/
  records : List (List Byte) := []
  overflow : Nat := 0
  boots : Nat := 0
  /-- AON_TIME in ticks -/
  aon : Nat := 0
  /-- machines of Table 16.2 with an invalid value -/
  invalid : List Nat := []
  /-- the root key; none when lost or never generated -/
  root : Option (List Byte) := some (List.replicate 32 0)
  /-- OTP digest of the root, M, N, enrolled card identities and badge UIDs -/
  rootDigest : List Byte := []
  m : Nat := 0
  n : Nat := 0
  cards : List (Nat × List Byte) := []
  badges : List BadgeRec := []
  /-- revoked badges (R624) -/
  revoked : List BadgeRec := []
  session : Session := {}
  /-- a quorum session has succeeded since the last start -/
  quorum : Bool := false
  /-- silicon life cycle OTP word (Table 16.6) -/
  otp : Nat := 0xFFF
  corrected : Bool := false
  /-- digests of slots 1 and 2 (slots 0 and 3 are Config.makerDigest) -/
  digest1 : List Byte := []
  digest2 : List Byte := []
  makerSlots : Bool := true
  tokenFails : Nat := 0
  /-- debug: open challenge (nonce, scope, ns) and grant -/
  challenge : Option (List Byte × Nat × Nat) := none
  grant : Option Nat := none
  /-- fences: regions by fence * 16 + region, defaults that were written -/
  regions : Tbl Region := []
  defaults : Tbl Nat := []
  log : List Violation := []
  /-- ROOT_GENERATE under way -/
  gen : Option Generation := none
  /-- VDD_KEEP is below its power-loss level (R529); retention was lost meanwhile (R531) -/
  keepOff : Bool := false
  retLost : Bool := false
deriving DecidableEq, Repr

/-- A wear group of the flash (R565): START, GAP, ERASES and its gap moves. -/
structure WearGroup where
  start : Nat := 0
  gap : Nat := 256
  erases : Nat := 0
  moves : Nat := 0
deriving DecidableEq, Repr

/-- A page-port flash operation under way: its OP, logical word address and the words to program. -/
structure FlashOp where
  op : Nat := 0
  word : Nat := 0
  count : Nat := 0
  data : List Word := []
  pass : Word := 0
  first : Nat := 0
  regions : Nat := 0
deriving DecidableEq, Repr

/-- The custody die flash and the configuration store (chapter 17). -/
structure Flash where
  /-- words that are not erased, by physical sector * 512 + word -/
  words : Tbl Word := []
  groups : Tbl WearGroup := []
  /-- protection bits of the 256 regions, and the password (R569, R571) -/
  prot : Nat := 0
  pass : Word := 0
  /-- the page-port command that is BUSY; the group whose gap moves for it -/
  op : Option FlashOp := none
  move : Option Nat := none
  /-- the operation record of domain 78: kind, and logical sector or group (R564) -/
  opRec : Option (Nat × Nat) := none
  /-- the slot booted at the latest cold start -/
  booted : Nat := 0
  /-- the body of a store write under way, and its target bank (R575) -/
  csOp : Option (List Byte × Nat) := none
  /-- the configuration body that governs since the latest cold start (R578) -/
  body : Option (List Byte) := none
deriving DecidableEq, Repr

/-- A noise source and its health tests (R588–R591). -/
structure Noise where
  /-- raw bits waiting for the conditioner -/
  bits : List Bool := []
  runVal : Bool := false
  runLen : Nat := 0
  winFirst : Bool := false
  winCnt : Nat := 0
  winPos : Nat := 0
  rctFails : Nat := 0
  aptFails : Nat := 0
  winFails : Nat := 0
  reported : Bool := false
  /-- start-up test: samples left, and whether it has failed -/
  startLeft : Nat := 0
  startFail : Bool := false
  lfsr : Nat := 1
  /-- the raw bits waiting contain pattern bits -/
  taint : Bool := false
deriving DecidableEq, Repr

/-- A DRBG instance (R593–R597). -/
structure Drbg where
  ready : Bool := false
  k : List Byte := List.replicate 32 0
  v : List Byte := List.replicate 16 0
  gen : Nat := 0
  taint : Bool := false
  /-- 16-byte blocks of the output buffer -/
  buf : List (List Byte) := []
  reseedDue : Bool := false
  /-- instantiation waits for a block; the first attempt has failed -/
  instWait : Bool := false
  failedOnce : Bool := false
deriving DecidableEq, Repr

/-- The random number service (chapter 18). -/
structure Rng where
  src : Tbl Noise := []
  /-- SRC_MASK in force for the block being built (R586) -/
  mask : Nat := 0xF
  /-- seed pool: blocks with their taint -/
  pool : List (List Byte × Bool) := []
  inst : Tbl Drbg := []
  /-- instances that wait for a seed block, in order of request (R587) -/
  want : List Nat := []
  /-- instance of the command that is busy -/
  busy : Option Nat := none
  /-- raw capture: whether it runs, its source, and the samples held -/
  tap : Bool := false
  tapSrc : Nat := 0
  tapBits : List Bool := []
deriving DecidableEq, Repr

/-- What the device last sent on the card slot (the model's own observation, log entry 9): the 48-bit command frame and the
data block. -/
structure CardTx where
  frame : Nat := 0
  block : List Byte := []
deriving DecidableEq, Repr

/-- The UNKNOWN record (R615, R616): CARD_ID, TXN, purpose, and the card key that the transaction carried. -/
structure Unknown where
  card : Nat := 0
  txn : Nat := 0
  op : Nat := 0
  key : List Byte := []
deriving DecidableEq, Repr

/-- The card slot (chapter 19). -/
structure Card where
  /-- 0 EMPTY, 1 settling, 2 VCC_CARD on, 3 clock running, 4 presentation, 5 ended with the card present -/
  phase : Nat := 0
  inserted : Bool := false
  /-- raw CD inactive; a failure that waits for the filter (R615) -/
  rawOut : Bool := false
  waiting : Option Nat := none
  purpose : Nat := 0
  /-- the command to send next; the one sent; what is awaited: 1 response, 2 block from the card, 3 end of the block to the
  card, 4 DATA_ACK -/
  next : Nat := 0
  sent : Nat := 0
  await : Nat := 0
  tries : Nat := 0
  ext : Nat := 0
  ident : List Byte := []
  nd : List Byte := []
  nc : List Byte := []
  key : List Byte := []
  /-- BEGIN was sent and neither COMMIT confirmed nor ABORT ended; COMMIT was sent; the second IDENTIFY of a generation -/
  open_ : Bool := false
  commit : Bool := false
  second : Bool := false
  /-- the status with which the presentation ends after ABORT; CODE of a refusal -/
  endCode : Nat := 0
  code : Nat := 0
  wp : Bool := false
  unk : Option Unknown := none
  unkLost : Bool := false
  tx : CardTx := {}
deriving DecidableEq, Repr

/-- The badge reader (chapter 19). -/
structure Reader where
  /-- 0 OFF, 1 PINGING, 2 FIELD, 3 ANTICOLL, 4 ACTIVE -/
  st : Nat := 0
  /-- the last eight pings that triggered nothing; pings must first measure within DETUNE (R623) -/
  base : List Nat := []
  blocked : Bool := false
  retries : Nat := 0
  /-- UIDs of the field cycle that wait for their presentation, and those presented in it; the ns at which each UID was last
  seen -/
  found : List Nat := []
  shown : List Nat := []
  seen : List (Nat × Nat) := []
  cur : Option Nat := none
  /-- the command to send next; the one whose answer is awaited (0 none) -/
  next : Nat := 0
  sent : Nat := 0
  sig : List Byte := []
  nr : List Byte := []
  nb : List Byte := []
  kill : Bool := false
  enrol : Bool := false
  kb : List Byte := []
  pw : Nat := 0
  pwUsed : Bool := false
  /-- counter read, and whether COUNT_STEP is done -/
  c : Nat := 0
  stepped : Bool := false
  tx : List Byte := []
deriving DecidableEq, Repr

/-- The custodian interfaces (chapter 19); the event log holds its records oldest first. -/
structure Custodian where
  card : Card := {}
  rdr : Reader := {}
  log : List (List Byte) := []
  logOvf : Nat := 0
deriving DecidableEq, Repr

/-- Online test and in-service replacement (chapter 20). -/
structure Service where
  /-- drams whose OUT is the first half of a CYCLE -/
  cycling : List Nat := []
  /-- causes of a forced isolation that still hold, by ounce: 1 RND, 2 VCK, 16 + 4a + b the link a–b -/
  causes : Tbl (List Nat) := []
  /-- FAB PLLs being relocked (R643) -/
  fabLost : List Nat := []
  /-- core test under way, by ounce: core * 4 + OP -/
  test : Tbl Nat := []
deriving DecidableEq, Repr

/-- The TAP (R644–R646). -/
structure Jtag where
  ir : Nat := 1
  /-- boundary scan controls the pins (R645) -/
  boundary : Bool := false
  sel : Nat := 0
  /-- the data register captured last -/
  dr : Nat := 0
  /-- the custody debug port is open (class D) -/
  cust : Bool := false
deriving DecidableEq, Repr


/-- Why the device stops. No command of this model raises one: the spec gives every command an effect, and a command
it refuses is answered with a status code. The one constructor names an internal inconsistency no command reaches. -/
inductive Fault where
  /-- Nothing raises it (safe). -/
  | unreachable
deriving DecidableEq, Repr

/-- Why a command has no meaning here. -/
inductive Refusal where
  /-- A command not yet modelled, raised by the dispatcher only (safe: nothing can be proved of it). -/
  | notModelled (mnemonic : String)
deriving DecidableEq, Repr


/-- The whole machine. -/
structure State where
  regs : Tbl Reg := []
  ctrs : Tbl Word := []
  mem : Memory := []
  /-- the LO/HI latch (R13): the HI address and the value it will return -/
  latch : Option (Nat × Reg) := none
  /-- what the last read command returned (the model's own, log entry 9) -/
  lastRead : Word := 0
  clk : Clock := {}
  /-- state of the 80 power domains, 0 OFF, 1 UP, 2 ON, 3 CLOSING, 4 DOWN (R508) -/
  dom : Tbl Nat := []
  pgs : Pages := {}
  fab : Fabric := {}
  cxs : Contexts := {}
  vp : Pipeline := {}
  pay : Pay := {}
  vc : Cores := {}
  vlt : Vault := {}
  pk : PkUnit := {}
  jn : Journal := {}
  cr : Ring := {}
  hi : HostIf := {}
  st : Startup := {}
  fl : Flash := {}
  rng : Rng := {}
  cus : Custody := {}
  cb : Custodian := {}
  svc : Service := {}
  jtag : Jtag := {}
  /-- counter of the free values taken so far (the model's own, log entry 2) -/
  fresh : Nat := 0
  /-- the commands that wait, first in, first out -/
  pending : List Instr := []
deriving DecidableEq, Repr

/-- The device right after reset: a cold start at its first step (R494, R498), every register at its reset value (an
entry of `regs` lists only what differs from it), memory with nothing listed and no command waiting. -/
def State.reset : State := {}

end Sys2Proof.Machine
end

