-- ==== Sys2Proof/Machine/Ops.lean ====
section
/-!
DEFINITION. The named operations every command is built from: registers and their fields, counters and events,
interrupts, error information, memory, status codes, and free values.
-/
namespace Sys2Proof.Machine

/-! ### Registers -/

/-- The register at a BAR address. -/
def State.rd (s : State) (a : Nat) : Reg := tget resetWord s.regs a

/-- Write the register at a BAR address, whatever its access type. -/
def State.wr (s : State) (a : Nat) (v : Reg) : State := { s with regs := tput resetWord v a s.regs }

/-- Write a number into the register at a BAR address. -/
def State.wrn (s : State) (a n : Nat) : State := s.wr a (BitVec.ofNat 32 n)

/-- Field [hi:lo] of the register at a BAR address. -/
def State.fld (s : State) (a hi lo : Nat) : Nat := getField (s.rd a) hi lo

/-- Write field [hi:lo] of the register at a BAR address. -/
def State.setFld (s : State) (a hi lo x : Nat) : State := s.wr a (setField (s.rd a) hi lo x)

/-- The 64-bit value of a LO/HI pair (R13). -/
def State.rd64 (s : State) (a : Nat) : Nat := (s.rd a).toNat + (s.rd (a + 4)).toNat * 2 ^ 32

/-- Write a LO/HI pair. -/
def State.wr64 (s : State) (a n : Nat) : State := (s.wrn a n).wrn (a + 4) (n >>> 32)

/-- Write the four copies of a device-wide register: page type and offset (R475). -/
def State.wrAll (s : State) (t off : Nat) (v : Reg) : State := [0, 1, 2, 3].foldl (fun s o => s.wr (ra t o off) v) s

/-- Record a status code in bits [15:0] of a status register (R19). -/
def State.status (s : State) (a code : Nat) : State := s.setFld a 15 0 code

/-! ### Domains -/

/-- What a domain holds when the table does not list it: the custody domains 77 and 78 are always ON (R507). -/
def domDefault (d : Nat) : Nat := if d = 77 ∨ d = 78 then 2 else 0

/-- The state of a power domain (R508). -/
def State.domain (s : State) (d : Nat) : Nat := tget domDefault s.dom d

/-- Whether a power domain is ON. -/
def State.domOn (s : State) (d : Nat) : Bool := s.domain d = 2

/-- Put a power domain into a state. -/
def State.setDomain (s : State) (d v : Nat) : State := { s with dom := tput domDefault v d s.dom }

/-- Whether the block of a page is powered (R480). -/
def State.pageLive (s : State) (p : Nat) : Bool :=
  match pageDomain p with
  | none => true
  | some d => s.domOn d

/-! ### LOCK -/

/-- Whether the latch is UNLOCKED (Table 16.4). -/
def State.latchOpen (s : State) : Bool := s.cus.latch = 0x3C5A

/-! ### Memory -/

/-- Where the byte spaces lie in the one memory: HBM, host memory, the four cluster memories, the data and the
instruction SRAMs of the 128 cores, and the image of the flash array is elsewhere. -/
def spHbm : Nat := 0
/-- Host memory. -/
def spHost : Nat := 1 * 2 ^ 64
/-- Cluster memory of ounce `o`. -/
def spCluster (o : Nat) : Nat := (2 + o) * 2 ^ 64
/-- Data SRAM of core `c`. -/
def spData (c : Nat) : Nat := (8 + c) * 2 ^ 64
/-- Instruction SRAM of core `c`. -/
def spInstr (c : Nat) : Nat := (136 + c) * 2 ^ 64

/-- One byte of memory. -/
def State.byte (s : State) (a : Nat) : Byte := cget 0 s.mem a

/-- Write one byte of memory. -/
def State.setByte (s : State) (a : Nat) (b : Byte) : State := { s with mem := cput 0 b a s.mem }

/-- `n` bytes of memory from `a` on. -/
def State.bytes (s : State) (a : Nat) : Nat → List Byte
  | 0 => []
  | n + 1 => s.byte a :: s.bytes (a + 1) n

/-- A list of bytes written to memory from `a` on. -/
def memPut (m : Memory) (a : Nat) : List Byte → Memory
  | [] => m
  | b :: bs => memPut (cput 0 b a m) (a + 1) bs

/-- Write a list of bytes from `a` on. -/
def State.setBytes (s : State) (a : Nat) (bs : List Byte) : State := { s with mem := memPut s.mem a bs }

/-- Fill a range of memory with zeros. -/
def State.zeroBytes (s : State) (a n : Nat) : State := { s with mem := tdrop (fun k => a ≤ k ∧ k < a + n) s.mem }

/-- A little-endian number of `n` bytes in memory (R11). -/
def State.leAt (s : State) (a n : Nat) : Nat := ofLe (s.bytes a n)

/-- Write a little-endian number of `n` bytes. -/
def State.setLe (s : State) (a n v : Nat) : State := s.setBytes a (leBytes n v)

/-! ### MSI-X -/

/-- Whether the device may issue requests to the host: Bus Master Enable (R451) with domain 72 on. -/
def State.busMaster (s : State) : Bool := s.fld (ra tHI 0 0x100) 9 9 = 1 && s.domOn 72

/-- The Pending Bit Array word and bit of a vector. -/
def State.setPending (s : State) (v x : Nat) : State :=
  s.setFld (bar4 + 0x8000 + 4 * (v / 32)) (v % 32) (v % 32) x

/-- An MSI-X message falls due on vector `v` (R451–R453): a masked vector, or a device that may not issue requests,
sets the pending bit; otherwise the message is a write of its data to its address in host memory. -/
def State.sendVector (s : State) (v : Nat) : State :=
  if v < 2048 then
    if s.busMaster && s.fld (bar4 + 16 * v + 12) 0 0 = 0 then
      s.setLe (spHost + s.rd64 (bar4 + 16 * v)) 4 (s.rd (bar4 + 16 * v + 8)).toNat
    else s.setPending v 1
  else s

/-! ### Event counters -/

/-- Events whose condition is a state that lasts: with DURATION, time adds to them, not the occurrence (Table 14.8). -/
def evLasts (ev : Nat) : Bool := ev = 0x02 || (decide (0x20 ≤ ev) && decide (ev < 0x40))

/-- One event counter of page `p`, at its offset `e`, takes `amt` for an event (R485–R489). -/
def evcStep (p ev unit : Nat) (amt edge : Nat) (s : State) (e : Nat) : State :=
  let sel := s.rd (pra p e)
  let mode := getField sel 9 8
  let add := if mode = 1 then amt else if mode = 3 then edge else if mode = 2 ∧ !evLasts ev then 1 else 0
  if getField sel 7 0 = ev ∧ (getField sel 24 16 = 0x1FF ∨ getField sel 24 16 = unit) ∧ 0 < add ∧
      s.fld (pra p 0x008) 0 0 = 0 then
    let n := (s.rd (pra p (e + 4))).toNat + s.fld (pra p (e + 8)) 15 0 * 2 ^ 32 + add
    let s := if n > 2 ^ 48 - 1 then s.setFld (pra p e) 31 31 1 else s
    s.wr64 (pra p (e + 4)) (min n (2 ^ 48 - 1))
  else s

/-- Event `ev` of unit `unit` occurs `amt` times on page `p`; `edge` is 1 when its condition becomes true. -/
def State.event (s : State) (p ev unit amt edge : Nat) : State :=
  [0x40, 0x50, 0x60, 0x70].foldl (evcStep p ev unit amt edge) s

/-! ### Counters -/

/-- Key of counter `k` of unit `u` on page `p`. -/
def ctrKey (p k u : Nat) : Nat := p * 2 ^ 24 + k * 2 ^ 16 + u

/-- The value of a counter. -/
def State.ctr (s : State) (p k u : Nat) : Nat := (cget (0 : Word) s.ctrs (ctrKey p k u)).toNat

/-- A counter set to 0. -/
def State.clrCtr (s : State) (p k u : Nat) : State := { s with ctrs := cput 0 0 (ctrKey p k u) s.ctrs }

/-- A counter raised by `n`, saturating (R72), without the event it is for its page. -/
def State.addCtr (s : State) (p k u n : Nat) : State :=
  { s with ctrs := cput 0 (satAdd64 (cget 0 s.ctrs (ctrKey p k u)) n) (ctrKey p k u) s.ctrs }

/-- Counter `k` of unit `u` on page `p` increases by `n` (R72, R489). -/
def State.bump (s : State) (p k u n : Nat) : State :=
  if n = 0 then s else (s.addCtr p k u n).event p (0x40 + k) u n 1

/-! ### Interrupts and error information -/

/-- PG_IRQ_OUT of a page (R476). -/
def State.irqOut (s : State) (p : Nat) : Nat := ((s.rd (pra p 0x010)) &&& (s.rd (pra p 0x014))).toNat

/-- The MSI-X vector of a page (R452). -/
def pageVector (p : Nat) : Nat := 768 + 72 * (p / 0x100 - 1) + p % 0x100

/-- The page's vector is sent (R453). -/
def State.pageMsix (s : State) (p : Nat) : State := s.sendVector (pageVector p)

/-- PG_IRQ_OUT may have changed from 0, its value `old` before (R453, R483). -/
def State.irqFollow (s : State) (p old : Nat) : State :=
  if old = 0 ∧ s.irqOut p ≠ 0 then (s.event p 0x02 0 1 1).pageMsix p else s

/-- Bit `b` of PG_IRQ_RAW of page `p` is set by its source (R482). -/
def State.rawSet (s : State) (p b : Nat) : State :=
  let old := s.irqOut p
  let was := s.fld (pra p 0x010) b b
  (((s.setFld (pra p 0x010) b b 1).event p (0x20 + b) 0 1 (1 - was))).irqFollow p old

/-- A block source raises bit `b` of page `p`; a page whose block is off raises none (R480). -/
def State.irq (s : State) (p b : Nat) : State := if s.pageLive p then s.rawSet p b else s

/-- An error is offered to PG_ERR_INFO of page `p` (R478): the first is kept, a later one sets MORE. -/
def State.errInfo (s : State) (p src code : Nat) : State :=
  let s := s.event p 0x05 0 1 1
  let a := pra p 0x020
  if s.fld a 31 31 = 1 then s.setFld a 30 30 1
  else (s.wrn a (2 ^ 31 + (src % 2 ^ 14) * 2 ^ 16 + code % 2 ^ 16)).rawSet p 31

/-! ### Free values -/

/-- A fresh free value of 64 bits, and the state that has taken it (log entry 2). -/
def State.free (s : State) : Word × State := (Config.freeWord s.fresh, { s with fresh := s.fresh + 1 })

/-- `n` fresh free bytes, and the state that has taken them. -/
def State.freeBytes (s : State) (n : Nat) : List Byte × State :=
  ((List.range n).map (fun k => BitVec.ofNat 8 ((Config.freeWord (s.fresh + k)).toNat)), { s with fresh := s.fresh + n })

/-! ### Outcomes -/

/-- What a command answers. -/
abbrev Outcome := Host.Outcome State Fault Refusal

/-- The command goes on to a state. -/
def done (s : State) : Outcome := .next s

end Sys2Proof.Machine
end

