-- ==== Sys2Proof/Machine/Frames.lean ====
section
/-!
DEFINITION. Lanes, ports, cells, queues and finish tags: the operations of chapters 2 and 4 that several commands
share.
-/
namespace Sys2Proof.Machine

/-! ### Lanes and ports (R5, R8, R68) -/

/-- The LN page instance of a lane (0–1023 fabric, 1024 + b for block b of instance 64). -/
def laneInst (n : Nat) : Nat := if n < 1024 then n / 16 else 64
/-- The lane block of a lane within its page. -/
def laneBlk (n : Nat) : Nat := if n < 1024 then n % 16 else n - 1024
/-- The LN page of a lane. -/
def lanePage (n : Nat) : Nat := pageNo tLN (laneInst n)
/-- The register at offset `off` of a lane's block (R68). -/
def lnReg (n off : Nat) : Nat := ra tLN (laneInst n) (0x100 + 0xE0 * laneBlk n + off)
/-- The dram of a fabric lane (R5). -/
def laneDram (n : Nat) : Nat := n / 16
/-- The ounce of a fabric lane (R5). -/
def laneOunce (n : Nat) : Nat := n / 256

/-- What the state holds of a lane. -/
def State.lane (s : State) (n : Nat) : Lane := cget {} s.fab.lanes n
/-- Write what the state holds of a lane. -/
def State.setLane (s : State) (n : Nat) (l : Lane) : State := { s with fab := { s.fab with lanes := cput {} l n s.fab.lanes } }
/-- Change what the state holds of a lane. -/
def State.modLane (s : State) (n : Nat) (f : Lane → Lane) : State := s.setLane n (f (s.lane n))

/-- LN_STATE.STATE (R65): OFF 0, ACQUIRE 1, TRAIN 2, ALIGN 3, UP 4, FAULT 5, TEST 6. -/
def State.lnState (s : State) (n : Nat) : Nat := s.fld (lnReg n 0x04) 3 0
/-- Enter a lane state. -/
def State.setLnState (s : State) (n v : Nat) : State := s.setFld (lnReg n 0x04) 3 0 v
/-- A bit of LN_CFG (Table 2.6). -/
def State.lnCfg (s : State) (n b : Nat) : Bool := s.fld (lnReg n 0x00) b b = 1
/-- LN_STATUS records a code (R78). -/
def State.lnStatus (s : State) (n code : Nat) : State := s.status (lnReg n 0x20) code
/-- A lane counter of Table 2.10 increases. -/
def State.lnBump (s : State) (n k amt : Nat) : State := s.bump (lanePage n) k (laneBlk n) amt

/-- Whether the scruple of a fabric lane is one 100G port (R52). -/
def State.isQuad (s : State) (n : Nat) : Bool :=
  n < 1024 && s.fld (ra tLN (n / 16) 0xF00) (n % 16 / 4) (n % 16 / 4) = 1
/-- The first lane of the port a lane belongs to (R8). -/
def State.portOf (s : State) (n : Nat) : Nat := if s.isQuad n then n / 4 * 4 else n
/-- The lanes of the port whose first lane is `p`. -/
def State.portLanes (s : State) (p : Nat) : List Nat := if s.isQuad p then [p, p + 1, p + 2, p + 3] else [p]
/-- Whether a number names a port configured at that moment (R123): the first lane of its port, its dram in service. -/
def State.portConfigured (s : State) (p : Nat) : Bool :=
  p < 1024 && s.portOf p = p && s.domOn (p / 16) && s.fld (ra tDR (p / 16) 0x104) 2 0 = 0

/-- The SC page of a lane, and a protection counter of Table 3.16. -/
def scPage (n : Nat) : Nat := pageNo tSC (n / 16)
/-- A protection counter of Table 3.16 increases. -/
def State.scBump (s : State) (n k : Nat) : State := s.bump (scPage n) k (n % 16) 1
/-- The DQ page of a lane. -/
def dqPage (n : Nat) : Nat := pageNo tDQ (n / 16)
/-- A lane counter of Table 4.11 increases (counters 5–12 of the page). -/
def State.dqBump (s : State) (n k : Nat) : State := s.bump (dqPage n) (5 + k) (n % 16) 1

/-! ### Frames -/

/-- The frame with a number. -/
def State.frame (s : State) (f : Nat) : Option Frame := oget s.fab.frames f
/-- Write a frame. -/
def State.setFrame (s : State) (f : Nat) (x : Frame) : State := { s with fab := { s.fab with frames := oput x f s.fab.frames } }
/-- Change a frame, where it exists. -/
def State.modFrame (s : State) (f : Nat) (g : Frame → Frame) : State :=
  { s with fab := { s.fab with frames := omod f g s.fab.frames } }
/-- Take a frame out of the table. -/
def State.delFrame (s : State) (f : Nat) : State := { s with fab := { s.fab with frames := odel f s.fab.frames } }
/-- A new frame, under the next frame number. -/
def State.newFrame (s : State) (x : Frame) : State :=
  { s with fab := { s.fab with frames := oput x s.fab.nextFrame s.fab.frames, nextFrame := s.fab.nextFrame + 1 } }

/-- Cells a frame of `n` bytes occupies (R127). -/
def cellsOf (n : Nat) : Nat := (n + 255) / 256
/-- Bytes of a frame as stored: addresses and body. -/
def Frame.storedLen (f : Frame) : Nat := 12 + f.body.length
/-- The cells a frame counts for in its queue (before R130). -/
def Frame.queueCells (f : Frame) : Nat := if f.endNoted then cellsOf f.storedLen else 1

/-! ### Cell buffer (R127–R129) -/

/-- Shared cells in use in a dram. -/
def State.sharedUsed (s : State) (d : Nat) : Nat := cget 0 s.fab.shared d
/-- Set the shared cells in use in a dram. -/
def State.setShared (s : State) (d v : Nat) : State := { s with fab := { s.fab with shared := cput 0 v d s.fab.shared } }
/-- Free shared cells of a dram. -/
def State.sharedFree (s : State) (d : Nat) : Nat := 10240 - s.sharedUsed d
/-- The headroom cells of a port: 64 for each of its lanes. -/
def State.headCap (s : State) (p : Nat) : Nat := if s.isQuad p then 256 else 64

/-- Take `k` cells for a frame of ingress port `p`: shared cells while any are free, then headroom (R128). POOL_LOW
is raised when the free shared cells fall below 1,024. -/
def State.takeCells (s : State) (p k : Nat) : State :=
  let d := laneDram p
  let a := min k (s.sharedFree d)
  let low := s.sharedFree d ≥ 1024 && s.sharedFree d - a < 1024
  let s := (s.setShared d (s.sharedUsed d + a)).modLane p (fun l => { l with headUsed := l.headUsed + (k - a) })
  if low then s.irq (pageNo tDQ d) 2 else s

/-- Refill short headrooms of the lanes of a list with `k` freed cells; what is left goes to the shared cells. -/
def refillHead (d : Nat) : List Nat → Nat → State → State
  | [], k, s => s.setShared d (s.sharedUsed d - k)
  | n :: ns, k, s =>
    let h := (s.lane n).headUsed
    refillHead d ns (k - min k h) (if min k h = 0 then s else s.modLane n (fun l => { l with headUsed := h - min k h }))

/-- Free `k` cells of a dram (R129). -/
def State.freeCells (s : State) (d k : Nat) : State :=
  if k = 0 then s else refillHead d ((List.range 16).map (fun i => 16 * d + i)) k s

/-! ### Queues (R126, R130, R457): 0–32,767 fabric, 32,768 + c host class queue c -/

/-- The frames of a queue, head first. -/
def State.queue (s : State) (q : Nat) : List Nat := cget [] s.fab.queues q
/-- Set the frames of a queue. -/
def State.setQueue (s : State) (q : Nat) (l : List Nat) : State :=
  { s with fab := { s.fab with queues := cput [] l q s.fab.queues } }
/-- The lane of a queue; 1024 for the host. -/
def queueLane (q : Nat) : Nat := q / 32
/-- The register with LIMIT and WEIGHT of a queue (Table 4.12). -/
def queueCfg (q : Nat) : Nat :=
  if q < 32768 then ra tDQ (q / 512) (0x800 + 4 * (q % 512)) else ra tHI 0 (0x200 + 8 * (q - 32768))
/-- The queue that a port and class name (R126). -/
def queueOf (port cls : Nat) : Nat := port * 32 + cls
/-- Page and unit of a queue's counters. -/
def queuePage (q : Nat) : Nat := if q < 32768 then pageNo tDQ (q / 512) else pageNo tHI 0
/-- Unit number of a queue within its page. -/
def queueUnit (q : Nat) : Nat := if q < 32768 then q % 512 else q - 32768
/-- A queue counter increases: of a fabric queue 0 TX_FRAMES, 1 TX_BYTES, 2 TRUST_FAIL_DROP, 3 HOLD_DROP, 4 FLUSH_DROP. -/
def State.qBump (s : State) (q k n : Nat) : State :=
  if q < 32768 then s.bump (queuePage q) k (queueUnit q) n
  else
    -- host class queues count TX_FRAMES 0, TRUST_FAIL_DROP 1, HOLD_DROP 2 (Table 13.14)
    match k with
    | 0 => s.bump (pageNo tHI 0) 0 (queueUnit q) n
    | 2 => s.bump (pageNo tHI 0) 1 (queueUnit q) n
    | 3 => s.bump (pageNo tHI 0) 2 (queueUnit q) n
    | _ => s

/-- Cells counted for a queue by its owner (R130). -/
def State.queueCells (s : State) (q : Nat) : Nat :=
  sumNat ((s.queue q).map fun f => match s.frame f with | some x => x.queueCells | none => 0)

/-- Own congestion bit of a queue. -/
def State.congOwn (s : State) (q : Nat) : Bool := cget false s.fab.cong q

/-- The owner of a queue sets or clears its congestion bit after its cell count changed (R130). -/
def State.updateCong (s : State) (q : Nat) : State :=
  let c := s.queueCells q
  let lim := s.fld (queueCfg q) 31 16
  let b :=
    if c ≥ lim then true
    else if lim ≤ 64 then (if c = 0 then false else s.congOwn q)
    else if c < lim - 64 then false else s.congOwn q
  { s with fab := { s.fab with cong := cput false b q s.fab.cong } }

/-- Key of a bit in the copy of the congestion map of ounce `o`: queues, then the 64 dram bits from 32,800 on. -/
def congKey (o q : Nat) : Nat := o * 65536 + q
/-- Number of the congestion bit of dram `d`. -/
def dramBit (d : Nat) : Nat := 32800 + d
/-- Whether ounce `o` sees congestion bit `q` set. -/
def State.congSeen (s : State) (o q : Nat) : Bool := cget false s.fab.congCopy (congKey o q)

/-- Descriptors in use by an egress dram for its 512 queues (R130). -/
def State.descUsed (s : State) (d : Nat) : Nat :=
  sumNat (s.fab.queues.map fun e => if 512 * d ≤ e.1 ∧ e.1 < 512 * (d + 1) then e.2.length else 0)

/-- The value the owner holds of congestion bit `q`: a queue's own bit, or a dram with all 32,768 descriptors in use. -/
def State.congTruth (s : State) (q : Nat) : Bool :=
  if q < 32800 then s.congOwn q else 32768 ≤ s.descUsed (q - 32800)

/-! ### Finish tags (R139–R142) -/

/-- Tags are 48 bits. -/
def tagMod : Nat := 2 ^ 48
/-- Tag `a` is less than tag `b` (R142). -/
def tagLess (a b : Nat) : Bool :=
  let d := (b % tagMod + tagMod - a % tagMod) % tagMod
  1 ≤ d && d ≤ 2 ^ 47 - 1
/-- The greater of two tags in the order of R142. -/
def tagMax (a b : Nat) : Nat := if tagLess a b then b else a
/-- Byte time t_B of a lane as a fraction of a nanosecond: 8 / C_L; lane 1024 is the host at 400 Gbit/s (R457). -/
def State.byteTime (s : State) (n : Nat) : Nat × Nat :=
  if 1024 ≤ n then (1, 50)
  else if s.lnCfg n 7 then (if s.isQuad n then (128, 1575) else (512, 1575))
  else (if s.isQuad n then (8, 100) else (8, 25))
/-- The virtual clock V_L (R139). -/
def State.virtualClock (s : State) (n : Nat) : Nat := tagMax (s.clk.tim * 256 % tagMod) (s.lane n).vclk
/-- ceil(len × t_B × 256 × W / w) (R140), exact. -/
def serviceTime (tb : Nat × Nat) (len wSum w : Nat) : Nat :=
  let den := tb.2 * w
  if den = 0 then 0 else (len * tb.1 * 256 * wSum + den - 1) / den
/-- Weight of a queue. -/
def State.weight (s : State) (q : Nat) : Nat := s.fld (queueCfg q) 9 0
/-- The sum of the weights of the backlogged queues of a lane (R140). -/
def State.weightSum (s : State) (n : Nat) : Nat :=
  sumNat (s.fab.queues.map fun e => if e.1 / 32 = n ∧ e.2 ≠ [] then s.weight e.1 else 0)
/-- F_q (R140). -/
def State.lastTag (s : State) (q : Nat) : Nat := cget 0 s.fab.fq q
/-- Set F_q. -/
def State.setLastTag (s : State) (q v : Nat) : State := { s with fab := { s.fab with fq := cput 0 v q s.fab.fq } }

/-- Staging cells and frame places of a port (R127, R137). -/
def State.stgCap (s : State) (p : Nat) : Nat := if s.isQuad p then 256 else 64
/-- Frames a port may have staged. -/
def State.stgPlaces (s : State) (p : Nat) : Nat := if s.isQuad p then 8 else 4
/-- The frame is staged at, or pulled for, lane `p`. -/
def Frame.stagedAt (f : Frame) (p : Nat) : Bool :=
  match f.place with
  | .pulled l _ => l = p
  | .staged l => l = p
  | .sending l => l = p
  | _ => false
/-- Numbers of the frames staged at or pulled for a lane. -/
def State.stagedFrames (s : State) (p : Nat) : List Nat :=
  (s.fab.frames.filter fun e => e.2.stagedAt p).map (·.1)

/-- A frame leaves its cells and its staging place. -/
def State.releaseRoom (s : State) (f : Nat) (x : Frame) : State :=
  let s := if x.src < 1024 then s.freeCells (laneDram x.src) x.cells else s
  let s := match x.place with
    | .pulled l _ => s.modLane l (fun y => { y with stgUsed := y.stgUsed - x.stg })
    | .staged l => s.modLane l (fun y => { y with stgUsed := y.stgUsed - x.stg })
    | .sending l => s.modLane l (fun y => { y with stgUsed := y.stgUsed - x.stg })
    | _ => s
  s.modFrame f (fun y => { y with cells := 0, stg := 0 })

/-! ### Grains of a scruple direction (R96) -/

/-- Number of a scruple direction: scruple × 2, plus 1 for egress. -/
def grainDirKey (lane : Nat) (egress : Bool) : Nat := lane / 4 * 2 + b2n egress
/-- A scruple direction. -/
def State.grainDir (s : State) (k : Nat) : GrainDir := cget {} s.fab.grains k
/-- Write a scruple direction. -/
def State.setGrainDir (s : State) (k : Nat) (g : GrainDir) : State := { s with fab := { s.fab with grains := cput {} g k s.fab.grains } }
/-- Grains are given back by a frame. -/
def State.freeGrains (s : State) (k n : Nat) : State := let g := s.grainDir k; s.setGrainDir k { g with busy := g.busy - n }

/-- A frame gives back everything it holds: cells, staging, grains of both gangs. -/
def State.releaseAll (s : State) (n : Nat) (f : Frame) : State :=
  let s := s.releaseRoom n f
  let s := if f.gang = 0 ∨ f.icv ≠ 0 ∨ 1024 ≤ f.src then s else s.freeGrains (grainDirKey f.src false) f.gang
  let s :=
    match f.place with
    | .staged l => if f.egGang = 0 then s else s.freeGrains (grainDirKey l true) f.egGang
    | .sending l => if f.egGang = 0 then s else s.freeGrains (grainDirKey l true) f.egGang
    | _ => s
  s.modFrame n fun x => { x with gang := if x.icv = 0 then 0 else x.gang, egGang := 0 }

/-- A frame goes away: everything it holds is freed; while its commit is still due it stays as discarded (R92). -/
def State.endFrame (s : State) (n : Nat) : State :=
  match s.frame n with
  | none => s
  | some f =>
    if f.trust = .pending ∧ f.src < 1024 then
      let keep := f.prot && f.icv = 0 && f.gang != 0
      let s := if keep then (s.releaseRoom n f).modFrame n fun x => { x with egGang := 0 } else s.releaseAll n f
      s.modFrame n fun x => { x with place := .discarded, tag := none }
    else (s.releaseAll n f).delFrame n

/-- Remove a frame from its queue, wherever it stands there. -/
def State.leaveQueue (s : State) (q f : Nat) : State := (s.setQueue q ((s.queue q).filter (· != f))).updateCong q

end Sys2Proof.Machine
end

