-- ==== Sys2Proof/Machine/Lock.lean ====
section
/-!
DEFINITION. LOCK and the fences: whether LOCK is in force and what it holds back (R520, R526, R527, R540), and the
check of every access byte against its fence (R549–R553).
-/
namespace Sys2Proof.Machine

/-! ### LOCK -/

/-- Whether LOCK is in force: the latch is LOCKED, RELEASED or no valid encoding (R522, R526), or the device waits for
the cold start after a life-cycle transition (R540). -/
def State.lockInForce (s : State) : Bool := s.cus.latch != 0x3C5A || s.cus.coldDue || s.cus.sticky || s.cus.invalid.contains 1

/-- GLB_START_STAT.OPEN: step 12 of the start has ended (R502). -/
def State.portsOpen (s : State) : Bool := s.fld (ra tGLB 0 0x204) 9 9 = 1

/-- What a table of monitors lists nothing for. -/
def State.monitor (s : State) (m : Nat) : Monitor := cget {} s.cus.monitors m
/-- Write a monitor. -/
def State.setMonitor (s : State) (m : Nat) (x : Monitor) : State :=
  { s with cus := { s.cus with monitors := cput {} x m s.cus.monitors } }

/-- A departure is being classified: custody holds key use (R520). -/
def State.provisional (s : State) : Bool := (List.range 6).any fun m => (s.monitor m).dep != 0

/-- Whether key use is held: LOCK in force, or the provisional hold (R520, R527). -/
def State.keyHold (s : State) : Bool := s.lockInForce || s.provisional

/-- A debug grant ends (R548): the latch leaves UNLOCKED, a reset of any kind, a life-cycle transition or DBG_CLOSE. -/
def State.endGrant (s : State) : State :=
  if s.cus.grant.isSome then ({ s with cus := { s.cus with grant := none } } : State).irq (pageNo tCD 2) 2 else s

/-- The silicon life-cycle state as its LC_STAT code (Table 16.6); 7 for a word that is not listed, or a decoder that holds no
valid encoding (R522, R537). -/
def State.silicon (s : State) : Nat :=
  if s.cus.invalid.contains 2 then 7
  else if s.cus.otp = 0x3F then 0 else if s.cus.otp = 0xFFF then 1 else if s.cus.otp = 0x3FFFF then 2
  else if s.cus.otp = 0xFFFFFF then 3 else if s.cus.otp = 0x3FFFFFFF then 4 else 7

/-! ### Writes to the registers of a block (R16, R17, R480, Table 14.8) -/

/-- A write to a block register took effect. -/
def State.took (s : State) (p : Nat) : State := s.event p 0x03 0 1 1
/-- A write was discarded. -/
def State.discard (s : State) (p : Nat) : State := s.event p 0x04 0 1 1
/-- A write to a block register of page `p`: discarded while the block's domain is not ON (R480). -/
def State.pageWrite (s : State) (p : Nat) (f : State → State) : State := if s.pageLive p then f s else s.discard p
/-- A write to an RWL field is dropped while LOCK is in force (R17, R528). -/
def State.lockDrop (s : State) (p : Nat) : State :=
  (((s.setFld (ra tCD 1 0x104) 0 0 1).bump (pageNo tCD 1) 1 0 1).irq (pageNo tCD 1) 4).discard p
/-- A write to a register that is RWL as a whole. -/
def State.rwlWrite (s : State) (p : Nat) (f : State → State) : State :=
  s.pageWrite p fun s => if s.lockInForce then s.lockDrop p else f s

/-! ### Fences -/

/-- Initiator classes (R549). -/
def clsHost : Nat := 0
/-- The class of a ring. -/
def clsRing (r : Nat) : Nat := 1 + r
/-- Custody. -/
def clsCust : Nat := 5
/-- DMA. -/
def clsDma : Nat := 6
/-- The PK engines. -/
def clsPk : Nat := 7

/-- Access kinds as their bit in a permission triple (R550). -/
def accR : Nat := 2
/-- Write. -/
def accW : Nat := 1
/-- Fetch. -/
def accX : Nat := 0

/-- The default of a fence after a cold start (Table 16.13). -/
def fenceDefault (f : Nat) : Nat :=
  if f ≤ 259 then 7 * 2 ^ 3 + 7 * 2 ^ 6 + 6 * 2 ^ 15
  else if f ≤ 261 then 6 * 2 ^ 15 + 6 * 2 ^ 18 + 6 * 2 ^ 21
  else 6 + 6 * 2 ^ 15

/-- A region of a fence. -/
def State.region (s : State) (f r : Nat) : Region := cget {} s.cus.regions (f * 16 + r)

/-- The permission word of byte `a` behind fence `f` before the fixed masks: the lowest-numbered enabled region that
contains it, or the default (R550). -/
def State.fencePerm (s : State) (f a : Nat) : Nat :=
  match (List.range 16).find? fun r => let g := s.region f r; g.en && decide (g.start ≤ a) && decide (a ≤ g.last + 15) with
  | some r => (s.region f r).perm
  | none => tget fenceDefault s.cus.defaults f

/-- The offset of the mailbox windows in a cluster memory (R461). -/
def mbOffset : Nat := 0x970000

/-- The fixed masks of Table 16.10: whether class `c` may make access `k` to byte `a` at all. -/
def State.fixedMask (s : State) (f c k a : Nat) : Bool :=
  let low := c = 3 ∨ c = 4 ∨ c = clsDma ∨ c = clsPk
  if f < 128 then
    let o := (a - 0x2E000) % 0x2400
    !decide (low ∧ k = accW ∧ 0x2E000 ≤ a ∧ (o < 0x300 ∨ 0x400 ≤ o))
  else if f < 256 then true
  else if f < 260 then
    if 0x980000 ≤ a then !decide low
    else if k = accW ∧ mbOffset + 0x3000 ≤ a ∧ a < mbOffset + 0x3400 then c = 1
    else if k = accW ∧ mbOffset + 0x3400 ≤ a ∧ a < mbOffset + 0x3800 then decide (c = 1 ∨ c = 2)
    else true
  else if f = 260 then
    let kb := s.rd64 (ra tKV 0 0x108)
    let cb := s.rd64 (ra tKV 0 0x118)
    let rb := s.rd64 (ra tCR 0 0x148)
    let lb := s.rd64 (ra tCR 0 0x150)
    !(decide (kb ≤ a ∧ a < kb + 128 * s.fld (ra tKV 0 0x110) 25 0) || decide (cb ≤ a ∧ a < cb + 2 ^ 27) ||
      decide (rb ≤ a ∧ a < rb + 32 * s.fld (ra tCR 0 0x144) 20 0) || decide (lb ≤ a ∧ a < lb + 2 ^ 23))
  else if f = 261 + tCD then
    !(decide (c = clsHost ∧ k = accW ∧ s.silicon ≠ 0 ∧ s.silicon ≠ 1) &&
      (decide (a / 0x1000 = 3) || decide (a / 4 = 0x1340 / 4)))
  else true

/-- Whether class `c` may make access `k` to byte `a` behind fence `f`. A fence engine with an invalid value fails
every access (Table 16.2, machine 7). -/
def State.fenceByte (s : State) (f c k a : Nat) : Bool :=
  !s.cus.invalid.contains 7 && (s.fencePerm f a).testBit (3 * c + k) && s.fixedMask f c k a

/-- The first byte of `n` bytes from `a` on that fails the fence, if any (R551). -/
def State.fenceFail (s : State) (f c k a n : Nat) : Option Nat :=
  ((List.range n).map (a + ·)).find? fun x => !s.fenceByte f c k x

/-- A violation is reported and logged (R553). -/
def State.violation (s : State) (f c k a : Nat) : State :=
  let p := pageNo tCD 3
  let s :=
    if s.cus.log.length < 16 then
      { s with cus := { s.cus with log := s.cus.log ++ [⟨a, f, c, k = accW, k = accX⟩] } }
    else s.wrn (ra tCD 3 0x304) (min ((s.rd (ra tCD 3 0x304)).toNat + 1) 0xFFFFFFFF)
  (s.rawSet p 0).errInfo p f 0x813

/-- The bytes read behind a fence: a failing byte returns 0 (R551). -/
def State.fencedBytes (s : State) (sp f c a n : Nat) : List Byte :=
  (List.range n).map fun i => if s.fenceByte f c accR (a + i) then s.byte (sp + a + i) else 0

/-- The bytes written behind a fence: a failing byte is not written (R551). -/
def fencedPut (sp f c : Nat) : List Byte → Nat → State → State
  | [], _, s => s
  | b :: bs, a, s => fencedPut sp f c bs (a + 1) (if s.fenceByte f c accW a then s.setByte (sp + a) b else s)

end Sys2Proof.Machine
end

