-- ==== Sys2Proof/Machine/JournalOps.lean ====
section
/-!
DEFINITION. Strands, chaining, commits, deltas and markers: the operations of chapter 11 that verdicts, the vault and
the twin logic share.
-/
namespace Sys2Proof.Machine

/-! ### The twin as seen from elsewhere -/

/-- A register of the TW page. -/
def twReg (off : Nat) : Nat := ra tTW 0 off
/-- The TW page. -/
def twPage : Nat := pageNo tTW 0
/-- TW_STAT.STATE (R399). -/
def State.twState (s : State) : Nat := s.fld (twReg 0x104) 3 0
/-- The device is the active of its stone: ACTIVE_ALONE, ACTIVE_PAIRED, DRAINING or HANDOVER. -/
def State.twActive (s : State) : Bool := decide (1 ≤ s.twState ∧ s.twState ≤ 4)
/-- The device dispatches verdicts: ACTIVE_ALONE or ACTIVE_PAIRED (R397). -/
def State.rendersVerdicts (s : State) : Bool := decide (s.twState = 1 ∨ s.twState = 2) && s.st.prep.isNone
/-- The device handles verdict messages as a standby does: DETACHED, a standby state or PROMOTING (R399). -/
def State.asStandby (s : State) : Bool := decide (s.twState = 0 ∨ 8 ≤ s.twState)
/-- A standby that is IDLE, LOADING, SYNCED or REFRESH (R383). -/
def State.isStandby (s : State) : Bool := decide (8 ≤ s.twState ∧ s.twState ≤ 11)
/-- The standby of this active is LOADING, SYNCED or REFRESH (Table 11.4). -/
def State.hasStandby (s : State) : Bool := s.twActive && s.jn.link.up && decide (9 ≤ s.jn.partState ∧ s.jn.partState ≤ 11)
/-- ROLE_GEN. -/
def State.roleGen (s : State) : Nat := (s.rd (twReg 0x110)).toNat
/-- TW_STATUS records a code. -/
def State.twStatus (s : State) (code : Nat) : State := s.status (twReg 0x10C) code
/-- A counter of the TW page. -/
def State.twBump (s : State) (k : Nat) : State := s.bump twPage k 0 1
/-- The ring position of this device. -/
def State.position (s : State) : Nat := s.fld (ra tCR 0 0x100) 9 0

/-! ### Strands -/

/-- A strand. -/
def State.strand (s : State) (k : Nat) : Strand := cget {} s.jn.strands k
/-- Write a strand. -/
def State.setStrand (s : State) (k : Nat) (x : Strand) : State :=
  { s with jn := { s.jn with strands := cput {} x k s.jn.strands } }
/-- The JN page of a strand's ounce, and one of its registers. -/
def jnPage (o : Nat) : Nat := pageNo tJN o
/-- A register of the JN page of an ounce. -/
def jnReg (o off : Nat) : Nat := ra tJN o off
/-- A counter of the JN page of an ounce. -/
def State.jnBump (s : State) (o k : Nat) : State := s.bump (jnPage o) k 0 1
/-- Whether the journal is enabled at an ounce (JN_CFG.EN). -/
def State.jnEnabled (s : State) (o : Nat) : Bool := s.fld (jnReg o 0x100) 0 0 = 1
/-- Entries of the HBM ring of a strand of ounce `o` (R369). -/
def State.ringSize (s : State) (o : Nat) : Nat := 2 ^ s.fld (jnReg o 0x120) 4 0
/-- HBM address of the entry with SEQ `q` of strand `k` (R369, Table 11.12); the place of an entry within its ring is
the model's choice (log entry 12). -/
def State.entryAddr (s : State) (k q : Nat) : Nat :=
  s.rd64 (jnReg (k / 4) 0x118) + 256 * s.ringSize (k / 4) * k + 256 * ((q - 1) % s.ringSize (k / 4))
/-- COMMIT_SEQ (Table 11.12): the highest SEQ at and below which every entry is committed. -/
def Strand.commitSeq (x : Strand) : Nat := x.uncommitted.foldl (fun m e => min m (e.1 - 1)) x.seq
/-- Entries of the ring in use. -/
def Strand.inUse (x : Strand) : Nat := x.seq - x.left
/-- Entries leave the ring in SEQ order once exported and committed (R369). -/
def State.ringLeave (s : State) (k : Nat) : State :=
  let x := s.strand k
  let b1 := if s.fld (jnReg (k / 4) 0x100) 1 1 = 1 then x.exported else x.seq
  let b2 := if s.isStandby then x.seq else x.commitSeq
  s.setStrand k { x with left := max x.left (min b1 b2) }

/-- The genesis value of strand `k` (R366). -/
def genesisChain (jnId k : Nat) : List Byte :=
  sha384 (beBytes 8 jnId ++ beBytes 1 k ++ List.replicate 39 0)

/-- The chain value of the head of strand `k`; with no entry it is the genesis value under the JN_ID in force (R366). -/
def State.headChain (s : State) (k : Nat) : List Byte :=
  if (s.strand k).seq = 0 then genesisChain (s.rd64 (jnReg 0 0x110)) k else (s.strand k).chain

/-- The body of an entry, bytes 0x00 to 0xCF (Table 11.1). -/
def entryBody (a : App) (k seq time gen flags : Nat) : List Byte :=
  beBytes 1 1 ++ beBytes 1 a.kind ++ beBytes 1 k ++ beBytes 1 flags ++ beBytes 8 seq ++ beBytes 8 time ++ beBytes 8 a.vref ++
    beBytes 8 a.reqId ++ beBytes 4 a.ctx ++ beBytes 2 a.port ++ beBytes 1 a.core ++ beBytes 1 a.index ++ beBytes 4 gen ++
    padTo 160 a.record

/-- Commit rule in force when a chain value is computed (Table 11.4): 0 at the ACK, 1 at once under ASYNC, 2 at once
under SOLO, 3 at a checkpoint (HOLD). -/
def State.commitMode (s : State) : Nat :=
  if s.hasStandby then
    if s.fld (twReg 0x100) 1 0 = 1 then
      let lag := s.rd (twReg 0x118)
      let age := match s.jn.sentT with | t :: _ => (s.clk.ns - t) / 1000 | [] => 0
      if s.jn.unacked.length < getField lag 15 0 ∧ age < getField lag 31 16 then 1 else 0
    else 0
  else if s.fld (twReg 0x100) 4 4 = 1 then 2 else 3

/-- An entry of a verdict is committed: the verdict's count rises (R177). -/
def State.commitVerdict (s : State) (v : Option Nat) : State :=
  match v with
  | none => s
  | some v => { s with vp := { s.vp with verdicts := omod v (fun x => { x with committed := x.committed + 1 }) s.vp.verdicts } }

/-- The strand computes the chain value of an append (R366), writes it to its ring, and places it in the mirror queue
(R377) or commits it (R374). -/
def State.chainEntry (s : State) (k : Nat) (a : App) : State :=
  let x := s.strand k
  let o := k / 4
  let mode := s.commitMode
  let seq := x.seq + 1
  let flags := a.flags + (if mode = 2 then 4 else 0) + (if mode = 1 then 8 else 0)
  let body := entryBody a k seq s.clk.tim s.roleGen flags
  let chain := sha384 (s.headChain k ++ body)
  let entry := body ++ chain
  let was := x.inUse
  let open_ := mode = 0 ∨ mode = 3
  let x := { x with
    seq := seq, chain := chain, admitted := x.admitted + 1, verified := seq,
    uncommitted := if open_ then x.uncommitted ++ [(seq, a.vid)] else x.uncommitted,
    heads := ((seq, chain) :: x.heads).take 64 }
  let s := s.setBytes (s.entryAddr k seq) entry
  let s := (s.setStrand k x).jnBump o 0
  let s := if 4 * was ≤ 3 * s.ringSize o ∧ 3 * s.ringSize o < 4 * x.inUse then s.irq (jnPage o) 1 else s
  let s := if mode = 2 then s.jnBump o 5 else s
  let s := if s.hasStandby then { s with jn := { s.jn with mirror := s.jn.mirror ++ [.entry k seq a.vid entry] } } else s
  let s :=
    match a.vid with
    | none => s
    | some v => { s with vp := { s.vp with verdicts := omod v (fun y => { y with lastSeq := seq }) s.vp.verdicts } }
  if open_ then s else (s.commitVerdict a.vid).ringLeave k

/-- An entry's commit condition has come true: it leaves the list of entries not yet committed. -/
def State.commitEntry (s : State) (k seq : Nat) : State :=
  let x := s.strand k
  match x.uncommitted.find? (·.1 = seq) with
  | none => s
  | some e =>
    ((s.setStrand k { x with uncommitted := x.uncommitted.filter (·.1 != seq) }).commitVerdict e.2).ringLeave k

/-- A marker record (Table 11.2). -/
def markerRecord (event prevGen last partner epoch : Nat) : List Byte :=
  beBytes 1 event ++ beBytes 3 0 ++ beBytes 4 prevGen ++ beBytes 8 last ++ beBytes 8 partner ++ beBytes 8 epoch

/-- The PARTNER field of a marker: the ring position of the partner, or all ones with no partner (Table 11.2). -/
def State.markerPartner (s : State) : Nat :=
  if s.jn.link.up then (if s.position % 2 = 0 then s.position + 1 else s.position - 1) else 2 ^ 64 - 1

/-- Marker `event` written to strands `k` on (R368). -/
def State.markers (s : State) (event prevGen : Nat) : State :=
  (List.range 16).foldl (fun s k =>
    let last := if event = 3 then (s.strand k).seq else 0
    let r := markerRecord event prevGen last s.markerPartner (s.rd (twReg 0x114)).toNat
    s.chainEntry k { kind := 4, record := r }) s

/-! ### Deltas (R385) -/

/-- A delta record (Table 11.6). -/
def deltaRecord (dseq kind index : Nat) (data : List Byte) : List Byte :=
  beBytes 8 dseq ++ beBytes 1 kind ++ beBytes 3 0 ++ beBytes 4 index ++ data

/-- Delta records that the delta ring still holds within 2^TW_DELTA_LOG2 bytes, the newest kept (R389). -/
def keepDeltas (room : Nat) : List (Nat × List Byte) → List (Nat × List Byte)
  | [] => []
  | d :: ds => if d.2.length ≤ room then d :: keepDeltas (room - d.2.length) ds else []

/-- The active produces a delta record: it takes the next DSEQ, enters the delta ring and, with a standby, the mirror
queue (R377, R385, R389). -/
def State.pushDelta (s : State) (kind index : Nat) (data : List Byte) : State :=
  if s.twActive then
    let n := s.jn.dseq + 1
    let r := deltaRecord n kind index data
    let room := 2 ^ s.fld (twReg 0x140) 4 0
    let ring := (keepDeltas room ((n, r) :: s.jn.deltas.reverse)).reverse
    let s := { s with jn := { s.jn with dseq := n, deltas := ring } }
    let s := s.wr64 (twReg 0x120) n
    if s.hasStandby then { s with jn := { s.jn with mirror := s.jn.mirror ++ [.delta n r] } } else s
  else s

/-- Whether zone `z` is mirrored (TW_ZONE_MIRROR). -/
def State.mirrored (s : State) (z : Nat) : Bool := (s.rd64 (twReg 0x128)).testBit z

end Sys2Proof.Machine
end

