-- ==== Sys2Proof/Machine/Aes.lean ====
section
/-!
DEFINITION. The AES block cipher (128- and 256-bit keys), written from the standard the spec names (AES, FIPS 197;
R78, R96, R187, R593). PRESUMED (log entry 4): the spec names the cipher and does not spell it out.
-/
namespace Sys2Proof.Machine

/-- The S-box, byte i at bits [8i + 7 : 8i]. -/
def aesSboxTable : Nat := 0x16bb54b00f2d99416842e6bf0d89a18cdf2855cee9871e9b948ed9691198f8e19e1dc186b95735610ef6034866b53e708a8bbd4b1f74dde8c6b4a61c2e2578ba08ae7a65eaf4566ca94ed58d6d37c8e779e4959162acd3c25c2406490a3a32e0db0b5ede14b8ee4688902a22dc4f816073195d643d7ea7c41744975fec130ccdd2f3ff1021dab6bcf5389d928f40a351a89f3c507f02f94585334d43fbaaefd0cf584c4a39becb6a5bb1fc20ed00d153842fe329b3d63b52a05a6e1b1a2c830975b227ebe28012079a059618c323c7041531d871f1e5a534ccf73f362693fdb7c072a49cafa2d4adf04759fa7dc982ca76abd7fe2b670130c56f6bf27b777c63

/-- The inverse S-box, byte i at bits [8i + 7 : 8i]. -/
def aesInvSboxTable : Nat := 0x7d0c2155631469e126d677ba7e042b17619953833cbbebc8b0f52aae4d3be0a0ef9cc9939f7ae52d0d4ab519a97f51605fec8027591012b131c7078833a8dd1ff45acd78fec0db9a2079d2c64b3e56fc1bbe18aa0e62b76f89c5291d711af1476edf751ce837f9e28535ade72274ac9673e6b4f0cecff297eadc674f4111913a6b8a130103bdafc1020f3fca8f1e2cd00645b3b80558e4f70ad3bc8c00abd890849d8da75746155edab9edfd5048706c92b6655dcc5ca4d41698688664f6f87225d18b6d49a25b76b224d92866a12e084ec3fa420b954cee3d23c2a632947b54cbe9dec444438e3487ff2f9b8239e37cfbd7f3819ea340bf38a53630d56a0952

/-- The S-box. -/
def aesSub (b : Byte) : Byte := BitVec.ofNat 8 (aesSboxTable >>> (8 * b.toNat))

/-- The inverse S-box. -/
def aesInvSub (b : Byte) : Byte := BitVec.ofNat 8 (aesInvSboxTable >>> (8 * b.toNat))

/-- Multiplication by x in GF(2^8). -/
def aesXtime (b : Byte) : Byte := (b <<< 1) ^^^ (if b.msb then 0x1b else 0)

/-- Multiplication in GF(2^8) by a constant of at most four bits. -/
def aesMul (c : Nat) (b : Byte) : Byte :=
  let b2 := aesXtime b
  let b4 := aesXtime b2
  let b8 := aesXtime b4
  (if c.testBit 0 then b else 0) ^^^ (if c.testBit 1 then b2 else 0) ^^^
    (if c.testBit 2 then b4 else 0) ^^^ (if c.testBit 3 then b8 else 0)

/-- Byte `i` of a block (column-major state). -/
def aesAt (s : List Byte) (i : Nat) : Byte := nth 0 s i

/-- ShiftRows: row r of the state moves left by r. -/
def aesShiftRows (s : List Byte) : List Byte :=
  [0, 5, 10, 15, 4, 9, 14, 3, 8, 13, 2, 7, 12, 1, 6, 11].map (aesAt s)

/-- The inverse of ShiftRows. -/
def aesInvShiftRows (s : List Byte) : List Byte :=
  [0, 13, 10, 7, 4, 1, 14, 11, 8, 5, 2, 15, 12, 9, 6, 3].map (aesAt s)

/-- One column times the circulant matrix of `c0 c1 c2 c3`. -/
def aesMixColumn (c0 c1 c2 c3 : Nat) (s : List Byte) (k : Nat) : List Byte :=
  let a := fun i => aesAt s (4 * k + i % 4)
  [0, 1, 2, 3].map fun i =>
    aesMul c0 (a i) ^^^ aesMul c1 (a (i + 1)) ^^^ aesMul c2 (a (i + 2)) ^^^ aesMul c3 (a (i + 3))

/-- MixColumns. -/
def aesMixColumns (s : List Byte) : List Byte := [0, 1, 2, 3].flatMap (aesMixColumn 2 3 1 1 s)

/-- The inverse of MixColumns. -/
def aesInvMixColumns (s : List Byte) : List Byte := [0, 1, 2, 3].flatMap (aesMixColumn 14 11 13 9 s)

/-- The word `t` of the key schedule, from the words before it, newest first (`nk` words of key). -/
def aesNextWord (nk i : Nat) (rcon : Byte) (ws : List (List Byte)) : List Byte :=
  let prev := nth [] ws 0
  let back := nth [] ws (nk - 1)
  let t :=
    if i % nk = 0 then
      match prev with
      | a :: rest => xorBytes ((rest ++ [a]).map aesSub) [rcon, 0, 0, 0]
      | [] => []
    else if nk > 6 ∧ i % nk = 4 then prev.map aesSub else prev
  xorBytes back t

/-- The key schedule: `n` further words after the `i` words in `ws` (newest first). -/
def aesExpand (nk : Nat) : Nat → Nat → Byte → List (List Byte) → List (List Byte)
  | 0, _, _, ws => ws
  | n + 1, i, rcon, ws =>
    aesExpand nk n (i + 1) (if i % nk = 0 then aesXtime rcon else rcon) (aesNextWord nk i rcon ws :: ws)

/-- Cut a list of bytes into groups of `k`. -/
def chunksOf (k : Nat) : Nat → List Byte → List (List Byte)
  | 0, _ => []
  | n + 1, bs => if bs.isEmpty then [] else bs.take k :: chunksOf k n (bs.drop k)

/-- The round keys of a key of 16 or 32 bytes, first round first. -/
def aesRoundKeys (key : List Byte) : List (List Byte) :=
  let nk := key.length / 4
  let ws := aesExpand nk (4 * (nk + 7) - nk) nk 1 (chunksOf 4 nk key).reverse
  chunksOf 16 (nk + 7) ws.reverse.flatten

/-- The rounds after the first key addition. -/
def aesRounds : List (List Byte) → List Byte → List Byte
  | [], s => s
  | [k], s => xorBytes (aesShiftRows (s.map aesSub)) k
  | k :: ks, s => aesRounds ks (xorBytes (aesMixColumns (aesShiftRows (s.map aesSub))) k)

/-- The inverse rounds, round keys last first. -/
def aesInvRounds : List (List Byte) → List Byte → List Byte
  | [], s => s
  | [k], s => xorBytes ((aesInvShiftRows s).map aesInvSub) k
  | k :: ks, s => aesInvRounds ks (aesInvMixColumns (xorBytes ((aesInvShiftRows s).map aesInvSub) k))

/-- AES encryption of one 16-byte block under a 16- or 32-byte key. -/
def aesEncrypt (key block : List Byte) : List Byte :=
  match aesRoundKeys key with
  | [] => block
  | k :: ks => aesRounds ks (xorBytes block k)

/-- AES decryption of one 16-byte block under a 16- or 32-byte key. -/
def aesDecrypt (key block : List Byte) : List Byte :=
  match (aesRoundKeys key).reverse with
  | [] => block
  | k :: ks => aesInvRounds ks (xorBytes block k)

end Sys2Proof.Machine
end

