-- ==== Sys2Proof/Machine/Des.lean ====
section
/-!
DEFINITION. The DES block cipher and triple DES (TDEA, two- and three-key), which the retail MAC and the EMV
functions name (R208, R211). PRESUMED (log entry 4): the spec names them and does not spell them out.
-/
namespace Sys2Proof.Machine

/-- A bit permutation: output bit i (most significant first, of `t.length`) is input bit `t[i]` of `w`, counted from 1
at the most significant end, as the standard writes its tables. -/
def desPermute (t : List Nat) (w x : Nat) : Nat :=
  t.foldl (fun a p => 2 * a + b2n (x.testBit (w - p))) 0

/-- The initial permutation. -/
def desIp : List Nat :=
  [58, 50, 42, 34, 26, 18, 10, 2, 60, 52, 44, 36, 28, 20, 12, 4] ++
  [62, 54, 46, 38, 30, 22, 14, 6, 64, 56, 48, 40, 32, 24, 16, 8] ++
  [57, 49, 41, 33, 25, 17, 9, 1, 59, 51, 43, 35, 27, 19, 11, 3] ++
  [61, 53, 45, 37, 29, 21, 13, 5, 63, 55, 47, 39, 31, 23, 15, 7]

/-- The final permutation. -/
def desFp : List Nat :=
  [40, 8, 48, 16, 56, 24, 64, 32, 39, 7, 47, 15, 55, 23, 63, 31] ++
  [38, 6, 46, 14, 54, 22, 62, 30, 37, 5, 45, 13, 53, 21, 61, 29] ++
  [36, 4, 44, 12, 52, 20, 60, 28, 35, 3, 43, 11, 51, 19, 59, 27] ++
  [34, 2, 42, 10, 50, 18, 58, 26, 33, 1, 41, 9, 49, 17, 57, 25]

/-- The expansion. -/
def desE : List Nat :=
  [32, 1, 2, 3, 4, 5, 4, 5, 6, 7, 8, 9, 8, 9, 10, 11] ++
  [12, 13, 12, 13, 14, 15, 16, 17, 16, 17, 18, 19, 20, 21, 20, 21] ++
  [22, 23, 24, 25, 24, 25, 26, 27, 28, 29, 28, 29, 30, 31, 32, 1]

/-- The permutation of the round function. -/
def desP : List Nat :=
  [16, 7, 20, 21, 29, 12, 28, 17, 1, 15, 23, 26, 5, 18, 31, 10] ++
  [2, 8, 24, 14, 32, 27, 3, 9, 19, 13, 30, 6, 22, 11, 4, 25]

/-- Permuted choice 1. -/
def desPc1 : List Nat :=
  [57, 49, 41, 33, 25, 17, 9, 1, 58, 50, 42, 34, 26, 18, 10, 2] ++
  [59, 51, 43, 35, 27, 19, 11, 3, 60, 52, 44, 36, 63, 55, 47, 39] ++
  [31, 23, 15, 7, 62, 54, 46, 38, 30, 22, 14, 6, 61, 53, 45, 37] ++
  [29, 21, 13, 5, 28, 20, 12, 4]

/-- Permuted choice 2. -/
def desPc2 : List Nat :=
  [14, 17, 11, 24, 1, 5, 3, 28, 15, 6, 21, 10, 23, 19, 12, 4] ++
  [26, 8, 16, 7, 27, 20, 13, 2, 41, 52, 31, 37, 47, 55, 30, 40] ++
  [51, 45, 33, 48, 44, 49, 39, 56, 34, 53, 46, 42, 50, 36, 29, 32]

/-- The eight S-boxes, entry i (row times 16 plus column) at bits [4i + 3 : 4i]. -/
def desS : List Nat :=
  [0xd60ae3b5719428cf05a379cfb26d8e148359bc6a1d2e47f07095c6a38bf21d4e] ++
  [0x9e50c76b24f31a8df2396c851d4ab7e05b96a10ce82f74d3a50cd27943b6e81f] ++
  [0xc25b3ef478960da17ea5c21b03f8946d1fbce582a643907d824b7cd15f36e90a] ++
  [0xe27cb5498d1a60f34825e31fd7bc096a9ea1c27430f65b8df4cb5821a9603ed7] ++
  [0x354a90f6d2e17c8be0365c9f87dab1246893af051d74c2be9e0df3586ba714c2] ++
  [0xd80671ebaf59c2346bd1a4073c825fe983b0ed1659c724fab57e43d08629fa1c] ++
  [0xc32ef0597a418db6295086fae73cdb4168f2c53ea1947b0d16a579c3d80fe2b4] ++
  [0xb65309cfd8a47e12853fda602ec914b729e0b65c473a8df17c05e39a1bf6482d]

/-- The rotations of the key schedule. -/
def desShifts : List Nat := [1, 1, 2, 2, 2, 2, 2, 2, 1, 2, 2, 2, 2, 2, 2, 1]

/-- Rotation left of a 28-bit half. -/
def desRotl28 (x n : Nat) : Nat := ((x <<< n) ||| (x >>> (28 - n))) % 2 ^ 28

/-- The round keys, first round first. -/
def desKeys (c d : Nat) : List Nat → List Nat
  | [] => []
  | n :: ns =>
    let c' := desRotl28 c n
    let d' := desRotl28 d n
    desPermute desPc2 56 (c' * 2 ^ 28 + d') :: desKeys c' d' ns

/-- The round keys of an 8-byte key. -/
def desSchedule (key : List Byte) : List Nat :=
  let k := desPermute desPc1 64 (ofBe key)
  desKeys (k / 2 ^ 28) (k % 2 ^ 28) desShifts

/-- S-box `i` of the six-bit group `x`. -/
def desSub (box x : Nat) : Nat :=
  let row := 2 * (x / 32) + x % 2
  natField box (4 * (16 * row + (x / 2) % 16) + 3) (4 * (16 * row + (x / 2) % 16))

/-- The round function. -/
def desF (r k : Nat) : Nat :=
  let x := desPermute desE 32 r ^^^ k
  let subst := desS.zipIdx.foldl (fun a b => a * 16 + desSub b.1 (natField x (47 - 6 * b.2) (42 - 6 * b.2))) 0
  desPermute desP 32 subst

/-- The sixteen rounds under a list of round keys. -/
def desBlock (ks : List Nat) (block : List Byte) : List Byte :=
  let x := desPermute desIp 64 (ofBe block)
  let lr := ks.foldl (fun (p : Nat × Nat) k => (p.2, p.1 ^^^ desF p.2 k)) (x / 2 ^ 32, x % 2 ^ 32)
  beBytes 8 (desPermute desFp 64 (lr.2 * 2 ^ 32 + lr.1))

/-- DES encryption of an 8-byte block. -/
def desEncrypt (key block : List Byte) : List Byte := desBlock (desSchedule key) block

/-- DES decryption of an 8-byte block. -/
def desDecrypt (key block : List Byte) : List Byte := desBlock (desSchedule key).reverse block

/-- The three keys of a TDEA key of 16 or 24 bytes. -/
def tdeaKeys (key : List Byte) : List Byte × List Byte × List Byte :=
  (key.take 8, sliceBytes key 8 8, if key.length > 16 then sliceBytes key 16 8 else key.take 8)

/-- TDEA encryption of an 8-byte block. -/
def tdeaEncrypt (key block : List Byte) : List Byte :=
  let (a, b, c) := tdeaKeys key
  desEncrypt c (desDecrypt b (desEncrypt a block))

/-- TDEA decryption of an 8-byte block. -/
def tdeaDecrypt (key block : List Byte) : List Byte :=
  let (a, b, c) := tdeaKeys key
  desDecrypt a (desEncrypt b (desDecrypt c block))

end Sys2Proof.Machine
end

