-- ==== Sys2Proof/Machine/Modes.lean ====
section
/-!
DEFINITION. Modes of a block cipher: ECB, CBC, CTR, CMAC (SP 800-38B), GCM (SP 800-38D), FF1 (SP 800-38G) and the
CTR_DRBG of SP 800-90A without a derivation function, the standards the spec names (R78, R150, R208, R214, R593,
R611). PRESUMED (log entry 4): the spec names them and does not spell them out.
-/
namespace Sys2Proof.Machine

/-- A list of bytes cut into blocks of `b` bytes. -/
def blocksOf (b : Nat) (m : List Byte) : List (List Byte) := chunksOf b m.length m

/-- ECB encryption or decryption of whole blocks. -/
def ecbApply (b : Nat) (e : List Byte → List Byte) (m : List Byte) : List Byte := (blocksOf b m).flatMap e

/-- CBC encryption of whole blocks. -/
def cbcEncrypt (b : Nat) (e : List Byte → List Byte) (iv m : List Byte) : List Byte :=
  ((blocksOf b m).foldl (fun (p : List Byte × List Byte) x =>
    let c := e (xorBytes p.1 x)
    (c, p.2 ++ c)) (iv, [])).2

/-- CBC decryption of whole blocks. -/
def cbcDecrypt (b : Nat) (d : List Byte → List Byte) (iv c : List Byte) : List Byte :=
  ((blocksOf b c).foldl (fun (p : List Byte × List Byte) x => (x, p.2 ++ xorBytes p.1 (d x))) (iv, [])).2

/-- The last block of CBC encryption with a zero initial vector. -/
def cbcMac (b : Nat) (e : List Byte → List Byte) (m : List Byte) : List Byte :=
  (blocksOf b m).foldl (fun p x => e (xorBytes p x)) (List.replicate b 0)

/-- Doubling in GF(2^(8b)) for CMAC: `b` is 8 or 16. -/
def cmacDouble (b : Nat) (x : List Byte) : List Byte :=
  let n := ofBe x
  let rb := if b = 16 then 0x87 else 0x1b
  beBytes b ((2 * n) % 2 ^ (8 * b) ^^^ (if n.testBit (8 * b - 1) then rb else 0))

/-- CMAC with a block cipher of `b`-byte blocks. -/
def cmac (b : Nat) (e : List Byte → List Byte) (m : List Byte) : List Byte :=
  let k1 := cmacDouble b (e (List.replicate b 0))
  let n := if m.length = 0 then 0 else (m.length - 1) / b
  let head := m.take (b * n)
  let last := m.drop (b * n)
  let lastBlock :=
    if last.length = b then xorBytes last k1
    else xorBytes (padTo b (last ++ [0x80])) (cmacDouble b k1)
  e (xorBytes ((blocksOf b head).foldl (fun p x => e (xorBytes p x)) (List.replicate b 0)) lastBlock)

/-- AES-CMAC. -/
def aesCmac (key m : List Byte) : List Byte := cmac 16 (aesEncrypt key) m

/-- TDEA CMAC. -/
def tdeaCmac (key m : List Byte) : List Byte := cmac 8 (tdeaEncrypt key) m

/-- One step of multiplication in GF(2^128) in the bit order of GCM. -/
def gcmMulBits (x : Nat) : Nat → Nat → Nat → Nat
  | 0, _, z => z
  | n + 1, v, z =>
    let z' := if x.testBit n then z ^^^ v else z
    gcmMulBits x n (if v.testBit 0 then (v >>> 1) ^^^ (0xe1 <<< 120) else v >>> 1) z'

/-- Multiplication in GF(2^128) in the bit order of GCM. -/
def gcmMul (x y : Nat) : Nat := gcmMulBits x 128 y 0

/-- GHASH of a list of bytes, each part padded to whole blocks by the caller. -/
def ghash (h : Nat) (m : List Byte) : Nat :=
  (blocksOf 16 m).foldl (fun y x => gcmMul (y ^^^ ofBe (padTo 16 x)) h) 0

/-- `m` padded with zeros to whole 16-byte blocks. -/
def pad16 (m : List Byte) : List Byte := m ++ List.replicate ((16 - m.length % 16) % 16) 0

/-- CTR keystream applied to `m` from a 16-byte counter block whose low 32 bits count. -/
def ctr32Apply (e : List Byte → List Byte) (ctr : Nat) (m : List Byte) : List Byte :=
  (blocksOf 16 m).zipIdx.flatMap fun p =>
    xorBytes p.1 (e (beBytes 16 (ctr / 2 ^ 32 * 2 ^ 32 + (ctr + p.2) % 2 ^ 32)))

/-- The pre-counter block of GCM for an initial vector of 12 bytes or of any other length. -/
def gcmJ0 (h : Nat) (iv : List Byte) : Nat :=
  if iv.length = 12 then ofBe (iv ++ [0, 0, 0, 1])
  else ghash h (pad16 iv ++ beBytes 16 (8 * iv.length))

/-- The GCM tag (16 bytes) of additional data and ciphertext. -/
def gcmTag (key iv aad ct : List Byte) : List Byte :=
  let h := ofBe (aesEncrypt key (List.replicate 16 0))
  let s := ghash h (pad16 aad ++ pad16 ct ++ beBytes 8 (8 * aad.length) ++ beBytes 8 (8 * ct.length))
  xorBytes (beBytes 16 s) (aesEncrypt key (beBytes 16 (gcmJ0 h iv)))

/-- GCM encryption or decryption of the text (the keystream is the same). -/
def gcmCrypt (key iv m : List Byte) : List Byte :=
  let h := ofBe (aesEncrypt key (List.replicate 16 0))
  let j := gcmJ0 h iv
  ctr32Apply (aesEncrypt key) (j / 2 ^ 32 * 2 ^ 32 + (j + 1) % 2 ^ 32) m

/-- GCM encryption: the ciphertext and the tag. -/
def gcmSeal (key iv aad m : List Byte) : List Byte × List Byte :=
  let ct := gcmCrypt key iv m
  (ct, gcmTag key iv aad ct)

/-- GCM decryption: the text where the tag agrees. -/
def gcmOpen (key iv aad ct tag : List Byte) : Option (List Byte) :=
  if gcmTag key iv aad ct = tag then some (gcmCrypt key iv ct) else none

/-- The state of a CTR_DRBG instance: key and V (SP 800-90A). -/
structure DrbgKv where
  key : List Byte
  v : List Byte
deriving DecidableEq, Repr

/-- `n` keystream blocks of the CTR_DRBG, and V afterwards. -/
def drbgBlocks (key : List Byte) : Nat → Nat → List Byte × Nat
  | 0, v => ([], v)
  | n + 1, v =>
    let v' := (v + 1) % 2 ^ 128
    let r := drbgBlocks key n v'
    (aesEncrypt key (beBytes 16 v') ++ r.1, r.2)

/-- CTR_DRBG_Update with 48 bytes of provided data. -/
def drbgUpdate (s : DrbgKv) (data : List Byte) : DrbgKv :=
  let t := xorBytes ((drbgBlocks s.key 3 (ofBe s.v)).1) (padTo 48 data)
  ⟨t.take 32, t.drop 32⟩

/-- Instantiation from 48 bytes of entropy and a personalisation string (R593). -/
def drbgInstantiate (entropy pers : List Byte) : DrbgKv :=
  drbgUpdate ⟨List.replicate 32 0, List.replicate 16 0⟩ (xorBytes (padTo 48 entropy) (padTo 48 pers))

/-- Reseeding from 48 bytes of entropy. -/
def drbgReseed (s : DrbgKv) (entropy : List Byte) : DrbgKv := drbgUpdate s entropy

/-- One generate call of `n` 16-byte blocks, with the state update after it (R595). -/
def drbgGenerate (s : DrbgKv) (n : Nat) : List Byte × DrbgKv :=
  let r := drbgBlocks s.key n (ofBe s.v)
  (r.1, drbgUpdate ⟨s.key, beBytes 16 r.2⟩ [])

/-- The number a list of numerals spells in a radix, most significant first. -/
def numRadix (radix : Nat) (xs : List Nat) : Nat := xs.foldl (fun a d => a * radix + d) 0

/-- `n` numerals of a number in a radix, most significant first. -/
def strRadix (radix : Nat) : Nat → Nat → List Nat
  | 0, _ => []
  | n + 1, x => strRadix radix n (x / radix) ++ [x % radix]

/-- The number of bytes that hold the numerals of one half in FF1. -/
def ff1ByteLen (radix v : Nat) : Nat := ((radix ^ v - 1).log2 + 1 + 7) / 8

/-- The pseudorandom function of FF1: AES-CBC-MAC. -/
def ff1Prf (key m : List Byte) : List Byte := cbcMac 16 (aesEncrypt key) m

/-- The first `d` bytes of the round output. -/
def ff1Expand (key r : List Byte) (d : Nat) : List Byte :=
  ((List.range ((d + 15) / 16)).flatMap fun j =>
    if j = 0 then r else aesEncrypt key (xorBytes r (beBytes 16 j))).take d

/-- The round value of FF1 in round `i` for the half `b`. -/
def ff1RoundValue (key tweak : List Byte) (radix n : Nat) (i : Nat) (b : List Nat) : Nat :=
  let u := n / 2
  let v := n - u
  let bl := ff1ByteLen radix v
  let d := 4 * ((bl + 3) / 4) + 4
  let p := [1, 2, 1] ++ beBytes 3 radix ++ [10, BitVec.ofNat 8 u] ++ beBytes 4 n ++ beBytes 4 tweak.length
  let q := tweak ++ List.replicate ((16 - (tweak.length + bl + 1) % 16) % 16) 0 ++ [BitVec.ofNat 8 i] ++
    beBytes bl (numRadix radix b)
  ofBe (ff1Expand key (ff1Prf key (p ++ q)) d)

/-- FF1 encryption of numerals (R214). -/
def ff1Encrypt (key tweak : List Byte) (radix : Nat) (x : List Nat) : List Nat :=
  let n := x.length
  let u := n / 2
  let r := (List.range 10).foldl (fun (p : List Nat × List Nat) i =>
    let m := if i % 2 = 0 then u else n - u
    let c := (numRadix radix p.1 + ff1RoundValue key tweak radix n i p.2) % radix ^ m
    (p.2, strRadix radix m c)) (x.take u, x.drop u)
  r.1 ++ r.2

/-- FF1 decryption of numerals (R214). -/
def ff1Decrypt (key tweak : List Byte) (radix : Nat) (x : List Nat) : List Nat :=
  let n := x.length
  let u := n / 2
  let r := (List.range 10).reverse.foldl (fun (p : List Nat × List Nat) i =>
    let m := if i % 2 = 0 then u else n - u
    let c := (numRadix radix p.2 + radix ^ m - ff1RoundValue key tweak radix n i p.1 % radix ^ m) % radix ^ m
    (strRadix radix m c, p.1)) (x.take u, x.drop u)
  r.1 ++ r.2

end Sys2Proof.Machine
end

