-- ==== Sys2Proof/Machine/RngOps.lean ====
section
/-!
DEFINITION. Draws from the DRBG instances (R593–R597), which the key engines, the PK engines, the ring and custody
share.
-/
namespace Sys2Proof.Machine

/-- A DRBG instance. -/
def State.drbg (s : State) (i : Nat) : Drbg := cget {} s.rng.inst i
/-- Write a DRBG instance. -/
def State.setDrbg (s : State) (i : Nat) (d : Drbg) : State := { s with rng := { s.rng with inst := cput {} d i s.rng.inst } }

/-- Generate calls after which an instance stops (R596). -/
def drbgStop : Nat := 2 ^ 32

/-- One generate call of `n` bytes into the output buffer (R595); the state is updated after it. -/
def Drbg.fill (d : Drbg) (n : Nat) : Drbg :=
  let (bytes, kv) := drbgGenerate ⟨d.k, d.v⟩ n
  { d with k := kv.key, v := kv.v, gen := d.gen + 1, buf := d.buf ++ chunksOf 16 bytes.length bytes,
           reseedDue := d.reseedDue || decide (2 ^ 20 ≤ d.gen + 1) }

/-- Draw `n` blocks of 16 bytes from instance `i` (R595): nothing from an instance that is not available (R594) or that
has stopped (R596). A buffer that does not hold enough is filled first. -/
def State.draw (s : State) (i n : Nat) : Option (List Byte) × State :=
  let d := s.drbg i
  if !d.ready then (none, s)
  else
    let d := if d.buf.length < n then d.fill (if i = 4 then 16 * n else 4096) else d
    if d.gen > drbgStop then (none, s)
    else (some ((d.buf.take n).flatten), s.setDrbg i { d with buf := d.buf.drop n })

end Sys2Proof.Machine
end

