-- ==== Sys2Proof/Machine/VaultOps.lean ====
section
/-!
DEFINITION. Key records, zones, resolution of key references and the vaults (chapter 9, R297–R315): the operations
that every user of a key shares.
-/
namespace Sys2Proof.Machine

/-- A register of the KV page of an ounce. -/
def kvReg (o off : Nat) : Nat := ra tKV o off
/-- The KV page of an ounce. -/
def kvPage (o : Nat) : Nat := pageNo tKV o
/-- A counter of the KV page of an ounce. -/
def State.kvBump (s : State) (o k : Nat) : State := s.bump (kvPage o) k 0 1

/-! ### Zones -/

/-- A zone. -/
def State.zone (s : State) (z : Nat) : Zone := cget {} s.vlt.zones z
/-- Write a zone. -/
def State.setZone (s : State) (z : Nat) (x : Zone) : State := { s with vlt := { s.vlt with zones := cput {} x z s.vlt.zones } }
/-- Zone of a handle (R297). -/
def handleZone (h : Nat) : Nat := h / 2 ^ 26 % 64
/-- Slot of a handle (R297). -/
def handleSlot (h : Nat) : Nat := h % 2 ^ 26
/-- The life cycle of a zone; an invalid record reads as END_OF_LIFE (Table 16.2, machine 8). -/
def State.zoneLc (s : State) (z : Nat) : Nat := if s.cus.invalid.contains 8 then 3 else (s.zone z).lc
/-- Whether a zone is started and in TEST or PRODUCTION (R298). -/
def State.zoneServed (s : State) (z : Nat) : Bool := (s.zone z).started && (s.zoneLc z = 1 || s.zoneLc z = 2)
/-- The KEK of zone `z` and epoch `e` (R302, R542). -/
def State.kek (s : State) (z e : Nat) : List Byte := Config.zoneKek (s.zone z).seed (s.zone z).inc e z

/-- The KEK fingerprint of a zone (R382): AES-CMAC of a zero block, 8 bytes. -/
def State.fingerprint (s : State) (z : Nat) : List Byte := (aesCmac (s.kek z (s.zone z).epoch) (List.replicate 16 0)).take 8

/-- The zone state of Table 11.7. -/
def State.zoneState (s : State) (z : Nat) : List Byte :=
  let x := s.zone z
  beBytes 1 (b2n x.started) ++ beBytes 1 0 ++ beBytes 2 x.epoch ++ beBytes 2 x.floor ++ beBytes 2 (cget 0 s.vlt.bfloor z) ++
    beBytes 8 x.ceil ++ beBytes 4 x.zbase ++ beBytes 4 x.count ++ s.fingerprint z

/-- A ZONE delta for a mirrored zone (Table 11.6). -/
def State.zoneDelta (s : State) (z : Nat) : State := if s.mirrored z then s.pushDelta 3 z (s.zoneState z) else s

/-! ### Key records (R300, R301) -/

/-- HBM address of the record of a handle (R299). -/
def State.recAddr (s : State) (h : Nat) : Nat := spHbm + s.rd64 (kvReg 0 0x108) + 128 * ((s.zone (handleZone h)).zbase + handleSlot h)
/-- The 128 bytes of a record. -/
def State.recBytes (s : State) (h : Nat) : List Byte := s.bytes (s.recAddr h) 128
/-- Field of a record: `n` bytes at `o`, little-endian (R11). -/
def recField (r : List Byte) (o n : Nat) : Nat := ofLe (sliceBytes r o n)
/-- STATE of a record (Table 9.1). -/
def recState (r : List Byte) : Nat := recField r 0 1 % 4
/-- EPOCH of a record. -/
def recEpoch (r : List Byte) : Nat := recField r 2 2
/-- REFCNT of a record. -/
def State.refcnt (s : State) (h : Nat) : Nat := s.leAt (s.recAddr h + 0x1C) 4
/-- Change REFCNT of a record; it lies outside the authenticated part (R306). -/
def State.setRefcnt (s : State) (h v : Nat) : State := s.setLe (s.recAddr h + 0x1C) 4 v

/-- The IV of a record (R301). The spec names its parts, the integers little-endian per R11. -/
def recIv (h gen : Nat) : List Byte := leBytes 4 h ++ leBytes 8 gen

/-- The record of a key (R301). -/
def sealRecord (kek : List Byte) (h st epoch gen : Nat) (attr key hh : List Byte) (ref : Nat) : List Byte :=
  let aad := leBytes 1 (st + 4 * handleZone h) ++ leBytes 1 0 ++ leBytes 2 epoch ++ leBytes 4 (handleSlot h) ++ leBytes 8 gen ++
    padTo 12 attr
  let (ct, tag) := gcmSeal kek (recIv h gen) aad (padTo 80 (key ++ hh))
  aad ++ leBytes 4 ref ++ ct ++ tag

/-- The EMPTY record of a handle (R300). -/
def emptyRecord (h : Nat) : List Byte :=
  leBytes 1 (4 * handleZone h) ++ List.replicate 3 0 ++ leBytes 4 (handleSlot h) ++ List.replicate 120 0

/-- LEN, usage and the H flag of attributes (Table 9.2). -/
def attrLen (a : List Byte) : Nat := (nth 0 a 8).toNat
/-- USAGE as a 16-bit number, first character high. -/
def attrUsage (a : List Byte) : Nat := (nth 0 a 0).toNat * 256 + (nth 0 a 1).toNat
/-- ALG: 'T' 0x54, 'A' 0x41, 'H' 0x48. -/
def attrAlg (a : List Byte) : Nat := (nth 0 a 2).toNat
/-- MODE. -/
def attrMode (a : List Byte) : Nat := (nth 0 a 3).toNat
/-- EXPORT. -/
def attrExport (a : List Byte) : Nat := (nth 0 a 6).toNat
/-- Whether H is present. -/
def attrH (a : List Byte) : Bool := bitAt (nth 0 a 9) 0
/-- Two ASCII characters as a usage. -/
def usage2 (a b : Char) : Nat := a.toNat * 256 + b.toNat

/-- The key of an authentic record whose epoch is readable (R301, R302). -/
def State.openRecord (s : State) (h : Nat) (r : List Byte) : Option KeyVal :=
  let z := handleZone h
  let st := recState r
  let e := recEpoch r
  let gen := recField r 8 8
  let attr := sliceBytes r 0x10 12
  if (st = 1 ∨ st = 2) ∧ recField r 0 1 / 4 = z ∧ recField r 4 4 = handleSlot h ∧ (s.zone z).floor ≤ e ∧ e ≤ (s.zone z).epoch then
    match gcmOpen (s.kek z e) (recIv h gen) (sliceBytes r 0 0x1C) (sliceBytes r 0x20 80) (sliceBytes r 0x70 16) with
    | none => none
    | some p =>
      some { key := p.take (attrLen attr), h := if attrH attr then sliceBytes p (attrLen attr) 16 else [], attr := attr, zone := z,
             handle := h, retired := st = 2 }
  else none

/-- Whether the next GEN of a zone may be used (R384): a mirrored zone of an active device uses GEN values below its
ceiling, and only once the delta that raised it is acknowledged. -/
def State.genReady (s : State) (z : Nat) : Bool :=
  let x := s.zone z
  !(s.mirrored z && s.hasStandby) || decide (x.gen + 1 < x.ceil)

/-- Raise the GEN ceiling by 65,536 when the next GEN reaches it (R384). Without a standby the new ceiling is used at
once. -/
def State.raiseCeil (s : State) (z : Nat) : State :=
  let x := s.zone z
  if s.mirrored z ∧ s.twActive ∧ x.ceilSent ≤ x.gen + 1 then
    let c := x.gen + 1 + 65536
    let s := s.setZone z { x with ceilSent := c, ceil := if s.hasStandby then x.ceil else c }
    s.pushDelta 4 z (beBytes 8 c)
  else s

/-- Take the next GEN of a zone (R302). -/
def State.nextGen (s : State) (z : Nat) : Nat × State :=
  let s := s.raiseCeil z
  let x := s.zone z
  (x.gen + 1, s.setZone z { x with gen := x.gen + 1 })

/-- Write the 128 bytes of a record; in a mirrored zone the write is a KEY_RECORD delta with REFCNT 0 (R385). -/
def State.putRecord (s : State) (h : Nat) (r : List Byte) : State :=
  let s := s.setBytes (s.recAddr h) r
  if s.mirrored (handleZone h) then s.pushDelta 2 ((s.zone (handleZone h)).zbase + handleSlot h) (spliceBytes r 0x1C (leBytes 4 0)) else s

/-- Write a key under the current epoch and the next GEN (R301, R302). -/
def State.writeKey (s : State) (h st : Nat) (attr key hh : List Byte) (ref : Nat) : State :=
  let z := handleZone h
  let (gen, s) := s.nextGen z
  let e := (s.zone z).epoch
  s.putRecord h (sealRecord (s.kek z e) h st e gen attr key hh ref)

/-! ### The vaults (R308) -/

/-- Key of a resident entry. -/
def resKey (o h : Nat) : Nat := o * 2 ^ 32 + h
/-- Entries of 32 bytes a key occupies (R308). -/
def vaultEntries (k : KeyVal) : Nat := (k.key.length + k.h.length + 31) / 32
/-- Vault entries in use in an ounce. -/
def State.vaultUse (s : State) (o : Nat) : Nat :=
  sumNat (s.vlt.resident.map fun e => if e.1 / 2 ^ 32 = o then vaultEntries e.2.k else 0)
/-- Whether a running engine operation of the ounce reads a key (R308). -/
def State.keyPinned (s : State) (o h : Nat) : Bool :=
  s.pay.run.any fun e => decide (e.1 / 16 = o) && !e.2.computed && e.2.keys.any (·.handle = h)
/-- The least recently used key of an ounce that may be evicted. -/
def State.lruKey (s : State) (o : Nat) : Option Nat :=
  ((s.vlt.resident.filter fun e => decide (e.1 / 2 ^ 32 = o) && !s.keyPinned o (e.1 % 2 ^ 32)).foldl
    (fun (b : Option (Nat × Nat)) e =>
      match b with
      | none => some (e.1, e.2.used)
      | some (k, u) => if e.2.used < u then some (e.1, e.2.used) else some (k, u)) none).map (·.1)
/-- Remove a resident key. -/
def State.dropResident (s : State) (k : Nat) : State := { s with vlt := { s.vlt with resident := odel k s.vlt.resident } }
/-- Evict least recently used keys until `need` entries are free (R308); at most `fuel` keys. -/
def evictFor (o need : Nat) : Nat → State → State
  | 0, s => s
  | n + 1, s =>
    if s.vaultUse o + need ≤ 262144 then s
    else match s.lruKey o with
      | none => s
      | some k => evictFor o need n ((s.dropResident k).kvBump o 2)
/-- Place a key in the vault of an ounce. -/
def State.placeKey (s : State) (o : Nat) (k : KeyVal) : State :=
  let s := evictFor o (vaultEntries k) 4 s
  { s with vlt := { s.vlt with resident := oput ⟨k, s.vlt.clock⟩ (resKey o k.handle) s.vlt.resident, clock := s.vlt.clock + 1 } }
/-- Zeroise every resident copy of a key (R310). -/
def State.zeroiseKey (s : State) (h : Nat) : State :=
  { s with vlt := { s.vlt with resident := s.vlt.resident.filter (fun e => e.1 % 2 ^ 32 != h),
                               fills := s.vlt.fills.map fun f => if f.2.1 = h then (f.1, h, false) else f } }
/-- Change the copies of a key in all vaults. -/
def State.modResident (s : State) (h : Nat) (f : KeyVal → KeyVal) : State :=
  { s with vlt := { s.vlt with resident := s.vlt.resident.map fun e => if e.1 % 2 ^ 32 = h then (e.1, { e.2 with k := f e.2.k }) else e } }

/-- The part of a fill that reads the record: step 5 of R307, with its counters. -/
def State.fill (s : State) (o h : Nat) : Except Nat KeyVal × State :=
  let r := s.recBytes h
  let s := s.kvBump o 0
  if recState r = 0 then (.error 0x403, s)
  else match s.openRecord h r with
    | none => (.error 0x404, (s.kvBump o 1).irq (kvPage o) 0)
    | some k => (.ok k, s.placeKey o k)

/-- Resolve a vault key reference for an ounce: steps 1 to 5 of R307. A key/PK domain that is not ON holds no vault and
no KEK (R312): the reference fails with 0x0401 (log entry 13). -/
def State.resolve (s : State) (o h : Nat) : Except Nat KeyVal × State :=
  let z := handleZone h
  if !s.zoneServed z || !s.domOn (68 + o) then (.error 0x401, s)
  else if handleSlot h = 0 ∨ (s.zone z).count ≤ handleSlot h then (.error 0x402, s)
  else if s.keyHold then (.error 0x410, s)
  else match oget s.vlt.resident (resKey o h) with
    | some x => (.ok x.k, { s with vlt := { s.vlt with resident := oput { x with used := s.vlt.clock } (resKey o h) s.vlt.resident,
                                                       clock := s.vlt.clock + 1 } })
    | none => s.fill o h

/-- A store into the slot of a handle (R199, Table 9.3): only into an EMPTY record. -/
def State.storeKey (s : State) (h : Nat) (attr key : List Byte) : Nat × State :=
  let z := handleZone h
  if !s.zoneServed z then (0x401, s)
  else if handleSlot h = 0 ∨ (s.zone z).count ≤ handleSlot h then (0x402, s)
  else if s.keyHold then (0x410, s)
  else if s.isStandby ∧ s.mirrored z then (0x60D, s)
  else if recState (s.recBytes h) ≠ 0 then (0x351, s)
  else
    let hh := if attrH attr then aesEncrypt key (List.replicate 16 0) else []
    (0, s.writeKey h 1 attr key hh 0)

end Sys2Proof.Machine
end

