-- ==== Sys2Proof/Machine/ContextOps.lean ====
section
/-!
DEFINITION. Endpoint contexts: their header and SA records, the context caches, bindings, write-backs and updates
(chapter 9, R316–R325).
-/
namespace Sys2Proof.Machine

/-! ### Header fields (Table 9.6) -/

/-- `n` bytes at `o` of the header, little-endian. -/
def Ctx.fld (c : Ctx) (o n : Nat) : Nat := ofLe (sliceBytes c.hdr o n)
/-- Write `n` bytes at `o` of the header. -/
def Ctx.put (c : Ctx) (o n v : Nat) : Ctx := { c with hdr := spliceBytes c.hdr o (leBytes n v) }
/-- VALID. -/
def Ctx.valid (c : Ctx) : Bool := c.fld 0 1 % 2 = 1
/-- Bit `b` of CTL. -/
def Ctx.ctl (c : Ctx) (b : Nat) : Bool := (c.fld 0 4).testBit b
/-- Write bit `b` of CTL. -/
def Ctx.setCtl (c : Ctx) (b : Nat) (x : Bool) : Ctx := c.put 0 4 ((setField (BitVec.ofNat 32 (c.fld 0 4)) b b (b2n x)).toNat)
/-- PLYNUN. -/
def Ctx.plynun (c : Ctx) : Bool := c.ctl 1
/-- VSVC. -/
def Ctx.vsvc (c : Ctx) : Bool := c.ctl 2
/-- TXSEL. -/
def Ctx.txsel (c : Ctx) : Bool := c.ctl 3
/-- QUENCHED. -/
def Ctx.quenched (c : Ctx) : Bool := c.ctl 4
/-- PORT. -/
def Ctx.port (c : Ctx) : Nat := natField (c.fld 0 4) 26 16
/-- VERD: DIALECT. -/
def Ctx.dialect (c : Ctx) : Nat := natField (c.fld 4 4) 5 0
/-- VERD: CORE. -/
def Ctx.core (c : Ctx) : Nat := natField (c.fld 4 4) 12 6
/-- VERD: SPREAD. -/
def Ctx.spread (c : Ctx) : Nat := natField (c.fld 4 4) 15 13
/-- VERD: PROGRAM. -/
def Ctx.program (c : Ctx) : Nat := natField (c.fld 4 4) 23 16
/-- VERD: VMAX. -/
def Ctx.vmax (c : Ctx) : Nat := natField (c.fld 4 4) 31 24
/-- ZONE. -/
def Ctx.zone (c : Ctx) : Nat := c.fld 8 1 % 64
/-- VINPROG. -/
def Ctx.vinprog (c : Ctx) : Nat := c.fld 9 1
/-- RX_SCI. -/
def Ctx.rxSci (c : Ctx) : Nat := c.fld 0x10 8
/-- TX_SCI. -/
def Ctx.txSci (c : Ctx) : Nat := c.fld 0x18 8
/-- A signed 64-bit number from its two's complement. -/
def toSigned64 (n : Nat) : Int := if n < 2 ^ 63 then (n : Int) else (n : Int) - 2 ^ 64
/-- Two's complement of a number in 64 bits. -/
def ofSigned64 (i : Int) : Nat := (i % (2 ^ 64 : Int)).toNat
/-- LEVEL, signed. -/
def Ctx.level (c : Ctx) : Int := toSigned64 (c.fld 0x28 8)
/-- The verdict fields are refused (R165). -/
def verdBad (verd : Nat) : Bool :=
  let sp := natField verd 15 13
  decide (5 < sp) || decide (natField verd 12 6 % 2 ^ sp ≠ 0)

/-! ### SA records (Table 3.3) -/

/-- Record `r` of a context: 0–3 receive, 4 current and 5 next transmit. -/
def Ctx.saOf (c : Ctx) (r : Nat) : SaRec := nth {} c.sa r
/-- Write record `r`. -/
def Ctx.setRec (c : Ctx) (r : Nat) (x : SaRec) : Ctx := { c with sa := setNth c.sa r x }
/-- Whether a record is in service (R90). -/
def SaRec.inService (r : SaRec) : Bool := r.inUse && !r.expired
/-- The last PN of a suite (R88, R90). -/
def pnLast (suite : Nat) : Nat := if suite < 2 then 2 ^ 32 - 1 else 2 ^ 64 - 1
/-- The 64 bytes of a record (Table 3.3). -/
def SaRec.encode (r : SaRec) : List Byte :=
  leBytes 4 r.keyHandle ++
    leBytes 4 (b2n r.inUse + 2 * b2n r.expired + 4 * (r.suite % 4) + 16 * (r.an % 4) + 64 * b2n r.conf + 128 * b2n r.roll +
      256 * b2n r.rekeySent) ++
    leBytes 8 r.pn ++ leBytes 8 r.rekeyPn ++ leBytes 4 r.ssci ++ leBytes 2 r.window ++ leBytes 2 0 ++ padTo 12 r.salt ++
    List.replicate 20 0
/-- The record that 64 bytes spell. -/
def SaRec.decode (b : List Byte) : SaRec :=
  let f := ofLe (sliceBytes b 4 4)
  { keyHandle := ofLe (sliceBytes b 0 4), inUse := f.testBit 0, expired := f.testBit 1, suite := natField f 3 2,
    an := natField f 5 4, conf := f.testBit 6, roll := f.testBit 7, rekeySent := f.testBit 8, pn := ofLe (sliceBytes b 8 8),
    rekeyPn := ofLe (sliceBytes b 16 8), ssci := ofLe (sliceBytes b 24 4), window := ofLe (sliceBytes b 28 2),
    salt := padTo 12 (sliceBytes b 0x20 12) }

/-! ### Copies in HBM and in the caches -/

/-- The copy in HBM. -/
def State.ctxHbm (s : State) (i : Nat) : Ctx := cget {} s.cxs.hbm i
/-- The cached copy, if the context is cached. -/
def State.ctxCached (s : State) (i : Nat) : Option CachedCtx := oget s.cxs.cache i
/-- A context as the device sees it: the cached copy, else the copy in HBM. -/
def State.ctx (s : State) (i : Nat) : Ctx := match s.ctxCached i with | some x => x.c | none => s.ctxHbm i
/-- The cache of a context: its dram, or 64 for the cache of ounce 1 (R320). -/
def Ctx.cacheOf (c : Ctx) : Nat := if c.port < 1024 then c.port / 16 else 64
/-- The ounce of a cache. -/
def cacheOunce (d : Nat) : Nat := if d < 64 then d / 16 else 1
/-- Capacity of a cache (R320). -/
def cacheCap (d : Nat) : Nat := if d < 64 then 2048 else 256
/-- Write the cached copy. -/
def State.setCached (s : State) (i : Nat) (x : CachedCtx) : State := { s with cxs := { s.cxs with cache := oput x i s.cxs.cache } }
/-- Change the cached copy where the context is cached, and mark it changed (R322). -/
def State.modCached (s : State) (i : Nat) (f : CachedCtx → CachedCtx) : State :=
  { s with cxs := { s.cxs with cache := omod i (fun x => { f x with changed := true }) s.cxs.cache } }

/-- The PN that a write-back stores for a transmit record (R323). -/
def State.reservedPn (s : State) (o : Nat) (r : SaRec) : Nat := min (r.pn + 2 ^ s.fld (kvReg o 0x100) 4 0) (pnLast r.suite)

/-- Write a cached context back to HBM (R322, R323). -/
def State.writeBack (s : State) (i : Nat) : State :=
  match s.ctxCached i with
  | none => s
  | some x =>
    let o := cacheOunce x.c.cacheOf
    let r4 := s.reservedPn o (x.c.saOf 4)
    let r5 := s.reservedPn o (x.c.saOf 5)
    let stored := (x.c.setRec 4 { x.c.saOf 4 with pn := r4 }).setRec 5 { x.c.saOf 5 with pn := r5 }
    let s := s.kvBump o 5
    let s := { s with cxs := { s.cxs with hbm := cput {} stored i s.cxs.hbm } }
    s.setCached i { x with changed := false, limit := [r4, r5] }

/-- Evict a context: written back if changed, its key shadows zeroised (R321, R322). -/
def State.evictCtx (s : State) (i : Nat) : State :=
  match s.ctxCached i with
  | none => s
  | some x =>
    let s := if x.changed then s.writeBack i else s
    { s with cxs := { s.cxs with cache := odel i s.cxs.cache } }

/-- The contexts a cache holds. -/
def State.cacheHolds (s : State) (d : Nat) : List Nat := (s.cxs.cache.filter fun e => e.2.c.cacheOf = d).map (·.1)

/-- Resolve the keys of the records in service of a context for its ounce (R320): a key that cannot be resolved leaves
its shadow empty (R321). -/
def fillShadows (o : Nat) : List SaRec → State → List Shadow × State
  | [], s => ([], s)
  | r :: rs, s =>
    if r.inService then
      let (k, s) := s.resolve o r.keyHandle
      let (rest, s) := fillShadows o rs s
      ((match k with | .ok v => some v.key | .error _ => none) :: rest, s)
    else
      let (rest, s) := fillShadows o rs s
      (none :: rest, s)

/-- Fill the cache with a context (R320). A full cache first evicts one context; the spec names no order, so a free
value picks it (log entry 2). -/
def State.fillCtx (s : State) (i : Nat) : State :=
  match s.ctxCached i with
  | some _ => s
  | none =>
    let c := s.ctxHbm i
    let d := c.cacheOf
    let held := s.cacheHolds d
    let s :=
      if held.length < cacheCap d then s
      else
        let (w, s) := s.free
        s.evictCtx (nth 0 held (w.toNat % held.length))
    let (sh, s) := fillShadows (cacheOunce d) c.sa s
    s.setCached i { c := c, shadow := sh, limit := [(c.saOf 4).pn, (c.saOf 5).pn] }

/-- Reach a context for a frame or a command, counting the hit or the miss (R320, Table 9.10). -/
def State.reachCtx (s : State) (i : Nat) : State :=
  let o := cacheOunce (s.ctx i).cacheOf
  match s.ctxCached i with
  | some _ => s.kvBump o 3
  | none => (s.kvBump o 4).fillCtx i

/-- Change a context in its cache. -/
def State.modCtx (s : State) (i : Nat) (f : Ctx → Ctx) : State := (s.fillCtx i).modCached i fun x => { x with c := f x.c }

/-- Set the key shadow of a record. -/
def State.setShadow (s : State) (i r : Nat) (k : Shadow) : State :=
  s.modCached i fun x => { x with shadow := setNth x.shadow r k }

/-- The key shadow of a record of a context, when cached. -/
def State.shadow (s : State) (i r : Nat) : Shadow := match s.ctxCached i with | some x => nth none x.shadow r | none => none

/-! ### Bindings (R317) -/

/-- Numbers of every context that has a copy anywhere. -/
def State.ctxNumbers (s : State) : List Nat := tkeys s.cxs.cache ++ (tkeys s.cxs.hbm).filter fun i => (s.ctxCached i).isNone
/-- The valid contexts. -/
def State.validCtxs (s : State) : List Nat := s.ctxNumbers.filter fun i => (s.ctx i).valid
/-- The context bound to a port and an SCI (R317). -/
def State.binding (s : State) (port sci : Nat) : Option Nat :=
  s.validCtxs.find? fun i => decide ((s.ctx i).port = port) && decide ((s.ctx i).rxSci = sci)
/-- The transmit context of a port. -/
def State.txContext (s : State) (port : Nat) : Option Nat :=
  s.validCtxs.find? fun i => decide ((s.ctx i).port = port) && (s.ctx i).txsel
/-- Binding entries of a dram. -/
def State.bindings (s : State) (d : Nat) : Nat :=
  (s.validCtxs.filter fun i => decide ((s.ctx i).port < 1024) && decide ((s.ctx i).port / 16 = d)).length

/-! ### Stone records (Table 11.5) -/

/-- The stone record of a context; its numbers lie most significant byte first, as the twin lanes send them (R12). -/
def Ctx.stone (c : Ctx) : List Byte :=
  beBytes 4 (c.fld 4 4) ++ sliceBytes c.hdr 8 1 ++ leBytes 1 (b2n c.plynun + 2 * b2n c.vsvc) ++ [0, 0] ++ beBytes 4 (c.fld 12 4) ++
    List.replicate 4 0 ++ sliceBytes c.hdr 0x50 48
/-- A stone record applied to a context, valid or not; every other field stays (R383). -/
def Ctx.withStone (c : Ctx) (b : List Byte) : Ctx :=
  let f := ofLe (sliceBytes b 5 1)
  let c := { c with hdr := spliceBytes (spliceBytes (spliceBytes (spliceBytes c.hdr 4 (sliceBytes b 0 4).reverse) 8 (sliceBytes b 4 1)) 12
    (sliceBytes b 8 4).reverse) 0x50 (sliceBytes b 16 48) }
  (c.setCtl 1 (f.testBit 0)).setCtl 2 (f.testBit 1)
/-- The CONTEXT delta of a context (Table 11.6). -/
def State.ctxDelta (s : State) (i : Nat) : State := s.pushDelta 1 i (s.ctx i).stone

/-! ### Records leaving service (R306) -/

/-- A record of a context leaves service: its key's REFCNT falls by 1 and its shadow is zeroised. -/
def State.leaveService (s : State) (i r : Nat) : State :=
  let h := ((s.ctx i).saOf r).keyHandle
  (s.setRefcnt h (s.refcnt h - 1)).setShadow i r none

/-- Every copy of a zone's keys is zeroised: in the vaults and in the key shadows (R313). -/
def State.zeroiseZone (s : State) (z : Nat) : State :=
  let clear (x : CachedCtx) : CachedCtx :=
    { x with shadow := x.shadow.zipIdx.map fun p => if handleZone (x.c.saOf p.2).keyHandle = z then none else p.1 }
  { s with
    vlt := { s.vlt with resident := s.vlt.resident.filter (fun e => handleZone (e.1 % 2 ^ 32) != z),
                        fills := s.vlt.fills.map fun f => if handleZone f.2.1 = z then (f.1, f.2.1, false) else f }
    cxs := { s.cxs with cache := s.cxs.cache.map fun e => (e.1, clear e.2) } }

/-! ### CTXUPD (R324, R325) -/

/-- The block of Table 9.8 breaks the table; `named` tells that the slot was 0xFF and CONTEXT names the context. -/
def ctxupdBad (b : List Byte) (named : Bool) : Bool :=
  let op := ofLe (sliceBytes b 0 1)
  let len := ofLe (sliceBytes b 1 1)
  let off := ofLe (sliceBytes b 2 1)
  let cx := ofLe (sliceBytes b 4 4)
  let dst := ofLe (sliceBytes b 8 4)
  decide (op = 0 ∨ 3 < op ∨ ofLe (sliceBytes b 3 1) ≠ 0 ∨ ofLe (sliceBytes b 12 4) ≠ 0) ||
    (if named then decide (2 ^ 17 ≤ cx) else decide (cx ≠ 0)) ||
    (if op = 1 then decide (len = 0 ∨ 32 < len ∨ 48 < off + len ∨ dst ≠ 0)
     else if op = 2 then decide (len ≠ 8 ∨ off % 8 ≠ 0 ∨ 40 < off ∨ dst ≠ 0)
     else decide (len ≠ 0 ∨ off ≠ 0 ∨ dst % 16 ≠ 0))

/-- STORE or ADD of CTXUPD takes effect on context `i` (R324); the status. -/
def State.ctxUpdate (s : State) (i : Nat) (b : List Byte) : Nat × State :=
  let o := cacheOunce (s.ctx i).cacheOf
  let op := ofLe (sliceBytes b 0 1)
  let len := ofLe (sliceBytes b 1 1)
  let off := ofLe (sliceBytes b 2 1)
  let fail (code : Nat) (s : State) : Nat × State := (code, s.kvBump o 7)
  if s.isStandby then fail 0x60D s
  else if !(s.ctx i).valid then fail 0x407 s
  else
    let s := s.reachCtx i
    let up (c : Ctx) : Ctx := c.put 12 4 ((c.fld 12 4 + 1) % 2 ^ 32)
    if op = 1 then
      let s := s.modCtx i fun c => up { c with hdr := spliceBytes c.hdr (0x50 + off) (sliceBytes b 0x10 len) }
      (0, (s.ctxDelta i).kvBump o 6)
    else
      let sum := toSigned64 ((s.ctx i).fld (0x50 + off) 8) + toSigned64 (ofLe (sliceBytes b 0x10 8))
      if sum < -(2 ^ 63 : Int) ∨ (2 ^ 63 : Int) ≤ sum then fail 0x40B s
      else
        let s := s.modCtx i fun c => up (c.put (0x50 + off) 8 (ofSigned64 sum))
        (0, (s.ctxDelta i).kvBump o 6)

end Sys2Proof.Machine
end

