-- ==== Sys2Proof/Machine/CoreBase.lean ====
section
/-!
DEFINITION. The verdict cores as other blocks reach them: events, tickets and slots (chapters 7 and 8); wake events of
power domains (R510); and the mailbox channels (R461–R467), which cores reach through their store buffers.
-/
namespace Sys2Proof.Machine

/-- A core. -/
def State.core (s : State) (c : Nat) : Core := cget {} s.vc.cores c
/-- Write a core. -/
def State.setCore (s : State) (c : Nat) (x : Core) : State := { s with vc := { s.vc with cores := cput {} x c s.vc.cores } }
/-- Change a core. -/
def State.modCore (s : State) (c : Nat) (f : Core → Core) : State := s.setCore c (f (s.core c))
/-- The verdict that holds a message slot of a core. -/
def State.slotVerdictOf (s : State) (c k : Nat) : Option Nat := nth none (s.core c).slots k
/-- Ounce of a core (R5). -/
def coreOunce (c : Nat) : Nat := c / 32
/-- The VC page of an ounce. -/
def vcPage (o : Nat) : Nat := pageNo tVC o
/-- A register of the VC page of an ounce. -/
def vcReg (o off : Nat) : Nat := ra tVC o off
/-- Offset `off` of the per-core block of a core (R263). -/
def vcCore (c off : Nat) : Nat := ra tVC (c / 32) (0x100 + 0x40 * (c % 32) + off)
/-- Offset `off` of the VC_EXC block of a core (R295). -/
def vcExc (c off : Nat) : Nat := ra tVC (c / 32) (0x900 + 0x20 * (c % 32) + off)

/-- EVPEND bit `b` of a core is set (R259). -/
def State.setEvent (s : State) (c b : Nat) : State := s.modCore c fun x => { x with evpend := x.evpend ||| 2 ^ b }

/-- An outstanding ticket completes with a status (R251): EVPEND.TICKET is set. A ticket that is free stays so (R228). -/
def State.completeTicket (s : State) (c t status : Nat) : State :=
  let k := nth {} (s.core c).tickets t
  if k.taken && !k.done then
    (s.modCore c fun x => { x with tickets := setNth x.tickets t { k with done := true, waited := false, status := status % 65536 } }).setEvent
      c 16
  else s

/-! ### Wakes (R466, R510) -/

/-- A wake event for a domain: it waits for the power sequencer when PW_WAKE_EN allows it, and is held and counted
otherwise. PW_WAKE_LOG records it. -/
def State.wake (s : State) (d src : Nat) : State :=
  if s.domOn d then s
  else
    let s := s.wrn (ra tPW 0 0x150) (d + src * 256)
    if s.fld (ra tPW 0 (0x140 + 4 * (d / 32))) (d % 32) (d % 32) = 1 then
      { s with st := { s.st with wakes := s.st.wakes ++ [(d, src)] } }.rawSet (pageNo tPW 0) 2
    else { s with st := { s.st with held := s.st.held ++ [(d, src)] } }.bump (pageNo tPW 0) 1 0 1

/-! ### Mailboxes (R461–R467) -/

/-- A mailbox channel. -/
def State.mbox (s : State) (ch : Nat) : Mbox := cget {} s.hi.mbox ch
/-- Write a mailbox channel. -/
def State.setMbox (s : State) (ch : Nat) (x : Mbox) : State := { s with hi := { s.hi with mbox := cput {} x ch s.hi.mbox } }
/-- An endpoint as encoded in MB_CH_CFG (R470): core `c`, or host 256, or custody 512. -/
def endHost : Nat := 256
/-- Custody as an endpoint. -/
def endCust : Nat := 512
/-- MB_CH_CFG of a channel. -/
def mbCfg (ch : Nat) : Nat := ra tMB 0 (0x100 + 4 * ch)
/-- The sender of a channel (R470): SEND of 56–63 reads as custody. -/
def State.mbSend (s : State) (ch : Nat) : Nat := if 56 ≤ ch then endCust else s.fld (mbCfg ch) 9 0
/-- The receiver of a channel: RECV of 48–55 reads as custody. -/
def State.mbRecv (s : State) (ch : Nat) : Nat := if 48 ≤ ch ∧ ch < 56 then endCust else s.fld (mbCfg ch) 25 16
/-- Whether a channel is enabled. -/
def State.mbEn (s : State) (ch : Nat) : Bool := s.fld (mbCfg ch) 31 31 = 1
/-- The MB page. -/
def mbPage : Nat := pageNo tMB 0

/-- MB_STAT.CODE records a refusal. -/
def State.mbCode (s : State) (ch code : Nat) : State := s.setMbox ch { s.mbox ch with code := code }

/-- An endpoint is told that a channel changed (R465, R466). -/
def State.mbNotify (s : State) (ch e : Nat) : State :=
  if e = endHost then
    let s := if s.domOn 72 then s else s.wake 72 2
    s.sendVector (256 + ch)
  else if e < 128 then
    if s.domOn (64 + e / 32) then s.setEvent e 17
    else { s.wake (64 + e / 32) 1 with hi := { (s.wake (64 + e / 32) 1).hi with mbWait := (s.wake (64 + e / 32) 1).hi.mbWait ++ [e] } }
  else s

/-- Why a mailbox write fails (R463): 0 when it does not. `who` is the writing endpoint. -/
def State.mbRefusal (s : State) (ch who off : Nat) : Nat :=
  let x := s.mbox ch
  if !s.mbEn ch then 0xA03
  else if off < 0x80 ∨ off = 0x80 then (if who ≠ s.mbSend ch then 0xA02 else if x.full then 0xA01 else 0)
  else if off = 0x84 then (if who ≠ s.mbSend ch then 0xA02 else 0)
  else if off = 0x88 then (if who ≠ s.mbRecv ch ∨ (48 ≤ ch ∧ ch < 56) then 0xA02 else 0)
  else if off = 0x8C then (if who ≠ endCust ∨ ch < 48 ∨ 56 ≤ ch then 0xA02 else 0)
  else 0

/-- MB_DATA[k]: `n` bytes at offset `off` of the slot. -/
def State.mbData (s : State) (ch off : Nat) (bs : List Byte) : State :=
  let x := s.mbox ch
  let all := x.data.flatMap fun w => leBytes 8 w.toNat
  let all := spliceBytes all off bs
  s.setMbox ch { x with data := (List.range 16).map fun k => BitVec.ofNat 64 (ofLe (sliceBytes all (8 * k) 8)) }

/-- MB_SEND (Table 13.9): FULL with WORDS 1–16, the receiver notified. -/
def State.mbDoSend (s : State) (ch words : Nat) : State :=
  let x := s.mbox ch
  let s := s.setMbox ch { x with full := true, words := words, ackValid := if 48 ≤ ch ∧ ch < 56 then false else x.ackValid }
  let s := if 48 ≤ ch ∧ ch < 56 then { s with hi := { s.hi with custQ := s.hi.custQ.filter (· ≠ ch) ++ [ch] } } else s
  (s.bump mbPage 2 0 1).mbNotify ch (s.mbRecv ch)

/-- MB_TAKE (Table 13.9): EMPTY, the sender notified; a core sender has its TXDONE bit set (R465). -/
def State.mbDoTake (s : State) (ch : Nat) : State :=
  let x := s.mbox ch
  if x.full then
    let s := s.setMbox ch { x with full := false }
    let e := s.mbSend ch
    let s := if e < 128 then { s with hi := { s.hi with txdone := cput 0 (cget 0 s.hi.txdone e ||| 2 ^ ch) e s.hi.txdone } } else s
    s.mbNotify ch e
  else s.mbCode ch 0xA05

/-- A core's drained store to the mailbox windows (R462, R463); true when it fails as a bus error (R464). -/
def State.mbCoreStore (s : State) (c off : Nat) (bs : List Byte) : Bool × State :=
  if off = 0x4008 then
    (false, { s with hi := { s.hi with txdone := cput 0 (cget 0 s.hi.txdone c &&& (2 ^ 64 - 1 - ofLe bs)) c s.hi.txdone } })
  else if 0x4000 ≤ off then (false, s)
  else
    let ch := off / 0x100
    let r := off % 0x100
    if 0x90 ≤ r then (false, s)
    else
      let code := s.mbRefusal ch c r
      let words := ofLe bs % 32
      if code ≠ 0 then (true, (s.mbCode ch code).bump mbPage 1 0 1)
      else if r < 0x80 then (false, s.mbData ch r bs)
      else if r = 0x80 then
        if words = 0 ∨ 16 < words then (true, (s.mbCode ch 0xA04).bump mbPage 1 0 1) else (false, s.mbDoSend ch words)
      else if r = 0x84 then (false, if (ofLe bs).testBit 9 then s.setMbox ch { s.mbox ch with ovf := false } else s)
      else if r = 0x88 then (false, s.mbDoTake ch)
      else (false, s)

/-- A host write to a mailbox window is discarded (R464): a Completer Abort is recorded in the AER Uncorrectable Error
Status, the Header Log keeps the first request, and ERR_NONFATAL is sent unless the Mask or Severity register says
otherwise. -/
def State.completerAbort (s : State) (ch r : Nat) : State :=
  let first := s.fld (cfgSpace + 0x104) 15 15 = 0
  let s := s.setFld (cfgSpace + 0x104) 15 15 1
  let masked := s.fld (cfgSpace + 0x108) 15 15 = 1
  { s with hi := { s.hi with
      hdrLog := if first && s.hi.hdrLog.isNone && !masked then some (ch, r) else s.hi.hdrLog,
      nonfatal := if masked || s.fld (cfgSpace + 0x10C) 15 15 = 1 then s.hi.nonfatal else s.hi.nonfatal + 1 } }

/-- A host's write to the mailbox windows (R463, R464): a refused write is discarded and counted, and a write to a FULL
slot sets OVF. -/
def State.mbHostWrite (s : State) (ch r : Nat) (bs : List Byte) : State :=
  let x := s.mbox ch
  let words := ofLe bs % 32
  let code := s.mbRefusal ch endHost r
  let refused (s : State) : State := (s.bump mbPage 1 0 1).completerAbort ch r
  if 0x90 ≤ r then s
  else if r ≤ 0x80 ∧ x.ovf then (s.bump mbPage 0 0 1).completerAbort ch r
  else if code = 0xA01 then ((s.setMbox ch { x with ovf := true, code := code }).bump mbPage 0 0 1).completerAbort ch r
  else if code ≠ 0 then refused (s.mbCode ch code)
  else if r < 0x80 then s.mbData ch r bs
  else if r < 0x84 then (if words = 0 ∨ 16 < words then refused (s.mbCode ch 0xA04) else s.mbDoSend ch words)
  else if r < 0x88 then (if (ofLe bs).testBit 9 then s.setMbox ch { x with ovf := false } else s)
  else if r < 0x8C then s.mbDoTake ch
  else s

/-- A write of custody to the mailbox windows (R463): a refused one is answered with a status, kept in MB_STAT.CODE. -/
def State.mbCustWrite (s : State) (ch r : Nat) (bs : List Byte) : State :=
  let x := s.mbox ch
  let words := ofLe bs % 32
  let code := s.mbRefusal ch endCust r
  let refused (code : Nat) : State := (s.mbCode ch code).bump mbPage 1 0 1
  if 0x90 ≤ r then s
  else if code ≠ 0 then refused code
  else if r < 0x80 then s.mbData ch r bs
  else if r < 0x84 then (if words = 0 ∨ 16 < words then refused 0xA04 else s.mbDoSend ch words)
  else if r < 0x88 then (if (ofLe bs).testBit 9 then s.setMbox ch { x with ovf := false } else s)
  else if r < 0x8C then s.mbDoTake ch
  else if x.full then s.setMbox ch { x with ack := ofLe bs % 2 ^ 16, ackValid := true, full := false }
  else s.mbCode ch 0xA05

/-- What a load from the mailbox windows returns (R462): `n` bytes at offset `off`. -/
def State.mbLoad (s : State) (c off n : Nat) : List Byte :=
  let one (o : Nat) : Byte :=
    if o < 0x4000 then
      let x := s.mbox (o / 0x100)
      let r := o % 0x100
      let word (base v : Nat) : Byte := BitVec.ofNat 8 (v >>> (8 * (r - base)))
      if r < 0x80 then BitVec.ofNat 8 ((nth 0 x.data (r / 8)).toNat >>> (8 * (r % 8)))
      else if 0x84 ≤ r ∧ r < 0x88 then word 0x84 (x.words + 256 * b2n x.full + 512 * b2n x.ovf + 65536 * x.code)
      else if 0x8C ≤ r ∧ r < 0x90 then word 0x8C (x.ack + 2 ^ 31 * b2n x.ackValid)
      else 0
    else if o < 0x4008 then
      let pend := bitsOf ((List.range 64).map fun ch => (s.mbox ch).full && decide (s.mbRecv ch = c) && s.mbEn ch)
      BitVec.ofNat 8 (pend >>> (8 * (o - 0x4000)))
    else if o < 0x4010 then BitVec.ofNat 8 (cget 0 s.hi.txdone c >>> (8 * (o - 0x4008)))
    else 0
  (List.range n).map fun i => one (off + i)

end Sys2Proof.Machine
end

