-- ==== Sys2Proof/Machine/NorOps.lean ====
section
/-!
DEFINITION. Noriolys links: the frame format, tags and IVs, replay and NAK, shared by the twin link (link 0) and the ring
lanes (link 1 is CE, link 2 is CW) (R73–R75, R381, R414).
-/
namespace Sys2Proof.Machine

/-! ### The links -/

/-- A ring lane (0 CE, 1 CW). -/
def State.ringLane (s : State) (l : Nat) : RingLane := cget {} s.cr.lanes l
/-- Write a ring lane. -/
def State.setRingLane (s : State) (l : Nat) (x : RingLane) : State := { s with cr := { s.cr with lanes := cput {} x l s.cr.lanes } }
/-- A link: 0 the twin link, 1 CE, 2 CW. -/
def State.nlink (s : State) (i : Nat) : NLink := if i = 0 then s.jn.link else (s.ringLane (i - 1)).link
/-- Write a link. -/
def State.setNlink (s : State) (i : Nat) (x : NLink) : State :=
  if i = 0 then { s with jn := { s.jn with link := x } } else s.setRingLane (i - 1) { s.ringLane (i - 1) with link := x }
/-- Change a link. -/
def State.modNlink (s : State) (i : Nat) (f : NLink → NLink) : State := s.setNlink i (f (s.nlink i))
/-- The link of a lane 1024–1033. -/
def linkOfLane (n : Nat) : Nat := if n < 1032 then 0 else n - 1031

/-! ### Frames (R73, Table 2.11) -/

/-- The header of a frame. -/
def norHeader (type flags len seq : Nat) : List Byte := beBytes 1 type ++ beBytes 1 flags ++ beBytes 2 len ++ beBytes 4 seq
/-- A payload in whole words. -/
def norPad (b : List Byte) : List Byte := b ++ List.replicate ((8 - b.length % 8) % 8) 0
/-- The header of a retransmitted copy; a copy is checked as its original (R75, R381). -/
def retryHeader (h : List Byte) (on : Bool) : List Byte := spliceBytes h 1 (beBytes 1 (ofBe (sliceBytes h 1 1) % 2 + (if on then 2 else 0)))
/-- The sealed frame (R74): header, encrypted payload and 64-bit tag. -/
def norSeal (key iv h payload : List Byte) : List Byte :=
  let (ct, tag) := gcmSeal key iv h payload
  h ++ ct ++ tag.take 8
/-- The payload of a frame whose tag passes (R74): the tag is recomputed over the decrypted payload. -/
def norOpen (key iv h ct tag : List Byte) : Option (List Byte) :=
  let m := (gcmSeal key iv h ct).1
  if (gcmSeal key iv h m).2.take 8 = tag then some m else none

/-! ### Keys and IVs -/

/-- The ring key changeover is at hand (R430): armed, and from T − 50 µs on until it is committed. -/
def State.keyWindow (s : State) : Bool := s.cr.armed && decide (s.rd64 (ra tCR 0 0x118) ≤ s.clk.tim + 50000)
/-- The ring key in force for transmission (R430). -/
def State.ringKey (s : State) : List Byte := if s.cr.switched then s.cr.keyNext else s.cr.keyCur
/-- The keys a receiver tries on a link, in order (R381, R430). -/
def State.linkKeys (s : State) (i : Nat) : List (List Byte) :=
  (if i = 0 then [s.jn.link.key]
   else if s.keyWindow then [s.ringKey, if s.cr.switched then s.cr.keyCur else s.cr.keyNext] else [s.ringKey]).filter (· ≠ [])
/-- The IV of a frame of a link with sequence number `seq` (R381, R414): `tx` for one this device sends. -/
def State.linkIv (s : State) (i : Nat) (tx : Bool) (seq : Nat) : List Byte :=
  if i = 0 then
    let x := s.jn.link
    let up := decide (s.position % 2 = 0)
    beBytes 4 (if tx = up then 0 else 1) ++ beBytes 8 ((if tx then x.txHi else x.rxHi) * 2 ^ 32 + seq)
  else
    let r := s.ringLane (i - 1)
    let (p, lane, rsc) := if tx then (s.position, i - 1, r.rsc) else (r.npos, 2 - i, r.nrsc)
    beBytes 2 p ++ beBytes 1 lane ++ [0] ++ beBytes 8 (rsc * 2 ^ 32 + seq)

/-! ### Sending -/

/-- A link frame is queued: type, SEQ field and payload. -/
def State.linkSend (s : State) (i type seq : Nat) (payload : List Byte) : State :=
  s.modNlink i fun x => { x with ctl := x.ctl ++ [(type, seq, payload)] }
/-- A NAK carrying the expected sequence number, at most one per 200 ns (R74, R75). -/
def State.sendNak (s : State) (i : Nat) : State :=
  let x := s.nlink i
  let wait := match x.nakT with | none => false | some t => decide (s.clk.ns < t + 200)
  if wait then s else (s.setNlink i { x with nakT := some s.clk.ns }).linkSend i 0x10 x.rxSeq []
/-- The newest frames that fit in the 64 KiB replay buffer (R75), given newest first. -/
def keepReplay (room : Nat) : List (Nat × List Byte) → List (Nat × List Byte)
  | [] => []
  | e :: es => if e.2.length ≤ room then e :: keepReplay (room - e.2.length) es else []
/-- The device's own record of what left a link last (log entry 9). -/
def State.linkSent (s : State) (i : Nat) (b : List Byte) : State :=
  let n := if i = 0 then 1024 else 1031 + i
  { s with fab := { s.fab with lanes := cput {} { cget {} s.fab.lanes n with lastTx := { bytes := b, kind := 0 } } n s.fab.lanes } }
/-- A sequenced frame leaves a link: it takes the next SEQ and a place in the replay buffer. -/
def State.sendSequenced (s : State) (i type flags : Nat) (key payload : List Byte) : State :=
  let x := s.nlink i
  let p := norPad payload
  let b := norSeal key (s.linkIv i true x.txSeq) (norHeader type flags p.length x.txSeq) p
  let x := { x with txSeq := (x.txSeq + 1) % 2 ^ 32, txHi := x.txHi + (x.txSeq + 1) / 2 ^ 32,
                    replay := (keepReplay 65536 ((x.txSeq, b) :: x.replay.reverse)).reverse }
  (s.setNlink i x).linkSent i b

/-! ### Frames accepted -/

/-- The frame at the head of a link's accepted frames, if it has one of the types given. -/
def State.linkTake (s : State) (i : Nat) (types : List Nat) : Option ((Nat × Nat × Nat × List Byte) × State) :=
  match (s.nlink i).inbox with
  | e :: es => if types.contains e.1 then some (e, s.modNlink i fun x => { x with inbox := es }) else none
  | [] => none

/-- A link key is installed: the AES-256 key of usage '93' that a handle names (R381, R414), resolved in ounce 2; nothing
when the reference fails. -/
def State.linkKeyOf (s : State) (h : Nat) : List Byte × Nat × State :=
  match s.resolve 2 h with
  | (.error e, s) => ([], e, s)
  | (.ok k, s) =>
    if attrUsage k.attr = usage2 '9' '3' ∧ attrAlg k.attr = 0x41 ∧ k.key.length = 32 then (k.key, 0, s) else ([], 0x341, s)

end Sys2Proof.Machine
end

