-- ==== Sys2Proof/Machine/RingOps.lean ====
section
/-!
DEFINITION. Shared operations of the control ring (chapter 12): ring states, HELLO, sending and forwarding, presence, the time
master, leases and their mirror.
-/
namespace Sys2Proof.Machine

/-- A register of the CR page. -/
def crReg (off : Nat) : Nat := ra tCR 0 off
/-- The CR page. -/
def crPage : Nat := pageNo tCR 0
/-- A counter of the CR page: 0 MSG_TX, 1 MSG_RX, 2 DUP_DISCARD, 3 HOPS_EXPIRED, 4 UNKNOWN_TYPE, 5 RXQ_DROP, 6 SEG_DOWN, 7 SYNC_RX,
8 HOLDOVER, 9 LEASE_GRANT, 10 LEASE_APPLIED, 11 LEASE_LOST, 12 LEASE_REFUSED, 13 MIRROR_FAIL. -/
def State.crBump (s : State) (k : Nat) : State := s.bump crPage k 0 1
/-- CR_STATUS records a code. -/
def State.crStatus (s : State) (code : Nat) : State := s.status (crReg 0x10C) code
/-- CR_STAT.STATE (Table 12.2). -/
def State.ringState (s : State) : Nat := s.fld (crReg 0x104) 3 0
/-- A flag of CR_STAT. -/
def State.crStat (s : State) (b : Nat) : Bool := s.fld (crReg 0x104) b b = 1
/-- Write a flag of CR_STAT. -/
def State.setCrStat (s : State) (b : Nat) (x : Bool) : State := s.setFld (crReg 0x104) b b (b2n x)
/-- The device is on the ring: JOINING, JOINED or LEAVING. -/
def State.onRing (s : State) : Bool := decide (1 ≤ s.ringState ∧ s.ringState ≤ 3)
/-- The ring enters a state: BYP_HOLD is driven in JOINING, JOINED and LEAVING only (R409). -/
def State.setRingState (s : State) (v : Nat) : State :=
  let was := s.ringState
  let s := (s.setFld (crReg 0x104) 3 0 v).setCrStat 4 (decide (1 ≤ v ∧ v ≤ 3))
  if was = v then s else s.irq crPage 0
/-- Change a ring lane. -/
def State.modRingLane (s : State) (l : Nat) (f : RingLane → RingLane) : State := s.setRingLane l (f (s.ringLane l))
/-- A ring lane is UP with its HELLO done, as CR_STAT reports it. -/
def State.laneJoined (s : State) (l : Nat) : Bool := (s.ringLane l).hello
/-- Write CE_UP or CW_UP. -/
def State.setHello (s : State) (l : Nat) (x : Bool) : State := (s.modRingLane l fun r => { r with hello := x }).setCrStat (5 + l) x

/-! ### HELLO (R414–R416) -/

/-- The HELLO key of a ring key. -/
def helloKey (k : List Byte) : List Byte :=
  let label := [0x52, 0x49, 0x4E, 0x47, 0x2D, 0x48, 0x45, 0x4C, 0x4C, 0x4F]
  aesCmac k ([1] ++ label ++ [0, 1, 0]) ++ aesCmac k ([2] ++ label ++ [0, 1, 0])
/-- The CMAC of a HELLO. -/
def helloTag (k h payload : List Byte) : List Byte := (aesCmac (helloKey k) (h ++ payload)).take 8
/-- The payload of a HELLO of lane `l`. -/
def State.helloPayload (s : State) (l : Nat) : List Byte :=
  let r := s.ringLane l
  beBytes 2 s.position ++ [0, 0] ++ beBytes 4 r.rsc ++ beBytes 8 r.nonce ++ beBytes 8 r.echo ++ List.replicate 8 0
/-- A HELLO is queued; its content is taken when it leaves. -/
def State.sendHello (s : State) (l : Nat) : State := s.linkSend (l + 1) 0x20 0 []
/-- The device begins a HELLO exchange on lane `l`: RSC rises and a nonce is drawn from the DRBG of ounce 2; without it the
exchange waits (R414, R416, R601). Without a ring key there is nothing to begin. -/
def State.beginHello (s : State) (l : Nat) : State :=
  if s.ringKey = [] then s
  else
    let s := s.setHello l false
    match s.draw 2 1 with
    | (none, s) => s.modRingLane l fun r => { r with waiting := true }
    | (some b, s) =>
      let n := (s.cr.rscKept + 1) % 2 ^ 32
      let s := { s with cr := { s.cr with rscKept := n } }
      (s.modRingLane l fun r => { r with rsc := n, nonce := ofBe (b.take 8), waiting := false }).sendHello l

/-- A ring lane (0 CE, 1 CW) left UP (R77, R416). -/
def State.ringLaneDown (s : State) (l : Nat) : State :=
  (s.setHello l false).modRingLane l fun r => { (({}) : RingLane) with rsc := r.rsc, segDown := r.segDown }
/-- A ring lane came UP: the device sends HELLO (R416). -/
def State.ringLaneUp (s : State) (l : Nat) : State := (s.modRingLane l fun r => { r with segDown := false }).beginHello l

/-! ### Messages (R413, R417, R420) -/

/-- A type is urgent (Table 12.3). -/
def ringUrgent (type : Nat) : Bool := decide (0x23 ≤ type ∧ type ≤ 0x2A)
/-- A ring header (Table 12.4). -/
def ringHeader (dst src hops ring msgid : Nat) : List Byte :=
  beBytes 2 dst ++ beBytes 2 src ++ beBytes 2 hops ++ beBytes 1 ring ++ [0] ++ beBytes 8 msgid
/-- A frame waits for lane `l`; a lane whose HELLO is not done takes none. -/
def State.ringQueue (s : State) (l : Nat) (own : Bool) (type : Nat) (payload : List Byte) : State :=
  s.modRingLane l fun r =>
    if !r.hello then r
    else if ringUrgent type then { r with urgent := r.urgent ++ [(own, type, payload)] } else { r with bulk := r.bulk ++ [(own, type, payload)] }
/-- A DST field addresses the device (R418, step 3). -/
def State.ringMine (s : State) (dst : Nat) : Bool :=
  let mode := natField dst 11 10
  (decide (mode = 0) && decide (dst % 1024 = s.position)) || (decide (mode = 1) && decide (dst % 512 = s.position / 2)) || decide (mode = 2)
/-- The device sends a message once on each ring (R417). One addressed to its own position or stone is also handed to
itself, since its copies are removed when they return. -/
def State.ringSend (s : State) (type dst : Nat) (body : List Byte) : State :=
  let n := s.cr.msgid + 1
  let s := ({ s with cr := { s.cr with msgid := n } }).crBump 0
  let p (ring : Nat) : List Byte := norPad (ringHeader dst s.position 1023 ring n ++ body)
  let s := (s.ringQueue 0 true type (p 0)).ringQueue 1 true type (p 1)
  if s.ringMine dst && natField dst 11 10 != 2 then { s with cr := { s.cr with inbox := s.cr.inbox ++ [(type, 2, p 0)] } } else s
/-- DST of a position, of a stone, and of everyone. -/
def dstPos (p : Nat) : Nat := p % 1024
/-- A stone. -/
def dstStone (t : Nat) : Nat := 0x400 + t % 512
/-- Broadcast. -/
def dstAll : Nat := 0x800
/-- The position of the partner (R407). -/
def State.partner (s : State) : Nat := if s.position % 2 = 0 then s.position + 1 else s.position - 1
/-- The message at the head of those delivered, if it has one of the types given: type, lane and payload. -/
def State.ringTake (s : State) (types : List Nat) : Option ((Nat × Nat × List Byte) × State) :=
  match s.cr.inbox with
  | e :: es => if types.contains e.1 then some (e, { s with cr := { s.cr with inbox := es } }) else none
  | [] => none
/-- SRC of a payload. -/
def ringSrc (p : List Byte) : Nat := ofBe (sliceBytes p 2 2) % 1024
/-- Body of a payload. -/
def ringBody (p : List Byte) : List Byte := p.drop 16

/-! ### Presence, master and joining (R412, R421–R424) -/

/-- TIME_VALID as presence and candidacy see it: cleared while timestamps are invalid (R423). -/
def State.timeShown (s : State) : Bool := s.crStat 7 && !s.clk.held
/-- The PRESENCE body (R421). -/
def State.presenceBody (s : State) : List Byte :=
  let fl := b2n s.lockInForce + 2 * b2n s.timeShown + 4 * s.fld (crReg 0x100) 23 23 + 8 * b2n (s.laneJoined 0) + 16 * b2n (s.laneJoined 1) +
    32 * b2n (s.crStat 20) + 64 * b2n (decide (s.ringState = 3))
  beBytes 16 Config.uid.toNat ++ beBytes 4 s.roleGen ++ beBytes 1 s.twState ++ beBytes 1 fl ++ beBytes 1 (s.fld (crReg 0x100) 27 24) ++
    List.replicate 9 0
/-- A PRESENCE is broadcast. -/
def State.sendPresence (s : State) : State := s.ringSend 0x23 dstAll s.presenceBody
/-- The ring state becomes JOINED once its conditions hold (Table 12.2). -/
def State.tryJoined (s : State) : State :=
  if s.ringState = 1 ∧ (s.laneJoined 0 ∨ s.laneJoined 1) ∧ (s.cr.gotSync ∨ s.crStat 9) then (s.setRingState 2).sendPresence else s
/-- The best candidate for time master (R423): its rank TM_PRIO * 1,024 + position. -/
def State.bestMaster (s : State) : Option Nat :=
  let others := (s.cr.present.filter fun e => e.1 != s.position && bitAt (BitVec.ofNat 8 e.2.flags) 2 && bitAt (BitVec.ofNat 8 e.2.flags) 1).map
    fun e => e.2.prio * 1024 + e.1
  let own := if s.ringState = 2 ∧ s.fld (crReg 0x100) 23 23 = 1 ∧ s.timeShown then [s.fld (crReg 0x100) 27 24 * 1024 + s.position] else []
  (own ++ others).min?
/-- The time master is a position of a rank (R424). -/
def State.setMaster (s : State) (rank : Nat) : State :=
  let p := rank % 1024
  let own := decide (p = s.position)
  let changed := s.fld (crReg 0x104) 19 10 ≠ p ∨ s.crStat 9 ≠ own
  let s := ((s.setFld (crReg 0x104) 19 10 p).setCrStat 9 own).setFld (crReg 0x124) 23 10 (p + 1024 * (rank / 1024))
  if changed then s.irq crPage 3 else s
/-- The best candidate becomes master. -/
def State.electMaster (s : State) : State :=
  if s.ringState = 2 then
    match s.bestMaster with
    | some r => s.setMaster r
    | none => if s.crStat 9 then (s.setCrStat 9 false).irq crPage 3 else s
  else s

/-! ### Probes (R391, R432) -/

/-- The role a device reports: 0 none, 1 active, 2 standby (R397, Table 11.10). -/
def State.twRole (s : State) : Nat :=
  if s.jn.cutOff then 0 else if 1 ≤ s.twState ∧ s.twState ≤ 3 then 1 else if 8 ≤ s.twState then 2 else 0
/-- The body of a probe answer. -/
def State.probeBody (s : State) : List Byte :=
  beBytes 1 s.twRole ++ beBytes 1 s.twState ++ beBytes 1 (b2n s.lockInForce) ++ [0] ++ beBytes 4 s.roleGen ++
    beBytes 4 (s.rd (twReg 0x114)).toNat ++ List.replicate 4 0
/-- The twin probe of a declaration. -/
def State.sendProbe (s : State) : State := s.ringSend 0x25 (dstPos s.partner) []

/-! ### Shared counters (R433) -/

/-- The HBM address of a counter. -/
def State.ctrAddr (s : State) (i : Nat) : Nat := spHbm + s.rd64 (crReg 0x148) + 32 * i
/-- CR_CTR_COUNT. -/
def State.ctrCount (s : State) : Nat := s.fld (crReg 0x144) 20 0
/-- VALUE of a counter, signed. -/
def State.ctrValue (s : State) (i : Nat) : Int :=
  let n := s.leAt (s.ctrAddr i) 8
  if n < 2 ^ 63 then (n : Int) else (n : Int) - 2 ^ 64
/-- VERSION of a counter. -/
def State.ctrVersion (s : State) (i : Nat) : Nat := s.leAt (s.ctrAddr i + 8) 8
/-- KNOWN of a counter. -/
def State.ctrKnown (s : State) (i : Nat) : Bool := s.leAt (s.ctrAddr i + 16) 1 % 2 = 1
/-- Write a counter. -/
def State.setCounter (s : State) (i value version : Nat) (known : Bool) : State :=
  s.setBytes (s.ctrAddr i) (leBytes 8 value ++ leBytes 8 version ++ leBytes 1 (b2n known) ++ List.replicate 15 0)
/-- CTR_UNKNOWN follows the counters (Table 12.12). -/
def State.ctrUnknown (s : State) : State :=
  s.setCrStat 21 ((List.range s.ctrCount).any fun i => !s.ctrKnown i)
/-- Every counter becomes not KNOWN (R443). -/
def State.forgetCounters (s : State) : State :=
  ((List.range s.ctrCount).foldl (fun s i => s.setLe (s.ctrAddr i + 16) 1 0) s).setCrStat 21 true

/-! ### Leases at the home (R434–R441) -/

/-- A lease result in the form of a RING_LEASE_RSP body (Table 12.7). -/
def leaseBody (status tag value version lease expiry : Nat) : List Byte :=
  beBytes 2 status ++ [0, 0] ++ beBytes 4 tag ++ beBytes 8 value ++ beBytes 8 version ++ beBytes 8 lease ++ beBytes 8 expiry
/-- The home answers a request and keeps the answer (R433, R434). -/
def State.leaseAnswer (s : State) (a : LeaseAns) : State :=
  ({ s with cr := { s.cr with answers := s.cr.answers.filter (fun (x : LeaseAns) => !(x.req = a.req && x.tag = a.tag)) ++ [{ a with at_ := s.clk.ns }] } }).ringSend
    0x28 (dstPos a.req) a.body
/-- A lease entry. -/
def State.lease (s : State) (e : Nat) : Lease := cget {} s.cr.leases e
/-- Write a lease entry. -/
def State.setLease (s : State) (e : Nat) (x : Lease) : State := { s with cr := { s.cr with leases := cput {} x e s.cr.leases } }
/-- A grant or write takes effect and is answered (R436, R437). -/
def State.leaseApply (s : State) (m : LeaseMirror) : State :=
  let s := s.setLease m.entry m.lease
  let s := if m.write then (s.setCounter m.idx m.value m.version true).crBump 10 else s.crBump 9
  s.leaseAnswer m.ans
/-- The mirror body (R440): MSEQ, counter index, new VALUE and VERSION, the lease entry, the result entry; its layout is the
model's (log entry 24). -/
def mirrorBody (m : LeaseMirror) : List Byte :=
  beBytes 8 m.mseq ++ beBytes 4 m.idx ++ beBytes 4 (b2n m.write) ++ beBytes 8 m.value ++ beBytes 8 m.version ++ beBytes 2 m.entry ++
    beBytes 2 (b2n m.lease.used) ++ beBytes 2 m.lease.req ++ beBytes 2 m.lease.gen ++ beBytes 4 m.lease.idx ++ beBytes 4 m.lease.tag ++ beBytes 8 m.lease.version ++
    beBytes 8 m.lease.expiry ++ beBytes 2 m.ans.req ++ [0, 0] ++ beBytes 4 m.ans.tag ++ m.ans.body
/-- The grants and writes that a mirror body spells. -/
def mirrorOf (b : List Byte) : LeaseMirror :=
  let f (o n : Nat) : Nat := ofBe (sliceBytes b o n)
  { mseq := f 0 8, idx := f 8 4, write := f 12 4 = 1, value := f 16 8, version := f 24 8, entry := f 32 2,
    lease := { used := f 34 2 = 1, req := f 36 2, gen := f 38 2, idx := f 40 4, tag := f 44 4, version := f 48 8, expiry := f 56 8 },
    ans := { req := f 64 2, tag := f 68 4, body := sliceBytes b 72 40 } }
/-- The home applies and answers a grant or write, through its partner while the counters are mirrored or being synchronised
(R440, R442). -/
def State.leaseCommit (s : State) (m : LeaseMirror) : State :=
  if (s.crStat 20 || s.cr.syncing) && s.hasStandby then
    let m := { m with mseq := s.cr.mseqTx + 1 }
    ({ s with cr := { s.cr with mseqTx := m.mseq, mirrors := s.cr.mirrors ++ [m] } }).ringSend 0x29 (dstPos s.partner) (mirrorBody m)
  else s.leaseApply m
/-- The answer 0x0725 to a grant or write that could not be mirrored. -/
def State.mirrorFailed (s : State) (m : LeaseMirror) : State :=
  ((s.crBump 12)).leaseAnswer { m.ans with body := leaseBody 0x725 m.ans.tag 0 0 0 0 }
/-- The desync was acknowledged, or the standby declared lost: what waited for it is answered 0x0725 (R441). -/
def State.desyncDone (s : State) : State :=
  let w := s.cr.mirrors.filter (·.desync)
  w.foldl (fun s m => s.mirrorFailed m) { s with cr := { s.cr with mirrors := s.cr.mirrors.filter fun m => !m.desync } }
/-- The standby is lost: counters are no longer mirrored (R440, R441). -/
def State.ringStandbyLost (s : State) : State :=
  (({ s with cr := { s.cr with syncing := false } }).setCrStat 20 false).desyncDone
/-- Counter sync starts from the first counter (R442). -/
def State.startCtrSync (s : State) : State :=
  { s with cr := { s.cr with syncing := true, syncPhase := 0, syncPos := 0, syncCount := 0 } }

/-! ### Leases at the requester (R435, R438) -/

/-- The 40-byte result at RADDR (Table 12.7), and the end of the ticket. -/
def State.leaseResult (s : State) (q : LeaseReq) (status value version lease expiry : Nat) : State :=
  (s.setBytes (spData q.core + q.raddr) (leBytes 2 status ++ List.replicate 6 0 ++ leBytes 8 value ++ leBytes 8 version ++ leBytes 8 lease ++
    leBytes 8 expiry)).completeTicket q.core q.tkt status
/-- A copy of a request goes to its home stone (Table 12.6). -/
def State.leaseSendReq (s : State) (q : LeaseReq) : State :=
  s.ringSend 0x27 (dstStone (natField q.ctr 28 20)) (beBytes 1 q.wop ++ [0, 0, 0] ++ beBytes 4 q.ctr ++ beBytes 4 q.tag ++ beBytes 4 0 ++
    beBytes 8 q.lease ++ beBytes 8 q.value)
/-- A lease request of a core is issued (R435): the block of Table 12.5. A device that is not JOINED completes it with
0x0701. -/
def State.leaseIssue (s : State) (core tkt : Nat) (block : List Byte) : State :=
  let f (o n : Nat) : Nat := ofLe (sliceBytes block o n)
  let tag := s.cr.nextTag
  let lease := f 0x10 8
  let guard := s.fld (crReg 0x140) 15 0
  let q : LeaseReq := { tag := tag, core := core, tkt := tkt, raddr := f 8 4 % 2 ^ 18, wop := f 0 1, ctr := f 4 4, lease := lease, value := f 0x18 8,
                        first := s.clk.ns, deadline := if f 0 1 = 0 then s.clk.tim + 4000000 else cget 0 s.cr.expiry lease + 1000 * guard }
  if s.ringState ≠ 2 then s.leaseResult q 0x701 0 0 0 0
  else
    let s : State := { s with cr := { s.cr with nextTag := (tag + 1) % 2 ^ 32, reqs := oput q tag s.cr.reqs } }
    if s.clk.tim < q.deadline then s.leaseSendReq q else s

/-! ### Cold and warm starts, loss of domain 73 (Table 12.2, R409, R439) -/

/-- The ring goes to OUT; its queues and exchanges are gone. -/
def State.ringOut (s : State) : State :=
  let s := (s.ringLaneDown 0).ringLaneDown 1
  ({ s with cr := { s.cr with inbox := [], gotSync := false } }).setRingState 0

/-- A ring key register was written: the key it names is installed (R414, R430). -/
def State.installRingKey (s : State) (next : Bool) : State :=
  let h := (s.rd (crReg (if next then 0x114 else 0x110))).toNat
  let (k, code, s) := if h = 0 then (([] : List Byte), 0, s) else s.linkKeyOf h
  let s := if code = 0 then s else s.crStatus code
  if next then { s with cr := { s.cr with keyNext := k } } else { s with cr := { s.cr with keyCur := k } }

end Sys2Proof.Machine
end

