-- ==== Sys2Proof/Machine/RngCmds.lean ====
section
/-!
DEFINITION. The random number service (chapter 18): noise sources and their health tests, seed blocks, the DRBG
instances, test patterns and the raw capture.
-/
namespace Sys2Proof.Machine

/-- A register of CD instance 6. -/
def rnReg (off : Nat) : Nat := ra tCD 6 off
/-- CD instance 6. -/
def rnPage : Nat := pageNo tCD 6
/-- RNG_STATUS records a code. -/
def State.rnStatus (s : State) (code : Nat) : State := s.status (rnReg 0x10C) code
/-- A counter of the page: 0 and 1 the failures of a source, 2 BLOCKS, 3 BLOCKS_DISCARDED, 4 RESEEDS, 5 INSTANTIATES. -/
def State.rnBump (s : State) (k u : Nat) : State := s.bump rnPage k u 1
/-- A noise source. -/
def State.noise (s : State) (k : Nat) : Noise := cget {} s.rng.src k
/-- Write a noise source. -/
def State.setNoise (s : State) (k : Nat) (x : Noise) : State := { s with rng := { s.rng with src := cput {} x k s.rng.src } }
/-- TP_EN of a source. -/
def State.tpOn (s : State) (k : Nat) : Bool := s.fld (rnReg 0x180) k k = 1
/-- The sources that feed the block being built: enabled at its start and not captured (R585, R586, R600). -/
def State.feeding (s : State) : List Nat := (List.range 4).filter fun k => s.rng.mask.testBit k && !(s.rng.tap && decide (s.rng.tapSrc = k))

/-! ### Health tests (R588–R591) -/

/-- The repetition count test over one sample: whether a failure is counted, and the source after it. -/
def Noise.rct (x : Noise) (b : Bool) : Bool × Noise :=
  let n := if x.runLen ≠ 0 ∧ x.runVal = b then x.runLen + 1 else 1
  if n = 35 then (true, { x with runVal := b, runLen := 0 }) else (false, { x with runVal := b, runLen := n })
/-- The adaptive proportion test over one sample. -/
def Noise.apt (x : Noise) (b : Bool) : Bool × Noise :=
  let first := if x.winPos = 0 then b else x.winFirst
  let cnt := if x.winPos = 0 then 1 else if b = first then x.winCnt + 1 else x.winCnt
  let fail := decide (cnt = 750) && (decide (x.winPos = 0) || decide (b = first))
  (fail, { x with winFirst := first, winCnt := cnt, winPos := (x.winPos + 1) % 1024 })
/-- The start-up test of a source goes on by one sample (R591). -/
def State.startTest (s : State) (k : Nat) (fail : Bool) : State :=
  let x := s.noise k
  if x.startLeft = 0 then s
  else
    let bad := x.startFail || fail
    let s := s.setNoise k { x with startLeft := x.startLeft - 1, startFail := bad }
    if x.startLeft = 1 then
      let s := s.setFld (rnReg 0x104) (4 + k) (4 + k) (b2n bad)
      if bad then s.irq rnPage 1 else s
    else s
/-- A start-up test over `n` fresh samples of every source begins (Table 18.1). -/
def State.startTests (s : State) (n : Nat) : State :=
  (List.range 4).foldl (fun s k => s.setNoise k { s.noise k with startLeft := n, startFail := false }) s
/-- Failures of a source in the window of R590: HEALTH_RATE and HOT once per window. -/
def State.rateCheck (s : State) (k n : Nat) : State :=
  let x := s.noise k
  let x := { x with winFails := x.winFails + n }
  if !x.reported && decide ((s.rd (rnReg 0x110)).toNat < x.winFails) then
    ((s.setNoise k { x with reported := true }).setFld (rnReg 0x104) k k 1).irq rnPage 0
  else s.setNoise k x

/-- One step of the LFSR of a test pattern (R599), taps 64, 63, 61 and 60. -/
def lfsrStep (r : Nat) : Nat :=
  let b := (b2n (r.testBit 63) + b2n (r.testBit 62) + b2n (r.testBit 60) + b2n (r.testBit 59)) % 2
  (r * 2 + b) % 2 ^ 64

/-- A source yields a raw sample, replaced by the pattern where TP_EN says so: the tests run on it, and it goes to the
capture, to the conditioner, or nowhere. -/
def execNoiseSourceSample (k : Nat) (raw : Bool) (s : State) : Outcome :=
  done (
    if 4 ≤ k ∨ !s.domOn 76 then s
    else
      let x := s.noise k
      let pat := s.tpOn k
      let b := if pat then x.lfsr.testBit 63 else raw
      let x := if pat then { x with lfsr := lfsrStep x.lfsr } else x
      let (f1, x) := x.rct b
      let (f2, x) := x.apt b
      let feeds := s.feeding.contains k && decide (x.bits.length < 3072)
      let x := if feeds then { x with bits := x.bits ++ [b], taint := x.taint || pat } else x
      let s := s.setNoise k x
      let s := if s.rng.tap && decide (s.rng.tapSrc = k) && decide (s.rng.tapBits.length < 8192) then
        { s with rng := { s.rng with tapBits := s.rng.tapBits ++ [b] } } else s
      let s := if f1 then s.rnBump 0 k else s
      let s := if f2 then s.rnBump 1 k else s
      let s := if f1 || f2 then s.rateCheck k (b2n f1 + b2n f2) else s
      s.startTest k (f1 || f2))

/-- A window of 1 s ends: HOT clears for a source whose sum stayed at or below LIMIT. -/
def execHealthRateWindow (s : State) : Outcome :=
  done ((List.range 4).foldl (fun s k =>
    let x := s.noise k
    let s := if x.winFails ≤ (s.rd (rnReg 0x110)).toNat then s.setFld (rnReg 0x104) k k 0 else s
    s.setNoise k { x with winFails := 0, reported := false }) s)

/-! ### Seed blocks (R585–R587) -/

/-- Raw bits as bytes, the first sample in bit 7 (Table 18.2). -/
def packBits (b : List Bool) : List Byte :=
  (List.range ((b.length + 7) / 8)).map fun i => BitVec.ofNat 8 (bitsOf ((List.range 8).map fun j => nth false b (8 * i + 7 - j)))

/-- The 384 input bytes of a block: bytes of the sources in rotation. -/
def interleave (n : Nat) (parts : List (List Byte)) : List Byte := (List.range n).flatMap fun i => parts.map fun p => nth 0 p i

/-- The conditioner has the raw bits of a block: SHA-384 over its input enters the pool, or is discarded when the pool is
full; the next block takes its bits under the mask as it stands now. -/
def execSeedBlockComplete (s : State) : Outcome :=
  done (
    let ks := s.feeding
    let share := if ks.length = 0 then 0 else 3072 / ks.length
    if !s.domOn 76 || decide (ks.length < 2) || ks.any (fun k => decide ((s.noise k).bits.length < share)) then s
    else
      let block := sha384 (interleave (share / 8) (ks.map fun k => packBits ((s.noise k).bits.take share)))
      let taint := ks.any fun k => (s.noise k).taint
      let s := (List.range 4).foldl (fun s k =>
        let x := s.noise k
        let rest := if ks.contains k then x.bits.drop share else []
        s.setNoise k { x with bits := rest, taint := x.taint && decide (rest ≠ []) }) s
      let s := s.rnBump 2 0
      let s := if s.rng.pool.length < 16 then { s with rng := { s.rng with pool := s.rng.pool ++ [(block, taint)] } } else s.rnBump 3 0
      { s with rng := { s.rng with mask := s.fld (rnReg 0x100) 3 0 } })

/-! ### Instances (R593–R597) -/

/-- The domain of an instance. -/
def drbgDomain (i : Nat) : Nat := if i < 4 then 68 + i else 77
/-- An instance asks for a seed block (R587); POOL_EMPTY when there is none. -/
def State.seedRequest (s : State) (i : Nat) : State :=
  if s.rng.want.contains i then s
  else
    let s := { s with rng := { s.rng with want := s.rng.want ++ [i] } }
    if s.rng.pool = [] then s.irq rnPage 4 else s
/-- The instance that is served next: the custody DRBG first. -/
def State.seedNext (s : State) : Option Nat := if s.rng.want.contains 4 then some 4 else s.rng.want.head?
/-- An instance is to be instantiated (R594). -/
def State.drbgInstantiateDue (s : State) (i : Nat) : State :=
  (s.setDrbg i { s.drbg i with instWait := true, failedOnce := false }).seedRequest i
/-- The domain of an instance powers down: its whole state is zeroised (R597). -/
def State.drbgOff (s : State) (i : Nat) : State :=
  let s := s.setDrbg i {}
  let s := { s with rng := { s.rng with want := s.rng.want.filter (· != i) } }
  if s.rng.busy = some i then ({ s with rng := { s.rng with busy := none } }.rnStatus 0x842).setFld (rnReg 0x10C) 31 31 0 else s

/-- The personalisation string in force, 48 bytes. -/
def State.persString (s : State) : List Byte :=
  padTo 48 (((List.range 12).flatMap fun k => leBytes 4 (s.rd (rnReg (0x140 + 4 * k))).toNat).take (s.fld (rnReg 0x170) 5 0))

/-- The command of an instance ends with a status. -/
def State.rnEnd (s : State) (i code : Nat) : State :=
  if s.rng.busy = some i then ({ s with rng := { s.rng with busy := none } }.rnStatus code).setFld (rnReg 0x10C) 31 31 0 else s

/-- A HELLO that waited for the DRBG of ounce 2 begins (R601). -/
def State.waitingHellos (s : State) : State :=
  [0, 1].foldl (fun s l => if (s.ringLane l).waiting then s.beginHello l else s) s

/-- An instance refills its output buffer with a generate call of 256 blocks. -/
def execDrbgGenerate (i : Nat) (s : State) : Outcome :=
  done (
    let d := s.drbg i
    if i < 4 ∧ d.ready ∧ d.buf = [] ∧ d.gen < drbgStop ∧ s.domOn (drbgDomain i) then s.setDrbg i (d.fill 4096) else s)

/-- A draw takes one block of 16 bytes; it waits while there is none to take. -/
def execDrbgDraw (i : Nat) (s : State) : Outcome := done (if i < 5 then (s.draw i 1).2 else s)

/-- 1 s or 2^20 calls since its last seeding: an instance asks for a seed block (R596). -/
def execDrbgReseedDue (i : Nat) (s : State) : Outcome :=
  done (
    let d := s.drbg i
    if i < 5 ∧ d.ready then (s.setDrbg i { d with reseedDue := true }).seedRequest i else s)

/-- A seed block reaches the instance that is next: it reseeds, or instantiates after its known-answer test, `fault`
telling that the test or the instantiation failed (R594, R596). -/
def execDrbgReseedDone (fault : Bool) (s : State) : Outcome :=
  done (
    match s.seedNext, s.rng.pool with
    | some i, (block, taint) :: rest =>
      let d := s.drbg i
      let s := { s with rng := { s.rng with pool := rest, want := s.rng.want.filter (· != i) } }
      if d.instWait then
        if fault then
          if d.failedOnce then
            (((s.setDrbg i {}).irq rnPage 2).errInfo rnPage i 0x844).rnEnd i 0x844
          else (s.setDrbg i { d with failedOnce := true }).seedRequest i
        else
          let kv := drbgInstantiate block s.persString
          let s := (s.setDrbg i { ready := true, k := kv.key, v := kv.v, taint := taint }).rnBump 5 0
          let s := s.rnEnd i 0
          if i = 2 then s.waitingHellos else s
      else
        let kv := drbgReseed ⟨d.k, d.v⟩ block
        ((s.setDrbg i { d with k := kv.key, v := kv.v, gen := 0, buf := [], reseedDue := false, taint := d.taint || taint }).rnBump 4 0).rnEnd i 0
    | _, _ => s)

/-! ### Commands (R598, R600) -/

/-- A RESEED or REINSTANTIATE that is refused (R598). -/
def State.rnRefusal (s : State) (i : Nat) : Nat :=
  if s.rng.busy.isSome then 0x845 else if 5 ≤ i then 0x840 else if !s.domOn (drbgDomain i) then 0x842 else 0
/-- A command on an instance is taken. -/
def State.rnBusy (s : State) (i : Nat) : State := ({ s with rng := { s.rng with busy := some i } }).setFld (rnReg 0x10C) 31 31 1

/-- RNG_CMD.RESEED; an instance that failed its instantiation is not available (Table 18.5). -/
def execReseed (i : Nat) (s : State) : Outcome :=
  done ((
    let c := s.rnRefusal i
    if c ≠ 0 then s.rnStatus c
    else if !(s.drbg i).ready then s.rnStatus 0x842
    else ((s.rnBusy i).setDrbg i { s.drbg i with reseedDue := true }).seedRequest i).took rnPage)

/-- RNG_CMD.REINSTANTIATE. -/
def execReinstantiate (i : Nat) (s : State) : Outcome :=
  done ((
    let c := s.rnRefusal i
    if c ≠ 0 then s.rnStatus c else (s.rnBusy i).drbgInstantiateDue i).took rnPage)

/-- RNG_CMD.TAP_START. -/
def execTapStart (k : Nat) (s : State) : Outcome :=
  done ((
    if s.silicon ≠ 0 ∧ s.silicon ≠ 1 then s.rnStatus 0x841
    else if ((List.range 4).filter fun i => i ≠ k ∧ s.fld (rnReg 0x100) i i = 1).length < 2 then s.rnStatus 0x840
    else if s.rng.tap then s.rnStatus 0x845
    else { s with rng := { s.rng with tap := true, tapSrc := k % 4, tapBits := [] } }.rnStatus 0).took rnPage)

/-- RNG_CMD.TAP_STOP ends a capture early. -/
def execTapStop (s : State) : Outcome := done (({ s with rng := { s.rng with tap := false } }.rnStatus 0).took rnPage)

/-- The capture holds 1,024 bytes and stops. -/
def execTapFull (s : State) : Outcome :=
  done (if s.rng.tap && decide (8192 ≤ s.rng.tapBits.length) then { s with rng := { s.rng with tap := false } }.irq rnPage 3 else s)

/-! ### Registers (R586, R599) -/

/-- The counters of the page clear. -/
def State.rnClear (s : State) : State :=
  let s := (List.range 4).foldl (fun s u => (s.clrCtr rnPage 0 u).clrCtr rnPage 1 u) s
  [2, 3, 4, 5].foldl (fun s k => s.clrCtr rnPage k 0) s

/-- A write to RNG_CFG: CLR_CNT acts; a mask of fewer than two sources is refused; SRC_MASK is RWL. -/
def execRngCfgWrite (v : Reg) (s : State) : Outcome :=
  done (
    let clear (s : State) : State := if bitAt v 31 then s.rnClear else s
    if s.lockInForce then (clear s).lockDrop rnPage
    else if ((List.range 4).filter fun k => bitAt v k).length < 2 then s.rnStatus 0x840
    else ((clear s).wr (rnReg 0x100) (v &&& 0xF)).took rnPage)

/-- A write to RNG_TP_CTL: outside MAKER a write that sets a bit is ignored; a source that begins a pattern takes its seed. -/
def execRngTpCtlWrite (v : Reg) (s : State) : Outcome :=
  done (s.rwlWrite rnPage fun s =>
    if s.silicon ≠ 0 ∧ getField v 3 0 ≠ 0 then s.rnStatus 0x841
    else
      let seed := let n := s.rd64 (rnReg 0x188); if n = 0 then 1 else n
      let s := (List.range 4).foldl (fun s k =>
        if bitAt v k && !s.tpOn k then s.setNoise k { s.noise k with lfsr := seed } else s) s
      (s.wr (rnReg 0x180) (v &&& 0xF)).took rnPage)

end Sys2Proof.Machine
end

