-- ==== Sys2Proof/Machine/FlashOps.lean ====
section
/-!
DEFINITION. The custody die flash (R559–R572): logical and physical sectors, gap moves, and the banks of the configuration
store (R573–R577).
-/
namespace Sys2Proof.Machine

/-- An erased word (R561). -/
def erasedWord : Word := BitVec.ofNat 64 (2 ^ 64 - 1)
/-- A register of CD instance 4. -/
def flReg (off : Nat) : Nat := ra tCD 4 off
/-- CD instance 4. -/
def flPage : Nat := pageNo tCD 4
/-- A counter of the page: 0 PROGRAMS, 1 ERASES, 2 CORR, 3 UNCORR, 4 REFUSED, 5 PW_FAILS. -/
def State.flBump (s : State) (k n : Nat) : State := s.bump flPage k 0 n
/-- FL_STATUS.UNLOCKED. -/
def State.flUnlocked (s : State) : Bool := s.fld (flReg 0x104) 30 30 = 1
/-- A wear group. -/
def State.wear (s : State) (k : Nat) : WearGroup := cget {} s.fl.groups k
/-- Write a wear group. -/
def State.setWear (s : State) (k : Nat) (g : WearGroup) : State := { s with fl := { s.fl with groups := cput {} g k s.fl.groups } }
/-- Physical sector of a logical sector (R565). -/
def State.phys (s : State) (l : Nat) : Nat :=
  let k := l / 256
  let g := s.wear k
  let q := (l % 256 + g.start) % 256
  257 * k + (if g.gap ≤ q then q + 1 else q)
/-- Where a logical word lies. -/
def State.flKey (s : State) (w : Nat) : Nat := s.phys (w / 512) * 512 + w % 512
/-- A logical word. -/
def State.flWord (s : State) (w : Nat) : Word := cget erasedWord s.fl.words (s.flKey w)
/-- Write a logical word. -/
def State.setFlWord (s : State) (w : Nat) (v : Word) : State := { s with fl := { s.fl with words := cput erasedWord v (s.flKey w) s.fl.words } }
/-- A programmed word: bits can only be cleared from the erased state, so the target was erased (R562). -/
def flProgram : Nat → List Word → State → State
  | _, [], s => s
  | w, v :: vs, s => flProgram (w + 1) vs (s.setFlWord w v)
/-- A physical sector is erased. -/
def State.erasePhys (s : State) (p : Nat) : State := { s with fl := { s.fl with words := tdrop (fun a => a / 512 = p) s.fl.words } }

/-- The gap of a group moves (R567). -/
def State.gapMove (s : State) (k : Nat) : State :=
  let g := s.wear k
  let src := if 0 < g.gap then g.gap - 1 else 256
  let from_ := 257 * k + src
  let to_ := 257 * k + g.gap
  let moved : Tbl Word := s.fl.words.filter fun e => e.1 / 512 = from_
  let s := s.erasePhys to_
  let s := { s with fl := { s.fl with words := moved.foldl (fun (t : Tbl Word) (e : Nat × Word) => cput erasedWord e.2 (to_ * 512 + e.1 % 512) t) s.fl.words } }
  (s.erasePhys from_).setWear k
    { g with start := if g.gap = 0 then (g.start + 1) % 256 else g.start, gap := src, moves := min (g.moves + 1) 0xFFFFFFFF }

/-- A logical sector is erased and counted; true when the count of its group comes to 64 (R566). -/
def State.eraseSector (s : State) (l : Nat) : Bool × State :=
  let s := s.erasePhys (s.phys l)
  let k := l / 256
  let g := s.wear k
  if g.erases + 1 = 64 then (true, s.setWear k { g with erases := 0 }) else (false, s.setWear k { g with erases := g.erases + 1 })
/-- A sector erased by custody firmware, its gap move made before anything else. -/
def State.eraseCust (s : State) (l : Nat) : State := let (due, s) := s.eraseSector l; if due then s.gapMove (l / 256) else s

/-- `n` bytes of the logical space from byte address `a` on; a word is little-endian (R11). -/
def State.flBytes (s : State) (a n : Nat) : List Byte :=
  sliceBytes ((List.range ((a + n + 7) / 8 - a / 8)).flatMap fun i => leBytes 8 (s.flWord (a / 8 + i)).toNat) (a % 8) n
/-- Bytes as words, the last one filled with ones. -/
def flWords (b : List Byte) : List Word :=
  (List.range ((b.length + 7) / 8)).map fun i =>
    let c := sliceBytes b (8 * i) 8
    BitVec.ofNat 64 (ofLe (c ++ List.replicate (8 - c.length) 0xFF))

/-! ### Firmware image slots (R572) -/

/-- The image of a slot: its words that are not erased, each with its offset. -/
def State.slotImage (s : State) (k : Nat) : List Byte :=
  (List.range 1024).flatMap fun i =>
    let p := s.phys (1024 * k + i)
    (s.fl.words.filter fun e => e.1 / 512 = p).flatMap fun e => leBytes 4 (512 * i + e.1 % 512) ++ leBytes 8 e.2.toNat
/-- VERSION of a slot. -/
def State.slotVersion (s : State) (k : Nat) : Nat := (s.flWord (0x80000 * k + 1)).toNat
/-- The slot that step 1 of a cold start boots, and what FL_BOOT shows (R572); none when neither slot verifies. -/
def State.bootSlot (s : State) : Option (Nat × Nat) :=
  let a := if s.slotVersion 0 < s.slotVersion 1 then 1 else 0
  let ok (k : Nat) : Bool := Config.imageVerifies (s.slotImage k)
  if ok a then some (a, a) else if ok (1 - a) then some (1 - a, 1 - a + 2 + 4) else none

/-! ### The configuration store (R573–R577) -/

/-- A register of CD instance 5. -/
def csReg (off : Nat) : Nat := ra tCD 5 off
/-- CD instance 5. -/
def csPage : Nat := pageNo tCD 5
/-- CS_STATUS records a code. -/
def State.csStatus (s : State) (code : Nat) : State := s.status (csReg 0x104) code
/-- The byte address of a bank: 0 A, 1 B. -/
def bankAddr (b : Nat) : Nat := 0xFE0000 + 0x10000 * b
/-- A number of a bank. -/
def State.bankNum (s : State) (b o n : Nat) : Nat := ofLe (s.flBytes (bankAddr b + o) n)
/-- The header bytes that a CRC covers. -/
def State.bankBody (s : State) (b : Nat) : List Byte := s.flBytes (bankAddr b + 0x40) (s.bankNum b 8 4)
/-- State of a bank (R574): 0 VALID, 1 BLANK, 2 NO_COMMIT, 3 BAD. -/
def State.bankState (s : State) (b : Nat) : Nat :=
  if s.bankNum b 0 4 = 0xFFFFFFFF then 1
  else if s.bankNum b 0 4 ≠ 0x43464731 ∨ s.bankNum b 4 2 ≠ 1 ∨ s.bankNum b 6 2 ≠ 0 ∨ 65464 < s.bankNum b 8 4 ∨ s.bankNum b 0xC 4 ≠ 0 ∨
      (s.flBytes (bankAddr b + 0x1C) 36).any (· ≠ 0) then 3
  else if s.bankNum b 0x18 4 ≠ crc32c (s.flBytes (bankAddr b) 0x18 ++ s.bankBody b) then 3
  else if s.bankNum b 0xFFF8 8 ≠ 0x5A5AC3C30F0FA5A5 then 2 else 0
/-- SEQ of a bank. -/
def State.bankSeq (s : State) (b : Nat) : Nat := s.bankNum b 0x10 8
/-- The winner (R574). -/
def State.csWinner (s : State) : Option Nat :=
  let va := s.bankState 0 = 0
  let vb := s.bankState 1 = 0
  if va ∧ vb then (if s.bankSeq 0 < s.bankSeq 1 then some 1 else some 0) else if va then some 0 else if vb then some 1 else none
/-- A bank is erased by custody. -/
def State.eraseBank (s : State) (b : Nat) : State := (List.range 16).foldl (fun s i => s.eraseCust (4080 - 16 + 16 * b + i)) s

/-- The items of a body (R577): type and value; an item that would run beyond the body ends the parse. -/
def csItems : Nat → List Byte → List (Nat × List Byte)
  | 0, _ => []
  | n + 1, b =>
    let len := ofLe (sliceBytes b 2 2)
    if b.length < 4 ∨ b.length < 4 + len then []
    else (ofLe (b.take 2), sliceBytes b 4 len) :: csItems n (b.drop (4 + (len + 7) / 8 * 8))
/-- The value of the last item of a type that the body in force holds. -/
def State.csItem (s : State) (type : Nat) : Option (List Byte) :=
  match s.fl.body with
  | none => none
  | some b => ((csItems b.length b).reverse.find? fun e => e.1 = type).map (·.2)
/-- The power mask of cold step 4: every domain but 77 and 78 by the factory default (Table 17.4). -/
def State.powerMask (s : State) : Nat :=
  match s.csItem 1 with | some v => ofLe (v.take 12) % 2 ^ 80 | none => 2 ^ 80 - 1 - 2 ^ 77 - 2 ^ 78

end Sys2Proof.Machine
end

