-- ==== Sys2Proof/Machine/Classify.lean ====
section
/-!
DEFINITION. What a received frame holds and where it goes: the SecTAG and the plaintext behind it (R79–R87), the Plynun
tag (R94, R95), the forwarding lookup, the class, the limiter and the congestion check (R122–R133).
-/
namespace Sys2Proof.Machine

/-! ### SecTAG and plaintext -/

/-- A big-endian field of `n` bytes at `o`. -/
def beAt (d : List Byte) (o n : Nat) : Nat := ofBe (sliceBytes d o n)
/-- The EtherType after the source address. -/
def etherType (d : List Byte) : Nat := beAt d 12 2
/-- The TCI byte of a SecTAG. -/
def tciOf (d : List Byte) : Nat := beAt d 14 1
/-- SC: the SCI is in the SecTAG. -/
def tciSc (d : List Byte) : Bool := (tciOf d).testBit 5
/-- E: the secure data is encrypted. -/
def tciE (d : List Byte) : Bool := (tciOf d).testBit 3
/-- The bytes before the secure data: addresses and SecTAG. -/
def secHead (d : List Byte) : Nat := if tciSc d then 28 else 20
/-- The SCI of a frame (R81): explicit, or the source address followed by port identifier 1. -/
def sciOf (d : List Byte) : Nat := if tciSc d then beAt d 20 8 else beAt d 6 6 * 65536 + 1
/-- The IV of a frame (R87). -/
def macsecIv (suite sci ssci pn : Nat) (salt : List Byte) : List Byte :=
  if suite < 2 then beBytes 8 sci ++ beBytes 4 pn else xorBytes (beBytes 4 ssci ++ beBytes 8 pn) (padTo 12 salt)
/-- The IV of a received frame. -/
def Frame.iv (f : Frame) : List Byte := macsecIv f.saRec.suite f.sci f.saRec.ssci f.pn f.saRec.salt
/-- The secure data of a received frame as it arrived: without ICV and FCS once the frame has ended. -/
def Frame.secure (f : Frame) : List Byte :=
  let d := f.data.drop (secHead f.data)
  if f.ended = 1 then d.take (d.length - 20) else d
/-- The received ICV of a frame that ended. -/
def Frame.recvIcv (f : Frame) : List Byte := sliceBytes f.data (f.data.length - 20) 16
/-- The ICV as computed over what arrived. -/
def Frame.calcIcv (f : Frame) : List Byte :=
  let head := f.data.take (secHead f.data)
  if tciE f.data then gcmTag f.key f.iv head f.secure else gcmTag f.key f.iv (head ++ f.secure) []
/-- The plaintext of a frame from the first byte of secure data, or from the EtherType of an unprotected one. -/
def Frame.plain (f : Frame) : List Byte :=
  if f.src ≥ 1024 then f.body
  else if f.prot then (if tciE f.data then gcmCrypt f.key f.iv f.secure else f.secure)
  else
    let d := f.data.drop 12
    if f.ended = 1 then d.take (d.length - 4) else d

/-! ### The Plynun tag (R94, R95) -/

/-- The context of a frame carries the Plynun tag. -/
def State.framePlynun (s : State) (f : Frame) : Bool := f.src < 1024 && f.prot && (s.ctx f.ctx).plynun
/-- The tag's 24 bytes. -/
def plynunTag (p : List Byte) : List Byte := sliceBytes p 2 24
/-- The tag is malformed (R95). -/
def plynunBad (etype : Nat) (p : List Byte) : Bool :=
  let t := plynunTag p
  decide (p.length < 26) || decide (beAt p 0 2 ≠ etype) || decide (beAt t 0 1 / 16 ≠ 1) || decide (8 ≤ beAt t 0 1 % 16) ||
    decide (32 ≤ beAt t 1 1) || decide (2 ≤ beAt t 2 1 / 64) || decide (beAt t 2 1 / 16 % 4 ≠ 0) || decide (64 ≤ beAt t 3 1) ||
    decide (1024 ≤ beAt t 4 2)
/-- The body behind a Plynun tag: NEXT_TYPE and the payload (R94). -/
def plynunInner (p : List Byte) : List Byte := sliceBytes p 8 2 ++ p.drop 26
/-- What leaves the device of a frame: the payload from its EtherType on. -/
def State.innerOf (s : State) (f : Frame) : List Byte := if s.framePlynun f then plynunInner f.plain else f.plain
/-- Bring the body of a received frame up to date with what has arrived. -/
def State.refreshBody (s : State) (n : Nat) : State :=
  match s.frame n with
  | none => s
  | some f => if f.src < 1024 then s.setFrame n { f with body := s.innerOf f, dmac := f.data.take 6, smac := sliceBytes f.data 6 6 } else s

/-! ### Forwarding lookup (R122–R124) -/

/-- Key of an entry in the copy of ounce `o`. -/
def ftKey (o k : Nat) : Nat := o * 2 ^ 60 + k
/-- VLAN tag at the first EtherType of a payload. -/
def vlanTagged (b : List Byte) : Bool := decide (beAt b 0 2 = 0x8100 ∨ beAt b 0 2 = 0x88A8) && decide (4 ≤ b.length)
/-- The lookup key: MAC address and VID (R122). -/
def lookupKey (dmac body : List Byte) : Nat := (if vlanTagged body then beAt body 2 2 % 4096 else 0) * 2 ^ 48 + ofBe (dmac.take 6)
/-- A port of a forwarding result is usable: the host, or a configured port (R123). -/
def State.portUsable (s : State) (p : Nat) : Bool := p = 1024 || s.portConfigured p
/-- The forwarding result of ounce `o`, where it names a configured port. -/
def State.ftLookup (s : State) (o key : Nat) : Option FtEntry :=
  match oget s.fab.ft (ftKey o key) with
  | some e => if s.portUsable e.port then some e else none
  | none => none

/-! ### Class (R125) -/

/-- The register of the DQ page at offset `off` for the dram of a lane. -/
def dqReg (n off : Nat) : Nat := ra tDQ (n / 16) off
/-- DQ_PORT of a lane. -/
def dqPort (n : Nat) : Nat := dqReg n (0x140 + 4 * (n % 16))
/-- The class that PCP or DSCP `k` maps to: table at offset `off`. -/
def State.mapClass (s : State) (n off k : Nat) : Nat := s.fld (dqReg n (off + 4 * (k / 4))) (8 * (k % 4) + 4) (8 * (k % 4))
/-- The DSCP of a payload's IP header behind at most one VLAN tag. -/
def dscpOf (b : List Byte) : Option Nat :=
  let (t, h) := if vlanTagged b then (beAt b 4 2, b.drop 6) else (beAt b 0 2, b.drop 2)
  if t = 0x0800 ∧ 2 ≤ h.length then some (beAt h 1 1 / 4)
  else if t = 0x86DD ∧ 2 ≤ h.length then some (beAt h 0 2 / 64 % 64) else none
/-- Sources 3 to 6 of R125 for a frame of ingress lane `n`. -/
def State.classOf (s : State) (n : Nat) (plynun : Option Nat) (b : List Byte) : Nat :=
  let c := s.rd (dqPort n)
  match (if bitAt c 7 then plynun else none) with
  | some k => k
  | none =>
    let src := getField c 6 5
    if src = 1 ∧ vlanTagged b then s.mapClass n 0x180 (beAt b 2 2 / 8192)
    else match (if src = 2 then dscpOf b else none) with
      | some k => s.mapClass n 0x1C0 k
      | none => getField c 4 0

/-! ### Endpoint rate limiter (R133, R152) -/

/-- Rate in bytes per 8,000,000 ns and burst of the limiter in force. -/
def Ctx.rate (c : Ctx) : Nat := if c.quenched then c.fld 0x38 4 * 1000 else c.fld 0x20 4
/-- Burst in bytes. -/
def Ctx.burst (c : Ctx) : Nat := if c.quenched then 16128 else c.fld 0x24 4
/-- The limiter is disabled: rate 0 and burst 0. -/
def Ctx.unlimited (c : Ctx) : Bool := c.rate = 0 && c.burst = 0
/-- The bucket refilled up to TIM `now`; LEVEL_T moves by the time of the whole bytes added. -/
def Ctx.refill (c : Ctx) (now : Nat) : Ctx :=
  let t := c.fld 0x30 8
  let r := c.rate
  let add := (now - t) * r / 8000000
  let full := c.level + (add : Int) ≥ (c.burst : Int)
  let lvl := if full then max c.level (c.burst : Int) else c.level + (add : Int)
  let lvl := if c.burst < c.level then c.level else lvl
  let t' := if full ∨ r = 0 then now else t + add * 8000000 / r
  (c.put 0x28 8 (ofSigned64 lvl)).put 0x30 8 t'
/-- Whether the limiter admits a frame now. -/
def Ctx.admits (c : Ctx) : Bool := c.unlimited || decide (0 ≤ c.level)
/-- A frame of `n` bytes that was admitted has ended. -/
def Ctx.charge (c : Ctx) (now n : Nat) : Ctx :=
  if c.unlimited then c else let d := c.refill now; d.put 0x28 8 (ofSigned64 (d.level - (n : Int)))

/-! ### Congestion and links (R131, R147) -/

/-- Key of the link between two ounces. -/
def linkKey (a b : Nat) : Nat := min a b * 4 + max a b
/-- The link between two ounces is down. -/
def State.linkIsDown (s : State) (a b : Nat) : Bool := a != b && cget false s.fab.linkDown (linkKey a b)
/-- The ounce of a port; the host is at ounce 1. -/
def portOunce (p : Nat) : Nat := if p < 1024 then p / 256 else 1
/-- A frame of ounce `o` for port `p` and class `c` is dropped for congestion or a down link. -/
def State.congested (s : State) (o p c : Nat) : Bool :=
  s.congSeen o (queueOf p c) || (p < 1024 && s.congSeen o (dramBit (p / 16))) || s.linkIsDown o (portOunce p)

/-- The ounce in which a frame enters the fabric: of its ingress lane, ounce 1 for the host, o for a response. -/
def Frame.ounce (f : Frame) : Nat := if f.src < 1024 then f.src / 256 else if f.src = 1024 then 1 else f.src - 1025

/-- A limited frame that has ended is charged to its context once (R133). -/
def State.chargeFrame (s : State) (n : Nat) : State :=
  match s.frame n with
  | some f =>
    if f.limited && f.ended = 1 then
      (s.modCtx f.ctx fun c => c.charge s.clk.tim f.data.length).modFrame n fun x => { x with limited := false }
    else s
  | none => s

/-- What classification decides for a received frame: a drop, as the DQ counter of Table 4.6 that counts it, or the
port and the class. -/
def State.route (s : State) (f : Frame) : Except Nat (Nat × Nat) :=
  let o := f.ounce
  let c := s.ctx f.ctx
  let ply := if s.framePlynun f then some (beAt (plynunTag f.plain) 1 1 % 32) else none
  let hit := s.ftLookup o (lookupKey f.dmac f.body)
  let dest : Option (Nat × Nat) :=
    match hit with
    | some e => some (e.port, if e.clsValid then e.cls else s.classOf f.src ply f.body)
    | none => if s.fld (dqPort f.src) 8 8 = 1 then some (1024, s.fld (dqPort f.src) 4 0) else none
  match dest with
  | none => .error 0
  | some (p, k) =>
    if f.prot && c.quenched && decide (c.fld 0x38 4 = 0) then .error 4
    else if f.prot && !(c.refill s.clk.tim).admits then .error 3
    else if s.congested o p k then .error 2
    else .ok (p, k)

end Sys2Proof.Machine
end

