-- ==== Sys2Proof/Machine/VerdictOps.lean ====
section
/-!
DEFINITION. Verdicts: slots, dispatch, held effects, abort, the release of responses and forwarding by a standby
(chapter 5): the operations that several commands share.
-/
namespace Sys2Proof.Machine

/-! ### Registers of the pipeline (Table 5.12) -/

/-- A register of the OZ page of an ounce. -/
def ozReg (o off : Nat) : Nat := ra tOZ o off
/-- The OZ page of an ounce. -/
def ozPage (o : Nat) : Nat := pageNo tOZ o
/-- A counter of Table 5.14: 0 VM_RX to 15 RESP_DROP. -/
def State.vmBump (s : State) (o k : Nat) : State := s.bump (ozPage o) (1 + k) 0 1
/-- OZ_VP_CFG.EN of an ounce. -/
def State.vpOn (s : State) (o : Nat) : Bool := s.fld (ozReg o 0x800) 0 0 = 1
/-- The verdict-service MAC address (R160). -/
def State.svcMac (s : State) (o : Nat) : Nat := (s.rd (ozReg o 0x808)).toNat + s.fld (ozReg o 0x80C) 15 0 * 2 ^ 32
/-- OZ_VP_ETYPE. -/
def State.vpEtype (s : State) (o : Nat) : Nat := s.fld (ozReg o 0x804) 15 0

/-! ### Verdicts and slots -/

/-- A verdict. -/
def State.verdict (s : State) (v : Nat) : Option Verdict := oget s.vp.verdicts v
/-- Write a verdict. -/
def State.setVerdict (s : State) (v : Nat) (x : Verdict) : State := { s with vp := { s.vp with verdicts := oput x v s.vp.verdicts } }
/-- Change a verdict. -/
def State.modVerdict (s : State) (v : Nat) (f : Verdict → Verdict) : State :=
  { s with vp := { s.vp with verdicts := omod v f s.vp.verdicts } }
/-- A slot is free for dispatch: no verdict holds it, and the operations of the last one have ended (R196). -/
def State.slotFree (s : State) (c k : Nat) : Bool := (s.slotVerdictOf c k).isNone && !s.pay.closing.contains (c * 8 + k)
/-- The slots of a core that are free. -/
def State.freeSlots (s : State) (c : Nat) : List Nat := (List.range 8).filter fun k => s.slotFree c k
/-- A core accepts dispatch: its cluster is on and OZ_VP_CORE_EN has its bit (R172). -/
def State.coreEnabled (s : State) (c : Nat) : Bool :=
  s.domOn (64 + coreOunce c) && s.fld (ozReg (coreOunce c) 0x818) (c % 32) (c % 32) = 1

/-- The core block of a context after the remapping of R173. -/
def State.coreBlock (s : State) (c : Ctx) : List Nat :=
  let o := coreOunce c.core
  let base := if s.domOn (64 + o) then c.core else 32 * s.fld (ozReg o 0x810) (2 * o + 1) (2 * o) + c.core % 32
  (List.range (2 ^ c.spread)).map (base + ·)

/-- VINPROG of a context rises or falls. -/
def State.vinprog (s : State) (i : Nat) (up : Bool) : State :=
  s.modCtx i fun c => c.put 9 1 (if up then min (c.vinprog + 1) 255 else c.vinprog - 1)

/-- The verdict is in progress until its slot is released and its response is released or discarded (R172); it is
forgotten once nothing it issued is still held. -/
def State.verdictEnd (s : State) (v : Nat) : State :=
  match s.verdict v with
  | none => s
  | some x =>
    if x.owns || x.resp.isSome then s
    else
      let s := if x.ended then s else (s.vinprog x.m.ctx false).modVerdict v fun y => { y with ended := true }
      if x.held = [] ∧ x.trust ≠ .pending then { s with vp := { s.vp with verdicts := odel v s.vp.verdicts } } else s

/-! ### Dispatch (R172–R174) -/

/-- The core of a list with a free slot and the fewest occupied ones; ties go to the lower number. -/
def State.bestCore (s : State) (cs : List Nat) : Option Nat :=
  (cs.filter fun c => (s.freeSlots c).length ≠ 0).foldl (fun (b : Option Nat) c =>
    match b with
    | none => some c
    | some d =>
      let occ (x : Nat) : Nat := ((s.core x).slots.filter Option.isSome).length
      if occ c < occ d then some c else some d) none

/-- The TRUST of a message as it is known where it waits. -/
def State.msgTrust (s : State) (m : VMsg) : Trust :=
  match m.frame with
  | none => .pass
  | some f => match s.frame f with | some x => x.trust | none => .pass

/-- A message is dispatched to a core: a slot is taken and the verdict receives its VREF (R174). The slot is the
lowest-numbered free one (log entry 10). -/
def State.dispatchTo (s : State) (m : VMsg) (c : Nat) : State :=
  match s.freeSlots c with
  | [] => s
  | k :: _ =>
    let x := s.core c
    let v := s.vp.nextVerdict
    let vref := s.position * 2 ^ 54 + c * 2 ^ 47 + x.vcount % 2 ^ 47
    let trust := s.msgTrust m
    let s := s.setCore c { x with vcount := (x.vcount + 1) % 2 ^ 47, slots := setNth x.slots k (some v) }
    let s := { s with vp := { s.vp with nextVerdict := v + 1 } }
    let flags := (nth 0 m.record 7).toNat + (if trust = .pass then 8 else 0)
    let m := { m with record := spliceBytes (spliceBytes m.record 7 (leBytes 1 flags)) 0x20 (leBytes 8 vref) }
    (s.setVerdict v { vref := vref, core := c, slot := k, m := m, trust := trust }).vmBump (coreOunce c) 1

/-- A freed slot of core `c` takes the oldest queued message whose block contains the core (R174). -/
def State.takeQueued (s : State) (c : Nat) : State :=
  let o := coreOunce c
  let q := cget [] s.vp.queues o
  if s.rendersVerdicts && s.coreEnabled c && !(s.freeSlots c).isEmpty then
    match (List.range q.length).find? fun i => (s.coreBlock (s.ctx (nth {} q i).ctx)).contains c with
    | none => s
    | some i =>
      { s with vp := { s.vp with queues := cput [] (q.eraseIdx i) o s.vp.queues } }.dispatchTo (nth {} q i) c
  else s

/-! ### Held effects (R175–R176) -/

/-- The strand of a core (R177). -/
def strandOf (c : Nat) : Nat := 4 * (c / 32) + c % 32 / 8
/-- The result area of a key operation (Table 6.3). -/
def State.keyResult (s : State) (c : Nat) (block : List Byte) (status engine : Nat) (res : List Byte) : State :=
  s.setBytes (spData c + ofLe (sliceBytes block 8 4) % 2 ^ 18)
    (leBytes 2 status ++ leBytes 2 res.length ++ leBytes 1 engine ++ [0, 0, 0] ++ res)
/-- The result area of a request can take a status (R191). -/
def State.resultOk (s : State) (c ring : Nat) (b : List Byte) (need : Nat) : Bool :=
  let a := ofLe (sliceBytes b 8 4)
  let n := ofLe (sliceBytes b 6 2)
  decide (need ≤ n) && decide (a % 8 = 0) && decide (a + n ≤ 0x40000) && (s.fenceFail c (clsRing ring) accW a n).isNone
/-- A key operation enters the request queue of its ounce (R187). -/
def State.keyEnqueue (s : State) (r : KReq) : State :=
  let o := coreOunce r.core
  { s with pay := { s.pay with queue := cput [] (cget [] s.pay.queue o ++ [r]) o s.pay.queue } }
/-- An append of a verdict as it goes to its strand (Table 11.1). -/
def Verdict.app (x : Verdict) (v : Nat) (index : Nat) (record : List Byte) : App :=
  { kind := 1, flags := b2n x.m.fwd + 2 * b2n x.m.host, vref := x.vref, reqId := x.m.reqId, ctx := x.m.ctx, port := x.m.port,
    core := x.core, index := index, record := record, vid := some v }
/-- Give an append to the input queue of a strand. -/
def State.giveApp (s : State) (k : Nat) (a : App) : State :=
  let t := s.strand k
  s.setStrand k { t with queue := t.queue ++ [a], reserved := t.reserved + 1 }

/-- One held effect takes place; none when its strand's input queue is full (R176). -/
def State.heldEffect (s : State) (v : Nat) (x : Verdict) (h : Held) : Option State :=
  match h with
  | .append r =>
    let k := strandOf x.core
    if 64 ≤ (s.strand k).queue.length then none
    else
      let t := s.strand k
      some (((s.setStrand k { t with queue := t.queue ++ [x.app v x.given r] }).modVerdict v fun y => { y with given := y.given + 1 }))
  | .ctxupd b t => some { s with cxs := { s.cxs with ops := s.cxs.ops ++ [{ ctx := x.m.ctx, core := x.core, tkt := t, block := b }] } }
  | .lwrite b t => some (s.leaseIssue x.core t b)
  | .keyOp r => some (s.keyEnqueue r)

/-- Held effects leave the buffer in issue order (R176); at most sixteen. -/
def drainHeld (v : Nat) : Nat → State → State
  | 0, s => s
  | n + 1, s =>
    match s.verdict v with
    | none => s
    | some x =>
      match x.held with
      | [] => s
      | h :: rest =>
        match s.heldEffect v x h with
        | none => s
        | some t => drainHeld v n (t.modVerdict v fun y => { y with held := rest })

/-- A held effect is discarded with its verdict (R176, R197, R255, R370). -/
def State.dropHeld (s : State) (c : Nat) (h : Held) : State :=
  match h with
  | .append _ => let t := s.strand (strandOf c); s.setStrand (strandOf c) { t with reserved := t.reserved - 1 }
  | .ctxupd _ t => s.completeTicket c t 0x316
  | .lwrite _ t => s.completeTicket c t 0x316
  | .keyOp r =>
    let s := s.kvBump (coreOunce c) 14
    (if s.resultOk c r.ring r.block 8 then s.keyResult c r.block 0x316 0xFF [] else s).completeTicket c r.tkt 0x316

/-! ### Responses (R177–R179) -/

/-- Units of the response buffer a response takes (R178). -/
def respUnits (n : Nat) : Nat := (n + 64 + 255) / 256
/-- Free the units of a response. -/
def State.freeUnits (s : State) (o n : Nat) : State :=
  { s with vp := { s.vp with units := cput 0 (cget 0 s.vp.units o - respUnits n) o s.vp.units } }
/-- A response is discarded. -/
def State.dropResp (s : State) (v : Nat) : State :=
  match s.verdict v with
  | some x =>
    match x.resp with
    | some r => (s.freeUnits (coreOunce x.core) r.data.length).modVerdict v fun y => { y with resp := none }
    | none => s
  | none => s

/-- A Plynun tag (Table 3.4). -/
def plynunBytes (flags cls trust strand zone origin next vref jseq : Nat) : List Byte :=
  beBytes 1 (16 + flags) ++ beBytes 1 cls ++ beBytes 1 (64 * trust + strand) ++ beBytes 1 zone ++ beBytes 2 origin ++
    beBytes 2 next ++ beBytes 8 vref ++ beBytes 8 jseq
/-- The envelope of Table 5.1. -/
def envelope (resp : Bool) (n reqId : Nat) : List Byte := beBytes 1 1 ++ beBytes 1 (b2n resp) ++ beBytes 2 n ++ beBytes 8 reqId

/-- A frame built by the device enters the fabric at ounce `o` for `port` in class `cls` (Table 1.2, step 4); a drop at
classification counts in RESP_DROP (R154, R179). -/
def State.enterResponse (s : State) (o port cls : Nat) (dmac body : List Byte) (tagged : Bool) (vref jseq strand : Nat) : State :=
  if !s.portUsable port || s.congested o port cls then s.vmBump o 15
  else
    s.newFrame { src := 1025 + o, trust := .pass, known := .pass, ended := 1, endNoted := true, committed := true, body := body,
                 dmac := dmac, smac := beBytes 6 (s.svcMac o), cls := cls, place := .noticed (queueOf port cls), fwd := true,
                 isResp := true, tagged := tagged, vref := vref, jseq := jseq, strand := strand, rxTime := s.clk.tim }

/-- The response frame of R179 enters the fabric. -/
def State.buildResponse (s : State) (o ctx port cls : Nat) (dmac env : List Byte) (plynun : Bool) (vref jseq strand : Nat) : State :=
  let et := beBytes 2 (s.vpEtype o)
  let tag := beBytes 2 (s.fld (ra tSC (if port < 1024 then port / 16 else 0) 0x104) 15 0) ++
    plynunBytes 7 cls 1 strand (s.ctx ctx).zone s.position (s.vpEtype o) vref jseq
  s.enterResponse o port cls dmac (if plynun then tag ++ env else et ++ env) plynun vref jseq strand

/-- The frames of a VERDICT_FWD transfer (R181): payloads of at most 4,096 bytes, padded to whole words, the last one
marked. -/
def fwdFrames : Nat → List Byte → List (List Byte × Bool)
  | 0, _ => []
  | n + 1, b =>
    let pad (x : List Byte) : List Byte := x ++ List.replicate ((8 - x.length % 8) % 8) 0
    if b.length ≤ 4096 then [(pad b, true)] else (b.take 4096, false) :: fwdFrames n (b.drop 4096)
/-- The header of Table 5.9. -/
def fwdHeader (dir trust cause cls ctx port len fwdId rx vref jseq strand : Nat) (plynun : Bool) : List Byte :=
  beBytes 1 dir ++ beBytes 1 trust ++ beBytes 1 cause ++ beBytes 1 cls ++ beBytes 4 ctx ++ beBytes 2 port ++ beBytes 2 len ++
    beBytes 4 fwdId ++ beBytes 8 rx ++ beBytes 8 vref ++ beBytes 8 jseq ++ beBytes 1 strand ++ beBytes 1 (b2n plynun) ++ beBytes 6 0
/-- Queue a transfer for the twin link. -/
def State.sendFwd (s : State) (b : List Byte) : State := { s with vp := { s.vp with fwdOut := s.vp.fwdOut ++ fwdFrames 4 b } }

/-- The gates of R177 are open: the response leaves (R177, R179, R181). -/
def State.tryRelease (s : State) (v : Nat) : State :=
  match s.verdict v with
  | none => s
  | some x =>
    match x.resp with
    | none => s
    | some r =>
      if x.trust = .pass ∧ 0 < x.appends ∧ x.appends ≤ x.committed then
        let o := coreOunce x.core
        let k := strandOf x.core
        let env := envelope true r.data.length x.m.reqId ++ r.data
        let s := (s.dropResp v).vmBump o 10
        let s :=
          if x.m.fwd then
            s.sendFwd (fwdHeader 1 1 0 r.cls x.m.ctx x.m.port env.length x.m.fwdId 0 x.vref x.lastSeq k x.m.plynun ++ env)
          else
            s.buildResponse o x.m.ctx (if x.m.host then 1024 else (s.ctx x.m.ctx).port) r.cls x.m.src env x.m.plynun x.vref x.lastSeq k
        s.verdictEnd v
      else s

/-! ### The outcome of TRUST on a verdict (R176) -/

/-- TRUST of a dispatched verdict resolves. -/
def State.resolveVerdict (s : State) (v : Nat) (pass : Bool) : State :=
  match s.verdict v with
  | none => s
  | some x =>
    if x.trust ≠ .pending then s
    else if pass then
      ((drainHeld v 16 (s.modVerdict v fun y => { y with trust := .pass })).tryRelease v).verdictEnd v
    else
      let s := (s.dropResp v).modVerdict v fun y => { y with trust := .fail, held := [], resp := none }
      let s := x.held.foldl (fun s h => s.dropHeld x.core h) s
      let s := s.vmBump (coreOunce x.core) 9
      let s := if x.owns then s.setEvent x.core (8 + x.slot) else s
      s.verdictEnd v

/-- A strand has committed an entry of a verdict: its response may be released (R177). -/
def State.commitFollow (s : State) (v : Option Nat) : State := match v with | none => s | some v => s.tryRelease v

/-! ### Messages in the parser -/

/-- A parse context of an ounce is taken or given back (R161). -/
def State.parseUse (s : State) (o : Nat) (up : Bool) : State :=
  let n := cget 0 s.fab.parseBusy o
  { s with fab := { s.fab with parseBusy := cput 0 (if up then n + 1 else n - 1) o s.fab.parseBusy } }
/-- A message leaves the parser without a verdict: its parse context and its frame's cells are released. -/
def State.dropMessage (s : State) (n o : Nat) : State := (s.parseUse o false).endFrame n

/-- The message behind the Plynun tag: EtherType, envelope and ISO 8583 bytes (R162). -/
def Frame.vmEtype (f : Frame) : Nat := beAt f.body 0 2
/-- The envelope and what follows it. -/
def Frame.vmEnv (f : Frame) : List Byte := f.body.drop 2
/-- MSG_LEN. -/
def Frame.vmLen (f : Frame) : Nat := beAt f.vmEnv 2 2

/-- A standby sends a verdict message whose TRUST has resolved to the active device (R180). -/
def State.tryForward (s : State) (n : Nat) : State :=
  match s.frame n with
  | none => s
  | some f =>
    match f.place with
    | .parsing o =>
      if s.asStandby && f.envOk && f.ended != 0 && f.trust != .pending then
        let drop (s : State) : State := ((s.vmBump o 14).errInfo (ozPage o) o 0x31D).dropMessage n o
        if s.fld (ozReg o 0x800) 2 2 = 0 || !s.jn.link.up then drop s
        else match (List.range 4096).find? fun i => (oget s.vp.fwd i).isNone with
          | none => drop s
          | some i =>
            let env := f.vmEnv.take (12 + f.vmLen)
            let h := fwdHeader 0 (if f.trust = .pass then 1 else 2) f.cause 0 f.ctx f.src env.length i f.rxTime 0 0 0 (s.framePlynun f)
            let s := { s with vp := { s.vp with fwd := oput ⟨f.ctx, f.src, beAt env 4 8, f.smac, s.clk.ns⟩ i s.vp.fwd } }
            ((s.sendFwd (h ++ env)).vmBump o 12).dropMessage n o
      else s
    | _ => s

end Sys2Proof.Machine
end

