-- ==== Sys2Proof/Machine/Trust.lean ====
section
/-!
DEFINITION. Trust outcomes and the end of a frame: how PASS and FAIL act on every place a frame has reached (R102–R108),
what a transmitted frame carries (R80, R87, R94, R105), the end of a transmission (R67) and the flush of a lane (R155).
-/
namespace Sys2Proof.Machine

/-! ### Events of SA records (R117) -/

/-- An entry for SC_EVENT of dram `d`: type 1 SA_REKEY or 2 SA_EXPIRED, record, context; 16 entries are kept. -/
def State.scEvent (s : State) (d type rec ctx : Nat) : State :=
  let q := cget {} s.fab.scEvents d
  let p := pageNo tSC d
  if 16 ≤ q.items.length then { s with fab := { s.fab with scEvents := cput {} { q with lost := true } d s.fab.scEvents } }.irq p 4
  else { s with fab := { s.fab with scEvents := cput {} { q with items := q.items ++ [type * 2 ^ 20 + rec * 2 ^ 17 + ctx] } d s.fab.scEvents } }.irq p 1

/-! ### Ends of frames -/

/-- Head frames of a queue whose TRUST is known to be FAIL are removed and counted (Table 3.8). -/
def popFailed (q : Nat) : Nat → State → State
  | 0, s => s
  | k + 1, s =>
    match s.queue q with
    | [] => s
    | n :: _ =>
      match s.frame n with
      | none => popFailed q k (s.leaveQueue q n)
      | some f => if f.known = .fail then popFailed q k (((s.leaveQueue q n).endFrame n).qBump q 2 1) else s

/-- The head of a queue may have changed. -/
def State.newHead (s : State) (q : Nat) : State := popFailed q (s.queue q).length s

/-- A frame is dropped from its queue, or from its staging place, counted in counter `k` of queue `q`. -/
def State.dropQueued (s : State) (q n k : Nat) : State := ((((s.leaveQueue q n).endFrame n).qBump q k 1)).newHead q

/-- The source number of a frame that firmware sends through the CVL transmit queue of a lane (R153). -/
def cvlSrc : Nat := 1029

/-! ### What a transmitted frame carries -/

/-- A port protects what leaves it. -/
def State.portProtect (s : State) (p : Nat) : Bool := p < 1024 && s.fld (ra tSC (p / 16) (0x140 + 4 * (p % 16))) 0 0 = 1
/-- The transmit record that serves a context's next frame (R88). -/
def Ctx.serving (c : Ctx) : Option Nat :=
  if (c.saOf 4).inService then some 4
  else if (c.saOf 4).expired && (c.saOf 4).roll && (c.saOf 5).inService then some 5 else none
/-- The frame leaves port `p` with a Plynun tag added by the device. -/
def State.addsTag (s : State) (p : Nat) (f : Frame) : Bool :=
  s.portProtect p && !f.tagged && (match s.txContext p with | some i => (s.ctx i).plynun | none => false)
/-- Length of a frame as it leaves port `p`, from destination address to FCS: protection adds 32 bytes and the Plynun
tag 26 (R111; log entry 16); no frame is shorter than 64 bytes (log entry 15). -/
def State.outLen (s : State) (p : Nat) (f : Frame) : Nat :=
  max 64 (16 + f.body.length + (if s.portProtect p then 32 else 0) + (if s.addsTag p f then 26 else 0))

/-- The secure data of a transmitted frame. -/
def State.txSecure (s : State) (p : Nat) (f : Frame) : List Byte :=
  let b :=
    if s.addsTag p f then
      beBytes 2 (s.fld (ra tSC (p / 16) 0x104) 15 0) ++
        plynunBytes 0 f.cls (if f.known = .pass then 1 else 0) 0 (s.ctx f.txCtx).zone s.position (beAt f.body 0 2) 0 0 ++ f.body.drop 2
    else f.body
  b ++ List.replicate (16 - b.length) 0
/-- The SecTAG of R80. -/
def secTag (r : SaRec) (pn sci n : Nat) : List Byte :=
  [0x88, 0xE5] ++ beBytes 1 (32 + (if r.conf then 12 else 0) + r.an % 4) ++ beBytes 1 (if n < 48 then n else 0) ++
    beBytes 4 (pn % 2 ^ 32) ++ beBytes 8 sci
/-- The bytes of a frame on the wire from port `p`: protected or not, stomped or not (R105). -/
def State.wireBytes (s : State) (p : Nat) (f : Frame) (stomp : Bool) : List Byte :=
  let flip (b : List Byte) : List Byte := if stomp then b.map (~~~ ·) else b
  if f.txProt then
    let data := s.txSecure p f
    let sci := (s.ctx f.txCtx).txSci
    let head := f.dmac ++ f.smac ++ secTag f.txSa f.txPn sci data.length
    let iv := macsecIv f.txSa.suite sci f.txSa.ssci f.txPn f.txSa.salt
    let (ct, icv) := if f.txSa.conf then gcmSeal f.txKey iv head data else (data, gcmTag f.txKey iv (head ++ data) [])
    let m := head ++ ct ++ flip icv
    m ++ fcsBytes m
  else
    let m := f.dmac ++ f.smac ++ f.body
    let m := m ++ List.replicate (60 - m.length) 0
    m ++ flip (fcsBytes m)

/-- The transmission of the frame on lane `l` ends: kind 0 as computed, 1 stomped, 2 with an error block (R67, R105). -/
def State.endTx (s : State) (l kind : Nat) : State :=
  match (s.lane l).txCur with
  | none => s
  | some n =>
    match s.frame n with
    | none => s.modLane l fun x => { x with txCur := none }
    | some f =>
      let w := s.wireBytes l f (kind = 1)
      let w := if kind = 2 then w.take (w.length - (if f.txProt then 20 else 4)) else w
      let q := queueOf l f.cls
      let s := s.modLane l fun x => { x with txCur := none, lastTx := ⟨w, kind⟩ }
      let s :=
        if kind = 2 then s
        else
          let s := ((s.lnBump l 1 1).lnBump l 3 w.length)
          let s := if f.src = cvlSrc then s else (s.qBump q 0 1).qBump q 1 w.length
          let s := if f.txProt then s.scBump l 12 else s
          if kind = 1 then s.scBump l 13 else s
      s.endFrame n

/-! ### The outcome of TRUST -/

/-- The ounce in which the place of a frame learns the outcome (R683). -/
def State.placeOunce (s : State) (f : Frame) (n : Nat) : Nat :=
  match f.place with
  | .noticed q => portOunce (queueLane q)
  | .queued q => portOunce (queueLane q)
  | .pulled l _ => portOunce l
  | .staged l => portOunce l
  | .sending l => portOunce l
  | .hostWrite _ => 1
  | .dispatched =>
    match s.vp.verdicts.find? fun e => e.2.m.frame = some n with
    | some e => coreOunce e.2.core
    | none => f.ounce
  | _ => f.ounce

/-- The outcome acts on the place the frame has reached (Table 3.8, R156). -/
def State.applyOutcome (s : State) (n : Nat) : State :=
  match s.frame n with
  | none => s
  | some f =>
    if f.trust = .pending then s
    else
      let s := s.modFrame n fun x => { x with known := x.trust }
      match f.place with
      | .queued q => s.newHead q
      | .pulled l _ => if f.trust = .fail then s.dropQueued (queueOf l f.cls) n 2 else s
      | .staged l => if f.trust = .fail then s.dropQueued (queueOf l f.cls) n 2 else s
      | .discarded => (s.releaseAll n f).delFrame n
      | .parsing _ => s.tryForward n
      | .dispatched =>
        let s :=
          match s.vp.verdicts.find? fun e => e.2.m.frame = some n with
          | some e => s.resolveVerdict e.1 (f.trust = .pass)
          | none =>
            if f.trust = .fail then
              (List.range 4).foldl (fun s o =>
                match (cget [] s.vp.queues o).find? fun m => m.frame = some n with
                | none => s
                | some m =>
                  (({ s with vp := { s.vp with queues := cput [] ((cget [] s.vp.queues o).filter (·.frame ≠ some n)) o s.vp.queues } }).vmBump
                    o 9).vinprog m.ctx false) s
            else s
        if s.vp.queues.any fun e => e.2.any fun m => m.frame = some n then s else s.delFrame n
      | _ => s

/-- Causes of Table 3.7 that have a protection counter of their own: ICV, REPLAY, STOMPED, BAD_LENGTH. -/
def causeCounter (c : Nat) : Option Nat :=
  match c with
  | 1 => some 1 | 2 => some 3 | 7 => some 9 | 8 => some 6 | _ => none

/-- TRUST of a frame resolves: PASS for cause 0, else FAIL with the cause (R102–R104). It happens once. -/
def State.resolveTrust (s : State) (n cause : Nat) : State :=
  match s.frame n with
  | none => s
  | some f =>
    if f.trust ≠ .pending then s
    else
      let s := s.modFrame n fun x => { x with trust := if cause = 0 then .pass else .fail, cause := cause, committed := true }
      let s := if f.src < 1024 then (match causeCounter cause with | some k => s.scBump f.src k | none => s) else s
      let s := if cause = 0 ∧ f.prot ∧ f.src < 1024 then s.scBump f.src 0 else s
      if s.placeOunce f n = f.ounce then s.applyOutcome n else s

/-! ### Flush of a lane (R155) and the end of what it receives (R65, R108) -/

/-- Every frame of the 32 queues and the staging of a lane is dropped and counted in FLUSH_DROP; the frame in
transmission ends with an error block (R67). -/
def State.flushLane (s : State) (l : Nat) : State :=
  let s := s.endTx l 2
  let s := (s.stagedFrames l).foldl (fun s n =>
    match s.frame n with
    | some f => ((s.endFrame n).qBump (queueOf l f.cls) 4 1)
    | none => s) s
  let s := (List.range 32).foldl (fun s c =>
    let q := queueOf l c
    (s.queue q).foldl (fun s n => ((s.leaveQueue q n).endFrame n).qBump q 4 1) s) s
  s.modLane l fun x => { x with nominee := none, cvlFrames := [] }

/-- A frame still arriving on a lane that stops receiving ends in error: FAIL with cause ERROR_BLOCK, the rest of its
data never arrives (R65, R108). -/
def State.cutReception (s : State) (l : Nat) : State :=
  match (s.lane l).rxCur with
  | none => s.modLane l fun x => { x with rxDrop := 0, rxDropData := [], rxSkip := false }
  | some n =>
    let s := s.modLane l fun x => { x with rxCur := none, rxDrop := 0, rxDropData := [], rxSkip := false }
    match s.frame n with
    | none => s
    | some f =>
      let s := s.modFrame n fun x => { x with ended := 2 }
      match f.place with
      | .waiting => (s.resolveTrust n 5).endFrame n
      | .missing => (s.resolveTrust n 5).endFrame n
      | .mka => s.endFrame n
      | .ingress => (s.resolveTrust n 5).endFrame n
      | _ => s.resolveTrust n 5

end Sys2Proof.Machine
end

