-- ==== Sys2Proof/Machine/TwinOps.lean ====
section
/-!
DEFINITION. Shared operations of the twin (chapter 11): state changes, the application of mirrored state, checkpoints, loss of
the partner, promotion and role swaps.
-/
namespace Sys2Proof.Machine

/-! ### States and generations (R395, R399) -/

/-- TW_STAT.STATE takes a value. -/
def State.setTwState (s : State) (v : Nat) : State := s.setFld (twReg 0x104) 3 0 v
/-- ROLE_GEN takes a value (Table 11.17, bit 0). -/
def State.setRoleGen (s : State) (g : Nat) : State :=
  if s.roleGen = g then s else (s.wrn (twReg 0x110) g).irq twPage 0
/-- ON_LOSS selects SOLO (R376). -/
def State.onLossSolo (s : State) : Bool := s.fld (twReg 0x100) 4 4 = 1
/-- Verdict dispatch is on again: every core takes what waits for it (R174, R397). -/
def State.resumeDispatch (s : State) : State :=
  (List.range 128).foldl (fun s c => (List.range 8).foldl (fun s _ => s.takeQueued c) s) s
/-- Transfers of VERDICT_FWD in flight are discarded when the roles change (R182). -/
def State.dropTransfers (s : State) : State := { s with vp := { s.vp with fwdIn := [], fwdOut := [] } }
/-- The mirror stream of the active ends: what waits and what is not acknowledged (R376, R378). -/
def State.stopMirror (s : State) : State :=
  { s with jn := { s.jn with mirror := [], unacked := [], sentT := [], tx := {} } }

/-! ### SWAP frames (Table 11.9) -/

/-- A SWAP frame is queued. -/
def State.sendSwap (s : State) (op gen status : Nat) : State :=
  if s.jn.link.up then
    s.linkSend 0 6 0 (beBytes 1 op ++ beBytes 1 s.twRole ++ beBytes 1 s.twState ++ [0] ++ beBytes 4 gen ++ beBytes 2 status ++ List.replicate 6 0)
  else s
/-- A STATE frame (R394). -/
def State.sendState (s : State) : State := s.sendSwap 6 s.roleGen 0

/-! ### Mirrored state at a standby (R379, R382–R387) -/

/-- The CHAIN value this device holds for an entry of a strand: the genesis value for 0, a recent head, or the ring. -/
def State.chainAt (s : State) (k q : Nat) : List Byte :=
  if q = 0 then genesisChain (s.rd64 (jnReg 0 0x110)) k
  else
    let x := s.strand k
    if q = x.verified then x.chain
    else match x.toVerify.find? fun e => beAt e 4 8 = q with
    | some e => sliceBytes e 0xD0 48
    | none =>
      match x.heads.find? (·.1 = q) with
      | some h => h.2
      | none => s.bytes (s.entryAddr k q + 0xD0) 48
/-- A mirror fault (R379). -/
def State.mirrorFault (s : State) : State :=
  let s := ((s.twStatus 0x609).twBump 10).irq twPage 3
  let j := s.jn
  let clear (x : Strand) : Strand := { x with toVerify := [], seq := x.verified }
  ({ s with jn := { j with accepting := false, rx := {}, shadow := [], strands := j.strands.map fun (e : Nat × Strand) => (e.1, clear e.2) } }).setTwState 8
/-- The standby checks the chain value of the oldest accepted entry of a strand and writes the entry to its ring (R379). -/
def State.verifyOne (s : State) (k : Nat) : State :=
  let x := s.strand k
  match x.toVerify with
  | [] => s
  | e :: es =>
    let chain := sha384 (s.chainAt k x.verified ++ e.take 0xD0)
    if chain = e.drop 0xD0 then
      let q := beAt e 4 8
      let s := s.setBytes (s.entryAddr k q) e
      (s.setStrand k { x with toVerify := es, chain := chain, verified := q, heads := ((q, chain) :: x.heads).take 64 }).ringLeave k
    else s.mirrorFault
/-- Every accepted entry is checked. -/
def State.verifyAll (s : State) : State :=
  (List.range 16).foldl (fun s k => (s.strand k).toVerify.foldl (fun s _ => s.verifyOne k) s) s

/-- A stone record applied to the context of its index (R383). -/
def State.applyStone (s : State) (i : Nat) (b : List Byte) : State :=
  match s.ctxCached i with
  | some _ => s.modCached i fun x => { x with c := x.c.withStone b, changed := true }
  | none => { s with cxs := { s.cxs with hbm := cput {} ((s.ctxHbm i).withStone b) i s.cxs.hbm } }
/-- The mirrored zone whose records hold an index of the key store. -/
def State.zoneOfIndex (s : State) (i : Nat) : Option Nat :=
  (List.range 64).find? fun z => let x := s.zone z; s.mirrored z && decide (x.zbase ≤ i) && decide (i < x.zbase + x.count)
/-- A key record applied: this device's own REFCNT stays, and copies of the key leave its vaults. -/
def State.applyKey (s : State) (i : Nat) (b : List Byte) : State :=
  let a := spHbm + s.rd64 (kvReg 0 0x108) + 128 * i
  let s := s.setBytes a (spliceBytes b 0x1C (s.bytes (a + 0x1C) 4))
  match s.zoneOfIndex i with
  | some z => s.zeroiseKey (z * 2 ^ 26 + (i - (s.zone z).zbase))
  | none => s
/-- The KEK fingerprint in a zone state differs from this device's own (R382). -/
def State.fingerprintBad (s : State) (z : Nat) (b : List Byte) : Bool :=
  decide ((aesCmac (s.kek z (beAt b 2 2)) (List.replicate 16 0)).take 8 ≠ sliceBytes b 0x18 8)
/-- A zone state applied (Table 11.7); a zone that it stops keeps no copy of its keys (R313). -/
def State.applyZone (s : State) (z : Nat) (b : List Byte) : State :=
  let x := s.zone z
  let s := if x.started && beAt b 0 1 % 2 = 0 then s.zeroiseZone z else s
  let s := s.setZone z { x with started := beAt b 0 1 % 2 = 1, epoch := beAt b 2 2, floor := beAt b 4 2, ceil := beAt b 8 8, ceilSent := beAt b 8 8,
                                zbase := beAt b 16 4, count := beAt b 20 4 }
  { s with vlt := { s.vlt with bfloor := cput 0 (beAt b 6 2) z s.vlt.bfloor } }
/-- A delta record applied to LIVE (Table 11.6). -/
def State.applyDelta (s : State) (r : List Byte) : State :=
  let i := beAt r 12 4
  let d := r.drop 16
  match beAt r 8 1 with
  | 1 => s.applyStone i d
  | 2 => s.applyKey i d
  | 3 => s.applyZone i d
  | 4 => s.setZone i { s.zone i with ceil := beAt d 0 8, ceilSent := beAt d 0 8 }
  | _ => s
/-- Data bytes of a delta record of a kind; a record of another kind is the rest of its frame. -/
def deltaLen (kind : Nat) : Nat := if kind = 1 then 64 else if kind = 2 then 128 else if kind = 3 then 32 else if kind = 4 then 8 else 4096
/-- The records of a DELTA frame (R385). -/
def deltaRecords : Nat → List Byte → List (List Byte)
  | 0, _ => []
  | n + 1, b => if b.length < 16 then [] else let k := 16 + deltaLen (beAt b 8 1); b.take k :: deltaRecords n (b.drop k)

/-! ### Checkpoints at the active (R386) -/

/-- A checkpoint starts, unless one is in progress: with the partner a standby on a link that is up. -/
def State.startCheckpoint (s : State) : State :=
  if s.jn.tx.active ∨ !s.twActive ∨ !s.jn.link.up ∨ s.jn.gone ∨ s.jn.partState < 8 ∨ 11 < s.jn.partState ∨ s.lockInForce ∨ s.jn.cutOff then s
  else
    let heads := (List.range 16).map fun k => ((s.strand k).seq, s.headChain k)
    let n := (s.rd (twReg 0x114)).toNat + 1
    ({ s with jn := { s.jn with tx := { active := true, epoch := n, dseqStart := s.jn.dseq + 1, heads := heads },
                                partState := if s.jn.partState = 8 then 9 else s.jn.partState } }).wrn (twReg 0x14C) 0
/-- The records a checkpoint segment of the key-record region may hold: first index and count of the next run at or after
`i`, at most 31. -/
def State.nextKeys (s : State) (i : Nat) : Option (Nat × Nat) :=
  let runs := (List.range 64).filterMap fun z =>
    let x := s.zone z
    if s.mirrored z && decide (i < x.zbase + x.count) then some (max i x.zbase, x.zbase + x.count - max i x.zbase) else none
  (runs.foldl (fun (b : Option (Nat × Nat)) r => match b with | none => some r | some q => if r.1 < q.1 then some r else some q) none).map
    fun r => (r.1, min r.2 31)
/-- The next zone to send at or after `z`, and how many consecutive mirrored zones follow it. -/
def State.nextZones (s : State) (z : Nat) : Option (Nat × Nat) :=
  match (List.range 64).find? fun i => decide (z ≤ i) && s.mirrored i with
  | none => none
  | some a => some (a, ((List.range (64 - a)).takeWhile fun k => s.mirrored (a + k)).length)
/-- What the next segment carries: region, first index, data, and the region and index after it (Table 11.8). Segments hold
whole records (log entry 25). -/
def State.segmentData (s : State) (c : Ckpt) : Nat × Nat × List Byte × Nat × Nat :=
  let keys (i : Nat) : Nat × Nat × List Byte × Nat × Nat :=
    match s.nextKeys i with
    | some (a, n) =>
      (3, a, (List.range n).flatMap fun j => spliceBytes (s.bytes (spHbm + s.rd64 (kvReg 0 0x108) + 128 * (a + j)) 128) 0x1C (List.replicate 4 0),
        3, a + n)
    | none => (0xFF, 0, beBytes 4 c.seg ++ sha384 c.data, 0xFF, 0)
  let stones (i : Nat) : Nat × Nat × List Byte × Nat × Nat :=
    if i < 131072 then
      let n := min 63 (131072 - i)
      (2, i, (List.range n).flatMap fun j => (s.ctx (i + j)).stone, 2, i + n)
    else keys 0
  if c.seg = 0 then (0, 0, c.heads.flatMap fun h => beBytes 8 h.1 ++ h.2, 1, 0)
  else if c.region = 1 then
    match s.nextZones c.idx with
    | some (a, n) => (1, a, (List.range n).flatMap fun j => s.zoneState (a + j), 1, a + n)
    | none => stones 0
  else if c.region = 2 then stones c.idx
  else keys c.idx
/-- The next segment: its payload, and the state after it is given to the link. -/
def State.takeSegment (s : State) : List Byte × State :=
  let c := s.jn.tx
  let (region, first, data, r2, i2) := s.segmentData c
  let p := beBytes 4 c.epoch ++ beBytes 4 c.seg ++ beBytes 1 region ++ [0, 0, 0] ++ beBytes 4 data.length ++ beBytes 8 first ++
    beBytes 8 c.dseqStart ++ data
  let rate := max 1 (s.fld (twReg 0x148) 7 0)
  let c := { c with seg := c.seg + 1, region := r2, idx := i2, ended := decide (region = 0xFF),
                    data := if region = 0xFF then c.data else c.data ++ data, nextT := s.clk.ns + (p.length + 16) * 8 / rate }
  (p, ({ s with jn := { s.jn with tx := c } }).wrn (twReg 0x14C) c.seg)
/-- A checkpoint completed at the standby: the active learns of it (R374, R387). -/
def State.checkpointDone (s : State) : State :=
  let c := s.jn.tx
  let s := (({ s with jn := { s.jn with tx := {} } }).wrn (twReg 0x114) c.epoch).wrn (twReg 0x14C) 0
  let s := (s.twBump 6).irq twPage 2
  (List.range 16).foldl (fun s k =>
    if s.commitMode = 3 ∨ s.commitMode = 0 then
      ((s.strand k).uncommitted.filter fun e => decide (e.1 ≤ (nth (0, []) c.heads k).1) &&
          !s.jn.unacked.any fun m => match m with | .entry a q _ _ => decide (a = k) && decide (q = e.1) | _ => false).foldl
        (fun s e => (s.commitEntry k e.1).commitFollow e.2) s
    else s) s

/-! ### The standby at the active (R376, R377) -/

/-- The standby reached SYNCED: the stone is paired (Table 11.10). -/
def State.paired (s : State) : State :=
  if s.twState = 1 then
    let s := s.setTwState 2
    let s := if s.jn.solo then ({ s with jn := { s.jn with solo := false } }).markers 6 s.roleGen else s
    s.startCtrSync
  else s
/-- The standby is lost to the active: entries that wait for its ACK commit under the new condition (R376). -/
def State.standbyLost (s : State) : State :=
  let waiting := (List.range 16).flatMap fun k => (s.strand k).uncommitted.map fun e => (k, e.1, e.2)
  let was := s.twState
  let had := decide (9 ≤ s.jn.partState ∧ s.jn.partState ≤ 11)
  let s := ({ s with jn := { s.jn with partState := 0, partRole := 0, tx := {} } }).stopMirror
  let s := if was = 2 ∨ was = 3 then s.setTwState 1 else s
  let s := s.ringStandbyLost
  if s.onLossSolo ∧ (was = 1 ∨ was = 2 ∨ was = 3) then
    let s := if had && !s.jn.solo then ({ s with jn := { s.jn with solo := true } }).markers 5 s.roleGen else s
    waiting.foldl (fun s e => (s.commitEntry e.1 e.2.1).commitFollow e.2.2) s
  else s

/-! ### Loss, probes and promotion (R390–R392, Table 11.10) -/

/-- The mirrored GEN ceilings are taken: the next GEN of a mirrored zone is its ceiling (R384). -/
def State.takeCeilings (s : State) : State :=
  (List.range 64).foldl (fun s z => if s.mirrored z then let x := s.zone z; s.setZone z { x with gen := max x.gen (x.ceil - 1) } else s) s
/-- A device becomes active: its forwarding table and the transfers in flight are discarded, and dispatch is on (R182). -/
def State.becomeActive (s : State) (st : Nat) : State :=
  ((({ s with vp := { s.vp with fwd := [] } }).dropTransfers).setTwState st).resumeDispatch
/-- Promotion (R392). -/
def State.promote (s : State) : State :=
  let s := s.verifyAll
  if s.twState = 10 ∨ s.twState = 11 then
    let g := s.roleGen
    let s := { s with jn := { s.jn with rx := {}, shadow := [], partState := 0, partRole := 0, solo := s.onLossSolo, accepting := false, tx := {} } }
    let s := ((s.setTwState 12).setRoleGen ((g + 1) % 2 ^ 32)).takeCeilings
    let s := ((s.setTwState 1).markers 3 g).twBump 2
    let s := if s.crStat 20 then s.setCrStat 20 false else s.forgetCounters
    s.becomeActive 1
  else s.twStatus 0x60B
/-- The partner is declared lost (R390, R391, Table 11.10): a probe is sent; an active device does not wait for the answer. -/
def State.declareLoss (s : State) : State :=
  if s.jn.gone then s
  else
    let st := s.twState
    let s := ({ s with jn := { s.jn with gone := true, probing := true } }).twBump 1
    let s := (s.irq twPage 1).sendProbe
    if st = 1 ∨ st = 2 then s.standbyLost
    else if st = 3 then
      ((({ s with jn := { s.jn with swapG := none, swapSent := none, drained := false } }).standbyLost).twStatus 0x606).resumeDispatch
    else s
/-- The twin link goes down: both directions continue at the next multiple of 2^32 (R381), and the partner is declared lost
(R390). -/
def State.twinDown (s : State) : State :=
  if s.jn.link.up then
    let x := s.jn.link
    let x := { x with up := false, txHi := x.txHi + 1, txSeq := 0, rxHi := x.rxHi + 1, rxSeq := 0, replay := [], resend := none, nakT := none,
                      inbox := [], ctl := x.ctl.filter fun c => c.1 = 0x12 }
    ({ s with jn := { s.jn with link := x } }).declareLoss
  else s
/-- What a standby, or a device in HANDOVER, does once the probe is answered or not: `act` tells that the partner answered
active and not LOCKED, `same` that it is active with the swap's generation (Table 11.10). -/
def State.afterProbe (s : State) (answered act same : Bool) : State :=
  let s := { s with jn := { s.jn with probing := false } }
  let st := s.twState
  let idle (s : State) : State := ({ s with jn := { s.jn with rx := {}, shadow := [] } }).setTwState 8
  if st = 10 ∨ st = 11 then (if act then idle s.verifyAll else s.promote)
  else if st = 8 ∨ st = 9 then (if answered then idle s else (idle s).twStatus 0x60B)
  else if st = 4 then
    let s := { s with jn := { s.jn with swapG := none, swapSent := none, drained := false } }
    if same then idle s else (idle s).twStatus 0x606
  else s

/-! ### Role swaps (R395–R397) -/

/-- A swap is requested (R395): REQ with the next generation. -/
def State.requestSwap (s : State) : State :=
  let g := (s.roleGen + 1) % 2 ^ 32
  ({ s with jn := { s.jn with swapSent := some g } }).sendSwap 1 g 0
/-- The active accepts the swap of generation G and enters DRAINING (R397, step 1). -/
def State.beginDrain (s : State) (g : Nat) : State :=
  (({ s with jn := { s.jn with swapG := some g, drained := false } }).sendSwap 2 g 0).setTwState 3
/-- The swap commits once the stream is acknowledged (R397, step 4). -/
def State.tryCommitSwap (s : State) : State :=
  match s.jn.swapG with
  | some g =>
    if s.twState = 3 ∧ s.jn.drained ∧ s.jn.unacked = [] ∧ s.jn.mirror = [] then
      (((s.sendSwap 3 g 0).setTwState 4).setRoleGen g).dropTransfers
    else s
  | none => s
/-- The verdicts in progress when the drain ends lose their held effects and responses (R397, step 2). -/
def State.discardVerdicts (s : State) : State :=
  s.vp.verdicts.foldl (fun s e =>
    match s.verdict e.1 with
    | some x =>
      if x.ended then s
      else
        let s := (s.dropResp e.1).modVerdict e.1 fun y => { y with trust := .fail, held := [], resp := none }
        let s := x.held.foldl (fun s h => s.dropHeld x.core h) s
        (s.twBump 5).verdictEnd e.1
    | none => s) s
/-- The messages left in the dispatch queues go to the partner as VERDICT_FWD requests, in arrival order (R397, step 6); those
whose TRUST is not yet known wait for it. -/
def State.forwardQueued (s : State) : State :=
  (List.range 4).foldl (fun s o =>
    (cget [] s.vp.queues o).foldl (fun s m =>
      if s.msgTrust m = .pass then
        let s := { s with vp := { s.vp with queues := cput [] ((cget [] s.vp.queues o).filter (· != m)) o s.vp.queues } }
        match (List.range 4096).find? fun i => (oget s.vp.fwd i).isNone with
        | none => (s.vmBump o 14).errInfo (ozPage o) o 0x31D
        | some i =>
          let env := envelope false m.msg.length m.reqId ++ m.msg
          let s := { s with vp := { s.vp with fwd := oput ⟨m.ctx, m.port, m.reqId, m.src, s.clk.ns⟩ i s.vp.fwd } }
          (s.sendFwd (fwdHeader 0 1 0 0 m.ctx m.port env.length i m.rxTime 0 0 0 m.plynun ++ env)).vmBump o 12
      else s) s) s

end Sys2Proof.Machine
end

