-- ==== Sys2Proof/Machine/CustodyOps.lean ====
section
/-!
DEFINITION. Custody (chapter 16): what LOCK does when it begins (R527), alarms on their way to the latch (R523), the
custodian session (R534–R536), threshold sharing of the root, and the serving of custody commands (R554).
-/
namespace Sys2Proof.Machine

/-- A register of CD instance `i`. -/
def cdReg (i off : Nat) : Nat := ra tCD i off
/-- The page of CD instance `i`. -/
def cdPage (i : Nat) : Nat := pageNo tCD i
/-- A change of the custody state. -/
def State.modCus (s : State) (f : Custody → Custody) : State := { s with cus := f s.cus }

/-! ### LOCK begins (R527) -/

/-- Queued and staged frames of the fabric lanes are flushed and counted (R155, Table 16.5). -/
def State.lockFlush (s : State) : State :=
  (tkeys s.fab.frames).foldl (fun s n =>
    match s.frame n with
    | none => s
    | some f =>
      match f.place with
      | .queued q => if q < 32768 then s.dropQueued q n 4 else s
      | .pulled l _ => s.dropQueued (queueOf l f.cls) n 4
      | .staged l => s.dropQueued (queueOf l f.cls) n 4
      | _ => s) s

/-- LOCK comes into force over a state in which `was` says whether it was already. -/
def State.lockFollow (s : State) (was : Bool) : State := if !was && s.lockInForce then s.lockFlush else s

/-! ### The custodian session (R535, R536) -/

/-- CD_CMD_STATUS: code of a command and its status. -/
def State.cmdStatus (s : State) (code status : Nat) : State := s.wrn (cdReg 2 0x10C) (code % 2 ^ 16 * 2 ^ 16 + status % 2 ^ 16)
/-- The open session closes with a status, which CD_CMD_STATUS records under the code of UNLOCK_BEGIN. -/
def State.endSession (s : State) (status : Nat) : State :=
  let s := (s.modCus fun c => { c with session := {} }).cmdStatus 0x30 status
  let s := if status = 0 then s else s.bump (cdPage 1) 3 0 1
  s.irq (cdPage 1) 2
/-- A session that is open ends unsuccessfully with 0x080A. -/
def State.failSession (s : State) : State := if s.cus.session.open_ then s.endSession 0x80A else s

/-- Multiplication in GF(2^8) with the polynomial of AES; R534 names the field and no polynomial (log entry 28). -/
def gfMul (a b : Byte) : Byte :=
  ((List.range 8).foldl (fun (x : Byte × Byte) (i : Nat) => (if bitAt b i then x.1 ^^^ x.2 else x.1, aesXtime x.2)) (0, a)).1
/-- The inverse in GF(2^8): a to the power 254. -/
def gfInv (a : Byte) : Byte := (List.range 253).foldl (fun x _ => gfMul x a) a
/-- The share at `x` of a secret and the coefficients of its polynomial, byte by byte (R534). -/
def shareAt (secret : List Byte) (coeffs : List (List Byte)) (x : Nat) : List Byte :=
  let xb : Byte := BitVec.ofNat 8 x
  (List.range secret.length).map fun i =>
    (coeffs.reverse.foldl (fun acc c => gfMul acc xb ^^^ nth 0 c i) 0 |> fun h => gfMul h xb) ^^^ nth 0 secret i
/-- The secret that shares determine: interpolation at 0. -/
def recoverShares (shares : List (Nat × List Byte)) : List Byte :=
  (List.range 32).map fun i =>
    shares.foldl (fun acc e =>
      let xi : Byte := BitVec.ofNat 8 e.1
      let l := shares.foldl (fun l f =>
        if f.1 = e.1 then l else let xj : Byte := BitVec.ofNat 8 f.1; gfMul l (gfMul xj (gfInv (xj ^^^ xi)))) (1 : Byte)
      acc ^^^ gfMul l (nth 0 e.2 i)) 0

/-- A start holds under R499. -/
def State.startHeld (s : State) : Bool := s.fld (ra tGLB 0 0x204) 12 11 != 0
/-- The root is lost, or was never generated. -/
def State.rootLost (s : State) : Bool := s.cus.root.isNone

/-- The latch takes UNLOCKED; the twin partners meet again (R393), and a start that holds at the end of step 11 runs
step 12 (R499). -/
def State.unlatch (s : State) : State :=
  let s := (s.modCus fun c => { c with latch := 0x3C5A }).irq (cdPage 1) 1
  let s := if s.lockInForce then s else s.sendState
  if s.fld (ra tGLB 0 0x204) 11 11 = 1 ∧ !s.lockInForce then
    ({ s with st := { s.st with stepT := s.clk.ns } }.setFld (ra tGLB 0 0x204) 11 11 0).setFld (ra tGLB 0 0x204) 3 0 12 else s

/-- A start that waits at step 3 for the root goes on once there is one (R499). -/
def State.rootBack (s : State) : State :=
  if s.rootLost then s else s.setFld (ra tGLB 0 0x204) 12 12 0

/-- Every armed monitor is inside its slow band (R536). -/
def State.monitorsQuiet (s : State) : Bool :=
  (List.range 6).all fun m => let x := s.monitor m; !x.armed || (!x.outSlow && !x.outGlitch && x.dep = 0)

/-- A session succeeds once M cards and two badges are counted (R535): the root is recovered if it is lost, the latch
changes under Table 16.4, and the session closes. -/
def State.sessionCheck (s : State) : State :=
  let x := s.cus.session
  if !x.open_ || s.cus.m = 0 || x.cards.length < s.cus.m || x.badges.length < 2 || !s.monitorsQuiet then s
  else
    let r := if s.rootLost then recoverShares (x.shares.take s.cus.m) else []
    if s.rootLost ∧ sha384 r ≠ s.cus.rootDigest then s.endSession 0x80D
    else
      let held := s.startHeld
      let s := if s.rootLost then (s.modCus fun c => { c with root := some r, boots := 0 }) else s
      let s :=
        if s.cus.latch = 0xC3A5 then
          let s := s.bump (cdPage 1) 2 0 1
          if held then s.unlatch else (s.modCus fun c => { c with latch := 0x5AC3 }).irq (cdPage 1) 1
        else s
      (s.rootBack.modCus fun c => { c with quorum := true }).endSession 0

/-! ### Alarms (R523–R526) -/

/-- Sources of Table 16.3: 1 GLITCH, 2 SLOW, 3 SEQUENCE, 4 STATE, 5 LINK, 6 FORCE. -/
def State.batteryAlarm (s : State) (src unit : Nat) : Bool := !s.cus.keepOff || decide (unit % 128 = 5 ∧ src ≤ 2) || decide (src = 4 ∧ unit = 1)
/-- An alarm record (Table 16.3) with the flag WAS_LOCKED. -/
def alarmRecord (c : Custody) (e : Nat × Nat × Nat × Nat) : List Byte :=
  beBytes 1 e.1 ++ beBytes 1 e.2.1 ++ beBytes 1 (e.2.2.1 + 2 * b2n (c.latch != 0x3C5A)) ++ [0] ++ leBytes 4 c.boots ++
    leBytes 8 (c.aon % 2 ^ 48) ++ leBytes 8 e.2.2.2 ++ List.replicate 8 0
/-- AON ticks of 1/32,768 s that a number of nanoseconds makes. -/
def aonTicks (ns : Nat) : Nat := ns * 32768 / 1000000000
/-- AON_TIME now (Table 16.3). -/
def State.aonTime (s : State) : Nat := (s.cus.aon + aonTicks s.clk.ns) % 2 ^ 48
/-- One waiting alarm is recorded, and latched (R525, R526). -/
def State.recordAlarm (s : State) (e : Nat × Nat × Nat × Nat) : State :=
  let r := alarmRecord { s.cus with aon := s.aonTime } e
  let s :=
    if s.cus.records.length < 16 then s.modCus fun c => { c with records := c.records ++ [r] }
    else (s.modCus fun c => { c with overflow := min (c.overflow + 1) 0xFFFF }).setFld (cdReg 1 0x104) 3 3 1
  s.modCus fun c => { c with latch := 0xC3A5 }

/-! ### Custody commands (R554) -/

/-- The channel whose command custody serves next. -/
def State.custHead (s : State) : Option Nat := s.hi.custQ.find? fun ch => (s.mbox ch).full
/-- Custody acknowledges the command of a channel: MB_ACK, CD_CMD_STATUS, CD_CMD_RESULT and, for a core that sends, the
channel 8 above (R554). -/
def State.custAck (s : State) (ch code status : Nat) (res : List Word) : State :=
  let snd := s.mbSend ch
  let s := (s.setMbox ch { s.mbox ch with ack := status, ackValid := true, full := false })
  let s := { s with hi := { s.hi with custQ := s.hi.custQ.filter (· ≠ ch) } }
  let s := s.cmdStatus code status
  let s := (List.range res.length).foldl (fun s k => s.wr64 (cdReg 2 (0x140 + 8 * k)) (nth 0 res k).toNat) s
  let s :=
    if decide (snd < 128) && !res.isEmpty && s.mbRefusal (ch + 8) endCust 0 == 0 then
      (s.mbData (ch + 8) 0 (res.flatMap fun w => leBytes 8 w.toNat)).mbDoSend (ch + 8) res.length
    else s
  (s.irq (cdPage 2) 3).mbNotify ch snd

/-- Codes of Table 16.12. -/
def custCodes : List Nat :=
  [0x01, 0x02, 0x03, 0x10, 0x20, 0x21, 0x30, 0x31, 0x32, 0x40, 0x41, 0x50, 0x51, 0x52, 0x53, 0x54, 0x55, 0x60, 0x61, 0x62]
/-- Custody serves the command at the head of its channels, when its code is `code`; `f` takes the channel and the words of
the command and answers a status and result words. A code that Table 16.12 does not list is refused with 0x0801
whichever command custody was to serve. -/
def State.custServe (s : State) (code : Nat) (f : Nat → List Nat → State → (Nat × List Word) × State) : State :=
  if s.cus.invalid.contains 4 then s
  else match s.custHead with
    | none => s
    | some ch =>
      let w := (s.mbox ch).data.map BitVec.toNat
      let c := nth 0 w 0
      if !custCodes.contains c then s.custAck ch (c % 2 ^ 16) 0x801 []
      else if c ≠ code then s
      else
        let ((st, res), s) := f ch w s
        s.custAck ch code st res

/-- A command that only answers a status. -/
def plainResult (r : Nat × State) : (Nat × List Word) × State := ((r.1, []), r.2)
/-- The bytes of command words `k` to `k + n − 1` in memory order (R539). -/
def wordBytes (w : List Nat) (k n : Nat) : List Byte := (List.range n).flatMap fun i => leBytes 8 (nth 0 w (k + i))

/-- LC_STAT (Table 16.16). -/
def State.lcStat (s : State) : Nat :=
  s.silicon + 2 ^ 8 * b2n s.cus.corrected + 2 ^ 9 * b2n s.cus.makerSlots + 2 ^ 10 * b2n (s.cus.digest1 ≠ []) +
    2 ^ 11 * b2n (s.cus.digest2 ≠ []) + 2 ^ 12 * b2n s.cus.makerSlots + 2 ^ 16 * min s.cus.tokenFails 255
/-- OTP word of a silicon state (Table 16.6). -/
def lcWord (t : Nat) : Nat := nth 0x3F [0x3F, 0xFFF, 0x3FFFF, 0xFFFFFF, 0x3FFFFFFF] t
/-- The token digest that lets the device enter silicon state `t` (Table 16.6, R538). -/
def State.lcDigest (s : State) (t : Nat) : List Byte :=
  if t = 2 then s.cus.digest1 else if t = 3 then s.cus.digest2 else Config.makerDigest (if t = 1 then 0 else 3)

/-- The debug classes A–D that are open (Tables 16.8 and 16.2), bit 0 class A. -/
def State.jtagClasses (s : State) : Nat :=
  if s.silicon = 0 ∨ s.silicon = 3 then 15
  else if s.silicon = 1 then 7
  else if s.silicon = 2 then
    (match s.cus.grant with
     | some g => if s.cus.invalid.contains 3 then 1 else 1 + 2 * (g % 4)
     | none => 1)
  else 1

/-! ### Zeroisation on entry to RETURNED (R540) -/

/-- The root and its enrolment, zone seeds and records, the configuration store, the alarm records, and what the flash
holds for the customer. -/
def State.zeroiseCustomer (s : State) : State :=
  let s := s.modCus fun c =>
    { c with root := none, rootDigest := [], m := 0, n := 0, cards := [], badges := [], gen := none, session := {}, records := [],
             overflow := 0 }
  let s := { s with vlt := { s.vlt with zones := [], resident := [], fills := [], bfloor := [] } }
  let s := (s.eraseBank 0).eraseBank 1
  { s with fl := { s.fl with body := none, prot := 0, pass := 0 } }

/-! ### Certificates and seed blobs (R543–R545) -/

/-- An ECDSA P-384 signature r ‖ s of 96 bytes verifies. -/
def p384Verify (q : Nat × Nat) (m sig : List Byte) : Bool :=
  let r := ofBe (sig.take 48)
  let t := ofBe (sliceBytes sig 48 48)
  decide (1 ≤ r ∧ r < p384.n ∧ 1 ≤ t ∧ t < p384.n) && p384.verify q (sha384 m) r t
/-- The UID and public key of a custody identity certificate that names this part and verifies under the device-issuing
key (R543, Table 16.20). -/
def certOpen (c : List Byte) : Option (List Byte × (Nat × Nat)) :=
  if ofLe (c.take 4) = 0x43494431 ∧ ofLe (sliceBytes c 4 1) = 1 ∧ ofLe (sliceBytes c 5 1) = 0x41 ∧ ofLe (sliceBytes c 6 2) = 0x1024 ∧
      p384Verify Config.issuerPub (c.take 0x80) (sliceBytes c 0x80 96) then
    (p384.decode (sliceBytes c 0x18 97)).map fun q => (sliceBytes c 8 16, q)
  else none
/-- The device's own UID as 16 bytes. -/
def ownUid : List Byte := leBytes 16 Config.uid.toNat
/-- The wrap key of a zone seed blob (R543). -/
def seedWrapKey (q : Nat × Nat) (src dst : List Byte) (zone : Nat) : List Byte :=
  let z := match p384.mul Config.custodyPriv (some q) with | some (x, _) => beBytes 48 x | none => List.replicate 48 0
  (sha384 (z ++ [0x5A, 0x4F, 0x4E, 0x45, 0x2D, 0x53, 0x45, 0x45, 0x44] ++ src ++ dst ++ beBytes 1 zone)).take 32

end Sys2Proof.Machine
end

