-- ==== Sys2Proof/Machine/CardOps.lean ====
section
/-!
DEFINITION. The custodian card slot (chapter 19): powering, the event log, failures and repetition, the UNKNOWN record, and
what each card command leads to.
-/
namespace Sys2Proof.Machine

/-- A register of CD instance 7. -/
def cbReg (off : Nat) : Nat := cdReg 7 off
/-- CD instance 7. -/
def cbPage : Nat := cdPage 7
/-- A change of the card slot. -/
def State.modCard (s : State) (f : Card → Card) : State := { s with cb := { s.cb with card := f s.cb.card } }
/-- A change of the badge reader. -/
def State.modRdr (s : State) (f : Reader → Reader) : State := { s with cb := { s.cb with rdr := f s.cb.rdr } }
/-- Counter `k` of CD instance 7 (Table 19.11). -/
def State.cbBump (s : State) (k : Nat) : State := s.bump cbPage k 0 1
/-- CB_STATUS records a code. -/
def State.cbStatus (s : State) (code : Nat) : State := s.status (cbReg 0x10C) code

/-- A slow input (R511): 0 SWAP_N, 1 CD, 2 WP, 3 FIELD_DET. -/
def State.slow (s : State) (i : Nat) : SlowIn := cget {} s.st.slow i
/-- Write a slow input. -/
def State.setSlow (s : State) (i : Nat) (x : SlowIn) : State := { s with st := { s.st with slow := cput {} x i s.st.slow } }

/-- An event record (Table 19.10) enters the log; the oldest of 16 makes room (R625). -/
def State.cbLog (s : State) (kind purpose status flags code : Nat) (id : List Byte) (c : Nat) : State :=
  let r := beBytes 1 kind ++ beBytes 1 purpose ++ leBytes 2 status ++ beBytes 1 flags ++ beBytes 1 code ++ [0, 0] ++ padTo 16 id ++
    leBytes 6 s.aonTime ++ leBytes 2 c
  let full := decide (16 ≤ s.cb.log.length)
  { s with cb := { s.cb with log := (if full then s.cb.log.drop 1 else s.cb.log) ++ [r],
                             logOvf := if full then min (s.cb.logOvf + 1) 0xFFFF else s.cb.logOvf } }.irq cbPage 3

/-! ### The slot -/

/-- The slot may work: domain 79 is ON and SLOT_EN is 1 (R618). -/
def State.slotOn (s : State) : Bool := s.domOn 79 && s.fld (cbReg 0x100) 24 24 == 1
/-- A presentation is under way. -/
def Card.busy (c : Card) : Bool := decide (1 ≤ c.phase ∧ c.phase ≤ 4)
/-- What stays of the slot between presentations. -/
def Card.idle (c : Card) : Card :=
  { phase := if c.inserted then 5 else 0, inserted := c.inserted, rawOut := c.rawOut, ident := c.ident, unk := c.unk, unkLost := c.unkLost,
    tx := c.tx }
/-- The card is powered for a presentation (R606, R617), when one is in the slot. -/
def State.cardStart (s : State) : State :=
  if s.slotOn && s.cb.card.inserted && !s.cb.card.busy then s.modCard fun c => { c.idle with phase := 1 } else s

/-- CARD_ID as a number, byte 0 lowest. -/
def cardId (ident : List Byte) : Nat := ofLe (ident.take 16)
/-- TXN of a transaction: LAST_TXN + 1 (R614, Table 19.4). -/
def Card.txn (c : Card) : Nat := ofBe (sliceBytes c.ident 0x14 4) + 1

/-- A presentation ends (R617): its event record and status; in a session a failure is reported as 0x080C (R535). -/
def State.cardEnd (s : State) (status : Nat) (counted : Bool) : State :=
  let c := s.cb.card
  let s := (s.cbLog 1 c.purpose status (2 * b2n counted) c.code (c.ident.take 16) 0).cbStatus status
  let s := if c.purpose = 1 ∧ status ≠ 0 then s.cmdStatus 0x30 0x80C else s
  s.modCard Card.idle

/-- The operation becomes UNKNOWN (R615, R616). -/
def State.cardUnknown (s : State) : State :=
  let c := s.cb.card
  (s.modCard fun x => { x with unk := some ⟨cardId c.ident, c.txn, c.purpose, c.key⟩, unkLost := x.unkLost || x.unk.isSome }).irq cbPage 4

/-- A presentation fails for good: with a transaction open, ABORT goes first (R614). -/
def State.cardFinal (s : State) (status : Nat) : State :=
  let c := s.cb.card
  if c.sent = 44 then s.cardEnd c.endCode false
  else if c.open_ then s.modCard fun x => { x with endCode := status, next := 44, sent := 0, await := 0, tries := 0, ext := 0 }
  else s.cardEnd status false

/-- A command fails (R612, R616); `rep` tells whether the failure is of a kind that may be repeated. -/
def State.cardFailNow (s : State) (status : Nat) (rep : Bool) : State :=
  let c := s.cb.card
  if c.sent = 43 then ((s.cardUnknown).cardEnd status false).cardStart
  else if rep && decide (c.tries < 2) then
    s.modCard fun x => { x with next := if 24 ≤ c.sent ∧ c.sent ≤ 26 then 24 else c.sent, await := 0, ext := 0, tries := c.tries + 1 }
  else s.cardFinal status
/-- A command fails; while raw CD is inactive the filter decides first (R615). -/
def State.cardFail (s : State) (status : Nat) (rep : Bool) : State :=
  if s.cb.card.rawOut then s.modCard fun x => { x with waiting := some (status + 2 ^ 16 * b2n rep), await := 0, next := 0 }
  else s.cardFailNow status rep
/-- A CRC error (R607, R609). -/
def State.cardCrc (s : State) : State := (s.cbBump 2).cardFail 0x904 true

/-- Filtered removal, an interface that stops or EJECT ends a presentation (R615, R618). -/
def State.cardGone (s : State) (status : Nat) : State :=
  let c := s.cb.card
  if c.busy then
    let s := if c.phase = 4 then s.cbBump 4 else s
    (if c.commit then s.cardUnknown else s).cardEnd status false
  else s

/-! ### What a presentation counts -/

/-- A card is counted in the open session (R535). -/
def State.sessionCard (s : State) (id : Nat) (share : Option (Nat × List Byte)) : State :=
  (s.modCus fun c => { c with session := { c.session with cards := c.session.cards ++ [id],
                                                          shares := c.session.shares ++ share.toList } }).sessionCheck
/-- A generation has written a card; with N cards the root and its enrolment are replaced and the badges follow (R534). -/
def State.genCard (s : State) (id : Nat) (key : List Byte) : State :=
  match s.cus.gen with
  | none => s
  | some g =>
    let g := { g with cards := g.cards.filter (·.1 ≠ id) ++ [(id, key)] }
    if g.cards.length < g.n then s.modCus fun c => { c with gen := some g }
    else
      (s.modCus fun c => { c with gen := some { g with badgePhase := true }, root := some g.root, rootDigest := sha384 g.root, m := g.m,
                                  n := g.n, cards := g.cards, badges := [], boots := 0 }).rootBack

/-! ### The steps of a presentation (Table 19.5) -/

/-- The next command of the presentation; a failure count starts afresh unless the authentication goes on. -/
def State.cardGo (s : State) (idx : Nat) : State :=
  s.modCard fun c => { c with next := idx, sent := 0, await := 0, ext := 0, tries := if idx = 25 ∨ idx = 26 then c.tries else 0 }
/-- The purpose of a presentation at its IDENTIFY (Table 19.5). -/
def State.cardPurpose (s : State) : Nat :=
  if s.cus.session.open_ then 1 else match s.cus.gen with | some g => if g.badgePhase then 0 else 2 | none => 0

/-- The identity block is read (R616, R617). -/
def State.cardIdentified (s : State) (b : List Byte) : State :=
  let s := s.modCard fun c => { c with ident := b.take 64, purpose := if c.second then c.purpose else s.cardPurpose }
  let s := (List.range 4).foldl (fun s i => s.wrn (cbReg (0x110 + 4 * i)) (ofLe (sliceBytes b (4 * i) 4))) s
  let c := s.cb.card
  let id := cardId b
  if nth 0 b 0x10 ≠ 1 then s.cardFinal 0x909
  else
    let last := ofBe (sliceBytes b 0x14 4)
    let mine := match c.unk with | some u => decide (u.card = id) | none => false
    let u := c.unk.getD {}
    let s :=
      if mine then
        let st := if u.txn ≤ last then 0 else 0x908
        ((s.modCard fun x => { x with unk := none }).cbLog 3 u.op st 0 0 (b.take 16) 0).cbStatus st
      else s
    if mine && decide (u.txn ≤ last) && decide (u.op = 2) && decide (c.purpose = 2) then
      ((s.modCard fun x => { x with commit := false, open_ := false }).genCard id u.key).cardEnd 0 true
    else if c.second then s.cardEnd 0 true
    else if c.purpose = 1 then
      if nth 0 b 0x11 != 1 || sliceBytes b 0x18 16 != ownUid || !(s.cus.cards.any fun e => e.1 == id) || s.cus.session.cards.contains id then
        s.cardFinal 0x907
      else (s.modCard fun x => { x with key := ((s.cus.cards.find? fun e => e.1 = id).map (·.2)).getD [] }).cardGo 24
    else if c.purpose = 2 then
      let wp := (s.slow 2).filt
      let s := s.modCard fun x => { x with wp := wp }
      if nth 0 b 0x11 ≠ 0 then s.cardFinal 0x907 else if wp then (s.cbBump 5).cardFinal 0x906 else s.cardGo 40
    else s.cardEnd 0 false

/-- The session key of an authenticated card (R611). -/
def Card.ks (c : Card) : List Byte := aesCmac c.key ([3] ++ c.nd ++ c.nc) ++ aesCmac c.key ([4] ++ c.nd ++ c.nc)

/-- A share record is unsealed (R611): the share index and share of a record for this device. -/
def shareOpen (ks b : List Byte) : Option (Nat × List Byte) :=
  match gcmOpen ks ([1] ++ List.replicate 11 0) [] (b.take 64) (sliceBytes b 64 16) with
  | none => none
  | some p => if p.take 16 = ownUid then some ((nth 0 p 24).toNat, sliceBytes p 27 32) else none

/-- A data block from the card is complete. -/
def State.cardBlock (s : State) (b : List Byte) : State :=
  let c := s.cb.card
  if c.sent = 22 then s.cardIdentified b
  else if c.sent = 25 then
    let nc := b.take 32
    if sliceBytes b 32 16 = aesCmac c.key ([1] ++ c.nd ++ nc) then (s.modCard fun x => { x with nc := nc }).cardGo 26 else s.cardFinal 0x907
  else
    match shareOpen c.ks b with
    | none => s.cardFinal 0x907
    | some sh => (s.cardEnd 0 true).sessionCard (cardId c.ident) (some sh)

/-- A command of the presentation has succeeded, the card's answer to its data block included. -/
def State.cardDone (s : State) : State :=
  let c := s.cb.card
  if c.sent = 24 then s.cardGo 25
  else if c.sent = 26 then if s.rootLost then s.cardGo 28 else (s.cardEnd 0 true).sessionCard (cardId c.ident) none
  else if c.sent = 40 then s.cardGo 41
  else if c.sent = 41 then s.cardGo 42
  else if c.sent = 42 then s.cardGo 43
  else if c.sent = 43 then
    ((s.modCard fun x => { x with open_ := false, commit := false, second := true }).genCard (cardId c.ident) c.key).cardGo 22
  else s.cardEnd c.endCode false

/-- The data block that goes to the card with a command (R611, R617). A generation skips the authentication, so the spec gives
its share record no session key: it is sealed under a free value (log entry 2). -/
def State.cardOut (s : State) : List Byte × State :=
  let c := s.cb.card
  if c.sent = 24 then (c.nd, s)
  else if c.sent = 26 then (aesCmac c.key ([2] ++ c.nc ++ c.nd), s)
  else if c.sent = 41 then (c.key ++ ownUid, s)
  else
    match s.cus.gen with
    | none => ([], s)
    | some g =>
      let x := g.cards.length + 1
      let p := ownUid ++ g.genId ++ beBytes 1 x ++ beBytes 1 g.m ++ beBytes 1 g.n ++ nth [] g.shares (x - 1) ++ List.replicate 5 0
      let (ks, s) := s.freeBytes 32
      let (ct, tag) := gcmSeal ks ([2] ++ List.replicate 11 0) [] p
      (ct ++ tag, s)

/-- A command goes to the card (R607): `idx` is due, nothing is awaited, and raw CD is active (R615). What the command needs
from the custody DRBG is drawn now. -/
def State.cardSend (s : State) (idx : Nat) : State :=
  let c := s.cb.card
  if c.phase ≠ 4 ∨ c.next ≠ idx ∨ c.await ≠ 0 ∨ c.rawOut then s
  else
    let fresh := idx = 24 ∨ (idx = 41 ∧ c.tries = 0)
    let (d, s) := if fresh then s.draw 4 2 else (some [], s)
    match d with
    | none => s.cardFinal 0x842
    | some r =>
      let arg := if idx = 40 ∨ idx = 43 ∨ idx = 44 then c.txn % 2 ^ 32 else 0
      let top := 3 * 2 ^ 38 + arg * 2 ^ 6 + idx
      (s.modCard fun x =>
        { x with next := if idx = 21 then 22 else 0, sent := idx, await := if idx = 21 then 0 else 1, ext := 0,
                 nd := if idx = 24 then r else x.nd, key := if idx = 41 ∧ fresh then r else x.key, open_ := x.open_ || idx == 40,
                 commit := x.commit || idx == 43, tx := ⟨top * 2 ^ 7 + crc7 top, []⟩ }).cbBump 1

/-- The interface stops (R618): the slot as if the card had left it, with 0x090F. -/
def State.slotStop (s : State) : State := s.cardGone 0x90F

end Sys2Proof.Machine
end

