-- ==== Sys2Proof/Machine/BadgeOps.lean ====
section
/-!
DEFINITION. The badge reader (chapter 19, R619–R624): field cycles, the checks of a presentation in their order, and
enrolment.
-/
namespace Sys2Proof.Machine

/-- The reader may work (R618). -/
def State.readerOn (s : State) : Bool := s.domOn 79 && s.fld (cbReg 0x100) 25 25 == 1
/-- A UID as its 7 bytes, byte 0 first. -/
def uidBytes (u : Nat) : List Byte := beBytes 7 u
/-- Badges are being enrolled (R624). -/
def State.enrolling (s : State) : Bool := match s.cus.gen with | some g => g.badgePhase && decide (s.cus.badges.length < 32) | none => false
/-- The enrolled badge of a UID. -/
def State.badge (s : State) (u : Nat) : Option BadgeRec := s.cus.badges.find? fun b => b.uid = u
/-- The revoked badge of a UID (R624). -/
def State.revokedBadge (s : State) (u : Nat) : Option BadgeRec := s.cus.revoked.find? fun b => b.uid = u

/-- The next badge of a field cycle (R622): the lowest UID found, unless it was presented in this cycle or was last seen less
than 500 ms before. -/
def State.nextBadge (s : State) : Option Nat :=
  let x := s.cb.rdr
  (x.found.filter fun u => !x.shown.contains u && !(x.seen.any fun e => e.1 == u && decide (s.clk.ns < e.2 + 500000000))).min?

/-- A field cycle ends, and pinging resumes (R620). -/
def State.fieldEnd (s : State) : State :=
  s.modRdr fun x => { x with st := if s.readerOn then 1 else 0, found := [], shown := [], cur := none, next := 0, sent := 0, retries := 0 }

/-- The presentation of a badge ends with a status (R621): the event record, CB_UID, BADGE; in a session a failure is reported
as 0x080C. -/
def State.badgeEnd (s : State) (status : Nat) (counted : Bool) : State :=
  let x := s.cb.rdr
  match x.cur with
  | none => s
  | some u =>
    let purpose := if x.enrol then 3 else if s.cus.session.open_ then 1 else 0
    let s := s.cbLog 4 purpose status (b2n x.pwUsed + 2 * b2n counted) 0 (uidBytes u) (x.c % 2 ^ 16)
    let s := ((s.cbStatus status).wr64 (cbReg 0x140) u).cbBump 6
    let s := if purpose = 1 ∧ status ≠ 0 then s.cmdStatus 0x30 0x80C else s
    let s := (s.modRdr fun x =>
      { x with cur := none, next := 0, sent := 0, shown := x.shown ++ [u], seen := x.seen.filter (fun e => e.1 != u) ++ [(u, s.clk.ns)],
               kill := false, enrol := false, pwUsed := false, stepped := false, c := 0, kb := [], nr := [], nb := [], sig := [] }).irq cbPage 2
    if (s.nextBadge).isSome then s else s.fieldEnd

/-- The next badge command of the presentation. -/
def State.badgeGo (s : State) (code : Nat) : State := s.modRdr fun x => { x with next := code, sent := 0 }

/-- A command goes to the badge (Table 19.7): code `code` is due and none is awaited. -/
def State.badgeSend (s : State) (code : Nat) (f : Reader → List Byte) : State :=
  let x := s.cb.rdr
  if x.st = 4 ∧ x.cur.isSome ∧ x.next = code ∧ x.sent = 0 then
    let m := beBytes 1 code ++ f x
    s.modRdr fun x => { x with next := 0, sent := code, tx := m ++ crcA m }
  else s

/-- Authentication of the badge failed (R621, step 4): one PASS_AUTH follows when CB_CFG allows it. -/
def State.badgeAuthFail (s : State) : State :=
  let x := s.cb.rdr
  if s.fld (cbReg 0x100) 8 8 = 1 ∧ !x.kill ∧ !x.enrol ∧ x.sent ≠ 0x72 then s.badgeGo 0x72 else s.badgeEnd 0x90B false

/-- Kb that the presentation uses. -/
def State.badgeKb (s : State) : List Byte :=
  let x := s.cb.rdr
  let u := x.cur.getD 0
  if x.enrol then x.kb else if x.kill then ((s.revokedBadge u).map (·.kb)).getD [] else ((s.badge u).map (·.kb)).getD []

/-- After the origin signature has verified: steps 2 and 3 of R621, or the enrolment of R624. -/
def State.badgeChecked (s : State) : State :=
  let u := s.cb.rdr.cur.getD 0
  if (s.revokedBadge u).isSome then (s.modRdr fun x => { x with kill := true }).badgeGo 0x70
  else if s.enrolling then
    if (s.badge u).isSome then s.badgeEnd 0x910 false
    else match s.draw 4 2 with
      | (none, s) => s.badgeEnd 0x842 false
      | (some r, s) => (s.modRdr fun x => { x with enrol := true, kb := r.take 16, pw := ofLe (sliceBytes r 16 4) }).badgeGo 0x90
  else if (s.badge u).isNone then s.badgeEnd 0x910 false
  else s.badgeGo 0x70

/-- A badge counts once in an open session (R535, R621). -/
def State.sessionBadge (s : State) (u : Nat) : State :=
  if !s.cus.session.open_ then s
  else if s.cus.session.badges.contains u then s.cmdStatus 0x30 0x80C
  else (s.modCus fun c => { c with session := { c.session with badges := c.session.badges ++ [u] } }).sessionCheck

/-- The authentication has succeeded: KILL for a revoked badge, else the counter. -/
def State.badgeAuthed (s : State) : State := if s.cb.rdr.kill then s.badgeGo 0x9F else s.badgeGo 0x80

/-- COUNT_READ has answered `c` (R621, steps 5 to 7); an enrolment records it as CREC (R624). -/
def State.badgeCount (s : State) (c : Nat) : State :=
  let x := s.cb.rdr
  let u := x.cur.getD 0
  if x.enrol then
    let s := s.modCus fun k =>
      let bs := k.badges ++ [⟨u, x.kb, x.pw, c⟩]
      { k with badges := bs, gen := if 32 ≤ bs.length then none else k.gen }
    (s.modRdr fun x => { x with c := c }).badgeEnd 0 true
  else
    match s.badge u with
    | none => s.badgeEnd 0x910 false
    | some r =>
      if !x.stepped then
        let s := s.modRdr fun x => { x with c := c }
        if c < r.crec then s.badgeEnd 0x90D false else s.badgeGo 0x81
      else if c ≠ (x.c + 1) % 2 ^ 32 then s.badgeEnd 0x909 false
      else
        let s := s.modCus fun k => { k with badges := k.badges.map fun b => if b.uid = u then { b with crec := x.c + 1 } else b }
        let fresh := s.cus.session.open_ && !s.cus.session.badges.contains u
        (s.badgeEnd 0 fresh).sessionBadge u

/-- The badge answers the command it was sent; `ok` is its acknowledge where it returns no data. -/
def State.badgeAnswer (s : State) (d : List Byte) (ok : Bool) : State :=
  let x := s.cb.rdr
  let kb := s.badgeKb
  if x.sent = 0x60 then (s.modRdr fun x => { x with sig := d.take 64 }).badgeGo 0xF0
  else if x.sent = 0x70 then
    let nb := d.take 16
    if sliceBytes d 16 16 = aesCmac kb ([1] ++ x.nr ++ nb) then (s.modRdr fun x => { x with nb := nb }).badgeGo 0x71 else s.badgeAuthFail
  else if x.sent = 0x71 then (if ok then s.badgeAuthed else s.badgeAuthFail)
  else if x.sent = 0x72 then (if ok then (s.modRdr fun x => { x with pwUsed := true }).badgeAuthed else s.badgeAuthFail)
  else if x.sent = 0x80 then s.badgeCount (ofLe (d.take 4))
  else if x.sent = 0x81 then (if ok then (s.modRdr fun x => { x with stepped := true }).badgeGo 0x80 else s.badgeEnd 0x909 false)
  else if x.sent = 0x90 then (if ok then s.badgeGo 0x70 else s.badgeEnd 0x910 false)
  else s.badgeEnd 0x90C false

/-- The reader stops (R618): a presentation in progress ends without being counted. -/
def State.readerStop (s : State) : State :=
  let s := if s.cb.rdr.cur.isSome then s.badgeEnd 0x90F false else s
  s.modRdr fun x => { seen := x.seen, tx := x.tx }
/-- Both interfaces stop (R618). -/
def State.custodianStop (s : State) : State := (s.slotStop).readerStop

/-- An alarm that ends a session stops both interfaces; an enabled reader then pings again (R618, R620). -/
def State.custodianAlarm (s : State) : State :=
  let s := s.custodianStop
  if s.readerOn then s.modRdr fun x => { x with st := 1 } else s

/-! ### Alarms (R523) -/

/-- An alarm (R523): custody decides LOCK at once, and the sticky flag of domain 78 holds it for the AON logic. On
battery alone only monitor 5 and the latch's own encoding raise one, and nothing else acts (R529). -/
def State.alarm (s : State) (src unit : Nat) : State :=
  if !s.batteryAlarm src unit then s
  else
    let was := s.lockInForce
    let e := (src, unit, b2n s.cus.keepOff, if s.cus.keepOff then 0 else s.clk.tim)
    let s := s.modCus fun c => { c with sticky := true, alarmWait := c.alarmWait ++ [e] }
    if s.cus.keepOff then s
    else
      let s := ((s.bump (cdPage 1) 0 0 1).setFld (cdReg 1 0x104) 1 1 1).irq (cdPage 1) 0
      (if s.cus.session.open_ then s.failSession.custodianAlarm else s).lockFollow was

end Sys2Proof.Machine
end

