-- ==== Sys2Proof/Machine/CardCmds.lean ====
section
/-!
DEFINITION. Commands of the custodian card slot and the badge reader (chapter 19).
-/
namespace Sys2Proof.Machine

/-! ### Insertion and power (R606) -/

/-- The filtered CD has become active: the card is in the slot, and it is powered when the slot may work (R606, R617). -/
def execCardInsert (s : State) : Outcome :=
  done (
    if (s.slow 1).filt && (s.slow 1).acted && !s.cb.card.inserted then
      (((s.modCard fun c => { c with inserted := true, rawOut := false }).cbBump 0).irq cbPage 0).cardStart
    else s)

/-- A power-up delay ends (R606): 10 ms of settling, 5 ms of VCC_CARD, 1 ms of clock; then RESET is due. -/
def execCardPowerTimer (s : State) : Outcome :=
  done (
    let c := s.cb.card
    if c.phase = 1 ∨ c.phase = 2 then s.modCard fun c => { c with phase := c.phase + 1 }
    else if c.phase = 3 then s.modCard fun c => { c with phase := 4, next := 21 }
    else s)

/-! ### Commands to the card (Table 19.3) -/

/-- RESET, which has no response. -/
def execCardReset (s : State) : Outcome := done (s.cardSend 21)
/-- IDENTIFY. -/
def execIdentify (s : State) : Outcome := done (s.cardSend 22)
/-- AUTH_INIT. -/
def execAuthInit (s : State) : Outcome := done (s.cardSend 24)
/-- AUTH_PROOF. -/
def execAuthProof (s : State) : Outcome := done (s.cardSend 25)
/-- AUTH_FINISH. -/
def execAuthFinish (s : State) : Outcome := done (s.cardSend 26)
/-- READ_SHARE. -/
def execReadShare (s : State) : Outcome := done (s.cardSend 28)
/-- BEGIN. -/
def execBegin (s : State) : Outcome := done (s.cardSend 40)
/-- ENROLL. -/
def execEnroll (s : State) : Outcome := done (s.cardSend 41)
/-- WRITE_SHARE. -/
def execWriteShare (s : State) : Outcome := done (s.cardSend 42)
/-- COMMIT. -/
def execCommit (s : State) : Outcome := done (s.cardSend 43)
/-- ABORT. -/
def execAbort (s : State) : Outcome := done (s.cardSend 44)

/-! ### What the card answers (R607–R612) -/

/-- A 48-bit response arrives: its lead, its CRC-7, its index, its CRC_LAST and ERROR are checked in that order, and the
presentation goes on to the command's data block, its end, or a failure. -/
def execCardResponseRx (frame : BitVec 48) (s : State) : Outcome :=
  done (
    let c := s.cb.card
    let top := frame.toNat / 2 ^ 7
    if c.phase ≠ 4 ∨ (c.await ≠ 1 ∧ c.await ≠ 4) then s
    else if getField frame 47 45 ≠ 1 then s.cardFail 0x909 true
    else if getField frame 6 0 ≠ crc7 top ∨ getField frame 12 7 ≠ (if c.await = 4 then 63 else c.sent) then s.cardCrc
    else if bitAt frame (13 + 30) then s.cardCrc
    else if bitAt frame (13 + 31) then (s.modCard fun x => { x with code := getField frame 36 29 }).cardFail 0x909 false
    else if c.await = 4 then s.cardDone
    else if c.sent = 22 ∨ c.sent = 25 ∨ c.sent = 28 then s.modCard fun x => { x with await := 2 }
    else if c.sent = 24 ∨ c.sent = 26 ∨ c.sent = 41 ∨ c.sent = 42 then
      let (b, s) := s.cardOut
      s.modCard fun x => { x with await := 3, tx := { x.tx with block := padTo 512 b } }
    else s.cardDone)

/-- A wait-extension byte arrives (R608): only 0x5A is one, and at most 2,000 are accepted for a command. -/
def execWaitExtensionRx (b : Byte) (s : State) : Outcome :=
  done (
    let c := s.cb.card
    if c.phase ≠ 4 ∨ (c.await ≠ 1 ∧ c.await ≠ 4) then s
    else if b ≠ 0x5A then s.cardFail 0x909 true
    else if 2000 ≤ c.ext then s.cardFail 0x905 false
    else (s.modCard fun x => { x with ext := c.ext + 1 }).cbBump 3)

/-- The card's deadline passes (R608). -/
def execCardResponseDeadline (s : State) : Outcome :=
  done (
    let c := s.cb.card
    if c.phase ≠ 4 ∨ c.await = 0 ∨ c.await = 3 then s else s.cardFail 0x902 true)

/-- The CRC of a line of a data block: byte b travels on line b mod 4 (R609). -/
def lineCrc (d : List Byte) (l : Nat) : Nat := crc16 ((List.range 128).map fun i => nth 0 d (4 * i + l))
/-- A data block of 512 bytes completes, with the CRC of each line: a block from the card is checked and used; after a block to
the card, DATA_ACK is awaited. -/
def execCardDataBlock (data : List Byte) (crc : List Nat) (s : State) : Outcome :=
  done (
    let c := s.cb.card
    if c.phase ≠ 4 then s
    else if c.await = 3 then s.modCard fun x => { x with await := 4, ext := 0 }
    else if c.await ≠ 2 then s
    else if crc ≠ (List.range 4).map (lineCrc data) then s.cardCrc
    else s.cardBlock (padTo 512 data))

/-! ### Removal (R615) -/

/-- Raw CD goes inactive, or active again: then a failure that waited for the filter is handled as if the card had stayed. -/
def execCardRawRemoval (out : Bool) (s : State) : Outcome :=
  done (
    let w := s.cb.card.waiting
    let s := s.modCard fun c => { c with rawOut := out && c.inserted, waiting := if out then c.waiting else none }
    if out then s else match w with
      | none => s
      | some v => s.cardFailNow (v % 2 ^ 16) (v / 2 ^ 16 == 1))

/-- Filtered removal (R615): a presentation under way ends with 0x0901. -/
def execCardRemoval (s : State) : Outcome :=
  done (
    if (s.slow 1).filt || !s.cb.card.inserted then s
    else
      let s := s.cardGone 0x901
      let s := (s.cbLog 2 0 0 0 0 (s.cb.card.ident.take 16) 0).irq cbPage 1
      s.modCard fun c => { unk := c.unk, unkLost := c.unkLost, tx := c.tx })

/-- The card phase of a generation runs 30 minutes without N cards written (R617): it ends, and the root stays lost (R534). -/
def execGenerationTimeout (s : State) : Outcome :=
  done (
    match s.cus.gen with
    | some g => if g.badgePhase then s else s.modCus fun c => { c with gen := none }
    | none => s)

/-! ### CB_CMD and CB_CFG (Tables 19.11 and 19.12) -/

/-- A presentation of a card or a badge is under way: CB_STATUS.BUSY. -/
def State.cbBusy (s : State) : Bool := s.cb.card.busy || s.cb.rdr.cur.isSome
/-- An operation of CB_CMD; those other than EJECT are refused with 0x0911 while BUSY. -/
def State.cbCmd (s : State) (f : State → Nat × State) : State :=
  s.pageWrite cbPage fun s =>
    let (st, s) := if s.cbBusy then (0x911, s) else f s
    (s.cbStatus st).took cbPage

/-- EJECT: the card is powered down (R606); a presentation under way ends as at a removal. -/
def execEject (s : State) : Outcome :=
  done (s.pageWrite cbPage fun s =>
    ((if s.cb.card.busy then s.cardGone 0x901 else s.cbStatus 0).modCard fun c => { c.idle with phase := 0 }).took cbPage)

/-- CLEAR_UNKNOWN (R616). -/
def execClearUnknown (s : State) : Outcome :=
  done (s.cbCmd fun s => (0, s.modCard fun c => { c with unk := none, unkLost := false }))

/-- REVOKE (R624): the UID of CB_UID goes on the revocation list and its enrolment is removed. -/
def execRevoke (s : State) : Outcome :=
  done (s.cbCmd fun s =>
    let u := s.rd64 (cbReg 0x140) % 2 ^ 56
    let rest := s.cus.badges.filter fun b => b.uid != u
    if s.lockInForce then (0x808, s)
    else if rest.length < 2 then (0x911, s)
    else
      let b := (s.badge u).getD ((s.revokedBadge u).getD { uid := u })
      (0, s.modCus fun c => { c with badges := rest, revoked := c.revoked.filter (fun r => r.uid != u) ++ [b] }))

/-- CLEAR_LOG (R625). -/
def execClearLog (s : State) : Outcome :=
  done (s.cbCmd fun s => (0, { s with cb := { s.cb with log := [], logOvf := 0 } }))

/-- A write to CB_CFG (Table 19.12): DETUNE 0 reads as 16, a divisor outside 2–200 is stored as 2, CLR_CNT clears the page's
counters, and an interface whose enable is cleared stops (R618). -/
def execCbCfgWrite (v : Reg) (s : State) : Outcome :=
  done (s.pageWrite cbPage fun s =>
    let s := if bitAt v 31 then (List.range 10).foldl (fun s k => s.clrCtr cbPage k 0) s else s
    if s.lockInForce then s.lockDrop cbPage
    else
      let det := if getField v 23 16 = 0 then 16 else getField v 23 16
      let div := if 2 ≤ getField v 7 0 ∧ getField v 7 0 ≤ 200 then getField v 7 0 else 2
      let s := s.wrn (cbReg 0x100) (getField v 25 24 * 2 ^ 24 + det * 2 ^ 16 + getField v 8 8 * 2 ^ 8 + div)
      let s := if bitAt v 24 then s else s.slotStop
      let s := if bitAt v 25 then (if s.cb.rdr.st = 0 then s.modRdr fun x => { x with st := 1 } else s) else s.readerStop
      s.took cbPage)

/-! ### The field cycle (R620, R622, R623) -/

/-- A ping measures an amplitude on RX: one that differs from the baseline by more than DETUNE/256 of it starts a field cycle;
else it enters the baseline. After an unresolved collision a ping within DETUNE must come first (R623). Before any ping
has entered the baseline there is nothing to differ from. -/
def execBadgePing (amp : Nat) (s : State) : Outcome :=
  done (
    let x := s.cb.rdr
    if x.st ≠ 1 ∨ !s.readerOn then s
    else
      let n := x.base.length
      let mean := if n = 0 then amp else sumNat x.base / n
      let diff := if amp < mean then mean - amp else amp - mean
      if diff * 256 ≤ s.fld (cbReg 0x100) 23 16 * mean then
        s.modRdr fun x => { x with blocked := false, base := (x.base ++ [amp]).drop (x.base.length - 7) }
      else if x.blocked then s
      else s.modRdr fun x => { x with st := 2, found := [], shown := [], retries := 0 })

/-- A field cycle finds no badge within 10 ms. -/
def execFieldCycleTimeout (s : State) : Outcome :=
  done (
    let x := s.cb.rdr
    if (x.st = 2 ∨ x.st = 3) ∧ x.found = [] then (s.cbBump 9).fieldEnd else s)

/-- The 5 ms with the carrier off after an unresolved anticollision have passed: anticollision starts again, and after three
retries the field cycle ends with 0x0903 (R623). -/
def execAnticollRetryTimer (s : State) : Outcome :=
  done (
    let x := s.cb.rdr
    if x.st ≠ 3 then s
    else if x.retries < 3 then s.modRdr fun x => { x with st := 2, retries := x.retries + 1, found := [] }
    else
      let s := ((s.cbLog 5 (if s.cus.session.open_ then 1 else 0) 0x903 0 0 [] 0).cbStatus 0x903).cbBump 8
      (s.fieldEnd).modRdr fun x => { x with blocked := true })

/-- WUPA: it begins the anticollision of a field cycle; once UIDs are known, it wakes the badges and the next one is presented,
lowest UID first (R622). -/
def execWupa (s : State) : Outcome :=
  done (
    let x := s.cb.rdr
    if x.st = 2 then s.modRdr fun x => { x with st := 3, tx := [0x52] }
    else if (x.st = 3 ∧ x.found ≠ []) ∨ (x.st = 4 ∧ x.cur = none) then
      match s.nextBadge with
      | none => s.fieldEnd
      | some u => s.modRdr fun x => { x with st := 4, cur := some u, next := 0x60, sent := 0, tx := [0x52] }
    else s)

/-- HLTA halts a badge whose UID is known (R622), with the ATQA and the last SAK it gave: a badge that is not a custodian badge
of double-size UID is skipped and counted; at most four are collected (R619). -/
def execHlta (uid atqa sak : Nat) (s : State) : Outcome :=
  done (
    let x := s.cb.rdr
    if x.st ≠ 3 then s
    else
      let s := s.modRdr fun x => { x with tx := [0x50, 0] ++ crcA [0x50, 0] }
      if atqa ≠ 0x48 ∨ sak ≠ 2 then s.cbBump 7
      else if 4 ≤ x.found.length ∨ x.found.contains uid then s
      else s.modRdr fun x => { x with found := x.found ++ [uid] })

/-! ### Commands to the badge (Table 19.7) -/

/-- ORIGIN_READ. -/
def execOriginRead (s : State) : Outcome := done (s.badgeSend 0x60 fun _ => [])

/-- Custody firmware has verified the origin signature (R621, step 1), with the hash of the curve's size (log entry 31). -/
def execOriginVerifyDone (s : State) : Outcome :=
  done (
    let x := s.cb.rdr
    if x.next ≠ 0xF0 then s
    else
      let r := ofBe (x.sig.take 32)
      let t := ofBe (sliceBytes x.sig 32 32)
      if 1 ≤ r ∧ r < p256.n ∧ 1 ≤ t ∧ t < p256.n ∧ p256.verify Config.badgeIssuerPub (sha256 (uidBytes (x.cur.getD 0))) r t = true then
        s.badgeChecked
      else s.badgeEnd 0x90A false)

/-- AUTH1: a fresh Nr goes to the badge. -/
def execAuth1 (s : State) : Outcome :=
  done (
    let x := s.cb.rdr
    if x.st = 4 ∧ x.cur.isSome ∧ x.next = 0x70 ∧ x.sent = 0 then
      match s.draw 4 1 with
      | (none, s) => s.badgeEnd 0x842 false
      | (some r, s) => (s.modRdr fun x => { x with nr := r }).badgeSend 0x70 fun x => x.nr
    else s)

/-- AUTH2. -/
def execAuth2 (s : State) : Outcome :=
  done (
    let kb := s.badgeKb
    s.badgeSend 0x71 fun x => aesCmac kb ([2] ++ x.nb ++ x.nr))

/-- PASS_AUTH: the enrolled password. -/
def execPassAuth (s : State) : Outcome :=
  done (
    let pw := ((s.badge (s.cb.rdr.cur.getD 0)).map (·.pw)).getD 0
    s.badgeSend 0x72 fun _ => leBytes 4 pw)

/-- COUNT_READ. -/
def execCountRead (s : State) : Outcome := done (s.badgeSend 0x80 fun _ => [])
/-- COUNT_STEP. -/
def execCountStep (s : State) : Outcome := done (s.badgeSend 0x81 fun _ => [])
/-- SET_KEY: the fresh Kb and password of an enrolment (R624). -/
def execSetKey (s : State) : Outcome := done (s.badgeSend 0x90 fun x => x.kb ++ leBytes 4 x.pw)
/-- KILL. -/
def execKill (s : State) : Outcome := done (s.badgeSend 0x9F fun _ => [])

/-- A badge answers: the data it returns, or its acknowledge (`ok`). -/
def execBadgeResponseRx (data : List Byte) (ok : Bool) (s : State) : Outcome :=
  done (
    let x := s.cb.rdr
    if x.st = 4 ∧ x.cur.isSome ∧ x.sent ≠ 0 then s.badgeAnswer data ok else s)

/-- A badge does not answer in time (R619, R621): it left the field (0x090E), or it stays and answers nothing: a KILLED badge at
AUTH1 (0x090C), a failed authentication, a badge that is not OPEN, else a protocol error. -/
def execBadgeResponseTimeout (left : Bool) (s : State) : Outcome :=
  done (
    let x := s.cb.rdr
    if x.st ≠ 4 ∨ x.cur = none ∨ x.sent = 0 then s
    else if left then s.badgeEnd 0x90E false
    else if x.sent = 0x70 then s.badgeEnd 0x90C false
    else if x.sent = 0x71 ∨ x.sent = 0x72 then s.badgeAuthFail
    else if x.sent = 0x90 then s.badgeEnd 0x910 false
    else s.badgeEnd 0x909 false)

end Sys2Proof.Machine
end

