-- ==== Sys2Proof/Machine/ContextCmds.lean ====
section
/-!
DEFINITION. Commands of the endpoint contexts: KV_CTX_CMD, fills, write-backs, and the context updates of verdict programs
(chapter 9, R316–R325).
-/
namespace Sys2Proof.Machine

/-- The header in the staging area of ounce `o`, as a context. -/
def State.staged (s : State) (o : Nat) : Ctx :=
  { hdr := (List.range 32).flatMap fun k => leBytes 4 (s.rd (kvReg o (0x380 + 4 * k))).toNat }

/-- Another valid context of the same fabric port has the same RX_SCI, or TXSEL as well (R317). -/
def State.bindClash (s : State) (i : Nat) (c : Ctx) : Bool :=
  decide (c.port < 1024) && s.validCtxs.any fun j =>
    decide (j ≠ i) && decide ((s.ctx j).port = c.port) && (decide ((s.ctx j).rxSci = c.rxSci) || (c.txsel && (s.ctx j).txsel))

/-- KV_CTX_STATUS of an ounce. -/
def State.ctxStat (s : State) (o code : Nat) (busy : Bool) : State :=
  (s.status (kvReg o 0x304) code).setFld (kvReg o 0x304) 31 31 (b2n busy)

/-- A context command written to the KV page of ounce `o`: ignored with 0x040F while one is busy (R318); a refused command
changes nothing. -/
def State.ctxCmd (s : State) (o : Nat) (f : State → Nat × State) : State :=
  if s.fld (kvReg o 0x304) 31 31 = 1 then s.status (kvReg o 0x304) 0x40F
  else
    let (code, s) := f s
    s.ctxStat o code (code = 0)

/-- The header that CREATE writes (R318, R319, R383). -/
def createHeader (old staged : Ctx) (standby : Bool) : Ctx :=
  let f := staged.fld 0 4
  let ctl := 1 + 2 * b2n (f.testBit 1) + 4 * b2n (f.testBit 2) + 8 * b2n (f.testBit 3) + 2 ^ 16 * natField f 26 16
  let h : List Byte :=
    leBytes 4 ctl ++ leBytes 4 (staged.fld 4 4) ++ leBytes 1 staged.zone ++ leBytes 1 old.vinprog ++ [0, 0] ++ leBytes 4 0 ++
      sliceBytes staged.hdr 0x10 24 ++ leBytes 8 (staged.fld 0x24 4) ++ List.replicate 32 0 ++ sliceBytes staged.hdr 0x50 48
  let c : Ctx := { hdr := h }
  if standby then c.withStone old.stone else c

/-- CREATE (Table 9.7). -/
def execCreate (o i : Nat) (s : State) : Outcome :=
  done (s.ctxCmd o fun s =>
    let old := s.ctx i
    let st := s.staged o
    let c := createHeader old st s.isStandby
    if old.valid then (0x408, s)
    else if 1024 < st.port then (0x40C, s)
    else if verdBad (c.fld 4 4) then (0x31B, s)
    else if s.bindClash i c then (0x409, s)
    else if c.port < 1024 ∧ 8192 ≤ s.bindings (c.port / 16) then (0x40A, s)
    else
      let s := { s with cxs := { s.cxs with cache := odel i s.cxs.cache, hbm := cput {} c i s.cxs.hbm } }
      let s := (s.reachCtx i).ctxDelta i
      let d := c.port / 16
      (0, if c.port < 1024 ∧ s.bindings d = 8192 then s.irq (kvPage (d / 16)) 2 else s))

/-- The header that MODIFY leaves (Table 9.7). -/
def modifyHeader (c st : Ctx) : Ctx :=
  let c := ((c.setCtl 1 st.plynun).setCtl 2 st.vsvc).setCtl 3 st.txsel
  ((((c.put 4 4 (st.fld 4 4)).put 0x18 8 st.txSci).put 0x20 4 (st.fld 0x20 4)).put 0x24 4 (st.fld 0x24 4))

/-- MODIFY (Table 9.7); at a standby it may change no field of Table 11.5 (R383). -/
def execModify (o i : Nat) (s : State) : Outcome :=
  done (s.ctxCmd o fun s =>
    let c := s.ctx i
    let st := s.staged o
    let n := modifyHeader c st
    if !c.valid then (0x407, s)
    else if st.port ≠ c.port ∨ st.rxSci ≠ c.rxSci ∨ st.zone ≠ c.zone then (0x40D, s)
    else if verdBad (st.fld 4 4) then (0x31B, s)
    else if s.bindClash i n then (0x409, s)
    else if s.isStandby ∧ n.stone ≠ c.stone then (0x60D, s)
    else (0, ((s.reachCtx i).modCtx i fun c => modifyHeader c st).ctxDelta i))

/-- READ (Table 9.7): the header into the stage. -/
def execCtxRead (o i : Nat) (s : State) : Outcome :=
  done (s.ctxCmd o fun s =>
    if !(s.ctx i).valid then (0x407, s)
    else
      let s := s.reachCtx i
      let h := (s.ctx i).hdr
      (0, (List.range 32).foldl (fun s k => s.wrn (kvReg o (0x380 + 4 * k)) (ofLe (sliceBytes h (4 * k) 4))) s))

/-- DESTROY (Table 9.7): refused while a record is in service. -/
def execDestroy (o i : Nat) (s : State) : Outcome :=
  done (s.ctxCmd o fun s =>
    let c := s.ctx i
    if !c.valid then (0x407, s)
    else if c.sa.any SaRec.inService then (0x40E, s)
    else
      let s := (s.reachCtx i).modCached i fun x =>
        { x with c := { (x.c.setCtl 0 false) with sa := List.replicate 6 {}, bitmap := List.replicate 4 0 },
                 shadow := List.replicate 6 none }
      (0, s.ctxDelta i))

/-- RESET_LIMITER (Table 9.7). -/
def execResetLimiter (o i : Nat) (s : State) : Outcome :=
  done (s.ctxCmd o fun s =>
    if !(s.ctx i).valid then (0x407, s)
    else (0, (s.reachCtx i).modCtx i fun c => c.put 0x28 8 (c.fld 0x24 4)))

/-- A context command completes and BUSY clears (R318). -/
def execCtxCmdComplete (o : Nat) (s : State) : Outcome := done (s.setFld (kvReg o 0x304) 31 31 0)

/-- A missed context and its keys are in the cache, and its frames go on to dispatch (R320). -/
def execContextFillDone (i : Nat) (s : State) : Outcome :=
  done (
    let s := s.fillCtx i
    let go (f : Frame) : Frame := if f.place = .missing ∧ f.ctx = i then { f with place := .waiting } else f
    { s with fab := { s.fab with frames := s.fab.frames.map fun e => (e.1, go e.2) } })

/-- A changed context is written back (R322). -/
def execContextWriteback (i : Nat) (s : State) : Outcome :=
  done (
    match s.ctxCached i with
    | some x => if x.changed then s.writeBack i else s
    | none => s)

/-! ### Context updates reach their cache (R324, R325) -/

/-- The operation of a core and ticket with code `op`, unless an earlier one of the core is on its way to the same context. -/
def State.ctxOpOf (s : State) (c t op : Nat) : Option CtxOp :=
  match s.cxs.ops.find? fun x => decide (x.core = c) && decide (x.tkt = t) with
  | none => none
  | some x =>
    match s.cxs.ops.find? fun y => decide (y.core = c) && decide (y.ctx = x.ctx) with
    | some y => if y = x ∧ ofLe (x.block.take 1) = op then some x else none
    | none => none
/-- The operation leaves the queue. -/
def State.dropCtxOp (s : State) (x : CtxOp) : State := { s with cxs := { s.cxs with ops := s.cxs.ops.filter (· != x) } }

/-- STORE reaches the cache. -/
def execCtxupdStore (c t : Nat) (s : State) : Outcome :=
  done (
    match s.ctxOpOf c t 1 with
    | none => s
    | some x =>
      let (code, s) := (s.dropCtxOp x).ctxUpdate x.ctx x.block
      s.completeTicket c t code)

/-- ADD reaches the cache. -/
def execCtxupdAdd (c t : Nat) (s : State) : Outcome :=
  done (
    match s.ctxOpOf c t 2 with
    | none => s
    | some x =>
      let (code, s) := (s.dropCtxOp x).ctxUpdate x.ctx x.block
      s.completeTicket c t code)

/-- READ reaches the cache: the 128-byte header goes to the data SRAM at DST. -/
def execCtxupdRead (c t : Nat) (s : State) : Outcome :=
  done (
    match s.ctxOpOf c t 3 with
    | none => s
    | some x =>
      let s := s.dropCtxOp x
      let o := cacheOunce (s.ctx x.ctx).cacheOf
      if s.isStandby then (s.kvBump o 7).completeTicket c t 0x60D
      else if !(s.ctx x.ctx).valid then (s.kvBump o 7).completeTicket c t 0x407
      else
        let s := s.reachCtx x.ctx
        ((s.setBytes (spData c + ofLe (sliceBytes x.block 8 4)) (s.ctx x.ctx).hdr).kvBump o 6).completeTicket c t 0)

end Sys2Proof.Machine
end

