-- ==== Sys2Proof/Machine/CoreOps.lean ====
section
/-!
DEFINITION. The verdict core as a processor: its registers, its address space and store buffer, exception entry and
return, interrupts, loop-back, and the frame in which every instruction is issued (chapters 7 and 8).
-/
namespace Sys2Proof.Machine

/-! ### General registers (R224, R268) -/

/-- The value of register `r` as the executing ring reads it. -/
def Core.reg (x : Core) (r : Nat) : Word := if r = 0 then 0 else if r = 30 then nth 0 x.sp x.ring else nth 0 x.g r
/-- Write register `r`: g0 discards the write, g30 is the copy of the executing ring. -/
def Core.setReg (x : Core) (r : Nat) (v : Word) : Core :=
  if r = 0 then x else if r = 30 then { x with sp := setNth x.sp x.ring v } else { x with g := setNth x.g r v }
/-- Write register `r` of core `c`. -/
def State.setReg (s : State) (c r : Nat) (v : Word) : State := s.modCore c fun x => x.setReg r v
/-- Write a number into register `r` of core `c`. -/
def State.setRegN (s : State) (c r v : Nat) : State := s.setReg c r (BitVec.ofNat 64 v)

/-! ### The data address space (Table 7.2) -/

/-- The areas of Table 7.2. -/
inductive Area where
  | data | instr | cluster | none
deriving DecidableEq, Repr

/-- The area in which `n` bytes from `a` lie. -/
def areaOf (a n : Nat) : Area :=
  if a + n ≤ 0x40000 then .data
  else if 0x800000 ≤ a ∧ a + n ≤ 0x820000 then .instr
  else if 0x1000000 ≤ a ∧ a + n ≤ 0x2000000 then .cluster
  else .none
/-- Fence, memory space and offset of address `a` of core `c`. -/
def areaAt (c a : Nat) : Area → Nat × Nat × Nat
  | .data => (c, spData c, a)
  | .instr => (128 + c, spInstr c, a - 0x800000)
  | .cluster => (256 + coreOunce c, spCluster (coreOunce c), a - 0x1000000)
  | .none => (0, 0, 0)
/-- Whether a cluster-memory offset lies in the mailbox windows, which are not memory (R461, R462). -/
def inMailbox (off : Nat) : Bool := decide (mbOffset ≤ off ∧ off < mbOffset + 0x5000)

/-- The newest buffered value of a byte, if a buffered store covers it (R239). -/
def bufferedByte (buf : List (Nat × List Byte × Nat)) (a : Nat) : Option Byte :=
  buf.foldl (fun b e => if e.1 ≤ a ∧ a < e.1 + e.2.1.length then some (nth 0 e.2.1 (a - e.1)) else b) none

/-- Read `n` bytes at `a` of core `c` with no check: memory, the mailbox windows, and the store buffer over both. -/
def State.coreBytes (s : State) (c a n : Nat) : List Byte :=
  let (_, sp, off) := areaAt c a (areaOf a n)
  match areaOf a n with
  | .cluster =>
    let raw := if inMailbox off then s.mbLoad c (off - mbOffset) n else s.bytes (sp + off) n
    (List.range n).map fun i => (bufferedByte (s.core c).sbuf (a + i)).getD (nth 0 raw i)
  | _ => s.bytes (sp + off) n

/-- The first byte of a range that the class may not reach with access `k`, or that lies outside the area of its first
byte. -/
def State.coreFence (s : State) (c cls k a n : Nat) : Option Nat :=
  let ar := areaOf a n
  let (f, _, off) := areaAt c a ar
  (s.fenceFail f cls k off n).map fun x => a + (x - off)

/-- Log the violation of core `c` at address `a`. -/
def State.coreViolation (s : State) (c cls k a : Nat) : State :=
  let (f, _, off) := areaAt c a (areaOf a 1)
  s.violation f cls k off

/-! ### The store buffer (R239, R284) -/

/-- A failed buffered store is reported: the first is kept, a further one sets ESTAT.LSMORE (R284). -/
def State.lateReport (s : State) (c a sub : Nat) : State :=
  s.modCore c fun x => match x.late with | none => { x with late := some (a, sub) } | some _ => { x with lsmore := true }

/-- A write to PK_Q_PROD (R331): ignored, with 0x0507 and QERR, when PROD − CONS would exceed 2^SIZE. -/
def State.pkProd (s : State) (o q v : Nat) : State :=
  let b := ra tPK o (0x200 + 0x40 * q)
  let size := s.fld b 7 4
  let cons := s.fld (b + 0x14) 15 0
  if (v % 65536 + 65536 - cons) % 65536 > 2 ^ size then
    (s.status (b + 0x28) 0x507).irq (pageNo tPK o) 3
  else s.setFld (b + 0x10) 15 0 v

/-- The device watchdog is reloaded (R505). -/
def State.kickWatchdog (s : State) : State :=
  s.setFld (ra tGLB 0 0x288) 15 0 (s.fld (ra tGLB 0 0x284) 15 0)

/-- One buffered store reaches the memory (R239): checked byte by byte against the fences in the class of the ring that
issued it; windows act as registers. -/
def State.storeArrives (s : State) (c a : Nat) (bs : List Byte) (ring : Nat) : State :=
  let o := coreOunce c
  let off := a - 0x1000000
  let f := 256 + o
  match s.fenceFail f (clsRing ring) accW off bs.length with
  | some x =>
    let s := if inMailbox off then s else fencedPut (spCluster o) f (clsRing ring) bs off s
    (s.violation f (clsRing ring) accW x).lateReport c (0x1000000 + x) 0
  | none =>
    if inMailbox off then
      let (bad, s) := s.mbCoreStore c (off - mbOffset) bs
      if bad then s.lateReport c a 1 else s
    else if 0x97F000 ≤ off ∧ off < 0x97F020 ∧ bs.length = 8 then s.pkProd o (4 + (off - 0x97F000) / 8) (ofLe bs)
    else if off = 0x97F040 ∧ bs.length = 8 then (if ofLe bs = 0xA55A then s.kickWatchdog else s)
    else s.setBytes (spCluster o + off) bs

/-- The oldest buffered store drains. -/
def State.drainOne (s : State) (c : Nat) : State :=
  match (s.core c).sbuf with
  | [] => s
  | (a, bs, r) :: rest => (s.modCore c fun x => { x with sbuf := rest }).storeArrives c a bs r

/-- The store buffer drains (R284); it holds eight entries. -/
def State.drain (s : State) (c : Nat) : State := (List.range 8).foldl (fun s _ => s.drainOne c) s

/-! ### Exceptions (R276–R282) -/

/-- Cause codes (Table 8.7). -/
def cINTR : Nat := 0x10
/-- WDOG. -/
def cWDOG : Nat := 0x11
/-- LATE_STORE. -/
def cLATE : Nat := 0x0B

/-- The handler ring (R276). -/
def handlerRing (x : Core) (cause source : Nat) : Nat :=
  if cause = cINTR then (if x.iroute.testBit source then 0 else 1)
  else if cause = cWDOG then 0
  else if x.ring ≤ 1 then 0
  else if x.edeleg.testBit cause then 1 else 0

/-- ECAUSE (Table 8.5). -/
def causeCode (cause sub : Nat) (ds async : Bool) : Nat := cause + 256 * sub + 65536 * b2n ds + 131072 * b2n async

/-- The last exception as the VC page shows it (Table 8.11). -/
def State.recordExc (s : State) (c epc code addr status : Nat) : State :=
  ((((s.wrn (vcExc c 0) (epc % 2 ^ 17)).wrn (vcExc c 4) code).wr64 (vcExc c 8) addr).wrn (vcExc c 0x10) status)

/-- VC_EXCCNT or VC_INTCNT rises, saturating. -/
def State.countExc (s : State) (c cause : Nat) : State :=
  let a := vcExc c (if cause = cINTR then 0x18 else 0x14)
  s.wrn a (min ((s.rd a).toNat + 1) 0xFFFFFFFF)

/-- Exception entry (R277): the saved registers, the ring and the vector; a double exception (R281); the halt of a core
at DXL (R282). -/
def State.enterExc (s : State) (c cause sub : Nat) (addr : Word) (epc : Nat) (ds async : Bool) : State :=
  let x := s.core c
  let code := causeCode cause sub ds async
  let s := s.countExc c cause
  if x.dxl then
    let s := (s.setCore c { x with st := 4, ds := none, sbuf := [] }).recordExc c epc code addr.toNat 0x328
    (s.setFld (vcReg (coreOunce c) 0xD04) (c % 32) (c % 32) 1).irq (vcPage (coreOunce c)) 0
  else if x.exl then
    let s := s.setCore c { x with depc := epc % 2 ^ 17, dcause := code, daddr := addr, dxl := true, ring := 0,
                                  pc := BitVec.ofNat 64 (x.evec0 + 0xC0), ds := none, st := 1 }
    ((s.recordExc c epc code addr.toNat 0).setFld (vcReg (coreOunce c) 0xD0C) (c % 32) (c % 32) 1).irq (vcPage (coreOunce c)) 2
  else
    let h := handlerRing x cause sub
    let off := if cause = cINTR ∨ cause = cWDOG then 0x40 else if cause = cLATE then 0x80 else 0
    let s := s.setCore c { x with
      epc := epc % 2 ^ 17, ecause := code, eaddr := addr, pring := x.ring, xloops := x.loops,
      loops := { x.loops with lc0 := 0, lc1 := 0 }, exl := true, ring := h, ds := none, st := 1,
      pc := BitVec.ofNat 64 ((if h = 0 then x.evec0 else x.evec1) + off) }
    s.recordExc c epc code addr.toNat 0

/-- The EPC and DS that an exception of the current instruction records, and the core with the link register of an
unfinished transfer put back (R278, R279). -/
def Core.backOut (x : Core) : Nat × Bool × Core :=
  match x.ds with
  | none => (x.pc.toNat, false, x)
  | some d => (d.src.toNat, true, { (if d.link = 0 then x else x.setReg d.link d.old) with ds := none, pc := d.src })

/-- A reported LATE_STORE is taken with the given EPC (R284). -/
def State.takeLate (s : State) (c epc : Nat) : State :=
  match (s.core c).late with
  | none => s
  | some (a, sub) => (s.modCore c fun x => { x with late := none }).enterExc c cLATE sub (BitVec.ofNat 64 a) epc false true

/-- Exception entry for the current instruction or boundary, after the drain (R277, R284): a LATE_STORE found in the
drain is taken first, and the instruction executes again after it. -/
def State.raise (s : State) (c cause sub : Nat) (addr : Word) (async : Bool) : State :=
  let (epc, ds, x) := (s.core c).backOut
  let s := (s.setCore c x).drain c
  if (s.core c).late.isSome then s.takeLate c epc else s.enterExc c cause sub addr epc ds async

/-- A LATE_STORE found by a draining instruction is taken before it acts (R284). -/
def State.lateAtDrain (s : State) (c : Nat) : State :=
  let (epc, _, x) := (s.core c).backOut
  (s.setCore c x).takeLate c epc

/-! ### Interrupts (R287, R288) -/

/-- IPEND (Table 8.8). -/
def Core.ipend (x : Core) : Nat :=
  bitsOf [x.evpend % 256 ≠ 0, natField x.evpend 15 8 ≠ 0, x.evpend.testBit 16, x.evpend.testBit 17,
    decide (x.tmcmp ≠ 0 ∧ x.tmcmp ≤ x.cycle), x.vbstat ≠ 0]
/-- Whether source `i` is eligible (R288). -/
def Core.eligible (x : Core) (i : Nat) : Bool :=
  x.ipend.testBit i && x.ien.testBit i && !x.exl &&
    (if x.iroute.testBit i then x.ictl.testBit 1 else x.ictl.testBit 0 && decide (x.ring ≠ 0))
/-- The interrupt to take: ring 0 first, then the lowest source number (R286). -/
def Core.interrupt (x : Core) : Option Nat :=
  match (List.range 6).find? fun i => x.eligible i && x.iroute.testBit i with
  | some i => some i
  | none => (List.range 6).find? fun i => x.eligible i

/-- What is taken at an instruction boundary before the next instruction (R286): LATE_STORE, WDOG, an interrupt. -/
def State.boundary (s : State) (c : Nat) : Option State :=
  let x := s.core c
  if x.ds.isSome then none
  else if x.late.isSome then some (s.raise c cLATE 0 0 true)
  else if x.wdog then
    let t := s.drain c
    if (t.core c).late.isSome then some (t.lateAtDrain c)
    else some ((t.modCore c fun x => { x with wdog := false }).raise c cWDOG 0 0 true)
  else match x.interrupt with
    | some i => some (s.raise c cINTR i 0 true)
    | none => none

/-! ### Issue and completion -/

/-- What executing an instruction comes to. -/
inductive CoreRes where
  /-- it completes; the next instruction follows -/
  | ok (s : State)
  /-- it completes and goes on at `t`, with no delay slot -/
  | goto (s : State) (t : Word)
  /-- a transfer to `t`: the next instruction is its delay slot; register `link` held `old` -/
  | xfer (s : State) (t : Word) (link : Nat) (old : Word)
  /-- a synchronous exception -/
  | trap (s : State) (cause sub : Nat) (addr : Word)
  /-- it stalls and is issued again: 0 on memory, 1 on a ticket, 2 in WFE -/
  | stall (s : State) (why : Nat)
  /-- a drain found a LATE_STORE -/
  | late (s : State)
deriving Repr

/-- Loop-back at the completion of the instruction at `pc` (R248): level 1 first. -/
def Core.loopBack (x : Core) (pc : Nat) (next : Word) : Word × Core :=
  let l := x.loops
  if l.lc1 ≠ 0 ∧ pc = l.le1 then
    if 1 < l.lc1 then (BitVec.ofNat 64 l.ls1, { x with loops := { l with lc1 := l.lc1 - 1 } })
    else (next, { x with loops := { l with lc1 := 0 } })
  else if l.lc0 ≠ 0 ∧ pc = l.le0 then
    if 1 < l.lc0 then (BitVec.ofNat 64 l.ls0, { x with loops := { l with lc0 := l.lc0 - 1 } })
    else (next, { x with loops := { l with lc0 := 0 } })
  else (next, x)

/-- One instruction more: CYCLE and INSTRET (log entry 14 on CYCLE). -/
def Core.tick (x : Core) : Core := { x with cycle := (x.cycle + 1) % 2 ^ 64, instret := (x.instret + 1) % 2 ^ 64, st := 1 }

/-- A core told to stop drains its store buffer and halts (R264). -/
def State.stopIfAsked (s : State) (c : Nat) : State :=
  if (s.core c).stopping then ((s.drain c).modCore c fun x => { x with st := 4, stopping := false }) else s

/-- The counters of a core (Table 7.15) have risen since `x`: the events they are for their page (R489). -/
def State.coreCounts (s : State) (c : Nat) (x : Core) : State :=
  let y := s.core c
  [(0, y.cycle - x.cycle), (1, y.instret - x.instret), (2, y.stallMem - x.stallMem), (3, y.stallTkt - x.stallTkt)].foldl
    (fun s (e : Nat × Nat) => if e.2 = 0 then s else s.event (vcPage (coreOunce c)) (0x40 + e.1) (c % 32) e.2 1) s

/-- Completion of the instruction at PC with successor `next` (R243, R248). A delay slot completes together with its
transfer, whose target then follows. -/
def State.complete (s : State) (c : Nat) (next : Word) : State :=
  let x := s.core c
  let (next, x) :=
    match x.ds with
    | none => x.loopBack x.pc.toNat next
    | some d =>
      let (t, y) := x.loopBack d.src.toNat d.target
      y.loopBack x.pc.toNat t
  ((s.setCore c { x.tick with pc := next, ds := none }).coreCounts c x).stopIfAsked c

/-- Whether a core issues instructions: its cluster is on, it is neither in RESET nor HALTED, and LOCK does not hold it
(R527). -/
def State.coreRuns (s : State) (c : Nat) : Bool :=
  s.domOn (64 + coreOunce c) && !s.lockInForce && decide (1 ≤ (s.core c).st ∧ (s.core c).st ≤ 3)

/-- Core `c` issues an instruction (R286): what the boundary takes first, then IFETCH, ILLEGAL (`legal` says that the
encoding is listed and its unused fields are 0, `ctl` that it is a transfer or LOOP), then the instruction itself. -/
def State.issue (s : State) (c word : Nat) (legal ctl : Bool) (body : Core → State → CoreRes) : State :=
  if !s.coreRuns c then s
  else match s.boundary c with
    | some t => t
    | none =>
      let x := s.core c
      let pc := x.pc.toNat
      if 2 ^ 17 ≤ pc then s.raise c 1 0 x.pc false
      else match s.fenceFail (128 + c) (clsRing x.ring) accX pc 4 with
        | some a => (s.violation (128 + c) (clsRing x.ring) accX a).raise c 1 1 x.pc false
        | none =>
          if !legal then s.raise c 2 0 (BitVec.ofNat 64 word) false
          else if ctl && x.ds.isSome then s.raise c 2 1 (BitVec.ofNat 64 word) false
          else match body x s with
            | .ok t => t.complete c (x.pc + 4)
            | .goto t n => t.complete c n
            | .xfer t n l old =>
              (t.modCore c fun y => { y.tick with pc := x.pc + 4, ds := some { src := x.pc, target := n, link := l, old := old } }).coreCounts c
                (t.core c)
            | .trap t cause sub a => t.raise c cause sub a false
            | .stall t why =>
              (t.modCore c fun y => { y with
                st := if why = 2 then 2 else 3, cycle := (y.cycle + 1) % 2 ^ 64,
                stallMem := if why = 0 then y.stallMem + 1 else y.stallMem,
                stallTkt := if why = 1 then y.stallTkt + 1 else y.stallTkt }).coreCounts c (t.core c)
            | .late t => t.lateAtDrain c

/-- Run `k` after the store buffer has drained; a LATE_STORE found goes first (R284). -/
def drained (c : Nat) (s : State) (k : State → CoreRes) : CoreRes :=
  let s := s.drain c
  if (s.core c).late.isSome then .late s else k s

/-! ### Accesses (R237–R240) -/

/-- A load of `n` bytes at `a` (R237, R238): ALIGN, ADDRESS, FENCE in this order. -/
def State.loadAt (s : State) (c : Nat) (a n : Nat) (k : List Byte → State → CoreRes) : CoreRes :=
  let cls := clsRing (s.core c).ring
  let w := BitVec.ofNat 64 a
  if a % n ≠ 0 then .trap s 4 0 w
  else if areaOf a n = .none then .trap s 5 0 w
  else match s.coreFence c cls accR a n with
    | some x => .trap (s.coreViolation c cls accR x) 6 0 (BitVec.ofNat 64 x)
    | none => k (s.coreBytes c a n) s

/-- A store of bytes at `a` (R237–R239). -/
def State.storeAt (s : State) (c : Nat) (a : Nat) (bs : List Byte) : CoreRes :=
  let x := s.core c
  let cls := clsRing x.ring
  let w := BitVec.ofNat 64 a
  let n := bs.length
  if a % n ≠ 0 then .trap s 4 1 w
  else match areaOf a n with
    | .none => .trap s 5 1 w
    | .cluster =>
      if 8 ≤ x.sbuf.length then .stall s 0
      else .ok (s.modCore c fun x => { x with sbuf := x.sbuf ++ [(a, bs, x.ring)] })
    | ar =>
      let (f, sp, off) := areaAt c a ar
      match s.fenceFail f cls accW off n with
      | none => .ok (s.setBytes (sp + off) bs)
      | some y => .trap ((fencedPut sp f cls bs off s).violation f cls accW y) 6 1 (BitVec.ofNat 64 (a + (y - off)))

/-- An atomic on the word at `a` (R240): the store buffer drains, then the word is read and `f old` says what is
written, if anything, and what rd receives. -/
def State.atomicAt (s : State) (c rd a : Nat) (f : Word → Option Word × Word) : CoreRes :=
  drained c s fun s =>
    let cls := clsRing (s.core c).ring
    let w := BitVec.ofNat 64 a
    let off := a - 0x1000000
    if a % 8 ≠ 0 then .trap s 4 2 w
    else if areaOf a 8 ≠ .cluster ∨ inMailbox off then .trap s 5 2 w
    else
      let o := coreOunce c
      match (List.range 8).find? fun i => !(s.fenceByte (256 + o) cls accR (off + i) && s.fenceByte (256 + o) cls accW (off + i)) with
      | some i => .trap (s.violation (256 + o) cls accW (off + i)) 6 2 (BitVec.ofNat 64 (a + i))
      | none =>
        let old := BitVec.ofNat 64 (s.leAt (spCluster o + off) 8)
        let (new, res) := f old
        let s := match new with | none => s | some v => s.setLe (spCluster o + off) 8 v.toNat
        .ok (s.setReg c rd res)

end Sys2Proof.Machine
end

