-- ==== Sys2Proof/Machine/Operands.lean ====
section
/-!
DEFINITION. Operand forms of the verdict core: the instruction words that the fields of an instruction make up (R229), the
immediates (R231), and the values of register operands.
-/
namespace Sys2Proof.Machine

/-- A word of format T3. -/
def wordT3 (major : Nat) (rd ra rb : BitVec 5) (func : Nat) : Nat :=
  major * 2 ^ 26 + rd.toNat * 2 ^ 21 + ra.toNat * 2 ^ 16 + rb.toNat * 2 ^ 11 + func
/-- A word of format I16 (and K, with an immediate of 0). -/
def wordI16 (major : Nat) (rd ra : BitVec 5) (imm : BitVec 16) : Nat :=
  major * 2 ^ 26 + rd.toNat * 2 ^ 21 + ra.toNat * 2 ^ 16 + imm.toNat
/-- A word of format M. -/
def wordM (major : Nat) (r ra : BitVec 5) (sub : BitVec 4) (off : BitVec 12) : Nat :=
  major * 2 ^ 26 + r.toNat * 2 ^ 21 + ra.toNat * 2 ^ 16 + sub.toNat * 2 ^ 12 + off.toNat
/-- A word of format B. -/
def wordB (major : Nat) (ra : BitVec 5) (off : BitVec 21) : Nat := major * 2 ^ 26 + ra.toNat * 2 ^ 21 + off.toNat
/-- A word of format J. -/
def wordJ (major : Nat) (off : BitVec 26) : Nat := major * 2 ^ 26 + off.toNat
/-- A word of format L. -/
def wordL (n imm : Bool) (cnt : BitVec 10) (len : BitVec 14) : Nat :=
  0x30 * 2 ^ 26 + b2n n * 2 ^ 25 + b2n imm * 2 ^ 24 + cnt.toNat * 2 ^ 14 + len.toNat

/-- The value of a register operand in the executing ring. -/
def Core.rv (x : Core) (r : BitVec 5) : Word := x.reg r.toNat
/-- A sign-extended 16-bit immediate. -/
def immS (i : BitVec 16) : Word := i.signExtend 64
/-- A zero-extended 16-bit immediate. -/
def immZ (i : BitVec 16) : Word := i.setWidth 64
/-- Bits [31:0] of a word, sign-extended. -/
def sext32 (x : Word) : Word := (x.setWidth 32).signExtend 64
/-- The byte address of a load or store: a + off12, modulo 2^64. -/
def Core.effAddr (x : Core) (ra : BitVec 5) (off : BitVec 12) : Nat := (x.rv ra + off.signExtend 64).toNat
/-- The target of a branch: the address of the branch plus 4 × off21. -/
def branchTarget (pc : Word) (off : BitVec 21) : Word := pc + off.signExtend 64 * 4
/-- The target of a jump: the address of the jump plus 4 × off26. -/
def jumpTarget (pc : Word) (off : BitVec 26) : Word := pc + off.signExtend 64 * 4

end Sys2Proof.Machine
end

