-- ==== Sys2Proof/Machine/SlotOps.lean ====
section
/-!
DEFINITION. Slots and tickets of the verdict cores: the release of a slot, the reset of a core, tickets, and the checks
that the operations of Table 7.9 share (R196, R251, R258, R261, R264, R283).
-/
namespace Sys2Proof.Machine

/-! ### Key-operation requests of a slot (R196) -/

/-- SLOT of a parameter block (Table 6.1). -/
def KReq.slot (r : KReq) : Nat := ofLe (sliceBytes r.block 4 1)
/-- FN of a parameter block. -/
def KReq.fn (r : KReq) : Nat := ofLe (sliceBytes r.block 0 1)
/-- FLAGS of a parameter block. -/
def KReq.flags (r : KReq) : Nat := ofLe (sliceBytes r.block 1 1)
/-- Key of a transient register (R194). -/
def transKey (c k t : Nat) : Nat := c * 32 + k * 4 + t
/-- A request belongs to a slot of a core. -/
def KReq.ofSlot (r : KReq) (c k : Nat) : Bool := decide (r.core = c) && decide (r.slot = k)
/-- Key operations of a slot that have not finished: queued, running or held. -/
def State.slotBusy (s : State) (c k : Nat) : Bool :=
  s.pay.queue.any (fun e => e.2.any fun r => r.ofSlot c k) || s.pay.run.any (fun e => e.2.r.ofSlot c k) ||
    s.vp.verdicts.any fun e => e.2.held.any fun h => match h with | .keyOp r => r.ofSlot c k | _ => false
/-- The transient registers of a slot are zeroised. -/
def State.zeroTransient (s : State) (c k : Nat) : State :=
  { s with pay := { s.pay with trans := tdrop (fun i => i / 4 = c * 8 + k) s.pay.trans } }
/-- A released slot whose operations have finished becomes available for dispatch (R196). -/
def State.closeSlot (s : State) (c k : Nat) : State :=
  if s.pay.closing.contains (c * 8 + k) && !s.slotBusy c k then
    ({ s with pay := { s.pay with closing := s.pay.closing.filter (· ≠ c * 8 + k) } }.zeroTransient c k).takeQueued c
  else s
/-- Every slot that is being closed and has nothing outstanding becomes available. -/
def State.closeSlots (s : State) : State := s.pay.closing.foldl (fun s i => s.closeSlot (i / 8) (i % 8)) s

/-- A slot is released (R196, R258): the verdict loses it, results still outstanding are not written, and the slot becomes
available once its operations have finished. -/
def State.releaseSlot (s : State) (c k : Nat) : State :=
  match s.slotVerdictOf c k with
  | none => s
  | some v =>
    let s := (s.modVerdict v fun x => { x with owns := false }).modCore c fun x => { x with slots := setNth x.slots k none }
    let s := { s with pay := { s.pay with closing := s.pay.closing ++ [c * 8 + k] } }
    (s.verdictEnd v).closeSlot c k

/-- A core is reset (R228, R264, R283): its slots are released, its registers, tickets and store buffer return to their
reset values, its counters clear; the SRAMs and the dispatch count stay. -/
def State.resetCore (s : State) (c : Nat) : State :=
  let s := (List.range 8).foldl (fun s k => s.releaseSlot c k) s
  let x := s.core c
  let s := s.setCore c { vcount := x.vcount, slots := x.slots }
  (((s.wrn (vcExc c 0x14) 0).wrn (vcExc c 0x18) 0).setFld (vcReg (coreOunce c) 0xD04) (c % 32) (c % 32) 0)

/-! ### Tickets (R251) -/

/-- The lowest free ticket of a class. -/
def Core.freeTicket (x : Core) (lo n : Nat) : Option Nat :=
  ((List.range n).map (lo + ·)).find? fun i => let t := nth {} x.tickets i; !(t.taken && !t.done)
/-- A ticket is taken and its number written into rd. -/
def State.takeTicket (s : State) (c t : Nat) (rd : BitVec 5) : State :=
  (s.modCore c fun x => { x with tickets := setNth x.tickets t { taken := true } }).setRegN c rd.toNat t

/-! ### Checks of R261 -/

/-- An area in the data SRAM, aligned, that the issuing ring may reach with access `k`. -/
def State.dataArea (s : State) (c a n align k : Nat) : Bool :=
  decide (a % align = 0) && decide (a + n ≤ 0x40000) && (s.fenceFail c (clsRing (s.core c).ring) k a n).isNone
/-- The bytes of such an area. -/
def State.dataBytes (s : State) (c a n : Nat) : List Byte := s.bytes (spData c + a) n

/-- The slot operand b[7:0] and the other bits of b, judged by R261: a status, or the verdict of the slot (none for 0xFF).
A slot field that names neither a slot nor 0xFF is out of range (log entry 23). -/
def State.slotOperand (s : State) (c : Nat) (b : Word) : Except Nat (Option Nat) :=
  let x := s.core c
  let k := b.toNat % 256
  if x.ring = 3 then .error 0x322
  else if k = 255 then (if x.ring = 2 then .error 0x323 else if b.toNat / 256 ≠ 0 then .error 0x324 else .ok none)
  else if k < 8 then
    match s.slotVerdictOf c k with
    | none => .error 0x323
    | some v => if b.toNat / 256 ≠ 0 then .error 0x324 else .ok (some v)
  else .error 0x324

/-- The held-effect buffer of a verdict is full: an instruction that would add an entry stalls (R175). -/
def Verdict.heldFull (x : Verdict) : Bool := decide (16 ≤ x.held.length)

end Sys2Proof.Machine
end

