-- ==== Sys2Proof/Machine/CoreEvents.lean ====
section
/-!
DEFINITION. Events of the verdict cores and the writes to VC_CTL: tickets, interrupts, the timer, the slot budget, the
watchdog, run and reset (R251, R264, R287–R294).
-/
namespace Sys2Proof.Machine

/-- An outstanding operation of core `c` completes ticket `t` with a status (R251). -/
def execTicketComplete (c t code : Nat) (s : State) : Outcome := done (s.completeTicket c t code)

/-- An eligible interrupt of core `c` is taken at an instruction boundary (R288). -/
def execInterruptEntry (c : Nat) (s : State) : Outcome :=
  done (
    if s.coreRuns c ∧ (s.core c).interrupt.isSome then
      match s.boundary c with
      | some t => t
      | none => s
    else s)

/-- CYCLE reaches TMCMP: source 4 is pending from then on (R287). -/
def execTimerCompare (c : Nat) (s : State) : Outcome :=
  done (
    let x := s.core c
    if s.coreRuns c ∧ x.tmcmp ≠ 0 then (s.setCore c { x with cycle := max x.cycle x.tmcmp }).coreCounts c x else s)

/-- Slot `k` still holds its verdict VBUDGET cycles after SLOT_READY: VBSTAT bit `k` is set, once per verdict (R292). -/
def execVbudgetExpiry (c k : Nat) (s : State) : Outcome :=
  done (
    match s.slotVerdictOf c k with
    | none => s
    | some v =>
      match s.verdict v with
      | none => s
      | some y =>
        if y.filled ∧ y.budget ≠ 0 ∧ y.budgetHit = false then
          ((s.modVerdict v fun y => { y with budgetHit := true }).modCore c fun x =>
            { x with cycle := max x.cycle (y.ready + y.budget), vbstat := x.vbstat ||| 2 ^ k }).coreCounts c (s.core c)
        else s)

/-- The watchdog of a core counts: enabled, the core neither HALTED nor in RESET, and LOCK not holding it (R293). -/
def State.wdCounts (s : State) (c : Nat) : Bool := (s.core c).wden && s.coreRuns c

/-- WDCNT reaches 0 with STAGE = 0 (R294): the count is reloaded and WDOG is raised. -/
def execWdogStage1 (c : Nat) (s : State) : Outcome :=
  done (
    let x := s.core c
    if s.wdCounts c ∧ x.wdstage = false then s.setCore c { x with wdstage := true, wdcnt := x.wdload, wdog := true } else s)

/-- WDCNT reaches 0 again with STAGE = 1 (R294): the core is reset, and runs again only under AUTORUN. -/
def execWdogStage2 (c : Nat) (s : State) : Outcome :=
  done (
    if s.wdCounts c ∧ (s.core c).wdstage = true then
      let o := coreOunce c
      let s := ((s.resetCore c).status (vcExc c 0x10) 0x329).setFld (vcReg o 0xD08) (c % 32) (c % 32) 1
      let s := s.irq (vcPage o) 1
      if s.fld (vcReg o 0xD00) 0 0 = 1 then s.modCore c fun x => { x with st := 1 } else s.setFld (vcCore c 0) 0 0 0
    else s)

/-- A core that R282 halted leaves HALTED only through RESET. -/
def State.haltedForGood (s : State) (c : Nat) : Bool :=
  let x := s.core c
  decide (x.st = 4) && x.dxl && decide (s.fld (vcExc c 0x10) 15 0 = 0x328)

/-- A write of `run` to VC_CTL.RUN, RESET 0 (R264, R283). -/
def execVcRun (c : Nat) (run : Bool) (s : State) : Outcome :=
  done (s.pageWrite (vcPage (coreOunce c)) fun s =>
    let s := (s.setFld (vcCore c 0) 0 0 (b2n run)).took (vcPage (coreOunce c))
    let x := s.core c
    if run then
      if x.st = 0 ∨ (x.st = 4 ∧ !s.haltedForGood c) then s.setCore c { x with st := 1 } else s.setCore c { x with stopping := false }
    else if 1 ≤ x.st ∧ x.st ≤ 3 then
      if x.ds.isSome then s.setCore c { x with stopping := true } else (s.drain c).modCore c fun y => { y with st := 4 }
    else s)

/-- A write of 1 to VC_CTL.RESET, with `run` in RUN (R264): refused with 0x0327 together with RUN, or unless the core is in
RESET or HALTED. -/
def execVcReset (c : Nat) (run : Bool) (s : State) : Outcome :=
  done (s.pageWrite (vcPage (coreOunce c)) fun s =>
    let st := (s.core c).st
    if run ∨ (1 ≤ st ∧ st ≤ 3) then s.status (vcCore c 0x30) 0x327
    else (((s.resetCore c).setFld (vcCore c 0) 0 0 0).took (vcPage (coreOunce c))).endGrant)

end Sys2Proof.Machine
end

