-- ==== Sys2Proof/Machine/CoreSpecial.lean ====
section
/-!
DEFINITION. Special registers of the verdict core: MFS and MTS (R225, R226, R250, R267, R268, R290).
-/
namespace Sys2Proof.Machine

/-! ### Instruction words as LOOP and MTS examine them (R247) -/

/-- A branch, jump, CALL, JR or JALR. -/
def isTransfer (w : Nat) : Bool :=
  let m := w / 2 ^ 26
  decide (0x20 ≤ m ∧ m ≤ 0x25) || decide (m = 0x28 ∨ m = 0x29) || (decide (m = 0x01) && decide (w % 2 ^ 11 < 2))
/-- A transfer, GATE, RETG, ERET or LOOP. -/
def isControl (w : Nat) : Bool :=
  isTransfer w || decide (w / 2 ^ 26 = 0x0B) || decide (w / 2 ^ 26 = 0x30) ||
    (decide (w / 2 ^ 26 = 0x01) && decide (w % 2 ^ 11 = 2 ∨ w % 2 ^ 11 = 3))
/-- The word at an instruction address of a core. -/
def State.instrAt (s : State) (c a : Nat) : Nat := s.leAt (spInstr c + a) 4
/-- The second and third conditions of R247 for a level that ends at `le` and whose body holds more than one instruction
when `two`. -/
def State.loopEndBad (s : State) (c le : Nat) (two : Bool) : Bool :=
  isControl (s.instrAt c le) || (two && decide (4 ≤ le) && isTransfer (s.instrAt c (le - 4)))

/-! ### Status views -/

/-- TKTSTAT: tickets outstanding, and tickets completed and not yet returned by WAIT. -/
def Core.tktstat (x : Core) : Nat :=
  bitsOf (x.tickets.map fun t => t.taken && !t.done) + 2 ^ 16 * bitsOf (x.tickets.map fun t => t.done && !t.waited)
/-- SLOTSTAT: slots that hold a dispatched verdict, those whose TRUST is PASS, and those ABORTED. -/
def State.slotstat (s : State) (c : Nat) : Nat :=
  let v (k : Nat) : Option Verdict := match s.slotVerdictOf c k with | some i => oget s.vp.verdicts i | none => none
  let bits (p : Verdict → Bool) : Nat := bitsOf ((List.range 8).map fun k => match v k with | some x => p x | none => false)
  bits (fun _ => true) + 2 ^ 8 * bits (fun x => x.trust = .pass) + 2 ^ 16 * bits (fun x => x.trust = .fail)

/-! ### Access (Tables 7.1 and 8.1) -/

/-- Access of a ring to a special register: 0 not listed, 1 none (PRIV), 2 read only, 3 read and write. -/
def specialAccess (n ring : Nat) : Nat :=
  if n < 0x100 then
    if n = 0x30 ∨ n = 0x31 ∨ n = 0x32 ∨ n = 0x42 ∨ n = 0x43 then 2
    else if 0x20 ≤ n ∧ n ≤ 0x25 then (if ring ≤ 1 then 3 else 1)
    else if n = 0 ∨ n = 1 ∨ n = 0x08 ∨ n = 0x09 ∨ n = 0x0A ∨ n = 0x0C ∨ n = 0x0D ∨ n = 0x0E ∨ n = 0x40 ∨ n = 0x41 then 3
    else 0
  else
    let acc : Nat × Nat :=
      match n with
      | 0x100 => (2, 2) | 0x101 => (3, 3) | 0x102 => (3, 3) | 0x103 => (3, 3) | 0x104 => (3, 3)
      | 0x105 => (3, 1) | 0x106 => (3, 2) | 0x107 => (3, 2)
      | 0x108 => (3, 1) | 0x109 => (3, 1) | 0x10A => (3, 3) | 0x10B => (3, 3)
      | 0x10C => (3, 2) | 0x10D => (3, 2) | 0x110 => (3, 3) | 0x111 => (3, 2) | 0x112 => (3, 3)
      | 0x113 => (2, 2) | 0x114 => (3, 3) | 0x115 => (3, 3) | 0x116 => (3, 3)
      | 0x118 => (3, 2) | 0x119 => (3, 2) | 0x11A => (3, 3) | 0x11B => (2, 2)
      | 0x120 => (3, 1) | 0x121 => (3, 1) | 0x122 => (3, 1)
      | _ => (0, 0)
    if acc.1 = 0 then 0 else if ring = 0 then acc.1 else if ring = 1 then acc.2 else 1

/-- The value of a listed special register. -/
def State.specialValue (s : State) (c n : Nat) : Word :=
  let x := s.core c
  let nat (v : Nat) : Word := BitVec.ofNat 64 v
  match n with
  | 0x000 => nat (b2n (nth false x.v x.ring) + 2 * b2n (nth false x.dz x.ring))
  | 0x001 => nat (b2n (nth false x.tov x.ring) + 2 * b2n (nth false x.tdz x.ring))
  | 0x008 => nat x.loops.ls0 | 0x009 => nat x.loops.le0 | 0x00A => nat x.loops.lc0
  | 0x00C => nat x.loops.ls1 | 0x00D => nat x.loops.le1 | 0x00E => nat x.loops.lc1
  | 0x020 => nat x.xloops.ls0 | 0x021 => nat x.xloops.le0 | 0x022 => nat x.xloops.lc0
  | 0x023 => nat x.xloops.ls1 | 0x024 => nat x.xloops.le1 | 0x025 => nat x.xloops.lc1
  | 0x030 => nat (c % 128 + s.position * 2 ^ 16)
  | 0x031 => nat x.cycle | 0x032 => nat x.instret
  | 0x040 => nat x.evpend | 0x041 => nat x.evmask | 0x042 => nat x.tktstat | 0x043 => nat (s.slotstat c)
  | 0x100 => nat (x.ring + 4 * b2n x.exl + 8 * b2n x.dxl)
  | 0x101 => nat (x.pring + 4 * b2n x.exl + 16 * b2n x.lsmore)
  | 0x102 => nat x.epc | 0x103 => nat x.ecause | 0x104 => x.eaddr
  | 0x105 => nat x.evec0 | 0x106 => nat x.evec1 | 0x107 => nat x.edeleg
  | 0x108 => nth 0 x.sp 0 | 0x109 => nth 0 x.sp 1 | 0x10A => nth 0 x.sp 2 | 0x10B => nth 0 x.sp 3
  | 0x10C => nat x.gatebase | 0x10D => nat x.gatecount
  | 0x110 => nat x.ien | 0x111 => nat x.iroute | 0x112 => nat x.ictl | 0x113 => nat x.ipend
  | 0x114 => nat x.vbstat | 0x115 => nat x.vbudget | 0x116 => nat x.tmcmp
  | 0x118 => nat (b2n x.wden + 2 * b2n x.wdstage) | 0x119 => nat x.wdload | 0x11B => nat x.wdcnt
  | 0x120 => nat x.depc | 0x121 => nat x.dcause | 0x122 => x.daddr
  | _ => 0

/-- MFS. -/
def execMfs (c : Nat) (rd ra : BitVec 5) (imm : BitVec 16) (s : State) : Outcome :=
  let w := wordI16 0x0C rd ra imm
  done (s.issue c w (ra = 0) false fun x s =>
    match specialAccess imm.toNat x.ring with
    | 0 => .trap s 2 2 (BitVec.ofNat 64 w)
    | 1 => .trap s 3 0 (immZ imm)
    | _ => .ok (s.setReg c rd.toNat (s.specialValue c imm.toNat)))

/-! ### MTS -/

/-- The registers whose MTS serialises and so drains the store buffer (R290). -/
def mtsSerial (n : Nat) : Bool :=
  n = 0x001 || n = 0x101 || n = 0x105 || n = 0x106 || n = 0x107 || (decide (0x108 ≤ n) && decide (n ≤ 0x10D)) || n = 0x110 || n = 0x111 ||
    n = 0x112

/-- A new end or count of loop level `hi` fails R250: the LE concerned. -/
def State.mtsLoopBad (s : State) (c : Nat) (x : Core) (n v : Nat) : Option Nat :=
  let l := x.loops
  if n = 0x009 then (if s.loopEndBad c (v % 2 ^ 17) (decide (l.ls0 + 4 ≤ v % 2 ^ 17)) then some (v % 2 ^ 17) else none)
  else if n = 0x00D then (if s.loopEndBad c (v % 2 ^ 17) (decide (l.ls1 + 4 ≤ v % 2 ^ 17)) then some (v % 2 ^ 17) else none)
  else if n = 0x00A then (if v % 2 ^ 32 ≠ 0 ∧ l.lc1 ≠ 0 ∧ l.le1 = l.le0 then some l.le0 else none)
  else if n = 0x00E then (if v % 2 ^ 32 ≠ 0 ∧ l.lc0 ≠ 0 ∧ l.le0 = l.le1 then some l.le1 else none)
  else none

/-- Bits of `old` outside the mask kept, those inside taken from `v`. -/
def maskWrite (old v mask : Nat) : Nat := (old &&& (2 ^ 64 - 1 - mask)) ||| (v &&& mask)

/-- A core with a writable special register written by a ring that may write it. -/
def Core.mts (x : Core) (n : Nat) (w : Word) : Core :=
  let v := w.toNat
  let l := x.loops
  let y := x.xloops
  match n with
  | 0x000 => { x with v := setNth x.v x.ring (bitAt w 0), dz := setNth x.dz x.ring (bitAt w 1) }
  | 0x001 => { x with tov := setNth x.tov x.ring (bitAt w 0), tdz := setNth x.tdz x.ring (bitAt w 1) }
  | 0x008 => { x with loops := { l with ls0 := v % 2 ^ 17 } }
  | 0x009 => { x with loops := { l with le0 := v % 2 ^ 17 } }
  | 0x00A => { x with loops := { l with lc0 := v % 2 ^ 32 } }
  | 0x00C => { x with loops := { l with ls1 := v % 2 ^ 17 } }
  | 0x00D => { x with loops := { l with le1 := v % 2 ^ 17 } }
  | 0x00E => { x with loops := { l with lc1 := v % 2 ^ 32 } }
  | 0x020 => { x with xloops := { y with ls0 := v % 2 ^ 17 } }
  | 0x021 => { x with xloops := { y with le0 := v % 2 ^ 17 } }
  | 0x022 => { x with xloops := { y with lc0 := v % 2 ^ 32 } }
  | 0x023 => { x with xloops := { y with ls1 := v % 2 ^ 17 } }
  | 0x024 => { x with xloops := { y with le1 := v % 2 ^ 17 } }
  | 0x025 => { x with xloops := { y with lc1 := v % 2 ^ 32 } }
  | 0x040 => { x with evpend := x.evpend &&& (2 ^ 64 - 1 - v) }
  | 0x041 => { x with evmask := v % 2 ^ 18 }
  | 0x101 => { x with pring := v % 4, exl := bitAt w 2, lsmore := x.lsmore && !bitAt w 4 }
  | 0x102 => { x with epc := v % 2 ^ 17 / 4 * 4 }
  | 0x103 => { x with ecause := v % 2 ^ 18 }
  | 0x104 => { x with eaddr := w }
  | 0x105 => { x with evec0 := v % 2 ^ 17 / 256 * 256 }
  | 0x106 => { x with evec1 := v % 2 ^ 17 / 256 * 256 }
  | 0x107 => { x with edeleg := v &&& 0xFFFCFFFF }
  | 0x108 => { x with sp := setNth x.sp 0 w }
  | 0x109 => { x with sp := setNth x.sp 1 w }
  | 0x10A => { x with sp := setNth x.sp 2 w }
  | 0x10B => { x with sp := setNth x.sp 3 w }
  | 0x10C => { x with gatebase := v % 2 ^ 18 / 32 * 32 }
  | 0x10D => { x with gatecount := v % 2 ^ 11 }
  | 0x110 => { x with ien := maskWrite x.ien v (if x.ring = 0 then 0x3F else 0x3F - x.iroute % 64) }
  | 0x111 => { x with iroute := v % 64 }
  | 0x112 => { x with ictl := maskWrite x.ictl v (if x.ring = 0 then 3 else 1) }
  | 0x114 => { x with vbstat := x.vbstat &&& (2 ^ 64 - 1 - v) }
  | 0x115 => { x with vbudget := v % 2 ^ 32 }
  | 0x116 => { x with tmcmp := v }
  | 0x118 => { x with wden := x.wden || bitAt w 0 }
  | 0x119 => { x with wdload := v % 2 ^ 32 }
  | 0x11A => if v % 2 ^ 16 = 0x5A3C then { x with wdcnt := x.wdload, wdstage := false } else x
  | 0x120 => { x with depc := v % 2 ^ 17 }
  | 0x121 => { x with dcause := v % 2 ^ 18 }
  | 0x122 => { x with daddr := w }
  | _ => x

/-- MTS. A write to a register that is read-only for the ring is ignored (Table 0.6, log entry 21). -/
def execMts (c : Nat) (rd ra : BitVec 5) (imm : BitVec 16) (s : State) : Outcome :=
  let w := wordI16 0x0D rd ra imm
  let n := imm.toNat
  done (s.issue c w (rd = 0) false fun x s =>
    let v := x.rv ra
    match specialAccess n x.ring with
    | 0 => .trap s 2 2 (BitVec.ofNat 64 w)
    | 1 => .trap s 3 1 (immZ imm)
    | 2 => if mtsSerial n then drained c s fun s => .ok s else .ok s
    | _ =>
      match s.mtsLoopBad c x n v.toNat with
      | some le => .trap s 7 1 (BitVec.ofNat 64 le)
      | none =>
        if mtsSerial n then drained c s fun s => .ok (s.modCore c fun y => y.mts n v)
        else .ok (s.modCore c fun y => y.mts n v))

end Sys2Proof.Machine
end

