-- ==== Sys2Proof/Machine/CoreFlow.lean ====
section
/-!
DEFINITION. Control transfer of the verdict core: branches and jumps with their delay slots, gates and their return, ERET
and hardware loops (R242–R250, R269–R274, R280).
-/
namespace Sys2Proof.Machine

/-! ### Branches and jumps (R242, R243) -/

/-- A branch on ra: its delay slot executes whether or not it is taken. -/
def branch (c major : Nat) (ra : BitVec 5) (off : BitVec 21) (cond : Word → Bool) (s : State) : State :=
  s.issue c (wordB major ra off) true true fun x s =>
    .xfer s (if cond (x.rv ra) then branchTarget x.pc off else x.pc + 8) 0 0

/-- BEQZ. -/
def execBeqz (c : Nat) (ra : BitVec 5) (off : BitVec 21) (s : State) : Outcome := done (branch c 0x20 ra off (fun a => a = 0) s)
/-- BNEZ. -/
def execBnez (c : Nat) (ra : BitVec 5) (off : BitVec 21) (s : State) : Outcome := done (branch c 0x21 ra off (fun a => a ≠ 0) s)
/-- BLTZ. -/
def execBltz (c : Nat) (ra : BitVec 5) (off : BitVec 21) (s : State) : Outcome := done (branch c 0x22 ra off (fun a => a.slt 0) s)
/-- BGEZ. -/
def execBgez (c : Nat) (ra : BitVec 5) (off : BitVec 21) (s : State) : Outcome := done (branch c 0x23 ra off (fun a => !a.slt 0) s)
/-- BGTZ. -/
def execBgtz (c : Nat) (ra : BitVec 5) (off : BitVec 21) (s : State) : Outcome :=
  done (branch c 0x24 ra off (fun a => (0 : Word).slt a) s)
/-- BLEZ. -/
def execBlez (c : Nat) (ra : BitVec 5) (off : BitVec 21) (s : State) : Outcome :=
  done (branch c 0x25 ra off (fun a => !(0 : Word).slt a) s)

/-- J. -/
def execJ (c : Nat) (off : BitVec 26) (s : State) : Outcome :=
  done (s.issue c (wordJ 0x28 off) true true fun x s => .xfer s (jumpTarget x.pc off) 0 0)
/-- CALL: g31 := PC + 8. -/
def execCall (c : Nat) (off : BitVec 26) (s : State) : Outcome :=
  done (s.issue c (wordJ 0x29 off) true true fun x s =>
    .xfer (s.setReg c 31 (x.pc + 8)) (jumpTarget x.pc off) 31 (x.reg 31))
/-- JR. -/
def execJr (c : Nat) (rd ra rb : BitVec 5) (s : State) : Outcome :=
  done (s.issue c (wordT3 1 rd ra rb 0x000) (rd = 0 && rb = 0) true fun x s =>
    let t := x.rv ra
    if t.toNat % 4 ≠ 0 then .trap s 4 3 t else .xfer s t 0 0)
/-- JALR: the target is read before rd := PC + 8. -/
def execJalr (c : Nat) (rd ra rb : BitVec 5) (s : State) : Outcome :=
  done (s.issue c (wordT3 1 rd ra rb 0x001) (rb = 0) true fun x s =>
    let t := x.rv ra
    if t.toNat % 4 ≠ 0 then .trap s 4 3 t else .xfer (s.setReg c rd.toNat (x.pc + 8)) t rd.toNat (x.rv rd))

/-! ### Gates (R269–R274) -/

/-- The eight words of a gate descriptor, read with ring-0 rights. -/
def State.gateWords (s : State) (c a : Nat) : List Nat :=
  (List.range 8).map fun k => ofLe (s.fencedBytes (spData c) c (clsRing 0) (a + 4 * k) 4)

/-- Check 2 of Table 8.3 on a descriptor: VALID, reserved fields, ARGC 0 to 6, LARG below ARGC. -/
def gateOk (w : List Nat) : Bool :=
  let w0 := nth 0 w 0
  let w1 := nth 0 w 1
  let argc := natField w0 10 8
  w0.testBit 15 && decide (natField w0 3 2 = 0) && decide (natField w0 14 11 = 0) && decide (natField w0 31 16 = 0) && decide (argc ≤ 6) &&
    decide (w1 % 4 = 0) && decide (natField w1 31 17 = 0) &&
    (List.range 6).all fun i =>
      let x := nth 0 w (2 + i)
      if i < argc then decide (natField x 4 3 = 0) && (!x.testBit 2 || decide (natField x 7 5 < argc)) else decide (x = 0)

/-- The first failing byte of a pointer argument (R271): `n` bytes at `p` for ring `r` with the access of KIND. -/
def State.argFail (s : State) (c r p n kind : Nat) : Option Nat :=
  if n = 0 then none
  else
    let ar := if p < 0x40000 then Area.data else if 0x1000000 ≤ p ∧ p < 0x2000000 then Area.cluster else Area.none
    let top := match ar with | .data => 0x40000 | .cluster => 0x2000000 | _ => p
    let (f, _, off) := areaAt c p ar
    let inside := min n (top - p)
    let bad := (List.range inside).find? fun i =>
      !((!kind.testBit 0 || s.fenceByte f (clsRing r) accR (off + i)) && (!kind.testBit 1 || s.fenceByte f (clsRing r) accW (off + i)))
    match bad with
    | some i => some (p + i)
    | none => if inside < n then some top else none

/-- The first argument that fails, with its failing address (check 4). -/
def State.gateArgs (s : State) (c : Nat) (x : Core) (w : List Nat) : Option (Nat × Nat) :=
  let argc := natField (nth 0 w 0) 10 8
  (List.range argc).findSome? fun i =>
    let d := nth 0 w (2 + i)
    let n := if d.testBit 2 then (x.reg (natField d 7 5 + 1)).toNat else natField d 31 8
    (if d % 4 = 0 then none else s.argFail c x.ring (x.reg (i + 1)).toNat n (d % 4)).map fun a => (i, a)

/-- The two words of a gate frame (Table 8.4). -/
def gateFrame (ret ring n : Nat) : List Byte := leBytes 8 ret ++ leBytes 8 (ring + n * 2 ^ 16 + 0x47415445 * 2 ^ 32)

/-- GATE: the checks of Table 8.3 in order, then the frame, the stack, the ring and the entry point. -/
def execGate (c : Nat) (rd ra : BitVec 5) (imm : BitVec 16) (s : State) : Outcome :=
  done (s.issue c (wordI16 0x0B rd ra imm) (rd = 0 && ra = 0) true fun x s =>
    drained c s fun s =>
      let n := imm.toNat
      let a := x.gatebase + 32 * n
      let w := s.gateWords c a
      let w0 := nth 0 w 0
      let t := w0 % 4
      let fp := (nth 0 x.sp t).toNat
      let frame := (BitVec.ofNat 64 fp - 16).toNat
      if x.gatecount ≤ n then .trap s 9 0 (immZ imm)
      else if 0x40000 < a + 32 ∨ !gateOk w then .trap s 9 1 (immZ imm)
      else if !w0.testBit (4 + x.ring) ∨ x.ring ≤ t then .trap s 9 2 (immZ imm)
      else match s.gateArgs c x w with
        | some (i, e) => .trap s 9 (0x10 + i) (BitVec.ofNat 64 e)
        | none =>
          if fp % 16 ≠ 0 ∨ 0x40000 < frame + 16 ∨ (s.fenceFail c (clsRing t) accW frame 16).isSome then .trap s 9 0x20 (BitVec.ofNat 64 frame)
          else
            let s := s.setBytes (spData c + frame) (gateFrame ((x.pc.toNat + 4) % 2 ^ 17) x.ring n)
            .goto (s.modCore c fun y => { y with sp := setNth y.sp t (BitVec.ofNat 64 frame), ring := t }) (BitVec.ofNat 64 (nth 0 w 1)))

/-- RETG: returns through the frame at g30 where all its conditions hold (R273). -/
def execRetg (c : Nat) (rd ra rb : BitVec 5) (s : State) : Outcome :=
  done (s.issue c (wordT3 1 rd ra rb 0x002) (rd = 0 && ra = 0 && rb = 0) true fun x s =>
    drained c s fun s =>
      let p := (nth 0 x.sp x.ring).toNat
      let bs := s.bytes (spData c + p) 16
      let w0 := ofLe (bs.take 8)
      let w1 := ofLe (bs.drop 8)
      if p % 16 = 0 ∧ p + 16 ≤ 0x40000 ∧ (s.fenceFail c (clsRing x.ring) accR p 16).isNone ∧ w0 / 2 ^ 17 = 0 ∧
          natField w1 63 32 = 0x47415445 ∧ natField w1 15 2 = 0 ∧ x.ring < w1 % 4 then
        .goto (s.modCore c fun y => { y with sp := setNth y.sp x.ring (BitVec.ofNat 64 (p + 16)), ring := w1 % 4 }) (BitVec.ofNat 64 w0)
      else .trap s 9 0x30 (BitVec.ofNat 64 p))

/-- ERET (R280). -/
def execEret (c : Nat) (rd ra rb : BitVec 5) (s : State) : Outcome :=
  done (s.issue c (wordT3 1 rd ra rb 0x003) (rd = 0 && ra = 0 && rb = 0) true fun x s =>
    if 1 < x.ring ∨ (x.ring = 1 ∧ x.pring = 0) then .trap s 3 2 0
    else drained c s fun s =>
      let y := s.core c
      .goto (s.setCore c { y with loops := y.xloops, ring := y.pring, exl := false, dxl := false }) (BitVec.ofNat 64 y.epc))

/-! ### LOOP (R246, R247) -/

/-- LOOP: level `n`, the count from the instruction or from register CNT[4:0]. -/
def execLoop (c : Nat) (n imm : Bool) (cnt : BitVec 10) (len : BitVec 14) (s : State) : Outcome :=
  done (s.issue c (wordL n imm cnt len) (imm || decide (cnt.toNat < 32)) true fun x s =>
    let pc := x.pc.toNat
    let le := pc + 4 * len.toNat
    let count := if imm then cnt.toNat else (x.reg (cnt.toNat % 32)).toNat
    let l := x.loops
    let other := if n then (l.lc0, l.le0) else (l.lc1, l.le1)
    if len = 0 ∨ 2 ^ 17 ≤ le ∨ s.loopEndBad c le (decide (2 ≤ len.toNat)) ∨ (other.1 ≠ 0 ∧ other.2 = le) then .trap s 7 0 (BitVec.ofNat 64 le)
    else if 2 ^ 32 ≤ count then .trap s 7 0 (BitVec.ofNat 64 count)
    else
      let l' := if n then { l with ls1 := pc + 4, le1 := le, lc1 := count } else { l with ls0 := pc + 4, le0 := le, lc0 := count }
      .goto (s.modCore c fun y => { y with loops := l' }) (BitVec.ofNat 64 (if count = 0 then le + 4 else pc + 4)))

end Sys2Proof.Machine
end

