-- ==== Sys2Proof/Machine/Flags.lean ====
section
/-!
DEFINITION. The flags of the integer operations (R234, R235): when V and DZ are set, and the ARITH exception they raise.
-/
namespace Sys2Proof.Machine

/-- What an integer operation of width `n` comes to: its result, and whether it sets V or DZ. -/
structure IntRes (n : Nat) where
  val : BitVec n
  v : Bool := false
  dz : Bool := false

/-- A signed number does not fit in `n` bits. -/
def notFits (n : Nat) (i : Int) : Bool := decide (i < -(2 ^ (n - 1) : Int) ∨ (2 ^ (n - 1) : Int) ≤ i)
/-- The most negative number of a width. -/
def isMin {n : Nat} (a : BitVec n) : Bool := a = BitVec.intMin n

/-- V and DZ of the executing ring's ARSTAT are set where an operation sets them. -/
def State.intFlags (s : State) (c : Nat) (v dz : Bool) : State :=
  let x := s.core c
  if v || dz then
    s.setCore c { x with v := if v then setNth x.v x.ring true else x.v, dz := if dz then setNth x.dz x.ring true else x.dz }
  else s

/-- The integer operation ends: the flags it sets are set in the executing ring's ARSTAT; ARITH is raised, with rd not
written, where TRAPCTL asks for it (R235). -/
def State.intDone (s : State) (c : Nat) (rd : BitVec 5) (val : Word) (v dz : Bool) : CoreRes :=
  let x := s.core c
  let s := s.intFlags c v dz
  if v && nth false x.tov x.ring then .trap s 8 0 0
  else if dz && nth false x.tdz x.ring then .trap s 8 1 0
  else .ok (s.setReg c rd.toNat val)

end Sys2Proof.Machine
end

