-- ==== Sys2Proof/Machine/CoreInt.lean ====
section
/-!
DEFINITION. The integer operations of the verdict core (R232–R235).
-/
namespace Sys2Proof.Machine

/-! ### Operations of either width -/

/-- A quotient and a remainder (R235). -/
def divide {n : Nat} (signed rem : Bool) (a b : BitVec n) : IntRes n :=
  if b = 0 then { val := if rem then a else BitVec.allOnes n, dz := true }
  else if signed && isMin a && b = BitVec.allOnes n then { val := if rem then 0 else a, v := true }
  else if signed then { val := if rem then a.srem b else a.sdiv b }
  else { val := if rem then a % b else a / b }

/-- The count of a shift: b[7:0] (R232). -/
def shiftCount {n : Nat} (b : BitVec n) : Nat := b.toNat % 256
/-- Shift left logical; a count of the width or more gives 0 (Table 7.6). -/
def shiftLeft {n : Nat} (a : BitVec n) (k : Nat) : BitVec n := a <<< k
/-- Shift right logical. -/
def shiftRight {n : Nat} (a : BitVec n) (k : Nat) : BitVec n := a >>> k
/-- Shift right arithmetic. -/
def shiftArith {n : Nat} (a : BitVec n) (k : Nat) : BitVec n := a.sshiftRight k
/-- Rotate right by the count modulo the width. -/
def rotate {n : Nat} (a : BitVec n) (k : Nat) : BitVec n := a.rotateRight (k % n)

/-- An operation of Table 7.4 with its 64-bit and its W form. `useB` tells whether its row shows rb. -/
def intOp (c func : Nat) (rd ra rb : BitVec 5) (w useB : Bool) (f : (n : Nat) → BitVec n → BitVec n → IntRes n) (s : State) : State :=
  s.issue c (wordT3 0 rd ra rb (func + (if w then 0x40 else 0))) (useB || rb = 0) false fun x s =>
    if w then
      let r := f 32 ((x.rv ra).setWidth 32) ((x.rv rb).setWidth 32)
      s.intDone c rd (r.val.signExtend 64) r.v r.dz
    else
      let r := f 64 (x.rv ra) (x.rv rb)
      s.intDone c rd r.val r.v r.dz

/-- An operation of Table 7.4 with no W form and no flag. -/
def intOp64 (c func : Nat) (rd ra rb : BitVec 5) (useB : Bool) (f : Word → Word → Word) (s : State) : State :=
  s.issue c (wordT3 0 rd ra rb func) (useB || rb = 0) false fun x s => s.intDone c rd (f (x.rv ra) (x.rv rb)) false false

/-- ADD, ADDW. -/
def execAdd (c : Nat) (rd ra rb : BitVec 5) (w : Bool) (s : State) : Outcome :=
  done (intOp c 0x000 rd ra rb w true (fun _ a b => { val := a + b }) s)
/-- SUB, SUBW. -/
def execSub (c : Nat) (rd ra rb : BitVec 5) (w : Bool) (s : State) : Outcome :=
  done (intOp c 0x001 rd ra rb w true (fun _ a b => { val := a - b }) s)
/-- ADDO, ADDOW: V if the signed sum does not fit. -/
def execAddo (c : Nat) (rd ra rb : BitVec 5) (w : Bool) (s : State) : Outcome :=
  done (intOp c 0x002 rd ra rb w true (fun n a b => { val := a + b, v := notFits n (a.toInt + b.toInt) }) s)
/-- SUBO, SUBOW: V if the signed difference does not fit. -/
def execSubo (c : Nat) (rd ra rb : BitVec 5) (w : Bool) (s : State) : Outcome :=
  done (intOp c 0x003 rd ra rb w true (fun n a b => { val := a - b, v := notFits n (a.toInt - b.toInt) }) s)
/-- NEG, NEGW: V if a = MIN. -/
def execNeg (c : Nat) (rd ra rb : BitVec 5) (w : Bool) (s : State) : Outcome :=
  done (intOp c 0x004 rd ra rb w false (fun _ a _ => { val := 0 - a, v := isMin a }) s)
/-- ABS, ABSW: V if a = MIN. -/
def execAbs (c : Nat) (rd ra rb : BitVec 5) (w : Bool) (s : State) : Outcome :=
  done (intOp c 0x005 rd ra rb w false (fun _ a _ => { val := if a.msb then 0 - a else a, v := isMin a }) s)
/-- AND. -/
def execAnd (c : Nat) (rd ra rb : BitVec 5) (s : State) : Outcome := done (intOp64 c 0x008 rd ra rb true (fun a b => a &&& b) s)
/-- OR. -/
def execOr (c : Nat) (rd ra rb : BitVec 5) (s : State) : Outcome := done (intOp64 c 0x009 rd ra rb true (fun a b => a ||| b) s)
/-- XOR. -/
def execXor (c : Nat) (rd ra rb : BitVec 5) (s : State) : Outcome := done (intOp64 c 0x00A rd ra rb true (fun a b => a ^^^ b) s)
/-- SLL, SLLW. -/
def execSll (c : Nat) (rd ra rb : BitVec 5) (w : Bool) (s : State) : Outcome :=
  done (intOp c 0x010 rd ra rb w true (fun _ a b => { val := shiftLeft a (shiftCount b) }) s)
/-- SRL, SRLW. -/
def execSrl (c : Nat) (rd ra rb : BitVec 5) (w : Bool) (s : State) : Outcome :=
  done (intOp c 0x011 rd ra rb w true (fun _ a b => { val := shiftRight a (shiftCount b) }) s)
/-- SRA, SRAW. -/
def execSra (c : Nat) (rd ra rb : BitVec 5) (w : Bool) (s : State) : Outcome :=
  done (intOp c 0x012 rd ra rb w true (fun _ a b => { val := shiftArith a (shiftCount b) }) s)
/-- ROR, RORW. -/
def execRor (c : Nat) (rd ra rb : BitVec 5) (w : Bool) (s : State) : Outcome :=
  done (intOp c 0x013 rd ra rb w true (fun _ a b => { val := rotate a (shiftCount b) }) s)
/-- The word 1 or 0. -/
def flagWord (b : Bool) : Word := if b then 1 else 0
/-- SLT: signed less. -/
def execSlt (c : Nat) (rd ra rb : BitVec 5) (s : State) : Outcome := done (intOp64 c 0x018 rd ra rb true (fun a b => flagWord (a.slt b)) s)
/-- SLTU: unsigned less. -/
def execSltu (c : Nat) (rd ra rb : BitVec 5) (s : State) : Outcome := done (intOp64 c 0x019 rd ra rb true (fun a b => flagWord (a.ult b)) s)
/-- SEQ: equal. -/
def execSeq (c : Nat) (rd ra rb : BitVec 5) (s : State) : Outcome := done (intOp64 c 0x01A rd ra rb true (fun a b => flagWord (a = b)) s)
/-- MIN: signed minimum. -/
def execMin (c : Nat) (rd ra rb : BitVec 5) (s : State) : Outcome :=
  done (intOp64 c 0x01C rd ra rb true (fun a b => if a.slt b then a else b) s)
/-- MAX: signed maximum. -/
def execMax (c : Nat) (rd ra rb : BitVec 5) (s : State) : Outcome :=
  done (intOp64 c 0x01D rd ra rb true (fun a b => if a.slt b then b else a) s)
/-- MUL, MULW. -/
def execMul (c : Nat) (rd ra rb : BitVec 5) (w : Bool) (s : State) : Outcome :=
  done (intOp c 0x020 rd ra rb w true (fun _ a b => { val := a * b }) s)
/-- MULH: high 64 bits of the signed product. -/
def execMulh (c : Nat) (rd ra rb : BitVec 5) (s : State) : Outcome :=
  done (intOp64 c 0x021 rd ra rb true (fun a b => BitVec.ofInt 64 ((a.toInt * b.toInt) >>> 64)) s)
/-- MULHU: high 64 bits of the unsigned product. -/
def execMulhu (c : Nat) (rd ra rb : BitVec 5) (s : State) : Outcome :=
  done (intOp64 c 0x022 rd ra rb true (fun a b => BitVec.ofNat 64 ((a.toNat * b.toNat) / 2 ^ 64)) s)
/-- MULO, MULOW: V if the signed product does not fit. -/
def execMulo (c : Nat) (rd ra rb : BitVec 5) (w : Bool) (s : State) : Outcome :=
  done (intOp c 0x023 rd ra rb w true (fun n a b => { val := a * b, v := notFits n (a.toInt * b.toInt) }) s)
/-- DIV, DIVW. -/
def execDiv (c : Nat) (rd ra rb : BitVec 5) (w : Bool) (s : State) : Outcome :=
  done (intOp c 0x028 rd ra rb w true (fun _ a b => divide true false a b) s)
/-- DIVU, DIVUW. -/
def execDivu (c : Nat) (rd ra rb : BitVec 5) (w : Bool) (s : State) : Outcome :=
  done (intOp c 0x029 rd ra rb w true (fun _ a b => divide false false a b) s)
/-- REM, REMW. -/
def execRem (c : Nat) (rd ra rb : BitVec 5) (w : Bool) (s : State) : Outcome :=
  done (intOp c 0x02A rd ra rb w true (fun _ a b => divide true true a b) s)
/-- REMU, REMUW. -/
def execRemu (c : Nat) (rd ra rb : BitVec 5) (w : Bool) (s : State) : Outcome :=
  done (intOp c 0x02B rd ra rb w true (fun _ a b => divide false true a b) s)

/-! ### Bit operations -/

/-- Leading zero bits; 64 of 0. -/
def leadingZeros (a : Word) : Nat := ((List.range 64).find? fun i => a.getLsbD (63 - i)).getD 64
/-- Trailing zero bits; 64 of 0. -/
def trailingZeros (a : Word) : Nat := ((List.range 64).find? fun i => a.getLsbD i).getD 64
/-- Number of 1 bits. -/
def onesOf (a : Word) : Nat := ((List.range 64).filter fun i => a.getLsbD i).length

/-- CLZ. -/
def execClz (c : Nat) (rd ra rb : BitVec 5) (s : State) : Outcome :=
  done (intOp64 c 0x030 rd ra rb false (fun a _ => BitVec.ofNat 64 (leadingZeros a)) s)
/-- CTZ. -/
def execCtz (c : Nat) (rd ra rb : BitVec 5) (s : State) : Outcome :=
  done (intOp64 c 0x031 rd ra rb false (fun a _ => BitVec.ofNat 64 (trailingZeros a)) s)
/-- POPC. -/
def execPopc (c : Nat) (rd ra rb : BitVec 5) (s : State) : Outcome :=
  done (intOp64 c 0x032 rd ra rb false (fun a _ => BitVec.ofNat 64 (onesOf a)) s)
/-- BSWAP: the eight bytes in reverse order. -/
def execBswap (c : Nat) (rd ra rb : BitVec 5) (s : State) : Outcome :=
  done (intOp64 c 0x033 rd ra rb false (fun a _ => BitVec.ofNat 64 (ofBe (leBytes 8 a.toNat))) s)
/-- SEXTB. -/
def execSextb (c : Nat) (rd ra rb : BitVec 5) (s : State) : Outcome :=
  done (intOp64 c 0x034 rd ra rb false (fun a _ => (a.setWidth 8).signExtend 64) s)
/-- SEXTH. -/
def execSexth (c : Nat) (rd ra rb : BitVec 5) (s : State) : Outcome :=
  done (intOp64 c 0x035 rd ra rb false (fun a _ => (a.setWidth 16).signExtend 64) s)
/-- ZEXTW. -/
def execZextw (c : Nat) (rd ra rb : BitVec 5) (s : State) : Outcome :=
  done (intOp64 c 0x036 rd ra rb false (fun a _ => (a.setWidth 32).setWidth 64) s)

/-- A conditional move: rd keeps its value where the condition fails. -/
def condMove (c func : Nat) (rd ra rb : BitVec 5) (zero : Bool) (s : State) : State :=
  s.issue c (wordT3 0 rd ra rb func) true false fun x s =>
    if (x.rv rb = 0) = (zero = true) then s.intDone c rd (x.rv ra) false false else .ok s
/-- CMOVZ. -/
def execCmovz (c : Nat) (rd ra rb : BitVec 5) (s : State) : Outcome := done (condMove c 0x038 rd ra rb true s)
/-- CMOVN. -/
def execCmovn (c : Nat) (rd ra rb : BitVec 5) (s : State) : Outcome := done (condMove c 0x039 rd ra rb false s)

/-! ### Immediate operations (R233) -/

/-- An operation of Table 7.5 on ra and the immediate. -/
def immOp (c major : Nat) (rd ra : BitVec 5) (imm : BitVec 16) (legal : Bool) (f : Word → Word) (s : State) : State :=
  s.issue c (wordI16 major rd ra imm) legal false fun x s => s.intDone c rd (f (x.rv ra)) false false

/-- ADDI. -/
def execAddi (c : Nat) (rd ra : BitVec 5) (imm : BitVec 16) (s : State) : Outcome := done (immOp c 0x02 rd ra imm true (· + immS imm) s)
/-- ADDIW. -/
def execAddiw (c : Nat) (rd ra : BitVec 5) (imm : BitVec 16) (s : State) : Outcome :=
  done (immOp c 0x03 rd ra imm true (fun a => sext32 (a + immS imm)) s)
/-- ANDI. -/
def execAndi (c : Nat) (rd ra : BitVec 5) (imm : BitVec 16) (s : State) : Outcome := done (immOp c 0x04 rd ra imm true (· &&& immZ imm) s)
/-- ORI. -/
def execOri (c : Nat) (rd ra : BitVec 5) (imm : BitVec 16) (s : State) : Outcome := done (immOp c 0x05 rd ra imm true (· ||| immZ imm) s)
/-- XORI. -/
def execXori (c : Nat) (rd ra : BitVec 5) (imm : BitVec 16) (s : State) : Outcome := done (immOp c 0x06 rd ra imm true (· ^^^ immZ imm) s)
/-- SLTI. -/
def execSlti (c : Nat) (rd ra : BitVec 5) (imm : BitVec 16) (s : State) : Outcome :=
  done (immOp c 0x07 rd ra imm true (fun a => flagWord (a.slt (immS imm))) s)
/-- SLTIU. -/
def execSltiu (c : Nat) (rd ra : BitVec 5) (imm : BitVec 16) (s : State) : Outcome :=
  done (immOp c 0x08 rd ra imm true (fun a => flagWord (a.ult (immS imm))) s)
/-- LUI: ra must be 0. -/
def execLui (c : Nat) (rd ra : BitVec 5) (imm : BitVec 16) (s : State) : Outcome :=
  done (immOp c 0x09 rd ra imm (ra = 0) (fun _ => sext32 (immZ imm <<< 16)) s)

/-- A shift-immediate: imm16[15:8] names the operation, imm16[7:0] the count. -/
def shiftImm (c op : Nat) (rd ra : BitVec 5) (cnt : BitVec 8) (w : Bool) (f : (n : Nat) → BitVec n → Nat → BitVec n) (s : State) : State :=
  immOp c 0x0A rd ra (BitVec.ofNat 16 ((op + (if w then 0x40 else 0)) * 256 + cnt.toNat)) true
    (fun a => if w then (f 32 (a.setWidth 32) cnt.toNat).signExtend 64 else f 64 a cnt.toNat) s
/-- SLLI, SLLIW. -/
def execSlli (c : Nat) (rd ra : BitVec 5) (cnt : BitVec 8) (w : Bool) (s : State) : Outcome :=
  done (shiftImm c 0 rd ra cnt w (fun _ => shiftLeft) s)
/-- SRLI, SRLIW. -/
def execSrli (c : Nat) (rd ra : BitVec 5) (cnt : BitVec 8) (w : Bool) (s : State) : Outcome :=
  done (shiftImm c 1 rd ra cnt w (fun _ => shiftRight) s)
/-- SRAI, SRAIW. -/
def execSrai (c : Nat) (rd ra : BitVec 5) (cnt : BitVec 8) (w : Bool) (s : State) : Outcome :=
  done (shiftImm c 2 rd ra cnt w (fun _ => shiftArith) s)
/-- RORI, RORIW. -/
def execRori (c : Nat) (rd ra : BitVec 5) (cnt : BitVec 8) (w : Bool) (s : State) : Outcome :=
  done (shiftImm c 3 rd ra cnt w (fun _ => rotate) s)

end Sys2Proof.Machine
end

