-- ==== Sys2Proof/Machine/CoreMem.lean ====
section
/-!
DEFINITION. Loads, stores, the store buffer, atomics and fences of the verdict core (R237–R241, R284).
-/
namespace Sys2Proof.Machine

/-- The size of a load or store sub-operation in bytes (Table 7.7). -/
def subSize (sub : BitVec 4) : Nat :=
  match sub.toNat with | 0 => 1 | 1 => 1 | 2 => 2 | 3 => 2 | 4 => 4 | 5 => 4 | _ => 8
/-- What a load sub-operation makes of the number it read. -/
def loadExtend (sub : BitVec 4) (v : Nat) : Word :=
  match sub.toNat with
  | 0 => (BitVec.ofNat 8 v).signExtend 64
  | 2 => (BitVec.ofNat 16 v).signExtend 64
  | 4 => (BitVec.ofNat 32 v).signExtend 64
  | _ => BitVec.ofNat 64 v

/-- LOAD. -/
def execLoad (c : Nat) (rd ra : BitVec 5) (sub : BitVec 4) (off : BitVec 12) (s : State) : Outcome :=
  done (s.issue c (wordM 0x10 rd ra sub off) (decide (sub.toNat ≤ 6)) false fun x s =>
    s.loadAt c (x.effAddr ra off) (subSize sub) fun bs s => .ok (s.setReg c rd.toNat (loadExtend sub (ofLe bs))))

/-- STORE. -/
def execStore (c : Nat) (rs ra : BitVec 5) (sub : BitVec 4) (off : BitVec 12) (s : State) : Outcome :=
  done (s.issue c (wordM 0x11 rs ra sub off) (decide (sub.toNat ≤ 6) && decide (sub.toNat % 2 = 0)) false fun x s =>
    s.storeAt c (x.effAddr ra off) (leBytes (subSize sub) (x.rv rs).toNat))

/-- The oldest buffered store of a core reaches cluster memory and is checked there (R239). Under LOCK a core's stores to
mailbox senders are held (R527). -/
def execStoreBufferDrain (c : Nat) (s : State) : Outcome := done (if s.lockInForce then s else s.drainOne c)

/-- A reported LATE_STORE is taken at a boundary that is not between a transfer and its slot (R284). -/
def execLateStoreReport (c : Nat) (s : State) : Outcome :=
  done (if s.coreRuns c && (s.core c).late.isSome && (s.core c).ds.isNone then s.raise c cLATE 0 0 true else s)

/-- CAS: where the word equals rd, b is written; rd receives the old word. -/
def execCas (c : Nat) (rd ra rb : BitVec 5) (s : State) : Outcome :=
  done (s.issue c (wordT3 1 rd ra rb 0x010) true false fun x s =>
    s.atomicAt c rd.toNat (x.rv ra).toNat fun old => (if old = x.rv rd then some (x.rv rb) else none, old))
/-- AMOADD. -/
def execAmoadd (c : Nat) (rd ra rb : BitVec 5) (s : State) : Outcome :=
  done (s.issue c (wordT3 1 rd ra rb 0x011) true false fun x s =>
    s.atomicAt c rd.toNat (x.rv ra).toNat fun old => (some (old + x.rv rb), old))
/-- AMOSWAP. -/
def execAmoswap (c : Nat) (rd ra rb : BitVec 5) (s : State) : Outcome :=
  done (s.issue c (wordT3 1 rd ra rb 0x012) true false fun x s =>
    s.atomicAt c rd.toNat (x.rv ra).toNat fun old => (some (x.rv rb), old))

/-- FENCE completes once the store buffer is empty. -/
def execFence (c : Nat) (rd ra rb : BitVec 5) (s : State) : Outcome :=
  done (s.issue c (wordT3 1 rd ra rb 0x008) (rd = 0 && ra = 0 && rb = 0) false fun _ s => drained c s fun s => .ok s)
/-- ISYNC drains the store buffer; the model fetches no instruction ahead (log entry 22). -/
def execIsync (c : Nat) (rd ra rb : BitVec 5) (s : State) : Outcome :=
  done (s.issue c (wordT3 1 rd ra rb 0x009) (rd = 0 && ra = 0 && rb = 0) false fun _ s => drained c s fun s => .ok s)
/-- BRK raises BREAK. -/
def execBrk (c : Nat) (rd ra rb : BitVec 5) (s : State) : Outcome :=
  done (s.issue c (wordT3 1 rd ra rb 0x00A) (rd = 0 && ra = 0 && rb = 0) false fun _ s => .trap s 0x0A 0 0)

end Sys2Proof.Machine
end

