-- ==== Sys2Proof/Machine/CoreSys.lean ====
section
/-!
DEFINITION. The system operations of the verdict core (R251–R261): tickets, events, time, journal appends, responses,
leases, context updates, DMA, slots and key operations.
-/
namespace Sys2Proof.Machine

/-! ### Tickets, events, time -/

/-- WAIT. -/
def execWait (c : Nat) (rd ra rb : BitVec 5) (s : State) : Outcome :=
  done (s.issue c (wordT3 1 rd ra rb 0x018) (rb = 0) false fun x s =>
    let n := (x.rv ra).toNat
    let t := nth {} x.tickets n
    if 12 ≤ n ∨ !t.taken then .ok (s.setRegN c rd.toNat 0x321)
    else if !t.done then .stall s 1
    else .ok ((s.modCore c fun y => { y with tickets := setNth y.tickets n { t with waited := true } }).setRegN c rd.toNat t.status))
/-- POLL. -/
def execPoll (c : Nat) (rd ra rb : BitVec 5) (s : State) : Outcome :=
  done (s.issue c (wordT3 1 rd ra rb 0x019) (rb = 0) false fun x s =>
    let n := (x.rv ra).toNat
    let t := nth {} x.tickets n
    .ok (s.setRegN c rd.toNat (b2n (decide (12 ≤ n) || !t.taken || t.done))))
/-- WFE: stalls until an event of EVMASK is pending. -/
def execWfe (c : Nat) (rd ra rb : BitVec 5) (s : State) : Outcome :=
  done (s.issue c (wordT3 1 rd ra rb 0x01A) (ra = 0 && rb = 0) false fun _ s =>
    drained c s fun s =>
      let x := s.core c
      let m := x.evpend &&& x.evmask
      if m = 0 then .stall s 2 else .ok (s.setRegN c rd.toNat m))
/-- RDTIM: bit 63 is set while timestamps are invalid (R260). -/
def execRdtim (c : Nat) (rd ra rb : BitVec 5) (s : State) : Outcome :=
  done (s.issue c (wordT3 1 rd ra rb 0x01B) (ra = 0 && rb = 0) false fun _ s =>
    .ok (s.setRegN c rd.toNat (s.clk.tim % 2 ^ 63 + (if s.clk.held then 2 ^ 63 else 0))))

/-! ### Journal appends and responses (R253, R254, R177) -/

/-- An append is refused for want of a ring place (R370). -/
def State.appendRefused (s : State) (c : Nat) (code : Nat) : State :=
  let o := coreOunce c
  let s := s.jnBump o 1
  if code = 0x602 then s.irq (jnPage o) 2 else s

/-- The strand of a core has a free ring place (R370). -/
def State.ringRoom (s : State) (k : Nat) : Bool := let t := s.strand k; decide (t.inUse + t.reserved < s.ringSize (k / 4))

/-- JAPP. -/
def execJapp (c : Nat) (rd ra rb : BitVec 5) (s : State) : Outcome :=
  done (s.issue c (wordT3 1 rd ra rb 0x020) true false fun x s =>
    let ret (code : Nat) (s : State) : CoreRes := .ok (s.setRegN c rd.toNat code)
    let a := (x.rv ra).toNat
    let k := strandOf c
    match s.slotOperand c (x.rv rb) with
    | .error e => ret e s
    | .ok who =>
      if !s.dataArea c a 160 16 accR then ret 0x324 s
      else
        let r := s.dataBytes c a 160
        match who with
        | none =>
          if !s.jnEnabled (coreOunce c) then ret 0x601 (s.appendRefused c 0x601)
          else if !s.ringRoom k then ret 0x602 (s.appendRefused c 0x602)
          else if 64 ≤ (s.strand k).queue.length then .stall s 1
          else ret 0 (s.giveApp k { kind := 2, core := c, record := r })
        | some v =>
          match s.verdict v with
          | none => ret 0x323 s
          | some y =>
            if y.trust = .fail then ret 0x316 s
            else if 8 ≤ y.appends then ret 0x31C s
            else if !s.jnEnabled (coreOunce c) then ret 0x601 (s.appendRefused c 0x601)
            else if !s.ringRoom k then ret 0x602 (s.appendRefused c 0x602)
            else if y.trust = .pending ∨ y.held ≠ [] then
              if y.heldFull then .stall s 1
              else
                let t := s.strand k
                ret 0 ((s.setStrand k { t with reserved := t.reserved + 1 }).modVerdict v fun y =>
                  { y with held := y.held ++ [.append r], appends := y.appends + 1 })
            else if 64 ≤ (s.strand k).queue.length then .stall s 1
            else ret 0 ((s.giveApp k (y.app v y.given r)).modVerdict v fun y => { y with appends := y.appends + 1, given := y.given + 1 }))

/-- RESPOND: its checks in the order of R261; the response is held in the response buffer until its gates open. -/
def execRespond (c : Nat) (rd ra rb : BitVec 5) (s : State) : Outcome :=
  done (s.issue c (wordT3 1 rd ra rb 0x023) true false fun x s =>
    let ret (code : Nat) (s : State) : CoreRes := .ok (s.setRegN c rd.toNat code)
    let a := (x.rv ra).toNat
    let b := x.rv rb
    let n := getField b 13 0
    let k := getField b 26 24
    if x.ring = 3 then ret 0x322 s
    else match (s.slotVerdictOf c k).bind s.verdict, s.slotVerdictOf c k with
      | some y, some v =>
        if (b &&& 0xFFFFFFFFF8E0C000) ≠ 0 ∨ n = 0 ∨ !s.dataArea c a n 1 accR then ret 0x324 s
        else if y.trust = .fail then ret 0x316 s
        else if y.responded then ret 0x325 s
        else if 8192 < n then ret 0x31A s
        else if y.appends = 0 then ret 0x315 s
        else
          let o := coreOunce c
          let used := cget 0 s.vp.units o
          if 8192 < used + respUnits n then .stall s 1
          else
            let s := { s with vp := { s.vp with units := cput 0 (used + respUnits n) o s.vp.units } }
            let s := s.modVerdict v fun y =>
              { y with resp := some { data := s.dataBytes c a n, cls := getField b 20 16, at_ := s.clk.ns }, responded := true }
            ret 0 (s.tryRelease v)
      | _, _ => ret 0x323 s)

/-! ### Leases and context updates (R255, R324, R435) -/

/-- A lease block keeps to Table 12.5, its result area included. -/
def State.leaseOk (s : State) (c : Nat) (b : List Byte) (write : Bool) : Bool :=
  let f (o n : Nat) : Nat := ofLe (sliceBytes b o n)
  let wop := f 0 1
  (if write then decide (wop = 1 ∨ wop = 2) else decide (wop = 0 ∧ f 0x10 8 = 0 ∧ f 0x18 8 = 0)) && decide (f 1 3 = 0) &&
    decide (f 4 4 < 2 ^ 29) && decide (f 12 4 = 0) && s.dataArea c (f 8 4) 40 8 accW

/-- LREAD. -/
def execLread (c : Nat) (rd ra rb : BitVec 5) (s : State) : Outcome :=
  done (s.issue c (wordT3 1 rd ra rb 0x021) (rb = 0) false fun x s =>
    let a := (x.rv ra).toNat
    if x.ring = 3 then .ok (s.setRegN c rd.toNat 0x322)
    else if !s.dataArea c a 32 8 accR || !s.leaseOk c (s.dataBytes c a 32) false then .ok (s.setRegN c rd.toNat 0x324)
    else match x.freeTicket 2 4 with
      | none => .stall s 1
      | some t => .ok ((s.takeTicket c t rd).leaseIssue c t (s.dataBytes c a 32)))

/-- LWRITE: held while TRUST is PENDING. -/
def execLwrite (c : Nat) (rd ra rb : BitVec 5) (s : State) : Outcome :=
  done (s.issue c (wordT3 1 rd ra rb 0x022) true false fun x s =>
    let a := (x.rv ra).toNat
    match s.slotOperand c (x.rv rb) with
    | .error e => .ok (s.setRegN c rd.toNat e)
    | .ok who =>
      if !s.dataArea c a 32 8 accR || !s.leaseOk c (s.dataBytes c a 32) true then .ok (s.setRegN c rd.toNat 0x324)
      else
        let b := s.dataBytes c a 32
        match who.bind s.verdict, who with
        | some y, some v =>
          let hold := decide (y.trust = .pending) || decide (y.held ≠ [])
          if hold && y.trust != .fail && y.heldFull then .stall s 1
          else match x.freeTicket 2 4 with
            | none => .stall s 1
            | some t =>
              let s := s.takeTicket c t rd
              if y.trust = .fail then .ok (s.completeTicket c t 0x316)
              else if hold then .ok (s.modVerdict v fun y => { y with held := y.held ++ [.lwrite b t] })
              else .ok (s.leaseIssue c t b)
        | _, _ =>
          match x.freeTicket 2 4 with
          | none => .stall s 1
          | some t => .ok ((s.takeTicket c t rd).leaseIssue c t b))

/-- A context update enters the queue of operations on their way to the cache (R325). -/
def State.ctxOp (s : State) (ctx c t : Nat) (b : List Byte) : State :=
  { s with cxs := { s.cxs with ops := s.cxs.ops ++ [{ ctx := ctx, core := c, tkt := t, block := b }] } }

/-- CTXUPD: STORE and ADD are held while TRUST is PENDING; READ is free. -/
def execCtxupd (c : Nat) (rd ra rb : BitVec 5) (s : State) : Outcome :=
  done (s.issue c (wordT3 1 rd ra rb 0x024) true false fun x s =>
    let a := (x.rv ra).toNat
    match s.slotOperand c (x.rv rb) with
    | .error e => .ok (s.setRegN c rd.toNat e)
    | .ok who =>
      if !s.dataArea c a 48 16 accR then .ok (s.setRegN c rd.toNat 0x324)
      else
        let b := s.dataBytes c a 48
        let read := decide (ofLe (b.take 1) = 3)
        let bad := ctxupdBad b who.isNone || (read && !s.dataArea c (ofLe (sliceBytes b 8 4)) 128 16 accW)
        let refuse (t : Nat) (s : State) : State := (s.kvBump (coreOunce c) 7).completeTicket c t 0x40B
        match who.bind s.verdict, who with
        | some y, some v =>
          let hold := !read && (decide (y.trust = .pending) || decide (y.held ≠ []))
          if hold && !bad && y.trust != .fail && y.heldFull then .stall s 1
          else match x.freeTicket 10 2 with
            | none => .stall s 1
            | some t =>
              let s := s.takeTicket c t rd
              if bad then .ok (refuse t s)
              else if !read && y.trust = .fail then .ok (s.completeTicket c t 0x316)
              else if hold then .ok (s.modVerdict v fun y => { y with held := y.held ++ [.ctxupd b t] })
              else .ok (s.ctxOp y.m.ctx c t b)
        | _, _ =>
          match x.freeTicket 10 2 with
          | none => .stall s 1
          | some t =>
            let s := s.takeTicket c t rd
            if bad then .ok (refuse t s) else .ok (s.ctxOp (ofLe (sliceBytes b 4 4)) c t b))

/-! ### DMA (R256) -/

/-- A DMA descriptor keeps to Table 7.11. -/
def dmaOk (b : List Byte) : Bool :=
  let f (o n : Nat) : Nat := ofLe (sliceBytes b o n)
  let len := f 4 4
  let l := f 0x10 4
  decide (f 0 4 ≤ 1) && decide (len % 8 = 0 ∧ 8 ≤ len ∧ len ≤ 65536) && decide (f 8 8 % 8 = 0 ∧ f 8 8 + len ≤ 48 * 2 ^ 30) &&
    decide (l % 8 = 0) && (decide (l + len ≤ 0x40000) || decide (0x1000000 ≤ l ∧ l + len ≤ 0x2000000)) && decide (f 0x16 2 = 0)

/-- DMA. -/
def execDma (c : Nat) (rd ra rb : BitVec 5) (s : State) : Outcome :=
  done (s.issue c (wordT3 1 rd ra rb 0x025) (rb = 0) false fun x s =>
    let a := (x.rv ra).toNat
    if x.ring = 3 then .ok (s.setRegN c rd.toNat 0x322)
    else if !s.dataArea c a 32 8 accR || !dmaOk (s.dataBytes c a 32) then .ok (s.setRegN c rd.toNat 0x324)
    else match x.freeTicket 6 4 with
      | none => .stall s 1
      | some t =>
        let b := s.dataBytes c a 32
        let f (o n : Nat) : Nat := ofLe (sliceBytes b o n)
        let op : DmaOp := { core := c, tkt := t, daddr := a, toHbm := f 0 4 = 1, len := f 4 4, haddr := f 8 8, laddr := f 0x10 4 }
        let o := coreOunce c
        let s := s.takeTicket c t rd
        .ok { s with vc := { s.vc with dma := cput [] (cget [] s.vc.dma o ++ [op]) o s.vc.dma } })

/-- A range of `n` bytes copied behind two fences in class DMA: a byte that fails the source fence reads 0, one that fails
the target fence is not written (R256, R551). -/
def State.dmaCopy (s : State) (sf sb sa df db da : Nat) : Nat → State
  | 0 => s
  | n + 1 =>
    let v := if s.fenceByte sf clsDma accR sa then s.byte (sb + sa) else 0
    let s := if s.fenceByte df clsDma accW da then s.setByte (db + da) v else s
    s.dmaCopy sf sb (sa + 1) df db (da + 1) n

/-- Whether a DMA of an ounce may end now: one of the eight oldest of its cluster (R256). -/
def State.dmaAt (s : State) (o i : Nat) : Option DmaOp := if i < 8 then (cget [] s.vc.dma o)[i]? else none

/-- DMA transfer `i` of a cluster ends: its bytes have moved, STATUS is written into the descriptor's place, and the ticket
completes (R256). -/
def execDmaComplete (o i : Nat) (s : State) : Outcome :=
  done (
    match s.dmaAt o i with
    | none => s
    | some d =>
      let s := { s with vc := { s.vc with dma := cput [] ((cget [] s.vc.dma o).eraseIdx i) o s.vc.dma } }
      let (lf, lb, la) := areaAt d.core d.laddr (areaOf d.laddr d.len)
      let fail :=
        (List.range d.len).find? fun k =>
          if d.toHbm then !(s.fenceByte lf clsDma accR (la + k) && s.fenceByte 260 clsDma accW (d.haddr + k))
          else !(s.fenceByte 260 clsDma accR (d.haddr + k) && s.fenceByte lf clsDma accW (la + k))
      let t := if d.toHbm then s.dmaCopy lf lb la 260 spHbm d.haddr d.len else s.dmaCopy 260 spHbm d.haddr lf lb la d.len
      let place := spData d.core + d.daddr
      match fail with
      | none => (t.setLe (place + 0x14) 2 0).completeTicket d.core d.tkt 0
      | some k =>
        let localBad := if d.toHbm then !s.fenceByte lf clsDma accR (la + k) else s.fenceByte 260 clsDma accR (d.haddr + k)
        let addr := if localBad then d.laddr + k else d.haddr + k
        let t := if localBad then t.violation lf clsDma (if d.toHbm then accR else accW) (la + k)
          else t.violation 260 clsDma (if d.toHbm then accW else accR) (d.haddr + k)
        ((t.setLe (place + 0x14) 2 0x326).setLe (place + 0x18) 8 addr).completeTicket d.core d.tkt 0x326)

/-! ### Slots and key operations (R252, R258, R187–R197) -/

/-- SLREL. -/
def execSlrel (c : Nat) (rd ra rb : BitVec 5) (s : State) : Outcome :=
  done (s.issue c (wordT3 1 rd ra rb 0x026) (rd = 0 && rb = 0) false fun x s =>
    if x.ring = 3 then .ok s else .ok (s.releaseSlot c ((x.rv ra).toNat % 8)))

/-- PLEN of Table 6.2 for an operation code; none for a code that is not listed. -/
def opPlen (fn nseg : Nat) : Option Nat :=
  match fn with
  | 0x10 => some 0x40
  | 0x20 => some (0x60 + 8 * nseg) | 0x21 => some (0x60 + 8 * nseg)
  | 0x30 => some 0x30 | 0x40 => some 0x50 | 0x50 => some 0x90 | 0x51 => some 0x90 | 0x60 => some 0x28 | 0x61 => some 0x28
  | _ => none
/-- An operation that Table 6.2 marks as held. -/
def KReq.isHeld (r : KReq) : Bool := r.fn = 0x60 || (r.fn = 0x30 && r.flags.testBit 0)
/-- A request is refused before an engine takes it: the status goes to its result area, where there is one, and to its
ticket. -/
def State.refuseKop (s : State) (c t ring status : Nat) (b : List Byte) : State :=
  let s := s.kvBump (coreOunce c) (if status = 0x316 then 14 else 9)
  (if status ≠ 0x352 && s.resultOk c ring b 8 then s.keyResult c b status 0xFF [] else s).completeTicket c t status

/-- KOP: the block is copied at issue and checked as far as the issue can (R189, R190, R193); a held operation waits for
TRUST (R197). -/
def execKop (c : Nat) (rd ra : BitVec 5) (lo : BitVec 16) (s : State) : Outcome :=
  done (s.issue c (wordI16 0x38 rd ra lo) (lo = 0) false fun x s =>
    let a := (x.rv ra).toNat
    match x.freeTicket 0 2 with
    | none => .stall s 1
    | some t =>
      let head := if s.dataArea c a 16 16 accR then s.dataBytes c a 16 else []
      let plen := ofLe (sliceBytes head 2 2)
      let whole := decide (16 ≤ plen) && s.dataArea c a plen 16 accR
      let b := if whole then s.dataBytes c a plen else head
      let r : KReq := { core := c, tkt := t, ring := x.ring, block := b }
      let vid := if r.slot < 8 then s.slotVerdictOf c r.slot else none
      let r := { r with vid := vid }
      let refuse (code : Nat) : CoreRes := .ok ((s.takeTicket c t rd).refuseKop c t x.ring code b)
      if head = [] then refuse 0x352
      else if x.ring = 3 then refuse 0x346
      else if opPlen r.fn (ofLe (sliceBytes b 0x21 1)) ≠ some plen ∧ (r.fn ≠ 0x20 ∧ r.fn ≠ 0x21 ∨ whole) then refuse 0x340
      else if !whole then refuse 0x352
      else if (r.slot = 255 ∧ x.ring = 2) ∨ (r.slot ≠ 255 ∧ vid.isNone) then refuse 0x340
      else
        match (vid.bind s.verdict), vid with
        | some y, some v =>
          if r.isHeld && y.trust = .fail then refuse 0x316
          else if r.isHeld && (decide (y.trust = .pending) || decide (y.held ≠ [])) then
            if y.heldFull then .stall s 1
            else .ok ((s.takeTicket c t rd).modVerdict v fun y => { y with held := y.held ++ [.keyOp r] })
          else .ok ((s.takeTicket c t rd).keyEnqueue r)
        | _, _ => .ok ((s.takeTicket c t rd).keyEnqueue r))

end Sys2Proof.Machine
end

