-- ==== Sys2Proof/Machine/CustodyCmds.lean ====
section
/-!
DEFINITION. Commands of custody (chapter 16): the monitors and alarms, the latch, the unlock session, generation of the
root, the silicon and zone life cycles, debug grants, and the fences.
-/
namespace Sys2Proof.Machine

/-! ### Monitors (R518–R521) -/

/-- A rail has stayed within its slow band for 1 ms: its monitor is armed (R519), and what held an unlock is over (R536). -/
def execMonitorArm (m : Nat) (s : State) : Outcome :=
  done (
    let s := s.setMonitor m { armed := true }
    let s := if m = 4 then s.modCus fun c => { c with keepOff := false } else s
    s.sessionCheck)

/-- A rail leaves its glitch band, on the high side or the low side (R520). The low side of VBAT counts only while VDD_KEEP is
absent (R519). -/
def execMonitorDeparture (m : Nat) (high : Bool) (s : State) : Outcome :=
  done (
    let x := s.monitor m
    if !x.armed || (m == 5 && !high && !s.cus.keepOff) || (s.cus.keepOff && m != 5) then s
    else s.setMonitor m { x with dep := if high then 1 else 2, outGlitch := true, outSlow := true })

/-- A departure is classified as a glitch (R520): bit 7 of the unit marks the high side. -/
def execGlitchAlarm (m : Nat) (s : State) : Outcome :=
  done (
    let x := s.monitor m
    if x.dep = 0 then s
    else (s.setMonitor m { x with dep := 0 }).alarm 1 (m + 128 * b2n (x.dep = 1)))

/-- A rail has been outside its slow band, on the high side or the low side, for more than 10 µs and above its power-loss
level (R520). A departure under classification stays so. -/
def execSlowAlarm (m : Nat) (high : Bool) (s : State) : Outcome :=
  done (
    let x := s.monitor m
    if !x.armed || (m == 5 && !high && !s.cus.keepOff) || (s.cus.keepOff && m != 5) then s
    else (s.setMonitor m { x with outSlow := true }).alarm 2 (m + 128 * b2n high))

/-- A power loss is classified (R520): VDD_CORE, which needs all four monitors 0 to 3 (any of them names it), VDD_KEEP (4), or
VBAT below its retention level with VDD_KEEP absent (5, R531). It raises no alarm, ends the provisional hold, disarms the
monitors (R519) and takes the device down: every switched domain is off. -/
def execPowerLossClassify (m : Nat) (s : State) : Outcome :=
  done (
    if m < 4 then
      let s := (List.range 4).foldl (fun s k => s.setMonitor k { below := true }) s
      ({ s with dom := [] }.setFld (ra tGLB 0 0x204) 8 8 0).setFld (ra tGLB 0 0x204) 9 9 0
    else if m = 4 then
      let s := (List.range 5).foldl (fun s k => s.setMonitor k { below := true }) s
      s.modCus fun c => { c with keepOff := true }
    else if s.cus.keepOff then
      let s := s.setMonitor 5 { below := true }
      s.modCus fun c => { c with retLost := true }
    else s)

/-- SEQUENCE (R521): VDD_KEEP lost while a VDD_CORE monitor is above its power-loss level (monitor 4), or one VDD_CORE
monitor lost alone (0 to 3). -/
def execSequenceAlarm (m : Nat) (s : State) : Outcome :=
  done (
    let x := s.monitor m
    if !x.armed then s
    else if m = 4 ∧ !((List.range 4).any fun k => !(s.monitor k).below) then s
    else
      let s := (s.setMonitor m { below := true }).alarm 3 0
      if m = 4 then s.modCus fun c => { c with keepOff := true } else s)

/-! ### Other alarms (R522, R523) -/

/-- A machine of Table 16.2 holds no valid encoding: a STATE alarm, and the machine behaves as the table states until a cold
start. The unlock session ends (machine 6), a debug grant is none (machine 3), and every zone leaves TEST and PRODUCTION
(machine 8, R313). -/
def execStateAlarm (m : Nat) (s : State) : Outcome :=
  done (
    if s.cus.keepOff ∧ m ≠ 1 then s
    else
      let was := s.lockInForce
      let s := s.modCus fun c => { c with invalid := if c.invalid.contains m then c.invalid else c.invalid ++ [m] }
      let s := if m = 6 then s.failSession else if m = 3 then s.endGrant
        else if m = 8 then (List.range 64).foldl (fun s z => s.zeroiseZone z) s else s
      ((s.lockFollow was).alarm 4 m))

/-- A custody-link frame of ounce `o` fails its authentication (R29). -/
def execLinkAlarm (o : Nat) (s : State) : Outcome := done (s.alarm 5 o)

/-- A write to LK_FORCE (R523, Table 16.15) with the key 0x464F, in MAKER and INTEGRATOR only. Table 16.3 sets UNIT to 0 for
this source, and Table 16.15 gives the register a UNIT field: the record takes the written one (log entry 29). -/
def execLkForce (v : Reg) (s : State) : Outcome :=
  done (if getField v 31 16 = 0x464F ∧ s.silicon ≤ 1 then (s.took (cdPage 1)).alarm 6 (getField v 7 0) else s.discard (cdPage 1))

/-- The AON logic takes the sticky flag (R523): every waiting alarm is recorded, in ascending order of source, and the latch
becomes LOCKED. A change of the latch raises LOCK_CHANGE, ends a debug grant (R548) and locks the flash again (R570). -/
def execAonAlarmLatch (s : State) : Outcome :=
  done (
    if !s.cus.sticky then s
    else
      let from_ := s.cus.latch
      let es := s.cus.alarmWait
      let s := (List.range 7).foldl (fun s k => (es.filter fun e => e.1 = k).foldl State.recordAlarm s) s
      let s := s.modCus fun c => { c with sticky := false, alarmWait := [], latch := 0xC3A5 }
      if s.cus.keepOff then s
      else
        let s := if from_ = 0xC3A5 then s else s.irq (cdPage 1) 1
        (s.endGrant).setFld (flReg 0x104) 30 30 0)

/-- Custody measures VBAT in millivolts, with VDD_KEEP present (R532): below 2.60 V it is low. -/
def execVbatMeasure (mv : Nat) (s : State) : Outcome :=
  done (
    if s.cus.keepOff then s
    else if mv < 2600 then
      (((s.setFld (cdReg 0 0x100) 10 10 1).setFld (cdReg 1 0x104) 2 2 1)).irq (cdPage 1) 3
    else s.setFld (cdReg 0 0x100) 10 10 0)

/-! ### Alarm records (R524, R525) -/

/-- ALARM_READ: the 32 bytes of a record; a record that is not held reads as zeros. -/
def execAlarmRead (s : State) : Outcome :=
  done (s.custServe 0x20 fun _ w s =>
    let k := nth 0 w 1
    if 16 ≤ k then ((0x801, []), s)
    else
      let r := padTo 32 (nth [] s.cus.records k)
      ((0, (List.range 4).map fun i => BitVec.ofNat 64 (ofLe (sliceBytes r (8 * i) 8))), s))

/-- ALARM_CLEAR: only while the latch is UNLOCKED. -/
def execAlarmClear (s : State) : Outcome :=
  done (s.custServe 0x21 fun _ _ s => plainResult (
    if !s.latchOpen then (0x803, s) else (0, s.modCus fun c => { c with records := [], overflow := 0 })))

/-! ### The unlock session and the root (R533–R536) -/

/-- UNLOCK_BEGIN: a session of 10 minutes opens; a card already in the slot is presented. -/
def execUnlockBegin (s : State) : Outcome :=
  done (s.custServe 0x30 fun _ _ s => plainResult (
    if s.cus.session.open_ then (0x809, s)
    else (0, (s.modCus fun c => { c with session := { open_ := true, begun := s.clk.ns } }).cardStart)))

/-- UNLOCK_END: the open session ends unsuccessfully. -/
def execUnlockEnd (s : State) : Outcome :=
  done (s.custServe 0x31 fun _ _ s => plainResult (0, s.failSession))

/-- The open session times out (R536). -/
def execUnlockSessionTimeout (s : State) : Outcome := done s.failSession

/-- ROOT_GENERATE (R533, R534): a new root and its N shares, from the custody DRBG; the cards are written one by one as they
are presented, and the badges follow. The command is acknowledged when the generation has begun (log entry 30). -/
def execRootGenerate (s : State) : Outcome :=
  done (s.custServe 0x32 fun _ w s => plainResult (
    let m := natField (nth 0 w 1) 3 0
    let n := natField (nth 0 w 1) 8 4
    if 2 ^ 9 ≤ nth 0 w 1 ∨ m < 2 ∨ 8 < m ∨ n < m ∨ 16 < n then (0x801, s)
    else if s.silicon ≠ 1 ∧ s.silicon ≠ 3 then (0x803, s)
    else
      match s.draw 4 (2 * m + 1) with
      | (none, s) => (0x842, s)
      | (some r, s) =>
        let root := r.take 32
        let coeffs := (List.range (m - 1)).map fun i => sliceBytes r (32 * (i + 1)) 32
        let g : Generation := { root := root, genId := sliceBytes r (32 * m) 8, m := m, n := n, begun := s.clk.ns,
                                shares := (List.range n).map fun i => shareAt root coeffs (i + 1) }
        (0, (s.modCus fun c => { c with root := none, gen := some g }).cardStart)))

/-! ### Silicon life cycle (R537–R540) -/

/-- A refused token: its failure is counted (R539). -/
def State.tokenFail (s : State) : State := s.modCus fun c => { c with tokenFails := c.tokenFails + 1 }

/-- LC_ADVANCE (R539, R540). -/
def execLcAdvance (s : State) : Outcome :=
  done (s.custServe 0x40 fun _ w s => plainResult (
    let t := nth 0 w 1
    if 8 ≤ t then (0x801, s)
    else if 4 ≤ s.silicon ∨ t ≠ s.silicon + 1 then (0x803, s)
    else if s.lockInForce then (0x808, s)
    else if 8 ≤ s.cus.tokenFails then (0x805, s)
    else if t = 2 ∧ (s.cus.digest1 = [] ∨ s.cus.digest2 = []) then (0x806, s)
    else if sha384 (wordBytes w 2 4) ≠ s.lcDigest t then (0x804, s.tokenFail)
    else
      let s := (s.endGrant.modCus fun c => { c with otp := lcWord t, coldDue := true }).lockFlush
      (0, (if t = 3 then s.zeroiseCustomer else s).irq (cdPage 2) 0)))

/-- LC_SET_DIGEST (R538): slots 1 and 2, in INTEGRATOR, once each. -/
def execLcSetDigest (s : State) : Outcome :=
  done (s.custServe 0x41 fun _ w s => plainResult (
    let k := nth 0 w 1
    let d := wordBytes w 2 6
    if 4 ≤ k then (0x801, s)
    else if s.silicon ≠ 1 then (0x803, s)
    else if k = 1 ∧ s.cus.digest1 = [] then (0, s.modCus fun c => { c with digest1 := d })
    else if k = 2 ∧ s.cus.digest2 = [] then (0, s.modCus fun c => { c with digest2 := d })
    else (0x806, s)))

/-! ### Zone life cycle (R541, R542) -/

/-- What refuses a zone command before the zone is looked at (R541): the silicon state and LOCK. -/
def State.zoneCmdRefusal (s : State) : Nat :=
  if s.silicon ≠ 1 ∧ s.silicon ≠ 2 then 0x803 else if s.lockInForce then 0x808 else 0
/-- A zone command whose w1 may hold the bits of `mask`; `f` acts on the zone. -/
def zoneCmd16 (code mask : Nat) (f : Nat → List Nat → State → Nat × State) (s : State) : State :=
  s.custServe code fun _ w s => plainResult (
    if nth 0 w 1 &&& (2 ^ 64 - 1 - mask) ≠ 0 then (0x801, s)
    else if s.zoneCmdRefusal ≠ 0 then (s.zoneCmdRefusal, s)
    else f (nth 0 w 1 % 64) w s)

/-- ZONE_DIGEST: the digest of the token of a transition, once for each, while BLANK. -/
def execZoneDigest (s : State) : Outcome :=
  done (zoneCmd16 0x50 0x33F (fun z w s =>
    let x := s.zone z
    let t := natField (nth 0 w 1) 9 8
    if t = 0 then (0x801, s)
    else if x.started ∨ s.zoneLc z ≠ 0 ∨ nth [] x.digests (t - 1) ≠ [] then (0x80E, s)
    else (0, s.setZone z { x with digests := setNth x.digests (t - 1) (wordBytes w 2 6) })) s)

/-- ZONE_LC: a transition of Table 16.7 by token. -/
def execZoneLc (s : State) : Outcome :=
  done (zoneCmd16 0x51 0x33F (fun z w s =>
    let x := s.zone z
    let t := natField (nth 0 w 1) 9 8
    if t = 0 then (0x801, s)
    else if x.started ∨ s.zoneLc z ≠ t - 1 ∨ (t = 1 ∧ x.digests.any (· = [])) then (0x80E, s)
    else if 8 ≤ x.fails then (0x805, s)
    else if sha384 (wordBytes w 2 4) ≠ nth [] x.digests (t - 1) then (0x804, s.setZone z { x with fails := x.fails + 1 })
    else if t = 1 then
      match s.draw 4 2 with
      | (none, s) => (0x842, s)
      | (some r, s) => (0, (s.setZone z { x with lc := 1, seed := r, epoch := 1, floor := 1 }).zoneDelta z)
    else if t = 2 then (0, (s.setZone z { x with lc := 2, epoch := x.epoch + 1, floor := x.epoch + 1 }).zoneDelta z)
    else (0, s.setZone z { x with lc := 3, seed := List.replicate 32 0 })) s)

/-- ZONE_RECYCLE: an END_OF_LIFE zone becomes BLANK once a quorum session has succeeded since the last start. -/
def execZoneRecycle (s : State) : Outcome :=
  done (zoneCmd16 0x52 0x3F (fun z _ s =>
    let x := s.zone z
    if x.started ∨ s.zoneLc z ≠ 3 then (0x80E, s)
    else if !s.cus.quorum then (0x803, s)
    else (0, s.setZone z { x with lc := 0, digests := [[], [], []], inc := x.inc + 1 })) s)

/-! ### Certificates and zone seeds (R543–R545) -/

/-- CERT_READ: the device's certificate goes to host memory, when the device may write it. -/
def execCertRead (s : State) : Outcome :=
  done (s.custServe 0x55 fun _ w s => plainResult (
    let a := nth 0 w 1
    if a % 8 ≠ 0 then (0x801, s)
    else if !s.busMaster then (0x803, s)
    else (0, s.setBytes (spHost + a) (padTo 256 Config.custodyCert))))

/-- The first 0x40 bytes of a zone seed blob (Table 16.19). -/
def State.seedHead (s : State) (z : Nat) (dst iv : List Byte) : List Byte :=
  let x := s.zone z
  leBytes 4 0x5A534431 ++ [1] ++ beBytes 1 z ++ beBytes 1 (s.zoneLc z) ++ beBytes 1 s.silicon ++ ownUid ++ dst ++ leBytes 4 x.inc ++
    leBytes 2 x.epoch ++ leBytes 2 x.floor ++ padTo 12 iv ++ leBytes 4 128

/-- ZONE_SEED_EXPORT: a blob for the device of a certificate in host memory. -/
def execZoneSeedExport (s : State) : Outcome :=
  done (zoneCmd16 0x53 0x3F (fun z w s =>
    let ca := nth 0 w 2
    let ba := nth 0 w 3
    let x := s.zone z
    if ca % 8 ≠ 0 ∨ ba % 8 ≠ 0 then (0x801, s)
    else if s.zoneLc z ≠ 1 ∧ s.zoneLc z ≠ 2 then (0x80E, s)
    else if !s.busMaster then (0x80F, s)
    else match certOpen (s.bytes (spHost + ca) 256) with
      | none => (0x80F, s)
      | some (dst, q) =>
        match s.draw 4 1 with
        | (none, s) => (0x842, s)
        | (some iv, s) =>
          let head := s.seedHead z dst iv
          let key := seedWrapKey q ownUid dst z
          let d (t : Nat) : List Byte := if s.zoneLc z < t then padTo 48 (nth [] x.digests (t - 1)) else List.replicate 48 0
          let (ct, tag) := gcmSeal key (padTo 12 iv) head (padTo 32 x.seed ++ d 2 ++ d 3)
          let body := head ++ ct ++ tag
          let (extra, s) := s.freeBytes 48
          let sig := match p384.sign Config.custodyPriv (sha384 body) extra with
            | some (r, t) => beBytes 48 r ++ beBytes 48 t
            | none => List.replicate 96 0
          (0, s.setBytes (spHost + ba) (body ++ sig ++ List.replicate 16 0))) s)

/-- ZONE_SEED_IMPORT: every condition of R543, else 0x080F and nothing changes. -/
def execZoneSeedImport (s : State) : Outcome :=
  done (zoneCmd16 0x54 0x3F (fun z w s =>
    let ba := nth 0 w 2
    let ca := nth 0 w 3
    let x := s.zone z
    let b := s.bytes (spHost + ba) 320
    if ba % 8 ≠ 0 ∨ ca % 8 ≠ 0 then (0x801, s)
    else if !s.busMaster then (0x80F, s)
    else match certOpen (s.bytes (spHost + ca) 256) with
      | none => (0x80F, s)
      | some (uid, q) =>
        let zlc := ofLe (sliceBytes b 6 1)
        if x.started ∨ s.zoneLc z ≠ 0 ∨ !s.cus.quorum ∨ ofLe (b.take 4) ≠ 0x5A534431 ∨ ofLe (sliceBytes b 4 1) ≠ 1 ∨
            ofLe (sliceBytes b 5 1) ≠ z ∨ (zlc ≠ 1 ∧ zlc ≠ 2) ∨ ofLe (sliceBytes b 7 1) ≠ s.silicon ∨ sliceBytes b 8 16 ≠ uid ∨
            sliceBytes b 0x18 16 ≠ ownUid ∨ ofLe (sliceBytes b 0x3C 4) ≠ 128 ∨
            p384Verify q (b.take 0xD0) (sliceBytes b 0xD0 96) = false then (0x80F, s)
        else match gcmOpen (seedWrapKey q uid ownUid z) (sliceBytes b 0x30 12) (b.take 0x40) (sliceBytes b 0x40 128) (sliceBytes b 0xC0 16) with
          | none => (0x80F, s)
          | some p =>
            (0, (s.setZone z { x with lc := zlc, seed := p.take 32, digests := [[], sliceBytes p 32 48, sliceBytes p 80 48],
                                      inc := ofLe (sliceBytes b 0x28 4), epoch := ofLe (sliceBytes b 0x2C 2),
                                      floor := ofLe (sliceBytes b 0x2E 2) }).zoneDelta z)) s)

/-! ### Debug (R547, R548) -/

/-- DBG_CHALLENGE: a fresh nonce for a scope; it voids an earlier challenge. -/
def execDbgChallenge (s : State) : Outcome :=
  done (s.custServe 0x60 fun _ w s =>
    if 256 ≤ nth 0 w 1 then ((0x801, []), s)
    else if s.silicon ≠ 2 then ((0x803, []), s)
    else match s.draw 4 2 with
      | (none, s) => ((0x842, []), s)
      | (some r, s) =>
        ((0, (List.range 4).map fun i => BitVec.ofNat 64 (ofLe (sliceBytes r (8 * i) 8))),
         s.modCus fun c => { c with challenge := some (r, nth 0 w 1, s.clk.ns) }))

/-- DBG_RESPONSE: the grant, when the signature verifies under the Octux key within 10 minutes of the challenge. -/
def execDbgResponse (s : State) : Outcome :=
  done (s.custServe 0x61 fun _ w s => plainResult (
    if s.silicon ≠ 2 then (0x811, s)
    else match s.cus.challenge with
      | none => (if s.lockInForce then 0x808 else 0x810, s)
      | some (nonce, scope, at_) =>
        if 4 ≤ scope then (0x811, s)
        else if s.lockInForce then (0x808, s)
        else if at_ + 600000000000 < s.clk.ns ∨
            p384Verify Config.octuxPub (nonce ++ ownUid ++ beBytes 1 scope ++ leBytes 4 s.lcStat) (wordBytes w 1 12) = false then (0x810, s)
        else
          (0, ((s.modCus fun c => { c with challenge := none, grant := some scope }).bump (cdPage 2) 0 0 1).irq (cdPage 2) 1)))

/-- DBG_CLOSE: a grant ends. -/
def execDbgClose (s : State) : Outcome := done (s.custServe 0x62 fun _ _ s => plainResult (0, s.endGrant))

/-! ### Fences (R549–R553, R557) -/

/-- Bytes that lie behind a fence (Table 16.9). -/
def fenceSize (f : Nat) : Nat :=
  if f < 128 then 0x40000 else if f < 256 then 0x20000 else if f < 260 then 0x1000000 else if f = 260 then 48 * 2 ^ 30
  else if f = 261 then 2 ^ 64 else 0x100000
/-- A region or default is written as a whole, or refused (R552). -/
def State.fenceWrite (s : State) (f r : Nat) (dflt en : Bool) (start last perm : Nat) : Nat × State :=
  if 278 < f then (0x812, s)
  else if dflt then (0, s.modCus fun c => { c with defaults := tput fenceDefault (perm % 2 ^ 24) f c.defaults })
  else if 15 < r ∨ last < start ∨ fenceSize f < last + 16 then (0x812, s)
  else (0, s.modCus fun c => { c with regions := cput {} ⟨start, last, en, perm % 2 ^ 24⟩ (f * 16 + r) c.regions })

/-- FENCE_WRITE, on channels 48 to 51 only. -/
def execFenceWrite (s : State) : Outcome :=
  done (s.custServe 0x10 fun ch w s => plainResult (
    let v := nth 0 w 1
    if 51 < ch then (0x802, s)
    else if v &&& (2 ^ 64 - 1 - 0x30F01FF) ≠ 0 ∨ 2 ^ 24 ≤ nth 0 w 4 then (0x801, s)
    else s.fenceWrite (v % 512) (natField v 19 16) (v.testBit 25) (v.testBit 24) (nth 0 w 2 / 16 * 16) (nth 0 w 3 / 16 * 16) (nth 0 w 4)))

/-- A register of CD instance 3. -/
def fnReg (off : Nat) : Nat := cdReg 3 off
/-- A write to FN_CMD by the host passes its fence (Tables 16.9 and 16.10); custody firmware writes it directly. `f` acts and
answers the status. -/
def State.fnCmd (s : State) (cust : Bool) (f : State → Nat × State) : State :=
  let who := if cust then clsCust else clsHost
  match s.fenceFail (261 + tCD) who accW (3 * 0x1000 + 0x120) 4 with
  | some a => (s.violation (261 + tCD) who accW a).discard (cdPage 3)
  | none =>
    let (st, s) := f s
    (s.wrn (fnReg 0x124) st).took (cdPage 3)
/-- FN_SEL: fence and region. -/
def State.fnSel (s : State) : Nat × Nat := (s.fld (fnReg 0x100) 8 0, s.fld (fnReg 0x100) 19 16)

/-- WRITE_REGION: the selected region from FN_START, FN_END, FN_PERM and FN_RCTL. -/
def execWriteRegion (cust : Bool) (s : State) : Outcome :=
  done (s.fnCmd cust fun s =>
    s.fenceWrite s.fnSel.1 s.fnSel.2 false (s.fld (fnReg 0x11C) 0 0 == 1) (s.rd64 (fnReg 0x108) / 16 * 16) (s.rd64 (fnReg 0x110) / 16 * 16)
      (s.fld (fnReg 0x118) 23 0))

/-- READ_REGION: the selected region into the FN registers. -/
def execReadRegion (cust : Bool) (s : State) : Outcome :=
  done (s.fnCmd cust fun s =>
    if 278 < s.fnSel.1 then (0x812, s)
    else
      let g := s.region s.fnSel.1 s.fnSel.2
      (0, ((((s.wr64 (fnReg 0x108) g.start).wr64 (fnReg 0x110) g.last).wrn (fnReg 0x118) g.perm).wrn (fnReg 0x11C) (b2n g.en))))

/-- WRITE_DEFAULT: the selected fence's default from FN_PERM. -/
def execWriteDefault (cust : Bool) (s : State) : Outcome :=
  done (s.fnCmd cust fun s => s.fenceWrite s.fnSel.1 0 true false 0 0 (s.fld (fnReg 0x118) 23 0))

/-- READ_DEFAULT: the selected fence's default into FN_PERM. -/
def execReadDefault (cust : Bool) (s : State) : Outcome :=
  done (s.fnCmd cust fun s =>
    if 278 < s.fnSel.1 then (0x812, s) else (0, s.wrn (fnReg 0x118) (tget fenceDefault s.cus.defaults s.fnSel.1)))

/-- LOG_CLEAR: the violation log is emptied. -/
def execLogClear (cust : Bool) (s : State) : Outcome :=
  done (s.fnCmd cust fun s => (0, s.modCus fun c => { c with log := [] }))

end Sys2Proof.Machine
end

