-- ==== Sys2Proof/Machine/FlashCmds.lean ====
section
/-!
DEFINITION. Commands of the flash page port (R560–R571) and of the configuration store (R575, R576).
-/
namespace Sys2Proof.Machine

/-- FL_STATUS records a refusal and FL_REFUSED counts it. -/
def State.flRefuse (s : State) (code : Nat) : State := (s.status (flReg 0x104) code).flBump 4 1
/-- A page-port command is BUSY. -/
def State.flBusy (s : State) : Bool := s.fl.op.isSome
/-- A start sequence runs (GLB_START_STAT.RUNNING). -/
def State.startRuns (s : State) : Bool := s.fld (ra tGLB 0 0x204) 8 8 = 1
/-- FL_ADDR as a word number; FL_COUNT; FL_REGION. -/
def State.flAddr (s : State) : Nat := s.fld (flReg 0x108) 23 3
/-- FL_COUNT. -/
def State.flCount (s : State) : Nat := s.fld (flReg 0x10C) 6 0
/-- The command is taken: BUSY. -/
def State.flTake (s : State) (x : FlashOp) : State := ({ s with fl := { s.fl with op := some x } }).setFld (flReg 0x104) 31 31 1
/-- The regions of a run of words. -/
def flRegions (w n : Nat) : List Nat := (List.range n).map fun i => (w + i) / 8192
/-- A region the page port may not read (Table 17.1). -/
def flPrivate (r : Nat) : Bool := decide (128 ≤ r ∧ r < 160)
/-- A region with no protection bit (R569). -/
def flNoBit (r : Nat) : Bool := flPrivate r || decide (r = 254 ∨ r = 255)
/-- Why a program or erase of a run of regions is refused (Table 17.1, R569, R572); 0 when it is not. -/
def State.flWriteRefusal (s : State) (rs : List Nat) : Nat :=
  if rs.any flNoBit then 0x823
  else if rs.any fun r => decide (r < 128) && decide (r / 64 = s.fl.booted) then 0x825
  else if !s.flUnlocked && rs.any (fun r => s.fl.prot.testBit r) then 0x826 else 0
/-- A count or address out of range. -/
def State.flMalformed (s : State) : Bool := decide (s.flCount = 0 ∨ 64 < s.flCount) || decide (2 ^ 21 < s.flAddr + s.flCount)

/-- FL_CMD READ. -/
def execFlashRead (s : State) : Outcome :=
  done ((
    if s.flBusy then s.flRefuse 0x821
    else if s.flMalformed then s.flRefuse 0x820
    else if (flRegions s.flAddr s.flCount).any flPrivate then s.flRefuse 0x823
    else s.flTake { op := 1, word := s.flAddr, count := s.flCount }).took flPage)

/-- FL_CMD PROGRAM: every target word must be erased. -/
def execFlashProgram (s : State) : Outcome :=
  done ((
    let w := s.flAddr
    let n := s.flCount
    if s.flBusy then s.flRefuse 0x821
    else if s.startRuns then s.flRefuse 0x82D
    else if s.flMalformed then s.flRefuse 0x820
    else
      let c := s.flWriteRefusal (flRegions w n)
      if c ≠ 0 then s.flRefuse c
      else if (List.range n).any fun i => s.flWord (w + i) ≠ erasedWord then s.flRefuse 0x822
      else
        { s with fl := { s.fl with opRec := some (1, w / 512) } }.flTake
          { op := 2, word := w, count := n, data := (List.range n).map fun i => BitVec.ofNat 64 (s.rd64 (flReg (0x200 + 8 * i))) }).took flPage)

/-- FL_CMD ERASE. -/
def execFlashErase (s : State) : Outcome :=
  done ((
    let w := s.flAddr
    if s.flBusy then s.flRefuse 0x821
    else if s.startRuns then s.flRefuse 0x82D
    else
      let c := s.flWriteRefusal [w / 8192]
      if c ≠ 0 then s.flRefuse c
      else { s with fl := { s.fl with opRec := some (2, w / 512) } }.flTake { op := 3, word := w }).took flPage)

/-- FIRST and COUNT of FL_REGION out of range. -/
def State.flRegionBad (s : State) : Bool :=
  decide (s.fld (flReg 0x110) 16 8 = 0) || decide (256 < s.fld (flReg 0x110) 7 0 + s.fld (flReg 0x110) 16 8)
/-- A protection or password command is taken, or refused: busy, a start running, a bad region, or a locked flash. -/
def State.flProtCmd (s : State) (op : Nat) (region unlocked : Bool) : State :=
  if s.flBusy then s.flRefuse 0x821
  else if s.startRuns then s.flRefuse 0x82D
  else if region && s.flRegionBad then s.flRefuse 0x820
  else if unlocked && !s.flUnlocked then s.flRefuse 0x826
  else
    s.flTake { op := op, pass := BitVec.ofNat 64 (s.rd64 (flReg 0x118)), first := s.fld (flReg 0x110) 7 0,
               regions := s.fld (flReg 0x110) 16 8 }

/-- FL_CMD PROTECT. -/
def execFlashProtect (s : State) : Outcome := done ((s.flProtCmd 4 true false).took flPage)
/-- FL_CMD UNPROTECT. -/
def execFlashUnprotect (s : State) : Outcome := done ((s.flProtCmd 5 true true).took flPage)
/-- FL_CMD UNLOCK: after eight failures it is refused until the next cold start. -/
def execFlashUnlock (s : State) : Outcome :=
  done ((
    if s.flBusy then s.flRefuse 0x821
    else if s.startRuns then s.flRefuse 0x82D
    else if 8 ≤ s.fld (flReg 0x104) 23 16 then s.flRefuse 0x828
    else s.flProtCmd 6 false false).took flPage)
/-- FL_CMD RELOCK. -/
def execFlashRelock (s : State) : Outcome := done ((s.flProtCmd 7 false false).took flPage)
/-- FL_CMD SET_PASSWORD. -/
def execFlashSetPassword (s : State) : Outcome := done ((s.flProtCmd 8 false true).took flPage)

/-- A page-port command ends with a status; DONE is raised. -/
def State.flEnd (s : State) (code : Nat) : State :=
  ((({ s with fl := { s.fl with op := none, move := none, opRec := none } }.status (flReg 0x104) code).setFld (flReg 0x104) 31 31 0).irq flPage 0)

/-- A READ ends: the words found uncorrectable return 0, single-bit errors are corrected (R561). -/
def State.flReadEnd (s : State) (x : FlashOp) (corr uncorr : List Nat) : State :=
  let bad := uncorr.filter (· < x.count)
  let s := (List.range x.count).foldl (fun s i =>
    s.wr64 (flReg (0x200 + 8 * i)) (if bad.contains i then 0 else (s.flWord (x.word + i)).toNat)) s
  let s := s.flBump 2 (corr.filter fun i => i < x.count ∧ !bad.contains i).length
  match bad with
  | [] => s.flEnd 0
  | i :: _ => ((bad.foldl (fun s j => ((s.errInfo flPage ((x.word + j) / 512) 0x824).flBump 3 1)) s).irq flPage 1).flEnd (if i < x.count then 0x824 else 0)

/-- The word after which a program fails its verification, if any. -/
def State.flProgramEnd (s : State) (x : FlashOp) (fail : Option Nat) : State :=
  match fail with
  | some i =>
    if i < x.count then
      let s := flProgram x.word (x.data.take i) s
      let (v, s) := s.free
      ((s.setFlWord (x.word + i) v).flBump 0 1).flEnd 0x829
    else ((flProgram x.word x.data s).flBump 0 1).flEnd 0
  | none => ((flProgram x.word x.data s).flBump 0 1).flEnd 0

/-- Bits of a run of regions, those without a bit left out. -/
def regionBits (first n : Nat) : Nat :=
  (List.range n).foldl (fun a i => if flNoBit (first + i) ∨ 256 ≤ first + i then a else a ||| 2 ^ (first + i)) 0

/-- A page-port operation ends. What the array showed comes with the event: words with a corrected or an uncorrectable error,
and the word at which a program, or the blank check of an erase, failed its verification. -/
def execFlashOpDone (corr uncorr : List Nat) (fail : Option Nat) (s : State) : Outcome :=
  done (
    match s.fl.op with
    | none => s
    | some x =>
      if s.fl.move.isSome then s
      else if x.op = 1 then s.flReadEnd x corr uncorr
      else if x.op = 2 then s.flProgramEnd x fail
      else if x.op = 3 then
        let (due, s) := s.eraseSector (x.word / 512)
        let s := s.flBump 1 1
        let s := match fail with
          | some i => let (v, s) := s.free; s.setFlWord (x.word / 512 * 512 + i % 512) v
          | none => s
        if due then { s with fl := { s.fl with move := some (x.word / 512 / 256), opRec := some (3, x.word / 512 / 256),
                                               op := some { x with count := b2n fail.isSome } } }
        else s.flEnd (if fail.isSome then 0x829 else 0)
      else if x.op = 4 then { s with fl := { s.fl with prot := s.fl.prot ||| regionBits x.first x.regions } }.flEnd 0
      else if x.op = 5 then { s with fl := { s.fl with prot := s.fl.prot - (s.fl.prot &&& regionBits x.first x.regions) } }.flEnd 0
      else if x.op = 6 then
        if x.pass = s.fl.pass then (s.setFld (flReg 0x104) 30 30 1).flEnd 0
        else (((s.setFld (flReg 0x104) 23 16 (min (s.fld (flReg 0x104) 23 16 + 1) 255)).irq flPage 2).flBump 5 1).flEnd 0x827
      else if x.op = 7 then (s.setFld (flReg 0x104) 30 30 0).flEnd 0
      else { s with fl := { s.fl with pass := x.pass } }.flEnd 0)

/-- The gap move that an erase brought about ends, and with it the erase (R566, R567). -/
def execGapMoveDone (s : State) : Outcome :=
  done (
    match s.fl.move, s.fl.op with
    | some k, some x => (s.gapMove k).flEnd (if x.count = 1 then 0x829 else 0)
    | some k, none => (s.gapMove k).flEnd 0
    | none, _ => s)

/-! ### The configuration store (R575, R576) -/

/-- CS_CMD WRITE: its body is read from host memory, and a bank that is not the winner is the target. -/
def execCsWrite (s : State) : Outcome :=
  done ((
    let len := s.fld (csReg 0x110) 16 0
    let w := s.csWinner
    if s.fl.csOp.isSome then s.csStatus 0x821
    else if s.startRuns then s.csStatus 0x82D
    else if 65464 < len then s.csStatus 0x82A
    else if (match w with | some b => decide (s.bankSeq b = 2 ^ 64 - 2) | none => false) then s.csStatus 0x82B
    else
      let body := s.bytes (spHost + s.rd64 (csReg 0x108)) len
      let target := match w with | some b => 1 - b | none => 0
      { s with fl := { s.fl with csOp := some (body, target) } }.setFld (csReg 0x104) 31 31 1).took csPage)

/-- The header of a bank before its CRC (Table 17.3). -/
def bankHead (len seq : Nat) : List Byte := leBytes 4 0x43464731 ++ leBytes 2 1 ++ leBytes 2 0 ++ leBytes 4 len ++ leBytes 4 0 ++ leBytes 8 seq

/-- A store command ends; DONE is raised. -/
def State.csEnd (s : State) (code : Nat) : State :=
  ((({ s with fl := { s.fl with csOp := none } }).csStatus code).setFld (csReg 0x104) 31 31 0).irq csPage 0

/-- A store write ends: the target bank is erased and programmed, COMMIT last, and checked; `ok` is false when a step
failed, the read of host memory among them, and then the old winner stays in force. -/
def execCsWriteDone (ok : Bool) (s : State) : Outcome :=
  done (
    match s.fl.csOp with
    | none => s
    | some (body, b) =>
      if !ok then (s.bump csPage 1 0 1).csEnd 0x82C
      else
        let seq := match s.csWinner with | some w => s.bankSeq w + 1 | none => 1
        let h := bankHead body.length seq
        let h := h ++ leBytes 4 (crc32c (h ++ body)) ++ List.replicate 36 0
        let s := s.eraseBank b
        let a := bankAddr b / 8
        let s := flProgram (a + 8) (flWords body) s
        let s := flProgram a (flWords h) s
        let s := s.setFlWord (a + 0x1FFF) 0x5A5AC3C30F0FA5A5
        if s.bankState b = 0 then (s.bump csPage 0 0 1).csEnd 0 else (s.bump csPage 1 0 1).csEnd 0x82C)

/-- CS_CMD READ. -/
def execCsRead (s : State) : Outcome :=
  done ((
    if s.fl.csOp.isSome then s.csStatus 0x821
    else match s.csWinner with
      | none => (s.wrn (csReg 0x110) 0).csEnd 0
      | some b =>
        let body := s.bankBody b
        ((s.setBytes (spHost + s.rd64 (csReg 0x108)) body).wrn (csReg 0x110) body.length).csEnd 0).took csPage)

/-- CS_CMD ERASE_BOTH: bank B, then bank A. -/
def execEraseBoth (s : State) : Outcome :=
  done ((if s.fl.csOp.isSome then s.csStatus 0x821 else ((s.eraseBank 1).eraseBank 0).csEnd 0).took csPage)

end Sys2Proof.Machine
end

