-- ==== Sys2Proof/Machine/HostOps.lean ====
section
/-!
DEFINITION. The DMA rings of the host (R454–R460): their registers, completions, vectors and receive buffers.
-/
namespace Sys2Proof.Machine

/-- A register of a DMA ring (Table 13.7). -/
def rgReg (r off : Nat) : Nat := bar2 + 0x4000 + 0x40 * r + off
/-- The HI page. -/
def hiPage : Nat := pageNo tHI 0
/-- RG_CFG.EN. -/
def State.rgOn (s : State) (r : Nat) : Bool := s.fld (rgReg r 8) 0 0 = 1
/-- Descriptors of a ring: 2^SIZE. -/
def State.rgSize (s : State) (r : Nat) : Nat := 2 ^ s.fld (rgReg r 8) 7 4
/-- RG_CONS and RG_PROD. -/
def State.rgCons (s : State) (r : Nat) : Nat := s.fld (rgReg r 0x10) 15 0
/-- Pending descriptors of a ring, modulo 2^16 (R454). -/
def State.rgPending (s : State) (r : Nat) : Nat := (s.fld (rgReg r 0xC) 15 0 + 65536 - s.rgCons r) % 65536
/-- Address of descriptor `i` of a ring in host memory. -/
def State.rgDesc (s : State) (r i : Nat) : Nat := spHost + s.rd64 (rgReg r 0) + 32 * (i % s.rgSize r)
/-- A ring refuses a write: RG_STATUS and RING_ERR (R454, R469). -/
def State.rgRefuse (s : State) (r code : Nat) : State := (s.status (rgReg r 0x14) code).irq hiPage 1
/-- A 64-bit count of a ring block increases, saturating. -/
def State.rgCount (s : State) (r off n : Nat) : State := s.wr64 (rgReg r off) (min (s.rd64 (rgReg r off) + n) ctrMax)

/-- The vector of ring `r` is sent for an advance of RG_CONS, at most once in IMOD microseconds (R460). -/
def State.rgVector (s : State) (r : Nat) : State :=
  let im := s.fld (rgReg r 8) 15 8 * 1000
  let last := cget 0 s.hi.modT r
  if im = 0 ∨ last = 0 ∨ last + im ≤ s.clk.ns + 1 then
    { s with hi := { s.hi with modT := cput 0 (s.clk.ns + 1) r s.hi.modT, modWait := s.hi.modWait.filter (· != r) } }.sendVector r
  else { s with hi := { s.hi with modWait := s.hi.modWait.filter (· != r) ++ [r] } }

/-- RG_CONS advances by `n` (R454, R460). -/
def State.rgAdvance (s : State) (r n : Nat) : State := (s.wrn (rgReg r 0x10) ((s.rgCons r + n) % 65536)).rgVector r

/-- The oldest transmit descriptor of a ring completes with a status (R454, R456): result fields, zeros, then DONE. -/
def State.txComplete (s : State) (r code : Nat) : State :=
  match s.hi.tx.find? (·.ring = r) with
  | none => s
  | some t =>
    let s := { s with hi := { s.hi with tx := s.hi.tx.erase t } }
    let s := s.setBytes (s.rgDesc r (s.rgCons r) + 0x18) (leBytes 2 code ++ List.replicate 5 0 ++ [1])
    let s := if code = 0 then (s.rgCount r 0x18 1).rgCount r 0x20 (ofLe (sliceBytes t.desc 8 2)) else s.rgCount r 0x28 1
    s.rgAdvance r 1

/-- The parser has judged the envelope of a host message: its descriptor completes (R456). -/
def State.txEnvelope (s : State) (n : Nat) : State :=
  match s.hi.tx.find? (·.frame = some n) with
  | none => s
  | some t => s.txComplete t.ring 0

/-- Bytes of the 512 KiB transmit buffer in use (R129, R455): frames being read, and frames that have not left it. -/
def State.txRoomUsed (s : State) : Nat :=
  sumNat (s.hi.tx.map fun t => if t.frame.isNone then ofLe (sliceBytes t.desc 8 2) else 0) +
    sumNat (s.fab.frames.map fun e =>
      if e.2.src = 1024 ∧ !e.2.isFwd then
        (match e.2.place with
        | .noticed _ => e.2.storedLen
        | .queued _ => e.2.storedLen
        | .pulled _ _ => e.2.storedLen
        | .parsing _ => e.2.storedLen
        | _ => 0)
      else 0)

/-! ### Receive (R458, R459) -/

/-- Bytes of a receive buffer. -/
def State.rgBuf (s : State) (r : Nat) : Nat := s.fld (rgReg r 8) 23 16 * 256
/-- Frames being written to a ring. -/
def State.rgPulls (s : State) (r : Nat) : List RxPull := cget [] s.hi.rx r
/-- Set the frames being written to a ring. -/
def State.setPulls (s : State) (r : Nat) (l : List RxPull) : State := { s with hi := { s.hi with rx := cput [] l r s.hi.rx } }
/-- Buffers that `n` bytes need. -/
def buffersFor (n b : Nat) : Nat := if b = 0 then 0 else (n + b - 1) / b
/-- The receive ring of host class queue `c`. -/
def State.hostRing (s : State) (c : Nat) : Nat := 128 + s.fld (ra tHI 0 (0x204 + 8 * c)) 6 0
/-- Bytes of a frame as the host sees it: without the Plynun tag of a response (R456). -/
def hostBytes (f : Frame) : List Byte := f.dmac ++ f.smac ++ (if f.tagged then plyInner f.body else f.body)
where
  /-- NEXT_TYPE and what follows the tag. -/
  plyInner (b : List Byte) : List Byte := sliceBytes b 8 2 ++ b.drop 26
/-- A completed receive descriptor from offset 0x08 on (Table 13.6). -/
def rxResult (f : Frame) (len total : Nat) (sop eop : Bool) : List Byte :=
  leBytes 2 len ++ leBytes 1 (b2n sop + 2 * b2n eop + 4 * (if f.known = .pass then 1 else 2) + 16 * (if f.known = .fail then f.cause else 0)) ++
    leBytes 1 (f.cls % 32 + 32 * b2n f.isResp) ++ leBytes 2 (if f.isResp then 1024 else f.src) ++ leBytes 2 (if eop then total else 0) ++
    leBytes 8 (if f.isResp then 0 else f.rxTime) ++ List.replicate 7 0 ++ [1]

/-- The buffers of a frame are written from RG_CONS on: data to each buffer, then its completion. -/
def fillBuffers (r total buf : Nat) (f : Frame) : Nat → List Byte → Bool → State → State
  | 0, _, _, s => s
  | n + 1, d, first, s =>
    let a := s.rgDesc r (s.rgCons r)
    let len := min buf d.length
    let rest := d.drop buf
    let s := (s.setBytes (spHost + s.leAt a 8) (d.take buf)).setBytes (a + 8) (rxResult f len total first (decide (d.length ≤ buf)))
    let s := s.wrn (rgReg r 0x10) ((s.rgCons r + 1) % 65536)
    if d.length ≤ buf then s else fillBuffers r total buf f n rest false s

end Sys2Proof.Machine
end

