-- ==== Sys2Proof/Machine/LinkOps.lean ====
section
/-!
DEFINITION. The state machine of a lane (Table 2.3), the bond of the twin lanes (R76), and what a lane's ups and downs
mean for the ring lanes.
-/
namespace Sys2Proof.Machine

/-! ### The twin bond (R76) -/

/-- The lanes T0–T7 that are UP here, as a bitmap. -/
def State.twinUp (s : State) : Nat := bitsOf ((List.range 8).map fun i => s.lnState (1024 + i) = 4)
/-- The `w` lowest-numbered lanes of a bitmap. -/
def lowLanes (m w : Nat) : Nat := (((List.range 8).filter m.testBit).take w).foldl (fun a i => a + 2 ^ i) 0
/-- The largest bond width that `n` lanes allow: 8, 4 or 2, else 0. -/
def bondWidth (n : Nat) : Nat := if 8 ≤ n then 8 else if 4 ≤ n then 4 else if 2 ≤ n then 2 else 0
/-- Both ends bond over the lanes that are UP in both directions; below two lanes the twin link is down. -/
def State.rebond (s : State) : State :=
  let m := s.twinUp &&& s.jn.link.peer
  let w := bondWidth ((List.range 8).filter m.testBit).length
  let s := { s with jn := { s.jn with link := { s.jn.link with width := w, lanes := lowLanes m w } } }
  if w = 0 then (s.twStatus 0x108).twinDown else s
/-- A change of the twin lanes that are UP: a BOND frame tells the partner, and the bond follows. -/
def State.bondChange (s : State) : State :=
  { s with jn := { s.jn with link := { s.jn.link with ctl := s.jn.link.ctl ++ [(0x12, s.twinUp, [])] } } }.rebond

/-! ### Lane states (R65) -/

/-- Write a flag bit of LN_STATE. -/
def State.setLnFlag (s : State) (n b : Nat) (x : Bool) : State := s.setFld (lnReg n 0x04) b b (b2n x)
/-- A flag bit of LN_STATE. -/
def State.lnFlag (s : State) (n b : Nat) : Bool := s.fld (lnReg n 0x04) b b = 1
/-- The signal and lock flags of a lane clear. -/
def State.clearLocks (s : State) (n : Nat) : State := (s.setFld (lnReg n 0x04) 10 4 0).setFld (lnReg n 0x04) 15 14 0

/-- A lane leaves UP or FAULT for another state: its reception ends in error, its queues and staging are flushed
(R155), and the twin bond or the ring segment it served is lost (R76, R77). -/
def State.leaveUp (s : State) (n : Nat) : State :=
  if s.lnState n = 4 ∨ s.lnState n = 5 then
    if n < 1024 then (s.cutReception n).flushLane n
    else s
  else s
/-- What follows once a lane that was UP or FAULT has its new state. -/
def State.afterLeave (s : State) (n was : Nat) : State :=
  if was = 4 ∨ was = 5 then
    if 1024 ≤ n ∧ n < 1032 then s.bondChange
    else if n = 1032 ∨ n = 1033 then s.ringLaneDown (n - 1032)
    else s
  else s
/-- A lane goes to a state in which it has no signal locks. -/
def State.toState (s : State) (n v : Nat) : State :=
  let was := s.lnState n
  (((s.leaveUp n).clearLocks n).setLnState n v).afterLeave n was

/-- Table 2.3, first row: OFF. -/
def State.laneOff (s : State) (n : Nat) : State := (s.toState n 0).modLane n fun l => { l with kept := false }
/-- A port goes to OFF with all its lanes. -/
def State.portOff (s : State) (n : Nat) : State := (s.portLanes n).foldl (fun s i => s.laneOff i) s
/-- ACQUIRE: AN_SEEN is cleared on entry (Table 2.7). -/
def State.acquire (s : State) (n : Nat) : State := (s.toState n 1).setLnFlag n 11 false
/-- TRAIN: TRAIN_FAIL and TRAIN_DONE are cleared on entry (Table 2.7); the signal and the receive clock stay as they are. -/
def State.train (s : State) (n : Nat) : State :=
  ((((s.toState n 2).setFld (lnReg n 0x04) 5 4 (s.fld (lnReg n 0x04) 5 4)).setLnFlag n 13 false).setLnFlag n 12 false).modLane n fun l =>
    { l with kept := false }

/-- LINK_UP or LINK_DOWN of a lane is reported (R681): bit 0 or 1 of PG_IRQ_RAW, and LN_LINK_EVT. -/
def State.linkEvent (s : State) (n : Nat) (down : Bool) : State :=
  let b := laneBlk n + (if down then 16 else 0)
  (s.setFld (ra tLN (laneInst n) 0xF04) b b 1).irq (lanePage n) (b2n down)

/-- Loss of signal or lock (Table 2.3): ACQUIRE with LINK_DOWN. -/
def State.linkLoss (s : State) (n : Nat) : State :=
  if s.lnState n = 4 ∨ s.lnState n = 5 then ((s.acquire n).linkEvent n true).lnBump n 14 1 else s

/-- HI_BER of an UP lane is set: FAULT; received frames are dropped from then on. -/
def State.hiBer (s : State) (n : Nat) (set : Bool) : State :=
  let s := s.setLnFlag n 8 set
  if set ∧ s.lnState n = 4 then (s.cutReception n).setLnState n 5 else s

/-- The lane block that governs a port: lanes 1 to 3 of a 100G port are not valid addressees (R53). -/
def State.governs (s : State) (n : Nat) : Bool := s.portOf n = n

end Sys2Proof.Machine
end

