-- ==== Sys2Proof/Machine/LaneCmds.lean ====
section
/-!
DEFINITION. Lanes and ports (chapter 2): the lane state machine, lane registers, FEC, control slots and the TIM PLL.
-/
namespace Sys2Proof.Machine

/-! ### Clocks (R35) -/

/-- The TIM PLL of the device loses lock: the TIM counter is held and every later timestamp is invalid. -/
def execTimPllLoss (s : State) : Outcome := done ({ s with clk := { s.clk with held := true } }).electMaster

/-- A lane loses its receive clock: CDR_LOCK clears, and an UP or FAULT lane goes to ACQUIRE (R35, R65). -/
def execLrxLossOfLock (n : Nat) (s : State) : Outcome := done ((s.setLnFlag n 5 false).linkLoss (s.portOf n))

/-! ### Port mode and lane configuration -/

/-- LN_PORTMODE of dram `d`: each changed QUAD bit takes effect only with the four lanes of its scruple in OFF (R52). -/
def portmodeBit (d : Nat) (v : Reg) (s : State) (k : Nat) : State :=
  let a := ra tLN d 0xF00
  if s.fld a k k = getField v k k then s
  else if (List.range 4).all fun i => s.lnState (16 * d + 4 * k + i) = 0 then s.setFld a k k (getField v k k)
  else s.lnStatus (16 * d + 4 * k) 0x101

/-- A write to LN_PORTMODE (R52). -/
def execPortmodeWrite (d : Nat) (v : Reg) (s : State) : Outcome :=
  done (s.pageWrite (pageNo tLN d) fun s => ([0, 1, 2, 3].foldl (portmodeBit d v) s).took (pageNo tLN d))

/-- The writable bits of LN_CFG. -/
def lnCfgMask : Reg := 0xFD
/-- The bits of LN_CFG that may change in OFF only (R69): FEC, TRAIN, MEDIA, PARTNER. -/
def lnCfgOffMask : Reg := 0x9C
/-- The polarity bits of LN_CFG (R55). -/
def lnCfgPolMask : Reg := 0x60

/-- LN_CFG of a lane takes a value judged by R55, R63 and R69. -/
def State.lnCfgWrite (s : State) (n : Nat) (v : Reg) : State :=
  let a := lnReg n 0x00
  let old := s.rd a
  let new := if s.governs n then v &&& lnCfgMask else (old &&& ~~~lnCfgPolMask) ||| (v &&& lnCfgPolMask)
  if bitAt old 0 && !bitAt new 0 then ((s.portOff n).wr a new).took (lanePage n)
  else if (old ^^^ new) &&& lnCfgOffMask ≠ 0 ∧ s.lnState n ≠ 0 then s.lnStatus n 0x101
  else if bitAt new 3 && bitAt new 4 then s.lnStatus n 0x104
  else if (old ^^^ new) &&& lnCfgPolMask ≠ 0 ∧ s.lnState (s.portOf n) ≠ 0 then
    (((s.wr a ((new &&& ~~~lnCfgPolMask) ||| (old &&& lnCfgPolMask))).lnStatus n 0x101)).took (lanePage n)
  else (s.wr a new).took (lanePage n)

/-- A write to LN_CFG (R53, R55, R63, R69). -/
def execLnCfgWrite (n : Nat) (v : Reg) (s : State) : Outcome := done (s.pageWrite (lanePage n) fun s => s.lnCfgWrite n v)

/-- A write to LN_TXEQ: applied when the taps are in range (R70). -/
def execLnTxeqWrite (n : Nat) (v : Reg) (s : State) : Outcome :=
  done (s.pageWrite (lanePage n) fun s =>
    let sum := getField v 5 0 + getField v 13 8 + getField v 21 16
    if 63 < sum ∨ getField v 13 8 < 24 then s.lnStatus n 0x105
    else (s.wr (lnReg n 0x08) (v &&& 0x3F3F3F)).took (lanePage n))

/-- A write to LN_MAXFRAME: stored within 64 to 16,128 (R109); no effect in lanes 1 to 3 of a 100G port (R53). -/
def execLnMaxframeWrite (n : Nat) (v : Reg) (s : State) : Outcome :=
  done (s.pageWrite (lanePage n) fun s =>
    if s.governs n then (s.wrn (lnReg n 0x10) (max 64 (min 16128 (getField v 13 0)))).took (lanePage n) else s)

/-! ### LN_CMD (R71) -/

/-- The counters of a lane block clear (R72, R158, Table 3.16): those of the LN, SC and DQ pages, the PRBS counts, and
the queue counters of the lane's 32 queues. -/
def State.clearLane (s : State) (n : Nat) : State :=
  let s := (List.range 21).foldl (fun s k => s.clrCtr (lanePage n) k (laneBlk n)) s
  let s := s.wrn (lnReg n 0x30) 0
  if n < 1024 then
    let s := (List.range 16).foldl (fun s k => s.clrCtr (scPage n) k (n % 16)) s
    let s := (List.range 8).foldl (fun s k => s.clrCtr (dqPage n) (5 + k) (n % 16)) s
    (List.range 32).foldl (fun s c => (List.range 5).foldl (fun s k => s.clrCtr (dqPage n) k (n % 16 * 32 + c)) s) s
  else s

/-- TEST: the port's lanes enter TEST with their test status cleared (R628, R631). -/
def State.laneTest (s : State) (n : Nat) : State :=
  (s.portLanes n).foldl (fun s i => ((s.toState i 6).wrn (lnReg i 0x34) 0)) s

/-- The chosen operation of LN_CMD: DOWN 1, TEST 4, UP 0, RETRAIN 2 as its bit, or none. -/
def lnCmdOp (v : Reg) : Option Nat := [1, 4, 0, 2].find? fun b => bitAt v b

/-- A write to LN_CMD (R53, R71): CLR_CNT always acts; of the other bits the highest-priority one. -/
def State.lnCommand (s : State) (n : Nat) (v : Reg) : State :=
  let bad (c : Nat) (s : State) : State := s.lnStatus n c
  let s :=
    match lnCmdOp v with
    | none => s
    | some b =>
      if !s.governs n then bad 0x107 s
      else if b = 1 then (s.portOff n).lnStatus n 0
      else if b = 4 then (if s.lnState n = 0 then bad 0x102 s else (s.laneTest n).lnStatus n 0)
      else if b = 0 then (if s.lnState n = 0 ∧ s.lnCfg n 0 ∧ (n < 1024 → s.domOn (n / 16)) then (s.acquire n).lnStatus n 0 else bad 0x102 s)
      else if s.lnState n = 4 then (s.train n).lnStatus n 0 else bad 0x102 s
  (if bitAt v 3 then s.clearLane n else s).took (lanePage n)

/-- A write to LN_CMD whose chosen operation includes UP. -/
def execLnUp (n : Nat) (v : Reg) (s : State) : Outcome := done (s.pageWrite (lanePage n) fun s => s.lnCommand n (v ||| 1))
/-- A write to LN_CMD with DOWN. -/
def execLnDown (n : Nat) (v : Reg) (s : State) : Outcome := done (s.pageWrite (lanePage n) fun s => s.lnCommand n (v ||| 2))
/-- A write to LN_CMD with RETRAIN. -/
def execLnRetrain (n : Nat) (v : Reg) (s : State) : Outcome := done (s.pageWrite (lanePage n) fun s => s.lnCommand n (v ||| 4))
/-- A write to LN_CMD with CLR_CNT. -/
def execLnClrCnt (n : Nat) (v : Reg) (s : State) : Outcome := done (s.pageWrite (lanePage n) fun s => s.lnCommand n (v ||| 8))
/-- A write to LN_CMD with TEST. -/
def execLnTest (n : Nat) (v : Reg) (s : State) : Outcome := done (s.pageWrite (lanePage n) fun s => s.lnCommand n (v ||| 16))

/-! ### Events of the lane state machine (Table 2.3) -/

/-- A Clause 73 page arrives: AN_SEEN is set and the lane stays in ACQUIRE (R49). -/
def execClause73PageRx (n : Nat) (s : State) : Outcome := done (if s.lnState n = 1 then s.setLnFlag n 11 true else s)

/-- Signal detect and CDR lock in ACQUIRE: TRAIN, or ALIGN when training is off or skipped (R62–R64). -/
def execSignalLock (n : Nat) (s : State) : Outcome :=
  done (
    if s.lnState n = 1 then
      let s := (s.setLnFlag n 4 true).setLnFlag n 5 true
      if s.lnCfg n 3 && !(s.lane n).kept then (s.train n).setFld (lnReg n 0x04) 5 4 3 else s.setLnState n 3
    else s)

/-- The coefficients in use are written into LN_TXEQ and LN_RXEQ (R64); KEEP is software's. -/
def State.storeCoeffs (s : State) (n : Nat) (tx rx : Reg) : State :=
  (s.wr (lnReg n 0x08) (tx &&& 0x3F3F3F)).setFld (lnReg n 0x0C) 30 0 rx.toNat

/-- Both receivers are ready: ALIGN, coefficients stored (R62, R64). -/
def execTrainDone (n : Nat) (tx rx : Reg) (s : State) : Outcome :=
  done (if s.lnState n = 2 then ((s.storeCoeffs n tx rx).setLnFlag n 12 true).setLnState n 3 else s)

/-- Training has not finished in time: TRAIN_FAIL, 0x0103, ACQUIRE (R62). -/
def execTrainTimeout (n : Nat) (s : State) : Outcome :=
  done (if s.lnState n = 2 then (((s.acquire n).setLnFlag n 13 true).lnStatus n 0x103).lnBump n 16 1 else s)

/-- Every 100 ms in UP the coefficients are written back (R64). -/
def execEqCoeffUpdate (n : Nat) (tx rx : Reg) (s : State) : Outcome := done (if s.lnState n = 4 then s.storeCoeffs n tx rx else s)

/-- A lane that started from kept coefficients is not UP after 20 ms: KEEP clears and it enters TRAIN (R64). -/
def execKeepUpTimeout (n : Nat) (s : State) : Outcome :=
  done (if (s.lane n).kept ∧ (s.lnState n = 1 ∨ s.lnState n = 3) then (s.setFld (lnReg n 0x0C) 31 31 0).train n else s)

/-- The lock flags that a lane's mode requires are set, and the lane is UP (R65, R680). -/
def State.laneLocked (s : State) (n : Nat) : State :=
  let s := s.setLnFlag n 6 true
  let s := if s.isQuad n then s.setLnFlag n 7 true else s
  let s := if s.lnCfg n 2 then s.setLnFlag n 14 true else s
  let s := if n < 1024 ∧ s.lnCfg n 7 then (s.setLnFlag n 15 true).modLane n fun l => { l with mkMiss := 0 } else s
  (s.setLnState n 4).modLane n fun l => { l with kept := false }
/-- What an UP lane joins: a twin lane the bond, a ring lane its segment (R76, R416). -/
def State.laneJoins (s : State) (n : Nat) : State :=
  if 1024 ≤ n ∧ n < 1032 then s.bondChange
  else if n = 1032 ∨ n = 1033 then s.ringLaneUp (n - 1032) else s
/-- All required locks are reached in ALIGN: UP with LINK_UP (R65, R680, R681); a twin lane joins the bond and a ring
lane begins its HELLO exchange (R76, R416). -/
def execAlignLocksReached (n : Nat) (s : State) : Outcome :=
  done (if s.lnState n = 3 then (((s.laneLocked n).linkEvent n false).laneJoins n) else s)

/-- 50 ms in ALIGN without all required locks: ACQUIRE, 0x0106 (R65). -/
def execAlignTimeout (n : Nat) (s : State) : Outcome :=
  done (if s.lnState n = 3 then ((s.acquire n).lnStatus n 0x106).lnBump n 15 1 else s)

/-- Loss of signal, block lock, alignment or CVL lock (R65). -/
def execLinkLoss (n : Nat) (s : State) : Outcome := done (s.linkLoss n)

/-- HI_BER has been clear for 1 ms: UP (R65). -/
def execFaultClearTimeout (n : Nat) (s : State) : Outcome :=
  done (if s.lnState n = 5 ∧ !s.lnFlag n 8 then s.setLnState n 4 else s)

/-- Remote or local fault is received in UP: the flag is set and the lane stops sending frames (R66). -/
def execFaultOrderedSetRx (n : Nat) (remote : Bool) (s : State) : Outcome :=
  done (
    if s.lnState n = 4 then
      let b := if remote then 10 else 9
      if s.lnFlag n b then s else (s.setLnFlag n b true).lnBump n (if remote then 9 else 8) 1
    else s)

/-- The fault ordered sets have ceased for 1 ms: normal transmission resumes (R66). -/
def execFaultCeaseTimeout (n : Nat) (s : State) : Outcome := done ((s.setLnFlag n 10 false).setLnFlag n 9 false)

/-! ### FEC and HI_BER (R56) -/

/-- A decoded codeword is counted (R56): uncorrectable ones are remembered over a window of 8,192. -/
def State.fecCount (s : State) (n : Nat) (bad : Bool) (bits : Nat) (syms : List Nat) : State :=
  let l := s.lane n
  let k := l.cwCount + 1
  let badList := ((if bad then k :: l.cwBad else l.cwBad).filter fun i => k < i + 8192).take 8192
  let s := s.setLane n { l with cwCount := k, cwBad := badList }
  let s := if bad then s.lnBump n 5 1 else if 0 < bits then (s.lnBump n 4 1).lnBump n 7 bits else s
  ((s.portLanes n).zip syms).foldl (fun s e => s.lnBump e.1 6 e.2) s
/-- An RS-FEC codeword is decoded: `bad` uncorrectable, else `bits` corrected; `syms` symbol errors of each physical
lane of the port. Three uncorrectable ones in the window are HI_BER. -/
def execFecCodewordDecoded (n : Nat) (bad : Bool) (bits : Nat) (syms : List Nat) (s : State) : Outcome :=
  done (
    if s.governs n && s.lnCfg n 2 then
      let s := s.fecCount n bad bits syms
      s.hiBer n (decide (3 ≤ (s.lane n).cwBad.length))
    else s)

/-- With FEC off, a window of Clause 82 ends: HI_BER is set or clear (R65). -/
def execHiBerWindow (n : Nat) (bad : Bool) (s : State) : Outcome := done (if s.lnCfg n 2 then s else s.hiBer n bad)

/-! ### Control slots (R59, R60, R148, R682) -/

/-- The marker of R60. -/
def cvlMarker : Word := 0xC3A55A3C96E10F78
/-- A CVL header slot (Table 4.4). -/
def cvlHeader (type npay ctr : Nat) : Word := BitVec.ofNat 64 (type * 2 ^ 56 + npay * 2 ^ 53 + ctr % 2 ^ 32)
/-- The bytes of slots, most significant first. -/
def slotBytes (ws : List Word) : List Byte := ws.flatMap fun w => beBytes 8 w.toNat
/-- The tag slot of a message (R150). -/
def cvlTag (key : List Byte) (ws : List Word) : Word := BitVec.ofNat 64 (ofBe ((aesCmac key (slotBytes ws)).take 8))
/-- A type that carries no tag: EMPTY, ECHO_REQ, ECHO_RSP (R149). -/
def cvlUntagged (type : Nat) : Bool := type = 0 || type = 2 || type = 3

/-- The next message is taken from the transmit queue, given CTR and tag, when the lane has a credit for each of its
slots; with no message waiting, 64 or more credits owed go out as a CREDIT. A tagged message without a key is dropped
(R148–R150). -/
def State.cvlNext (s : State) (n : Nat) : State :=
  let l := s.lane n
  let build (m : List Word) : List Word :=
    match m with
    | [] => []
    | h :: pay =>
      let type := getField h 63 56
      if cvlUntagged type then h :: pay
      else
        let ws := cvlHeader type pay.length (l.cvlTxCtr + 1) :: pay
        ws ++ [cvlTag l.cvlKey ws]
  match l.cvlTx with
  | m :: rest =>
    let type := match m with | h :: _ => getField h 63 56 | [] => 0
    if !cvlUntagged type && l.cvlKey = [] then s.setLane n { l with cvlTx := rest }
    else
      let ws := build m
      if l.cvlCredits < ws.length then s
      else
        (s.setLane n { l with cvlTx := rest, cvlCur := ws, cvlCredits := l.cvlCredits - ws.length,
                              cvlTxCtr := if cvlUntagged type then l.cvlTxCtr else l.cvlTxCtr + 1 }).dqBump n 6
  | [] =>
    if 64 ≤ l.cvlOwed ∧ l.cvlKey ≠ [] ∧ 3 ≤ l.cvlCredits then
      let ws := [cvlHeader 1 1 (l.cvlTxCtr + 1), BitVec.ofNat 64 l.cvlOwed]
      (s.setLane n { l with cvlCur := ws ++ [cvlTag l.cvlKey ws], cvlOwed := 0, cvlTxCtr := l.cvlTxCtr + 1,
                            cvlCredits := l.cvlCredits - 3 }).dqBump n 6
    else s

/-- A control slot is transmitted (R59, R60, R682): every 1,024th is the marker; messages go only in UP and FAULT. -/
def execControlSlotTx (n : Nat) (s : State) : Outcome :=
  done (
    let st := s.lnState n
    if n < 1024 ∧ s.lnCfg n 7 ∧ s.governs n ∧ (st = 1 ∨ st = 3 ∨ st = 4 ∨ st = 5) then
      let s := s.lnBump n 17 1
      if (s.lane n).txSlot = 1023 then s.modLane n fun l => { l with txSlot := 0, cvlLast := cvlMarker }
      else
        let s := s.modLane n fun l => { l with txSlot := l.txSlot + 1 }
        let s := if (st = 4 ∨ st = 5) ∧ (s.lane n).cvlCur = [] then s.cvlNext n else s
        match (s.lane n).cvlCur with
        | w :: ws =>
          if st = 4 ∨ st = 5 then s.modLane n fun l => { l with cvlCur := ws, cvlLast := w }
          else s.modLane n fun l => { l with cvlLast := 0 }
        | [] => s.modLane n fun l => { l with cvlLast := 0 }
    else s)

/-- A control slot is received (R60, R682): under CVL lock it counts, and the marker positions are watched; without
lock, two markers 1,024 slots apart give the lock. -/
def execControlSlotRx (n : Nat) (w : Word) (s : State) : Outcome :=
  done (
    let st := s.lnState n
    if n < 1024 ∧ s.lnCfg n 7 ∧ s.governs n ∧ (st = 1 ∨ st = 3 ∨ st = 4 ∨ st = 5) then
      let l := s.lane n
      if s.lnFlag n 15 then
        let s := s.lnBump n 18 1
        if l.rxSlot = 1023 then
          if w = cvlMarker then s.setLane n { l with rxSlot := 0, mkMiss := 0 }
          else
            let s := (s.setLane n { l with rxSlot := 0, mkMiss := l.mkMiss + 1 }).lnBump n 19 1
            if l.mkMiss + 1 = 2 then ((s.modLane n fun x => { x with mkMiss := 0 }).setLnFlag n 15 false).linkLoss n else s
        else s.setLane n { l with rxSlot := l.rxSlot + 1 }
      else if w = cvlMarker then
        let s := s.setLane n { l with rxSlot := 0, mkMiss := 0 }
        if l.rxSlot = 1023 then s.setLnFlag n 15 true else s
      else s.setLane n { l with rxSlot := min (l.rxSlot + 1) 2000 }
    else s)

end Sys2Proof.Machine
end

