-- ==== Sys2Proof/Machine/LinkProt.lean ====
section
/-!
DEFINITION. Line-rate authenticated encryption (chapter 3): the reception and acceptance of frames, grains and their
known-answer test, the trust outcome, transmission, and secure-association commands.
-/
namespace Sys2Proof.Machine

/-! ### Port open and LOCK (R502, Table 16.5) -/

/-- A frame is dropped before port open or under LOCK: PRE_OPEN_DROP, and PRE_OPEN for the first one (R502, R514). -/
def State.preOpenDrop (s : State) : State :=
  let s := s.bump (pageNo tGLB 0) 0 0 1
  if s.portsOpen || s.st.preOpen then s else { s with st := { s.st with preOpen := true } }.irq (pageNo tGLB 0) 4

/-! ### Acceptance (Table 3.2) -/

/-- Registers of the SC page of a lane's dram. -/
def scReg (n off : Nat) : Nat := ra tSC (n / 16) off
/-- SC_PORT of a lane. -/
def scPort (n : Nat) : Nat := scReg n (0x140 + 4 * (n % 16))

/-- The lowest acceptable PN of a receive record. -/
def SaRec.lowest (r : SaRec) : Nat := if r.pn = 0 then 1 else max 1 (r.pn + 1 - r.window)
/-- The PN of a received frame (R93); none when the recovery would exceed 64 bits. -/
def SaRec.recover (r : SaRec) (low : Nat) : Option Nat :=
  if r.suite < 2 then some low
  else
    let l := r.lowest
    let p := (if l % 2 ^ 32 ≤ low then l / 2 ^ 32 else l / 2 ^ 32 + 1) * 2 ^ 32 + low
    if p < 2 ^ 64 then some p else none
/-- The PN fails the replay check: below the lowest acceptable PN, or marked as received (R91). -/
def replayFails (r : SaRec) (bitmap pn : Nat) : Bool :=
  decide (pn < r.lowest) || (decide (pn ≤ r.pn) && bitmap.testBit (r.pn - pn))

/-- Rows 3 and 4 of Table 3.2: the SC counter of the drop, or the context and the SCI. -/
def State.acceptTag (s : State) (p : Nat) (d : List Byte) : Except Nat (Nat × Nat) :=
  let t := tciOf d
  if t.testBit 7 || t.testBit 4 || t.testBit 3 != t.testBit 2 then .error 6
  else match s.binding p (sciOf d) with
    | none => .error 4
    | some i => .ok (i, sciOf d)

/-- Rows 5 to 7 of Table 3.2 for record `a` of context `i`: the SC counter of the drop, or the record and the PN. A
record without a key shadow counts as absent (R321). -/
def State.acceptRec (s : State) (i a low : Nat) : Except Nat (SaRec × Nat) :=
  let c := s.ctx i
  let r := c.saOf a
  if !r.inUse then .error 5
  else if r.expired then .error 10
  else if (s.ctxCached i).isSome && (s.shadow i a).isNone then .error 5
  else match r.recover low with
    | none => .error 2
    | some pn => if replayFails r (nth 0 c.bitmap a) pn then .error 2 else .ok (r, pn)

/-- Take a frame away as if it had never been accepted. -/
def State.eraseFrame (s : State) (n : Nat) : State :=
  match s.frame n with
  | none => s
  | some f => (s.releaseAll n f).delFrame n

/-- Bytes that wait in the dispatch buffer of a lane (R101, R320). -/
def State.dispatchBytes (s : State) (p : Nat) : Nat :=
  sumNat (s.fab.frames.map fun e => if e.2.src = p ∧ (e.2.place = .waiting ∨ e.2.place = .missing) then e.2.data.length else 0)

/-- A waiting frame that overflows the 2 KiB dispatch buffer of its lane is dropped whole (R101). -/
def State.overflow (s : State) (n : Nat) : State :=
  match s.frame n with
  | none => s
  | some f =>
    if (f.place = .waiting ∨ f.place = .missing) ∧ 2048 < s.dispatchBytes f.src then (s.eraseFrame n).scBump f.src 15 else s

/-- A frame is admitted to the cell buffer at its first byte: a shared cell is free and the headroom is complete
(R128). -/
def State.admits (s : State) (p : Nat) : Bool :=
  decide (0 < s.sharedFree (laneDram p)) && (s.portLanes p).all fun n => (s.lane n).headUsed = 0

/-- Note a drop that falls on the frame being received; it is counted at the frame's end. -/
def State.startDrop (s : State) (n code : Nat) (d : List Byte) : State :=
  s.modLane n fun l => { l with rxCur := none, rxDrop := code, rxDropData := d, rxSkip := false }

/-- A received frame is admitted as frame number `nextFrame`. -/
def State.admitFrame (s : State) (n : Nat) (f : Frame) : State :=
  if s.admits n then
    let k := s.fab.nextFrame
    let s := ((s.takeCells n 1).newFrame { f with cells := 1 }).modLane n fun l => { l with rxCur := some k, rxDrop := 0, rxSkip := false }
    s.overflow k
  else (s.dqBump n 1).modLane n fun l => { l with rxCur := none, rxDrop := 0, rxSkip := true }

/-- A frame begins to arrive on a lane, with its bytes up to the end of the SecTAG at least (R81, R82, R128). -/
def execRxFrameStart (n : Nat) (d : List Byte) (s : State) : Outcome :=
  done (
    if n < 1024 ∧ s.governs n ∧ s.lnState n = 4 ∧ (s.lane n).rxCur = none ∧ (s.lane n).rxDrop = 0 ∧ !(s.lane n).rxSkip then
      let et := etherType d
      let prot := s.fld (scPort n) 0 0 = 1
      let eapol := prot && et = s.fld (scReg n 0x108) 15 0 && et != 0x88E5 && s.fld (scPort n) 2 2 = 1
      let f : Frame := { src := n, data := d, rxTime := s.clk.tim, dmac := d.take 6, smac := sliceBytes d 6 6 }
      if s.lockInForce || (!s.portsOpen && !eapol) then s.startDrop n 21 d
      else if et = 0x8808 then s.startDrop n 20 d
      else if !prot then s.admitFrame n { f with place := .ingress }
      else if eapol then s.admitFrame n { f with place := .mka, eapol := true }
      else if et ≠ 0x88E5 then s.startDrop n 8 d
      else match s.acceptTag n d with
        | .error k => s.startDrop n (k + 1) d
        | .ok (i, sci) =>
          let a := tciOf d % 4
          match s.acceptRec i a (beAt d 16 4) with
          | .error k => s.startDrop n (k + 1) d
          | .ok (r, pn) =>
            let hit := (s.ctxCached i).isSome
            let s := s.kvBump (n / 256) (if hit then 3 else 4)
            s.admitFrame n { f with prot := true, ctx := i, recNo := a, saRec := r, sci := sci, pn := pn,
                                    place := if hit then .waiting else .missing }
    else s)

/-! ### The end of a received frame (R50, R51, R81, R102) -/

/-- The FCS of a whole frame: 0 right, 1 the stomp pattern, 2 wrong. -/
def fcsState (d : List Byte) : Nat :=
  let m := d.take (d.length - 4)
  let f := d.drop (d.length - 4)
  if f = fcsBytes m then 0 else if f = (fcsBytes m).map (~~~ ·) then 1 else 2

/-- SL does not match the secure data length (Table 3.2, row 3). -/
def slBad (d : List Byte) : Bool :=
  let sl := beAt d 15 1 % 64
  sl != 0 && decide (d.length - secHead d - 20 ≠ sl)

/-- The end of a frame whose drop was decided at its start. -/
def State.endDropped (s : State) (n code : Nat) (d : List Byte) (err : Bool) : State :=
  let count (s : State) : State := if code = 20 then s.lnBump n 13 1 else if code = 21 then s.preOpenDrop else s.scBump n (code - 1)
  let checked := code = 20 ∨ code = 21
  let bad := fcsState d ≠ 0
  if err then (if checked then s.lnBump n 10 1 else (count s).lnBump n 10 1)
  else if d.length < 64 then s.lnBump n (if bad then 12 else 11) 1
  else if checked then (if bad then s.lnBump n 12 1 else count s)
  else (count s)

/-- The oversize rule (R110). -/
def State.oversize (s : State) (k : Nat) : State :=
  match s.frame k with
  | none => s
  | some f =>
    if f.fwd then (s.modFrame k fun x => { x with ended := 2 }).resolveTrust k 6
    else
      let s := s.scBump f.src 8
      match f.place with
      | .parsing o => (s.parseUse o false).eraseFrame k
      | _ => if f.place = .discarded then (s.modFrame k fun x => { x with ended := 2 }).resolveTrust k 6 else s.eraseFrame k

/-- Bring the cells of a frame that has ended to its length (R127). -/
def State.fitCells (s : State) (k : Nat) : State :=
  match s.frame k with
  | none => s
  | some f =>
    if f.cells = 0 then s
    else
      let c := max 1 (cellsOf f.storedLen)
      if f.cells < c then (s.takeCells f.src (c - f.cells)).modFrame k fun x => { x with cells := c } else s

/-- What the end of a frame decides about its TRUST: 0 nothing yet or PASS, else the cause (R102). -/
def endCause (prot : Bool) (d : List Byte) (err : Bool) : Nat :=
  let fs := fcsState d
  if err then 5
  else if fs = 1 ∧ !prot ∧ 64 ≤ d.length then 7
  else if fs ≠ 0 then 3
  else if d.length < 64 then 4
  else if prot && slBad d then 8 else 0

/-- The frame being received ends (R51). -/
def State.finishFrame (s : State) (n k : Nat) (f : Frame) (rest : List Byte) (err : Bool) : State :=
  let d := f.data ++ rest
  let cause := if f.eapol then endCause false d err else endCause f.prot d err
  let s := s.modFrame k fun x => { x with data := d, ended := if err then 2 else 1 }
  let s := if err then s.lnBump n 10 1
    else if cause = 3 then s.lnBump n 12 1
    else if cause = 4 then s.lnBump n 11 1
    else if cause = 7 then s
    else (s.lnBump n 0 1).lnBump n 2 d.length
  if f.eapol then
    let s := s.eraseFrame k
    if cause = 0 then { s with fab := { s.fab with mka := s.fab.mka ++ [(n, d.take (d.length - 4))] } } else s
  else
    let s := ((s.refreshBody k).fitCells k).chargeFrame k
    if cause ≠ 0 then
      let s := s.resolveTrust k cause
      match f.place with
      | .waiting => s.endFrame k
      | .missing => s.endFrame k
      | .ingress => s.endFrame k
      | _ => s
    else if f.prot then s.overflow k
    else s.resolveTrust k 0

/-- A frame ends on a lane: its last bytes up to the FCS, or an error control block. -/
def execRxFrameEnd (n : Nat) (rest : List Byte) (err : Bool) (s : State) : Outcome :=
  done (
    let l := s.lane n
    let clear (s : State) : State := s.modLane n fun x => { x with rxCur := none, rxDrop := 0, rxDropData := [], rxSkip := false }
    let maxLen := s.fld (lnReg n 0x10) 13 0
    match l.rxCur with
    | some k =>
      let s := clear s
      match s.frame k with
      | none => s
      | some f => if maxLen < f.data.length + rest.length then s.oversize k else s.finishFrame n k f rest err
    | none =>
      if l.rxDrop ≠ 0 then
        let d := l.rxDropData ++ rest
        if maxLen < d.length then (clear s).scBump n 8 else (clear s).endDropped n l.rxDrop d err
      else clear s)

/-- A frame being received reaches byte LN_MAXFRAME + 1 (R110): the rest is discarded until the next start block. -/
def execRxOversizeDetect (n : Nat) (s : State) : Outcome :=
  done (
    let l := s.lane n
    let skip (s : State) : State := s.modLane n fun x => { x with rxCur := none, rxDrop := 0, rxDropData := [], rxSkip := true }
    match l.rxCur with
    | some k => (skip s).oversize k
    | none => if l.rxDrop ≠ 0 then (skip s).scBump n 8 else s)

/-! ### Grain dispatch (R96, R112, R160) -/

/-- Bit of a grain in SC_GRAIN_RETIRED: its word and bit for local direction `k` (0–7) and grain `g` (0–9). -/
def retiredBit (k g : Nat) : Nat := 20 * (k / 2) + 10 * (k % 2) + g
/-- Grains of direction `k` (global) that are retired. -/
def State.retired (s : State) (k : Nat) : Nat :=
  sumNat ((List.range 10).map fun g =>
    let b := retiredBit (k % 8) g
    s.fld (ra tSC (k / 8) (0x114 + 4 * (b / 32))) (b % 32) (b % 32))
/-- SC_KAT_CTL.ROTATE of a dram. -/
def State.rotating (s : State) (d : Nat) : Bool := s.fld (ra tSC d 0x10C) 0 0 = 1
/-- Grains of a direction in service: one is under test while the rotation runs (R112, R114, R115). -/
def State.grainsInService (s : State) (k : Nat) : Nat :=
  let r := s.retired k
  10 - (if r = 0 ∧ s.rotating (k / 8) then 1 else r)
/-- Free grains of a direction. -/
def State.freeGrainsOf (s : State) (k : Nat) : Nat := s.grainsInService k - (s.grainDir k).busy
/-- Take grains. -/
def State.takeGrains (s : State) (k n : Nat) : State := let g := s.grainDir k; s.setGrainDir k { g with busy := g.busy + n }
/-- G of a port (R96). -/
def State.gangSize (s : State) (p : Nat) : Nat := if s.isQuad p then 6 else 2

/-- The verdict-message test of R160 for a protected frame. -/
def State.isVerdictMsg (s : State) (f : Frame) : Bool :=
  f.prot && decide (ofBe f.dmac = s.svcMac f.ounce) && (s.ctx f.ctx).vsvc && s.vpOn f.ounce
/-- Keys of dispatch: no earlier frame of the lane waits before it. -/
def State.firstWaiting (s : State) (n : Nat) (f : Frame) : Bool :=
  !s.fab.frames.any fun e => decide (e.1 < n) && decide (e.2.src = f.src) && (e.2.place = .waiting || e.2.place = .missing)

/-- Dispatch of a received frame. -/
def State.dispatchIn (s : State) (n : Nat) (f : Frame) : State :=
  let k := grainDirKey f.src false
  let free := s.freeGrainsOf k
  match s.acceptRec f.ctx f.recNo (beAt f.data 16 4) with
  | .error c => (s.eraseFrame n).scBump f.src c
  | .ok (r, pn) =>
    let o := f.ounce
    let v := s.isVerdictMsg f
    if free = 0 ∨ (v ∧ 32 ≤ cget 0 s.fab.parseBusy o) then s
    else
      let size := s.gangSize f.src
      let g := if v then 1 else min size free
      let s := s.takeGrains k g
      let s := s.modFrame n fun x => { x with
        saRec := r, pn := pn, key := (s.shadow f.ctx f.recNo).getD [], gang := g, full := decide (g = size), isVerdict := v,
        place := if v then .parsing o else .ingress }
      let s := if v then (s.parseUse o true).vmBump o 0 else s
      s.refreshBody n

/-- A frame is dispatched to grains: a received frame from its dispatch buffer, or a staged frame to the egress grains
of a protected port (R96, R98). -/
def execGrainDispatch (n : Nat) (s : State) : Outcome :=
  done (
    match s.frame n with
    | none => s
    | some f =>
      match f.place with
      | .waiting => if !s.lockInForce && s.firstWaiting n f then s.dispatchIn n f else s
      | .staged l =>
        let k := grainDirKey l true
        let free := s.freeGrainsOf k
        let size := s.gangSize l
        if s.portProtect l && f.egGang = 0 && free != 0 && !s.lockInForce then
          (s.takeGrains k (min size free)).modFrame n fun x => { x with egGang := min size free, egPartial := decide (free < size) }
        else s
      | _ => s)

/-! ### ICV and commit (R91, R92, R99) -/

/-- The combiner's result for a frame: match, mismatch, or the stomp pattern (R99, R105); the gang is released. -/
def execIcvResult (n : Nat) (s : State) : Outcome :=
  done (
    match s.frame n with
    | none => s
    | some f =>
      if f.src < 1024 ∧ f.prot ∧ f.gang ≠ 0 ∧ f.icv = 0 ∧ f.ended ≠ 0 then
        let want := f.calcIcv
        let r := if f.ended = 2 then 2 else if f.recvIcv = want then 1 else if f.recvIcv = want.map (~~~ ·) then 3 else 2
        (s.freeGrains (grainDirKey f.src false) f.gang).modFrame n fun x => { x with icv := r }
      else s)

/-- An earlier frame of the port has not committed (R92). -/
def State.earlierUncommitted (s : State) (n : Nat) (f : Frame) : Bool :=
  s.fab.frames.any fun e => decide (e.1 < n) && decide (e.2.src = f.src) && e.2.prot && decide (e.2.trust = .pending)

/-- The replay state of a record is updated by a frame that passes (R91), and the record expires with its last PN
(R90). -/
def State.markPn (s : State) (i a pn : Nat) : State :=
  let c := s.ctx i
  let r := c.saOf a
  let bm := nth 0 c.bitmap a
  let (r', bm') := if r.pn < pn then ({ r with pn := pn }, (bm <<< (pn - r.pn) ||| 1) % 2 ^ 1024) else (r, bm ||| 2 ^ (r.pn - pn))
  let s := s.modCtx i fun c => { c.setRec a r' with bitmap := setNth c.bitmap a bm' }
  if pn = pnLast r.suite ∧ r.inService then
    let s := s.modCtx i fun c => c.setRec a { c.saOf a with expired := true }
    (s.leaveService i a).scEvent ((s.ctx i).port / 16) 2 a i
  else s

/-- The commit check of a frame: its ICV result is judged once every earlier frame of its port has committed; then its
replay conditions against the record as it stands (R91, R92, R103). A frame whose record was replaced after its dispatch
completes under the record as it was (R120). -/
def execCommitCheck (n : Nat) (s : State) : Outcome :=
  done (
    match s.frame n with
    | none => s
    | some f =>
      if f.src < 1024 ∧ f.prot ∧ f.trust = .pending ∧ f.icv ≠ 0 ∧ f.ended = 1 ∧ !s.earlierUncommitted n f then
        if f.icv = 3 then s.resolveTrust n 7
        else if f.icv = 2 then s.resolveTrust n 1
        else
          let c := s.ctx f.ctx
          let r := c.saOf f.recNo
          if r.keyHandle = f.saRec.keyHandle ∧ r.suite = f.saRec.suite ∧ c.rxSci = f.sci then
            if replayFails r (nth 0 c.bitmap f.recNo) f.pn then s.resolveTrust n 2
            else (s.markPn f.ctx f.recNo f.pn).resolveTrust n 0
          else s.resolveTrust n 0
      else s)

/-- The outcome arrives over the cross-ounce link (R683). -/
def execTrustOutcomeArrival (n : Nat) (s : State) : Outcome :=
  done (
    match s.frame n with
    | none => s
    | some f => if f.trust ≠ .pending ∧ f.known = .pending then s.applyOutcome n else s)

/-! ### Transmission (R87–R89, R105–R107, R138) -/

/-- A PENDING frame may be passed on cut-through (R106): full ingress gang, and no earlier frame of its port with a
smaller gang is still PENDING. -/
def State.cutThrough (s : State) (n : Nat) (f : Frame) : Bool :=
  f.known != .pending ||
    (f.full && !s.fab.frames.any fun e => decide (e.1 < n) && decide (e.2.src = f.src) && e.2.prot && !e.2.full && decide (e.2.trust = .pending))

/-- The next record becomes the current one (R88). -/
def State.rollRec (s : State) (i : Nat) : State :=
  s.modCached i fun x => { x with
    c := (x.c.setRec 4 (x.c.saOf 5)).setRec 5 {}, shadow := setNth (setNth x.shadow 4 (nth none x.shadow 5)) 5 none,
    limit := [nth 0 x.limit 1, 0] }

/-- Whether a PN of transmit record `r` may be used: below the value last stored in HBM, or the last PN of the suite once
that is the value stored (R323). -/
def State.pnUsable (s : State) (i r : Nat) : Bool :=
  match s.ctxCached i with
  | none => false
  | some x =>
    let a := x.c.saOf r
    let lim := nth 0 x.limit (r - 4)
    decide (a.pn < lim) || decide (lim = pnLast a.suite ∧ a.pn = lim)

/-- A PN is taken from the current record (R87–R89). -/
def State.takePn (s : State) (i : Nat) : State :=
  let r := (s.ctx i).saOf 4
  let d := (s.ctx i).port / 16
  let s := s.modCtx i fun c => c.setRec 4 { c.saOf 4 with pn := r.pn + 1 }
  let s :=
    if r.pn + 1 = r.rekeyPn ∧ r.rekeyPn ≠ 0 ∧ !r.rekeySent then
      (s.modCtx i fun c => c.setRec 4 { c.saOf 4 with rekeySent := true }).scEvent d 1 4 i
    else s
  if r.pn = pnLast r.suite then
    ((s.leaveService i 4).modCtx i fun c => c.setRec 4 { c.saOf 4 with expired := true, inUse := false }).scEvent d 2 4 i
  else s

/-- The staged frame with the least tag of a lane (R138). -/
def State.nextStaged (s : State) (l : Nat) : Option (Nat × Frame) :=
  (s.fab.frames.filter fun e => e.2.place = .staged l).foldl (fun (b : Option (Nat × Frame)) e =>
    match b with
    | none => some e
    | some x => if tagLess (e.2.tag.getD 0) (x.2.tag.getD 0) || (e.2.tag = x.2.tag && decide (e.2.cls < x.2.cls)) then some e else b) none

/-- A frame on a protected port takes its record, key and PN; with no serving record or no key it is dropped from
staging (R88, R321), and at the reserved limit it waits for the write-back (R323). -/
def State.startProtected (s : State) (l n : Nat) (f : Frame) : State :=
  let go (s : State) (f : Frame) : State :=
    (s.setFrame n f).modLane l fun x => { x with txCur := some n, vclk := f.tag.getD x.vclk }
  let drop (s : State) : State := (s.endFrame n).scBump l 14
  match s.txContext l with
  | none => drop s
  | some i =>
    let s := s.reachCtx i
    match (s.ctx i).serving with
    | none => drop s
    | some r =>
      match s.shadow i r with
      | none => drop s
      | some key =>
        let s := if r = 5 then s.rollRec i else s
        if s.pnUsable i 4 then
          let a := (s.ctx i).saOf 4
          go (s.takePn i) { f with place := .sending l, txProt := true, txRec := 4, txSa := a, txKey := key, txCtx := i, txPn := a.pn }
        else s.writeBack i

/-- CVL byte credit grown up to now (R153). -/
def State.growCvl (s : State) (l : Nat) : State :=
  let x := s.lane l
  let n := (s.clk.ns - x.cvlT) * (if s.isQuad l then 100 else 25) / 512
  s.setLane l { x with cvlBytes := min (x.cvlBytes + (n : Int)) 16128, cvlT := s.clk.ns }

/-- Transmission of a frame begins on a lane: a CVL frame of a PARTNER = 0 port goes first while its byte credit is zero
or more (R153), else the staged frame with the least tag (R138). -/
def execTxFrameStart (l : Nat) (s : State) : Outcome :=
  done (
    if l < 1024 ∧ s.governs l ∧ s.lnState l = 4 ∧ !s.lnFlag l 9 ∧ !s.lnFlag l 10 ∧ (s.lane l).txCur = none ∧ !s.lockInForce then
      let s := s.growCvl l
      let x := s.lane l
      match (if !s.lnCfg l 7 && decide (0 ≤ x.cvlBytes) then x.cvlFrames else []) with
      | d :: rest =>
        let n := s.fab.nextFrame
        let f : Frame := { src := cvlSrc, trust := .pass, known := .pass, ended := 1, committed := true, dmac := d.take 6,
                           smac := sliceBytes d 6 6, body := d.drop 12, place := .staged l }
        let s := (s.newFrame f).setLane l { x with cvlFrames := rest, cvlBytes := x.cvlBytes - ((d.length + 4 : Nat) : Int) }
        if s.portProtect l ∧ etherType d ≠ s.fld (scReg l 0x108) 15 0 then s.startProtected l n f
        else (s.setFrame n { f with place := .sending l }).modLane l fun y => { y with txCur := some n }
      | [] =>
        match s.nextStaged l with
        | none => s
        | some (n, f) =>
          if !s.cutThrough n f then s
          else if s.portProtect l then
            if f.egGang = 0 ∨ (f.egPartial ∧ (f.ended = 0 ∨ f.known = .pending)) then s
            else s.startProtected l n f
          else
            (s.setFrame n { f with place := .sending l }).modLane l fun y => { y with txCur := some n, vclk := f.tag.getD y.vclk }
    else s)

/-- The ICV or FCS of the frame in transmission falls due (R105–R108): as computed for PASS; stomped for FAIL, and for
PENDING with TX_STOMP_PENDING; an error block when the rest of its data will never arrive. -/
def execEgressIcvEmit (l : Nat) (s : State) : Outcome :=
  done (
    match (s.lane l).txCur with
    | none => s
    | some n =>
      match s.frame n with
      | none => s
      | some f =>
        if f.ended = 0 then s
        else if f.ended = 2 then s.endTx l 2
        else if f.known = .pass then s.endTx l 0
        else if f.known = .fail then s.endTx l 1
        else (((s.event (scPage l) 0x60 (l % 16) 1 1).irq (scPage l) 3).endTx l 1))

/-! ### Rotating known-answer test (R112–R115) -/

/-- SC_KAT_STAT of direction `k` shows a value. -/
def State.katStat (s : State) (k v : Nat) : State := s.setFld (ra tSC (k / 8) 0x110) (4 * (k % 8) + 3) (4 * (k % 8)) v
/-- The rotation of a direction runs. -/
def State.katRuns (s : State) (k : Nat) : Bool := s.domOn (k / 8) && s.rotating (k / 8) && s.retired k = 0

/-- The turn of a grain ends: it returns to service, and the next grain takes no more frames (R112). -/
def execKatSlotExpiry (k : Nat) (s : State) : Outcome :=
  done (if s.katRuns k then let g := s.grainDir k; s.setGrainDir k { g with turn := (g.turn + 1) % 10, inTest := false, vec := 0 } else s)

/-- The next grain has completed its frame and enters the test (R112). -/
def execKatTestEnter (k : Nat) (s : State) : Outcome :=
  done (
    let g := s.grainDir k
    if s.katRuns k ∧ !g.inTest then (s.setGrainDir k { g with inTest := true, vec := 0 }).katStat k g.turn else s)

/-- A direction that falls below nine grains is degraded (R101). -/
def State.degrade (s : State) (k : Nat) : State :=
  if s.grainsInService k < 9 ∧ s.fld (ra tSC (k / 8) 0x120) (k % 8) (k % 8) = 0 then
    (s.setFld (ra tSC (k / 8) 0x120) (k % 8) (k % 8) 1).irq (pageNo tSC (k / 8)) 2
  else s

/-- The grain under test completes a vector (R113); a mismatch retires it (R114). -/
def execGrainKatVector (k : Nat) (pass : Bool) (s : State) : Outcome :=
  done (
    let g := s.grainDir k
    let a := ra tSC (k / 8) (0xA00 + 4 * (k % 8))
    if s.katRuns k ∧ g.inTest then
      if pass then
        if g.vec = 15 then (s.setGrainDir k { g with vec := 0 }).setFld a 31 16 (min (s.fld a 31 16 + 1) 0xFFFF)
        else s.setGrainDir k { g with vec := g.vec + 1 }
      else
        let b := retiredBit (k % 8) g.turn
        let s := s.setFld (ra tSC (k / 8) (0x114 + 4 * (b / 32))) (b % 32) (b % 32) 1
        let s := (s.setFld a 3 0 g.vec).setGrainDir k { g with inTest := false }
        let s := ((s.katStat k 14).irq (pageNo tSC (k / 8)) 0).errInfo (pageNo tSC (k / 8)) b 0x119
        s.degrade k
    else s)

/-- A write to SC_KAT_CTL of dram `d` (R115): ROTATE clears only in MAKER or INTEGRATOR. -/
def execScKatCtlWrite (d : Nat) (v : Reg) (s : State) : Outcome :=
  done (s.rwlWrite (pageNo tSC d) fun s =>
    if !bitAt v 0 && decide (s.silicon ≠ 0 ∧ s.silicon ≠ 1) then s.status (ra tSC d 0xA44) 0x11B
    else
      let was := s.rotating d
      let ms := getField v 15 8
      let s := (s.wrn (ra tSC d 0x10C) ((if ms = 0 then 20 else ms) * 256 + getField v 0 0)).took (pageNo tSC d)
      if was = bitAt v 0 then s
      else
        (List.range 8).foldl (fun s i =>
          let k := 8 * d + i
          if s.retired k ≠ 0 then s
          else if bitAt v 0 then
            let g := s.grainDir k
            (s.setGrainDir k { g with inTest := false, vec := 0 }).katStat k g.turn
          else (s.setGrainDir k { s.grainDir k with inTest := false }).katStat k 15) s)

/-- A write to SC_PORT of a lane (R118): PROTECT changes only while the port's first lane is OFF; lanes 1 to 3 of a
100G port are ignored. -/
def execScPortWrite (n : Nat) (v : Reg) (s : State) : Outcome :=
  done (s.pageWrite (scPage n) fun s =>
    if !s.governs n then s
    else if s.fld (scPort n) 0 0 ≠ getField v 0 0 ∧ s.lnState n ≠ 0 then s.lnStatus n 0x101
    else (s.wr (scPort n) (v &&& 5)).took (scPage n))

/-! ### Secure-association commands (R85, R86, R119, R120) -/

/-- SC_SA_STATUS of dram `d`. -/
def saStatus (d : Nat) : Nat := ra tSC d 0xA44
/-- The 64 bytes of SC_SA_STAGE. -/
def State.saStage (s : State) (d : Nat) : List Byte := (List.range 16).flatMap fun k => leBytes 4 (s.rd (ra tSC d (0xA80 + 4 * k))).toNat
/-- The command completes with BUSY set until SA_CMD_COMPLETE. -/
def State.saDone (s : State) (d code : Nat) : State := (s.status (saStatus d) code).setFld (saStatus d) 31 31 (if code = 0 then 1 else 0)

/-- The checks of R86 in order: the refusal, or the record to install with its key; resolving the key may change the
vault. -/
def State.saCheck (s : State) (d i r : Nat) (st : SaRec) : Except Nat KeyVal × State :=
  let c := s.ctx i
  let tx := decide (4 ≤ r)
  if (c.saOf r).inService then (.error 0x11A, s)
  else if tx && decide (st.pn = 0) then (.error 0x11A, s)
  else if pnLast st.suite < st.pn then (.error 0x11A, s)
  else if 1023 < st.window then (.error 0x11A, s)
  else if s.fld (ra tSC d 0x100) st.suite st.suite = 0 then (.error 0x117, s)
  else
    match s.resolve (d / 16) st.keyHandle with
    | (.error e, s) => (.error e, s)
    | (.ok k, s) =>
      if handleZone st.keyHandle ≠ c.zone then (.error 0x413, s)
      else if attrUsage k.attr ≠ usage2 '9' '1' then (.error 0x117, s)
      else if tx && k.retired then (.error 0x406, s)
      else (.ok k, s)

/-- INSTALL (R86). -/
def State.saInstall (s : State) (d i r : Nat) : State :=
  let st := SaRec.decode (s.saStage d)
  match s.saCheck d i r st with
  | (.error e, s) => s.saDone d e
  | (.ok k, s) =>
    let s := s.reachCtx i
    let new := { st with inUse := true, expired := false, rekeySent := false, an := if r < 4 then r else st.an }
    let s := s.modCached i fun x => { x with
      c := { x.c.setRec r new with bitmap := if r < 4 then setNth x.c.bitmap r 0 else x.c.bitmap },
      shadow := setNth x.shadow r (some k.key),
      limit := if r < 4 then x.limit else setNth x.limit (r - 4) new.pn }
    (s.setRefcnt st.keyHandle (s.refcnt st.keyHandle + 1)).saDone d 0

/-- DISABLE: a record in service leaves service; an expired one only loses IN_USE (R90, R119). -/
def State.saDisable (s : State) (d i r : Nat) : State :=
  let s := s.reachCtx i
  let was := ((s.ctx i).saOf r).inService
  let s := if was then s.leaveService i r else s
  (s.modCtx i fun c => c.setRec r { c.saOf r with inUse := false }).saDone d 0

/-- READ into the staging area, KEY_HANDLE and SALT as 0 (R119). -/
def State.saRead (s : State) (d i r : Nat) : State :=
  let s := s.reachCtx i
  let b := SaRec.encode { (s.ctx i).saOf r with keyHandle := 0, salt := List.replicate 12 0 }
  ((List.range 16).foldl (fun s k => s.wrn (ra tSC d (0xA80 + 4 * k)) (ofLe (sliceBytes b (4 * k) 4))) s).saDone d 0

/-- A write to SC_SA_CMD of dram `d` (R119). -/
def State.saCommand (s : State) (d op r i : Nat) : State :=
  s.pageWrite (pageNo tSC d) fun s =>
    if s.fld (saStatus d) 31 31 = 1 then s.status (saStatus d) 0x11A
    else if op = 0 ∨ 3 < op ∨ 5 < r then s.status (saStatus d) 0x11C
    else if !(s.ctx i).valid then s.status (saStatus d) 0x407
    else if (s.ctx i).port ≥ 1024 ∨ (s.ctx i).port / 16 ≠ d then s.status (saStatus d) 0x114
    else
      let s := s.took (pageNo tSC d)
      if op = 1 then s.saInstall d i r else if op = 2 then s.saDisable d i r else s.saRead d i r

/-- SC_SA_CMD with OP INSTALL. -/
def execSaInstall (d r i : Nat) (s : State) : Outcome := done (s.saCommand d 1 r i)
/-- SC_SA_CMD with OP DISABLE. -/
def execSaDisable (d r i : Nat) (s : State) : Outcome := done (s.saCommand d 2 r i)
/-- SC_SA_CMD with OP READ. -/
def execSaRead (d r i : Nat) (s : State) : Outcome := done (s.saCommand d 3 r i)
/-- The command engine of a dram is free again (R119). -/
def execSaCmdComplete (d : Nat) (s : State) : Outcome := done (s.setFld (saStatus d) 31 31 0)

/-- A read of SC_EVENT presents the oldest entry and removes it (R117). -/
def execScEventRead (d : Nat) (s : State) : Outcome :=
  done (
    if s.pageLive (pageNo tSC d) then
      let q := cget {} s.fab.scEvents d
      let v := (match q.items with | e :: _ => 2 ^ 31 + e | [] => 0) + (if q.lost then 2 ^ 30 else 0)
      { s with lastRead := BitVec.ofNat 64 v, fab := { s.fab with scEvents := cput {} ⟨q.items.drop 1, false⟩ d s.fab.scEvents } }
    else { s with lastRead := 0 })

end Sys2Proof.Machine
end

