-- ==== Sys2Proof/Machine/QueueCmds.lean ====
section
/-!
DEFINITION. Queues, buffers and scheduling (chapter 4): classification, the forwarding table, the congestion map, queues
and finish tags, the five arbiter levels, the cross-ounce links and the messages of the control virtual lane.
-/
namespace Sys2Proof.Machine

/-! ### Classification (R95, R122–R133, R160) -/

/-- The destination is the verdict-service address (R160). -/
def State.toService (s : State) (f : Frame) : Bool := decide (ofBe f.dmac = s.svcMac f.ounce)

/-- The first two plaintext blocks of a received frame are available: the Plynun tag is checked, the verdict-service
address of a frame that is no verdict message drops it, and the frame is looked up, classified, limited and checked
against the congestion map. A frame that passes sends its enqueue notice. -/
def execFirstBlocksClassify (n : Nat) (s : State) : Outcome :=
  done (
    let s := s.refreshBody n
    match s.frame n with
    | none => s
    | some f =>
      if f.place ≠ .ingress ∨ 1024 ≤ f.src ∨ (f.prot ∧ f.gang = 0) then s
      else
        let ply := s.framePlynun f
        if ply ∧ f.plain.length < 26 ∧ f.ended = 0 then s
        else if ply && plynunBad (s.fld (scReg f.src 0x104) 15 0) f.plain then (s.endFrame n).scBump f.src 11
        else if s.toService f then (s.endFrame n).vmBump f.ounce 4
        else match s.route f with
          | .error k => (s.endFrame n).dqBump f.src k
          | .ok (p, c) =>
            (s.modFrame n fun x => { x with fwd := true, limited := f.prot, cls := c, place := .noticed (queueOf p c),
                                            endNoted := decide (f.ended ≠ 0) }).chargeFrame n)

/-! ### The forwarding table (R122–R124) -/

/-- A register of the OZ page of an ounce in the forwarding-table group (Table 4.9). -/
def ftReg (o off : Nat) : Nat := ra tOZ o (0x400 + off)
/-- The key that the registers of ounce `o` spell. -/
def State.ftStaged (s : State) (o : Nat) : Nat :=
  s.fld (ftReg o 0x0C) 27 16 * 2 ^ 48 + s.fld (ftReg o 0x0C) 15 0 * 2 ^ 32 + (s.rd (ftReg o 0x08)).toNat
/-- The entry that OZ_FT_RESULT of ounce `o` spells. -/
def State.ftEntry (s : State) (o : Nat) : FtEntry :=
  { port := s.fld (ftReg o 0x10) 10 0, clsValid := s.fld (ftReg o 0x10) 21 21 = 1, cls := s.fld (ftReg o 0x10) 20 16 }
/-- Entries of one copy. -/
def State.ftCount (s : State) (o : Nat) : Nat := (s.fab.ft.filter fun e => e.1 / 2 ^ 60 = o).length
/-- OZ_FT_STATUS of every ounce records a code and BUSY. -/
def State.ftStatus (s : State) (code busy : Nat) : State :=
  (List.range 4).foldl (fun s o => (s.status (ftReg o 0x04) code).setFld (ftReg o 0x04) 31 31 busy) s
/-- A command is applied to the copy of one ounce. -/
def State.ftApply (s : State) (o : Nat) (op : FtOp) : State :=
  { s with fab := { s.fab with ft := if op.op = 1 then oput op.entry (ftKey o op.key) s.fab.ft
                                     else if op.op = 2 then odel (ftKey o op.key) s.fab.ft else s.fab.ft } }
/-- A write to OZ_FT_CMD of ounce `o` (R124). -/
def State.ftCommand (s : State) (o op : Nat) : State :=
  if s.fab.ftOp.isSome then s.status (ftReg o 0x04) 0x206
  else if op = 0 ∨ 3 < op then s.status (ftReg o 0x04) 0x20F
  else
    let key := s.ftStaged o
    let cur := oget s.fab.ft (ftKey 0 key)
    let e := s.ftEntry o
    let go (c : FtOp) (s : State) : State := ({ s with fab := { s.fab with ftOp := some c } }.ftApply 0 c).ftStatus 0 1
    if op = 1 then
      if 1024 < e.port then s.status (ftReg o 0x04) 0x204
      else if cur.isNone && decide (65536 ≤ s.ftCount 0) then s.status (ftReg o 0x04) 0x203
      else go ⟨1, key, e⟩ s
    else match cur with
      | none => s.status (ftReg o 0x04) 0x205
      | some x =>
        if op = 2 then go ⟨2, key, {}⟩ s
        else (go ⟨3, key, {}⟩ s).wrn (ftReg o 0x10) (x.port + x.cls * 2 ^ 16 + b2n x.clsValid * 2 ^ 21)
/-- ADD or replace. -/
def execFtAdd (o : Nat) (s : State) : Outcome := done ((s.ftCommand o 1).took (ozPage o))
/-- DELETE. -/
def execFtDelete (o : Nat) (s : State) : Outcome := done ((s.ftCommand o 2).took (ozPage o))
/-- LOOKUP. -/
def execFtLookup (o : Nat) (s : State) : Outcome := done ((s.ftCommand o 3).took (ozPage o))
/-- The command has reached the copies of ounces 1 to 3; BUSY clears. -/
def execFtCmdComplete (s : State) : Outcome :=
  done (
    match s.fab.ftOp with
    | none => s
    | some c =>
      let s := [1, 2, 3].foldl (fun s o => s.ftApply o c) s
      { s with fab := { s.fab with ftOp := none } }.ftStatus 0 0)

/-! ### Congestion map and configuration (R130, R132, R143, R158) -/

/-- The copy of ounce `o` takes the value of a queue bit or a dram bit as its owner holds it. -/
def execCongMapPropagate (o b : Nat) (s : State) : Outcome :=
  done { s with fab := { s.fab with congCopy := cput false (s.congTruth b) (congKey o b) s.fab.congCopy } }

/-- DQ_STATUS of a dram records a refused write. -/
def State.dqStatus (s : State) (d code : Nat) : State := s.status (ra tDQ d 0x204) code

/-- A write to DQ_QCFG of a queue: WEIGHT 0 is refused (R158); a new LIMIT acts on the map at once (R132). -/
def execDqQcfgWrite (q : Nat) (v : Reg) (s : State) : Outcome :=
  done (s.pageWrite (queuePage q) fun s =>
    if getField v 9 0 = 0 then s.dqStatus (q / 512) 0x201
    else ((s.wr (queueCfg q) (v &&& 0xFFFF03FF)).updateCong q).took (queuePage q))

/-- A write to DQ_PORT of a lane: CLASS_SRC 3 is refused (R158). -/
def execDqPortWrite (n : Nat) (v : Reg) (s : State) : Outcome :=
  done (s.pageWrite (dqPage n) fun s =>
    if getField v 6 5 = 3 then s.dqStatus (laneDram n) 0x202 else (s.wr (dqPort n) (v &&& 0x3FF)).took (dqPage n))

/-! ### Queues (R134, R140–R142, R147, R155, R156) -/

/-- A lane state in which a frame is not held for transmission: OFF, ACQUIRE, TRAIN, ALIGN, TEST. -/
def laneFlushes (st : Nat) : Bool := decide (st < 4 ∨ st = 6)

/-- An enqueue notice reaches the owner of the queue: a descriptor is appended, or the frame is dropped when its lane is
in OFF, ACQUIRE, TRAIN, ALIGN or TEST (Table 4.6). -/
def execEnqueueNotice (n : Nat) (s : State) : Outcome :=
  done (
    match s.frame n with
    | none => s
    | some f =>
      match f.place with
      | .noticed q =>
        if queueLane q < 1024 ∧ laneFlushes (s.lnState (queueLane q)) then (s.endFrame n).qBump q 4 1
        else
          let s := s.modFrame n fun x => { x with place := .queued q, enqT := s.clk.tim }
          ((s.setQueue q (s.queue q ++ [n])).updateCong q).newHead q
      | _ => s)

/-- Length of a frame for its finish tag on lane `l` (R140, R457), the provisional one while it is not known (R141). The
host has no LN_MAXFRAME: 16,128 stands for an unknown length there (log entry 17). -/
def State.tagLen (s : State) (l : Nat) (f : Frame) : Nat :=
  if 1024 ≤ l then (if f.endNoted then f.storedLen else 16128)
  else if f.endNoted then s.outLen l f + 20 else s.fld (lnReg l 0x10) 13 0 + 20

/-- The frame would leave port `l` longer than LN_MAXFRAME because of its protection (R111). -/
def State.tooLong (s : State) (l : Nat) (f : Frame) : Bool :=
  l < 1024 && s.portProtect l && f.endNoted && decide (s.fld (lnReg l 0x10) 13 0 < s.outLen l f)
/-- TX_OVERSIZE_DROP of a lane counts. -/
def State.oversizeDrop (s : State) (l : Nat) : State := s.event (scPage l) 0x61 (l % 16) 1 1

/-- The frame at the head of a queue is stamped (R139–R142). -/
def State.stamp (s : State) (q n : Nat) (f : Frame) : State :=
  let l := queueLane q
  let w := s.weight q
  let sum := s.weightSum l
  let len := s.tagLen l f
  let tag := (tagMax (s.virtualClock l) (s.lastTag q) + serviceTime (s.byteTime l) len sum w) % tagMod
  (s.setLastTag q tag).modFrame n fun x => { x with tag := some tag, stampW := w, stampWt := sum, stampLen := len }

/-- A frame has become the head of its queue: on a protected port it is tested for a serving transmit record (R88) and
for its length (R111); at the reserved PN it waits for the write-back (R323); then it is stamped (R140). -/
def execQueueHeadStamp (q : Nat) (s : State) : Outcome :=
  done (
    match s.queue q with
    | [] => s
    | n :: _ =>
      match s.frame n with
      | none => s
      | some f =>
        let l := queueLane q
        let drop (s : State) : State := ((s.leaveQueue q n).endFrame n).newHead q
        if f.tag.isSome then s
        else if s.portProtect l then
          match s.txContext l with
          | none => (drop s).scBump l 14
          | some i =>
            match (s.ctx i).serving with
            | none => (drop s).scBump l 14
            | some r =>
              if s.tooLong l f then (drop s).oversizeDrop l
              else if (s.ctxCached i).isSome && !s.pnUsable i r then (s.writeBack i).stamp q n f
              else s.stamp q n f
        else s.stamp q n f)

/-- The ingress dram reports the end of a frame: its length is known from here on; F_q is corrected (R141), staging cells
it does not need return (R137), and the length test of R111 is made again. -/
def execEndNotice (n : Nat) (s : State) : Outcome :=
  done (
    match s.frame n with
    | none => s
    | some f =>
      if f.ended = 0 ∨ f.endNoted ∨ f.fwd = false then s
      else
        let s := s.modFrame n fun x => { x with endNoted := true }
        let f := { f with endNoted := true }
        let fix (l : Nat) (s : State) : State :=
          if f.tag.isNone then s
          else
            let q := queueOf l f.cls
            let excess := serviceTime (s.byteTime l) f.stampLen f.stampWt f.stampW -
              serviceTime (s.byteTime l) (s.tagLen l f) f.stampWt f.stampW
            s.setLastTag q ((s.lastTag q + tagMod - excess % tagMod) % tagMod)
        let shrink (l : Nat) (s : State) : State :=
          let need := min f.stg (cellsOf f.storedLen)
          (s.modLane l fun x => { x with stgUsed := x.stgUsed - (f.stg - need) }).modFrame n fun x => { x with stg := need }
        match f.place with
        | .queued q =>
          let s := (fix (queueLane q) s).updateCong q
          if f.tag.isSome && s.tooLong (queueLane q) f then (((s.leaveQueue q n).endFrame n).newHead q).oversizeDrop (queueLane q)
          else s
        | .pulled l _ =>
          let s := shrink l (fix l s)
          if s.tooLong l f then (s.endFrame n).oversizeDrop l else s
        | .staged l =>
          let s := shrink l (fix l s)
          if s.tooLong l f then (s.endFrame n).oversizeDrop l else s
        | .sending l =>
          let s := shrink l (fix l s)
          if s.tooLong l f then (s.endTx l 2).oversizeDrop l else s
        | _ => s)

/-- A head frame is dropped when its age exceeds HOLD_US (R155, R147). -/
def execHoldExpiry (q : Nat) (s : State) : Outcome :=
  done (
    match s.queue q with
    | [] => s
    | n :: _ =>
      match s.frame n with
      | none => s
      | some f =>
        let a := if q < 32768 then ra tDQ (q / 512) 0x100 else ra tHI 0 0x108
        let us := if s.fld a 15 0 = 0 then 1000 else s.fld a 15 0
        if us * 1000 < s.clk.tim - f.enqT then
          let s := s.dropQueued q n 3
          if q < 32768 then s.irq (queuePage q) 3 else s
        else s)

/-! ### Arbiters (R135–R138, R142) -/

/-- The least of a list of frames in the order of R142: the tag, then the queue number. -/
def leastTag (queueNo : Frame → Nat) (fs : List (Nat × Frame)) : Option (Nat × Frame) :=
  fs.foldl (fun b e =>
    match b with
    | none => some e
    | some x =>
      let t := e.2.tag.getD 0
      let u := x.2.tag.getD 0
      if tagLess t u || (decide (t = u) && decide (queueNo e.2 < queueNo x.2)) then some e else b) none
/-- The queue that a frame pulled for a lane came from. -/
def Frame.pulledQueue (f : Frame) : Nat :=
  match f.place with
  | .queued q => q
  | .pulled l _ => queueOf l f.cls
  | _ => 0
/-- The frame is stamped, heads queue `q`, and level 1 may nominate it: its cells do not lie beyond a down link (R147), and
cut-through is allowed while its outcome is pending (R106). -/
def State.canNominate (s : State) (n : Nat) (f : Frame) : Bool :=
  match f.place with
  | .queued q => f.tag.isSome && decide ((s.queue q).head? = some n) && !s.linkIsDown f.ounce (portOunce (queueLane q)) && s.cutThrough n f
  | _ => false

/-- The heads of a lane's queues that level 1 may nominate. -/
def State.nominable (s : State) (l : Nat) : List (Nat × Frame) :=
  let heads := (List.range 32).filterMap fun c =>
    match s.queue (queueOf l c) with
    | [] => none
    | n :: _ => (s.frame n).map fun f => (n, f)
  heads.filter fun e => s.canNominate e.1 e.2
/-- Level 1: the class-group arbiter of a lane nominates the stamped head with the least tag; one nomination at a time. -/
def execLevel1Nominate (l : Nat) (s : State) : Outcome :=
  done (
    let cand := s.nominable l
    match (s.lane l).nominee with
    | some m => if cand.any (·.1 = m) then s else s.modLane l fun x => { x with nominee := (leastTag Frame.pulledQueue cand).map (·.1) }
    | none => if l < 1024 then s.modLane l fun x => { x with nominee := (leastTag Frame.pulledQueue cand).map (·.1) } else s)

/-- Staging cells a frame needs (R137). -/
def stgNeed (f : Frame) : Nat := if f.endNoted then cellsOf f.storedLen else 63
/-- The nominations of the lanes of a dram whose staging has room (R137). -/
def State.pullable (s : State) (d : Nat) : List (Nat × Frame) :=
  (List.range 16).filterMap fun i =>
    let l := 16 * d + i
    match (s.lane l).nominee with
    | none => none
    | some n =>
      match s.frame n with
      | none => none
      | some f =>
        if s.canNominate n f && decide ((s.stagedFrames l).length < s.stgPlaces l) &&
            decide ((s.lane l).stgUsed + stgNeed f ≤ s.stgCap l) then some (n, f) else none
/-- Level 2: the lane arbiter of a dram grants the pull with the least tag among the nominations of its lanes whose
staging has room (R137). The frame leaves its queue and its staging cells are reserved. -/
def execPullGrant (d : Nat) (s : State) : Outcome :=
  done (
    match leastTag Frame.pulledQueue (s.pullable d) with
    | none => s
    | some (n, f) =>
      let q := f.pulledQueue
      let l := queueLane q
      let s := (s.leaveQueue q n).modFrame n fun x => { x with place := .pulled l 3, stg := stgNeed f }
      (s.modLane l fun x => { x with nominee := none, stgUsed := x.stgUsed + stgNeed f }).newHead q)

/-- The source a frame is read from at level 3: a dram 0–63, 64 the host buffer, 65 + o the cluster memory of ounce o. -/
def Frame.source (f : Frame) : Nat := if f.src < 1024 then f.src / 16 else 64 + (f.src - 1024)

/-- The frames that wait at a level of the arbiters beyond level 2, among those that `p` admits by their lane. -/
def State.pulledAt (s : State) (lvl : Nat) (p : Nat → Frame → Bool) : List (Nat × Frame) :=
  s.fab.frames.filter fun e =>
    match e.2.place with
    | .pulled l k => decide (k = lvl) && p l e.2
    | _ => false
/-- Level 3: the read port of a source passes the pulled frame with the least tag; its cells at the source are freed
(R129). A frame bound for another ounce goes on to level 4. -/
def execInputDramGrant (src : Nat) (s : State) : Outcome :=
  done (
    match leastTag Frame.pulledQueue (s.pulledAt 3 fun _ f => decide (f.source = src)) with
    | none => s
    | some (n, f) =>
      match f.place with
      | .pulled l _ =>
        let s := if f.src < 1024 then s.freeCells (laneDram f.src) f.cells else s
        let k := max 1 (cellsOf f.storedLen)
        let far := decide (f.ounce ≠ portOunce l)
        s.modFrame n fun x => { x with cells := 0, place := .pulled l (if far then 4 else 5), linkLeft := if far then k else 0,
                                       linkDue := if far then k else 0 }
      | _ => s)

/-- Level 5: the receive port of an egress dram accepts the frame with the least tag, which is then staged at its lane. -/
def execEgressDramGrant (d : Nat) (s : State) : Outcome :=
  done (
    match leastTag Frame.pulledQueue (s.pulledAt 5 fun l _ => decide (l / 16 = d)) with
    | none => s
    | some (n, f) =>
      match f.place with
      | .pulled l _ => s.modFrame n fun x => { x with place := .staged l }
      | _ => s)

/-! ### Cross-ounce links (R136, R146, R147) -/

/-- The direction of a link from ounce `a` to ounce `b`. -/
def State.link (s : State) (a b : Nat) : LinkDir := cget {} s.fab.links (a * 4 + b)
/-- Write a link direction. -/
def State.setLink (s : State) (a b : Nat) (x : LinkDir) : State := { s with fab := { s.fab with links := cput {} x (a * 4 + b) s.fab.links } }
/-- Element `i` of a list of counts raised or lowered by one. -/
def stepAt (l : List Nat) (i : Nat) (up : Bool) : List Nat := setNth l i (if up then nth 0 l i + 1 else nth 0 l i - 1)

/-- The frame whose next cell goes over the link from `a` to `b`: the one being passed, or the one with the least tag. -/
def State.linkPick (s : State) (a b : Nat) : Option (Nat × Frame) :=
  let cand := s.pulledAt 4 fun l f => decide (f.ounce = a ∧ portOunce l = b ∧ 0 < f.linkLeft)
  match cand.find? fun e => (s.link a b).cur = some e.1 with
  | some e => some e
  | none => leastTag Frame.pulledQueue cand
/-- Level 4: one cell of the frame being passed, or else of the frame with the least tag, goes over the link from `a` to
`b` against a credit of the fabric channel. -/
def execLinkGrant (a b : Nat) (s : State) : Outcome :=
  done (
    let x := s.link a b
    if nth 0 x.credits 2 = 0 ∨ s.linkIsDown a b then s
    else
      match s.linkPick a b with
      | none => s
      | some (n, f) =>
        let s := s.setLink a b { x with credits := stepAt x.credits 2 false, flight := stepAt x.flight 2 true, cells := x.cells ++ [n],
                                        cur := if f.linkLeft ≤ 1 then none else some n }
        s.modFrame n fun y => { y with linkLeft := y.linkLeft - 1 })

/-- A cell of channel `ch` (0 control, 1 memory, 2 fabric) arrives over the link from `a` to `b`. With a bad link check it
is resent, which the error information of the OZ page counts; the code is the model's (log entry 18). -/
def execLinkCellRx (a b ch : Nat) (bad : Bool) (s : State) : Outcome :=
  done (
    let x := s.link a b
    if nth 0 x.flight ch = 0 then s
    else if bad then
      (s.setLink a b { x with resent := x.resent.filter (fun t => s.clk.ns < t + 1000000) ++ [s.clk.ns] }).errInfo (ozPage b) a 0
    else
      let y := { x with flight := stepAt x.flight ch false, buffer := stepAt x.buffer ch true }
      if ch = 2 then
        match x.cells with
        | [] => s.setLink a b y
        | n :: rest =>
          (s.setLink a b { y with cells := rest }).modFrame n fun f =>
            match f.place with
            | .pulled l 4 => { f with linkDue := f.linkDue - 1, place := if f.linkDue ≤ 1 then .pulled l 5 else .pulled l 4 }
            | _ => f
      else s.setLink a b y)

/-- A cell leaves the receive buffer of the link from `a` to `b`: its credit returns to the sender. -/
def execLinkCreditReturn (a b ch : Nat) (s : State) : Outcome :=
  done (
    let x := s.link a b
    if nth 0 x.buffer ch = 0 then s
    else s.setLink a b { x with buffer := stepAt x.buffer ch false, credits := stepAt x.credits ch true })

/-! ### The control virtual lane (R148–R153) -/

/-- A received message failed its tag or counter check (R150). -/
def State.cvlAuthFail (s : State) (n : Nat) : State := ((s.dqBump n 5).errInfo (dqPage n) (n % 16) 0x207).irq (dqPage n) 1

/-- A received message of type `type` whose table gives `lo` to `hi` payload slots: where it is accepted (R150, R151), it is
counted, its slots are owed as credits, and `k` follows. -/
def State.cvlReceive (s : State) (n type lo hi ctr : Nat) (pay : List Word) (tag : Word) (k : State → State) : State :=
  let l := s.lane n
  let st := s.lnState n
  if !(decide (n < 1024) && s.governs n && s.lnCfg n 7 && (decide (st = 4) || decide (st = 5))) then s
  else
    let owed (c : Nat) (s : State) : State := s.modLane n fun x => { x with cvlOwed := x.cvlOwed + c }
    if pay.length < lo ∨ hi < pay.length then (owed (pay.length + if cvlUntagged type then 1 else 2) s).dqBump n 5
    else if cvlUntagged type then k (owed (1 + pay.length) (s.dqBump n 7))
    else
      let s := owed (2 + pay.length) s
      if l.cvlKey = [] ∨ tag ≠ cvlTag l.cvlKey (cvlHeader type pay.length ctr :: pay) ∨ ctr ≤ l.cvlRxCtr then s.cvlAuthFail n
      else k ((s.modLane n fun x => { x with cvlRxCtr := ctr }).dqBump n 7)

/-- Slots in the transmit queue of a lane; a frame of a PARTNER = 0 port takes one place (log entry 19). -/
def Lane.cvlUsed (l : Lane) : Nat :=
  sumNat (l.cvlTx.map fun m => m.length + (match m with | h :: _ => if cvlUntagged (getField h 63 56) then 0 else 1 | [] => 0)) +
    l.cvlFrames.length
/-- A message enters the transmit queue. -/
def State.cvlPush (s : State) (n : Nat) (m : List Word) : State := s.modLane n fun x => { x with cvlTx := x.cvlTx ++ [m] }

/-- An entry for the firmware receive queue of a lane's DQ page (R157): 64 entries are kept. -/
def State.cvlFirmware (s : State) (n type : Nat) (pay : List Word) : State :=
  let d := laneDram n
  let q := cget {} s.fab.cvlRx d
  let s :=
    if 64 ≤ q.items.length then { s with fab := { s.fab with cvlRx := cput {} { q with lost := true } d s.fab.cvlRx } }
    else { s with fab := { s.fab with cvlRx := cput {} { q with items := q.items ++ [⟨n % 16, type, pay.length, pay, false⟩] } d s.fab.cvlRx } }
  s.irq (dqPage n) 0

/-- CREDIT: slots return to this sender (R148). -/
def execCvlCreditRx (n ctr : Nat) (pay : List Word) (tag : Word) (s : State) : Outcome :=
  done (s.cvlReceive n 1 1 1 ctr pay tag fun s => s.modLane n fun x => { x with cvlCredits := x.cvlCredits + getField (nth 0 pay 0) 15 0 })
/-- ECHO_REQ: answered with the same token. -/
def execCvlEchoReqRx (n : Nat) (pay : List Word) (s : State) : Outcome :=
  done (s.cvlReceive n 2 1 1 0 pay 0 fun s =>
    if (s.lane n).cvlUsed + 2 ≤ 256 then s.cvlPush n [cvlHeader 3 1 0, nth 0 pay 0] else s)
/-- ECHO_RSP: to the firmware receive queue. -/
def execCvlEchoRspRx (n : Nat) (pay : List Word) (s : State) : Outcome :=
  done (s.cvlReceive n 3 1 1 0 pay 0 fun s => s.cvlFirmware n 3 pay)
/-- The contexts whose SCI a quench names. -/
def State.sciContexts (s : State) (sci : Nat) : List Nat := s.validCtxs.filter fun i => (s.ctx i).rxSci = sci
/-- A quench of a context begins, or ends with `rate` none; the bucket is brought up to date under the old limiter first
(R133, R152). -/
def State.quenchCtx (s : State) (i : Nat) (q : Option (Nat × Nat)) : State :=
  s.modCtx i fun c =>
    let c := c.refill s.clk.tim
    match q with
    | none => ((c.setCtl 4 false).put 0x38 4 0).put 0x40 8 0
    | some (rate, stop) => ((c.setCtl 4 true).put 0x38 4 rate).put 0x40 8 stop
/-- A quench or a resume acts on every context with its SCI (R152). -/
def State.quenchAll (s : State) (n sci : Nat) (q : Option (Nat × Nat)) : State :=
  if s.fld (dqPort n) 9 9 = 0 then s
  else match s.sciContexts sci with
    | [] => s.errInfo (dqPage n) (n % 16) 0x208
    | l => (l.foldl (fun s i => s.quenchCtx i q) s).irq (dqPage n) 4
/-- QUENCH: rate in Mbit/s and duration in µs, 0 until RESUME. -/
def execCvlQuenchRx (n ctr : Nat) (pay : List Word) (tag : Word) (s : State) : Outcome :=
  done (s.cvlReceive n 4 2 2 ctr pay tag fun s =>
    let w := nth 0 pay 1
    let us := getField w 63 32
    s.quenchAll n (nth 0 pay 0).toNat (some (getField w 31 0, if us = 0 then 0 else s.clk.tim + us * 1000)))
/-- RESUME. -/
def execCvlResumeRx (n ctr : Nat) (pay : List Word) (tag : Word) (s : State) : Outcome :=
  done (s.cvlReceive n 5 1 1 ctr pay tag fun s => s.quenchAll n (nth 0 pay 0).toNat none)
/-- FIRMWARE: to the firmware receive queue. A message whose type Table 4.5 does not list is discarded and counted here
(R151). -/
def execCvlFirmwareRx (n type ctr : Nat) (pay : List Word) (tag : Word) (s : State) : Outcome :=
  done (
    if type = 6 then s.cvlReceive n 6 1 6 ctr pay tag fun s => s.cvlFirmware n 6 pay
    else if 6 < type then s.dqBump n 5 else s)
/-- A quench reaches the end of its duration. -/
def execQuenchExpiry (i : Nat) (s : State) : Outcome :=
  done (
    let c := s.ctx i
    let stop := c.fld 0x40 8
    if c.valid && c.quenched && decide (stop ≠ 0 ∧ stop ≤ s.clk.tim) then s.quenchCtx i none else s)

/-- DQ_CVL_TXDATA[k] of a dram. -/
def State.cvlTxData (s : State) (d k : Nat) : Nat := s.rd64 (ra tDQ d (0x2C8 + 8 * k))
/-- DQ_CVL_TXCMD with FRAME = 0: a message enters the transmit queue of its lane (R153). -/
def execCvlTxMessage (d : Nat) (v : Reg) (s : State) : Outcome :=
  done (s.pageWrite (pageNo tDQ d) fun s =>
    let n := 16 * d + getField v 3 0
    let type := getField v 23 16
    let np := min 6 (getField v 10 8)
    let m := cvlHeader type np 0 :: (List.range np).map fun k => BitVec.ofNat 64 (s.cvlTxData d k)
    if 256 < (s.lane n).cvlUsed + m.length + (if cvlUntagged type then 0 else 1) then s.dqStatus d 0x20A
    else (s.cvlPush n m).took (pageNo tDQ d))
/-- DQ_CVL_TXCMD with FRAME = 1: an Ethernet frame is read from host memory behind fence 261 in class DMA and enters the
transmit queue of a PARTNER = 0 lane (R153). -/
def execCvlTxFrame (d : Nat) (v : Reg) (s : State) : Outcome :=
  done (s.pageWrite (pageNo tDQ d) fun s =>
    let n := 16 * d + getField v 3 0
    let addr := s.cvlTxData d 0
    let len := s.cvlTxData d 1 % 2 ^ 14
    if len < 60 ∨ 16124 < len ∨ s.lnCfg n 7 ∨ !s.busMaster ∨ s.st.pcieReset then s.dqStatus d 0x20E
    else match s.fenceFail 261 clsDma accR addr len with
      | some a => (s.violation 261 clsDma accR a).dqStatus d 0x20E
      | none =>
        if 256 ≤ (s.lane n).cvlUsed then s.dqStatus d 0x20A
        else (s.modLane n fun x => { x with cvlFrames := x.cvlFrames ++ [s.bytes (spHost + addr) len] }).took (pageNo tDQ d))
/-- A write to DQ_CVL_KEY of a lane: the key is resolved and both counters become 0 (R150). -/
def execCvlKeyInstall (n : Nat) (v : Reg) (s : State) : Outcome :=
  done (s.rwlWrite (dqPage n) fun s =>
    let s := (s.wr (dqReg n (0x280 + 4 * (n % 16))) v).took (dqPage n)
    let (key, s) :=
      if v = 0 then ([], s)
      else match s.resolve (laneOunce n) v.toNat with
        | (.ok k, s) => (k.key, s)
        | (.error _, s) => ([], s)
    s.modLane n fun x => { x with cvlKey := key, cvlTxCtr := 0, cvlRxCtr := 0 })
/-- A read of DQ_CVL_RXSTAT presents and removes the oldest entry (R157). -/
def execCvlRxstatRead (d : Nat) (s : State) : Outcome :=
  done (
    if s.pageLive (pageNo tDQ d) then
      let q := cget {} s.fab.cvlRx d
      let ovf := 2 ^ 30 * b2n q.lost
      match q.items with
      | [] => { s with lastRead := BitVec.ofNat 64 0 }
      | e :: rest =>
        let s := { s with fab := { s.fab with cvlRx := cput {} { items := rest, lost := false } d s.fab.cvlRx } }
        let s := (List.range 6).foldl (fun s k => s.wr64 (ra tDQ d (0x700 + 8 * k)) (nth (0 : Word) e.data k).toNat) s
        { s with lastRead := BitVec.ofNat 64 (2 ^ 31 + ovf + e.lane * 2 ^ 16 + e.type * 2 ^ 8 + e.npay) }
    else { s with lastRead := 0 })

end Sys2Proof.Machine
end

