-- ==== Sys2Proof/Machine/HostCmds.lean ====
section
/-!
DEFINITION. The host interface and the mailboxes (chapter 13): resets, vectors, DMA rings, frames to and from the host,
and mailbox accesses by the host and by custody.
-/
namespace Sys2Proof.Machine

/-! ### Resets and vectors (R450–R453) -/

/-- The host interface is reset (R450); `down` is true while the reset lasts (link down, PERST#), false for an FLR or a hot
reset, which end at once. -/
def State.hostReset (s : State) (down : Bool) : State :=
  let s := (List.range 256).foldl (fun s r => s.setFld (rgReg r 8) 0 0 0) s
  let frames := s.hi.rx.flatMap fun e => e.2.map (·.frame)
  let s := frames.foldl (fun s n => s.endFrame n) s
  let s := { s with hi := { s.hi with rx := [], tx := [], modWait := [], hdrLog := none } }
  let s := { s with regs := tdrop (fun a => bar4 ≤ a) s.regs }
  let s := s.setFld (ra tHI 0 0x100) 9 9 0
  let s := if down then ({ s with st := { s.st with pcieReset := true } }).setFld (ra tHI 0 0x100) 8 0 0 else s
  let s := (List.range 8).foldl (fun s i =>
    if (s.mbox (8 + i)).full then s.mbDoTake (8 + i) else s) s
  (s.rawSet hiPage 2).endGrant

/-- A reset of the host interface: FLR, hot reset, link down or PERST# (R450). -/
def execPcieReset (down : Bool) (s : State) : Outcome := done (s.hostReset down)

/-- PERST# is deasserted or the link returns with a width and a speed (R450); the interface is ready for enumeration. -/
def execPcieResetEnd (width speed : Nat) (s : State) : Outcome :=
  done (
    if s.st.pcieReset then
      ({ s with st := { s.st with pcieReset := false } }).setFld (ra tHI 0 0x100) 8 0 (width % 32 + 32 * (speed % 8) + 256)
    else s)

/-- Whether the condition of a vector still holds (Table 13.3, R453). -/
def State.vectorHolds (s : State) (v : Nat) : Bool :=
  if v < 256 then true
  else if v < 264 then !(s.mbox (v - 256)).full
  else if v < 272 then (s.mbox (v - 256)).full
  else if v < 768 then false
  else
    let t := (v - 768) / 72 + 1
    let i := (v - 768) % 72
    decide (i < pageCount t) && s.irqOut (pageNo t i) != 0

/-- A pending vector that is not masked is sent if its condition still holds (R451, R453). -/
def State.flushVector (s : State) (v : Nat) : State :=
  let a := bar4 + 0x8000 + 4 * (v / 32)
  if s.fld a (v % 32) (v % 32) = 1 && s.busMaster && s.fld (bar4 + 16 * v + 12) 0 0 = 0 then
    let s := s.setPending v 0
    if s.vectorHolds v then s.sendVector v else s
  else s

/-- The mask bit of a vector is cleared. -/
def execMsixUnmask (v : Nat) (s : State) : Outcome :=
  done (if v < 2048 then (s.setFld (bar4 + 16 * v + 12) 0 0 0).flushVector v else s)

/-- A write to the Command register of the configuration space: Bus Master Enable is bit 2 (R451); setting it releases the
pending vectors that are not masked. -/
def State.writeCommand (s : State) (v : Reg) : State :=
  let s := (s.wr (cfgSpace + 4) (v &&& 0x0547)).setFld (ra tHI 0 0x100) 9 9 (getField v 2 2)
  if bitAt v 2 then (List.range 2048).foldl (fun s v => s.flushVector v) s else s

/-! ### Rings (R454, R460, R469) -/

/-- A write to RG_PROD: discarded when it runs beyond the ring. -/
def execRgProdWrite (r : Nat) (v : Reg) (s : State) : Outcome :=
  done (
    if s.rgSize r < (getField v 15 0 + 65536 - s.rgCons r) % 65536 then s.rgRefuse r 0xA16
    else s.wrn (rgReg r 0xC) (getField v 15 0))

/-- A write to RG_CFG is refused: a change of SIZE or BUFSZ while EN is 1, or a value out of range (R469). -/
def State.rgCfgBad (s : State) (r : Nat) (v : Reg) : Bool :=
  let old := s.rd (rgReg r 8)
  let buf := getField v 23 16
  (bitAt old 0 && (getField v 7 4 != getField old 7 4 || buf != getField old 23 16)) || decide (getField v 7 4 < 4) ||
    (if r < 128 then decide (buf ≠ 0) else decide (buf = 0 ∨ 64 < buf))

/-- A write to RG_CFG; CLR_CNT clears the counters of the ring. -/
def execRgCfgWrite (r : Nat) (v : Reg) (s : State) : Outcome :=
  done (
    if s.rgCfgBad r v then s.rgRefuse r 0xA16
    else
      let s := s.wr (rgReg r 8) (v &&& 0x00FFFFF1)
      if bitAt v 31 then ((s.wr64 (rgReg r 0x18) 0).wr64 (rgReg r 0x20) 0).wr64 (rgReg r 0x28) 0 else s)

/-- A write to half `h` of RG_BASE: refused while EN is 1 when it changes it (R469); the base is 4 KiB aligned. -/
def State.writeRgBase (s : State) (r h : Nat) (v : Reg) : State :=
  let w := if h = 0 then v &&& 0xFFFFF000 else v
  if s.rgOn r && decide (w ≠ s.rd (rgReg r (4 * h))) then s.rgRefuse r 0xA16 else s.wr (rgReg r (4 * h)) w

/-- IMOD of a ring has elapsed: the vector that waits is sent (R460). -/
def execRingIrqModeration (r : Nat) (s : State) : Outcome :=
  done (if s.hi.modWait.contains r then s.rgVector r else s)

/-! ### Transmit (R455, R456) -/

/-- Whether the host engines may issue requests: Bus Master Enable, no reset of the link (R450, R451), and no LOCK. -/
def State.hostDma (s : State) : Bool := s.busMaster && !s.st.pcieReset && !s.lockInForce
/-- A transmit ring has a pending descriptor that is not yet taken. -/
def State.txReady (s : State) (r : Nat) : Bool :=
  s.rgOn r && decide ((s.hi.tx.filter (·.ring = r)).length < s.rgPending r)

/-- The transmit engine takes the next descriptor in rotation, when the buffer has room for its frame; none before port
open (R502). -/
def execTxDescriptorTake (s : State) : Outcome :=
  done (
    if !s.hostDma || !s.portsOpen then s
    else match (List.range 128).find? fun i => s.txReady ((s.hi.txTurn + 1 + i) % 128) with
      | none => s
      | some i =>
        let r := (s.hi.txTurn + 1 + i) % 128
        let d := s.bytes (s.rgDesc r (s.rgCons r + (s.hi.tx.filter (·.ring = r)).length)) 32
        if 2 ^ 19 < s.txRoomUsed + ofLe (sliceBytes d 8 2) then s
        else { s with hi := { s.hi with tx := s.hi.tx ++ [{ ring := r, desc := d }], txTurn := r } })

/-- A field of a descriptor. -/
def descField (d : List Byte) (o n : Nat) : Nat := ofLe (sliceBytes d o n)
/-- The descriptor is malformed (Table 13.5, row 1). -/
def txMalformed (d : List Byte) : Bool :=
  decide (descField d 8 2 < 60 ∨ 16124 < descField d 8 2) || decide (32 ≤ descField d 0xA 1) || decide (4 ≤ descField d 0xB 1) ||
    decide (descField d 0xE 2 ≠ 0) || decide (descField d 0x14 4 ≠ 0) || decide (2 ^ 17 ≤ descField d 0x10 4) ||
    ((descField d 0xB 1).testBit 0 && decide (1024 ≤ descField d 0xC 2))

/-- A frame of the host enters the fabric of ounce 1 (Table 13.5, rows 4 and 5). -/
def State.hostFrame (s : State) (r : Nat) (d frame : List Byte) : State :=
  let dmac := frame.take 6
  let body := frame.drop 12
  let cls := descField d 0xA 1 % 32
  let port : Option Nat :=
    if (descField d 0xB 1).testBit 0 then (if s.portConfigured (descField d 0xC 2) then some (descField d 0xC 2) else none)
    else match s.ftLookup 1 (lookupKey dmac body) with
      | some e => if e.port < 1024 then some e.port else none
      | none => none
  match port with
  | none => s.txComplete r 0xA11
  | some p =>
    if s.congested 1 p cls then s.txComplete r 0xA12
    else
      (s.newFrame { src := 1024, trust := .pass, known := .pass, ended := 1, endNoted := true, committed := true, fwd := true, dmac := dmac,
                    smac := sliceBytes frame 6 6, body := body, cls := cls, place := .noticed (queueOf p cls),
                    rxTime := s.clk.tim }).txComplete r 0

/-- The frame of the oldest descriptor of a transmit ring has been read, or its read failed: the checks of Table 13.5 in
order. A verdict message takes a parse context of ounce 1, and its descriptor completes with its envelope (R164, R456). -/
def execTxFrameReadDone (r : Nat) (err : Bool) (s : State) : Outcome :=
  done (
    match s.hi.tx.find? (·.ring = r) with
    | none => s
    | some t =>
      let d := t.desc
      let frame := s.bytes (spHost + descField d 0 8) (descField d 8 2)
      if t.frame.isSome then s
      else if txMalformed d then s.txComplete r 0xA10
      else if err then s.txComplete r 0xA15
      else if ofBe (frame.take 6) = s.svcMac 1 then
        let c := descField d 0x10 4
        if s.fld (ozReg 1 0x800) 1 1 = 0 then (s.vmBump 1 4).txComplete r 0xA13
        else if !(descField d 0xB 1).testBit 1 || !(s.ctx c).valid || decide ((s.ctx c).port ≠ 1024) then s.txComplete r 0xA13
        else if 32 ≤ cget 0 s.fab.parseBusy 1 then s
        else
          let n := s.fab.nextFrame
          let s := { s with hi := { s.hi with tx := s.hi.tx.map fun (x : TxPull) => if x.ring = r ∧ x = t then { x with frame := some n } else x } }
          ((s.parseUse 1 true).vmBump 1 0).newFrame {
            src := 1024, trust := .pass, known := .pass, ended := 1, committed := true, dmac := frame.take 6, smac := sliceBytes frame 6 6,
            body := frame.drop 12, ctx := c, place := .parsing 1, isVerdict := true, rxTime := s.clk.tim }
      else s.hostFrame r d frame)

/-! ### Receive (R457–R460) -/

/-- Buffers a frame needs in its ring: for 16,128 bytes while its length is not known (R458). -/
def State.hostNeed (s : State) (r : Nat) (f : Frame) : Nat := buffersFor (if f.endNoted then (hostBytes f).length else 16128) (s.rgBuf r)
/-- The head of host class queue `c` may be pulled (R458). -/
def State.hostPullable (s : State) (c : Nat) : Option (Nat × Frame) :=
  match s.queue (32768 + c) with
  | [] => none
  | n :: _ =>
    match s.frame n with
    | none => none
    | some f =>
      let r := s.hostRing c
      let held := sumNat ((s.rgPulls r).map (·.count))
      if f.tag.isSome && s.rgOn r && decide ((s.rgPulls r).length < 8) && decide (0 < s.rgBuf r) &&
          decide (held + s.hostNeed r f ≤ s.rgPending r) && !s.linkIsDown f.ounce 1 then some (n, f) else none

/-- The head of a host class queue is pulled into its receive ring: the head with the least tag among those whose ring has
room (R142, R457, R458). -/
def execHostRxPull (s : State) : Outcome :=
  done (
    if !s.hostDma then s
    else match leastTag (fun f => f.cls) ((List.range 32).filterMap s.hostPullable) with
      | none => s
      | some (n, f) =>
        let q := queueOf 1024 f.cls
        let r := s.hostRing f.cls
        let need := s.hostNeed r f
        let s := s.setPulls r (s.rgPulls r ++ [{ frame := n, count := need }])
        let s := (s.modFrame n fun x => { x with place := .hostWrite r }).modLane 1024 fun x => { x with vclk := f.tag.getD x.vclk }
        (s.leaveQueue q n).newHead q)

/-- The oldest frame pulled into a receive ring has ended and its TRUST has resolved: its buffers are written and completed
in ring order, and the ring advances (R459, R460). -/
def execHostRxComplete (r : Nat) (s : State) : Outcome :=
  done (
    match s.rgPulls r with
    | [] => s
    | t :: rest =>
      match s.frame t.frame with
      | none => s.setPulls r rest
      | some _ =>
        let s := s.refreshBody t.frame
        match s.frame t.frame with
        | none => s
        | some f =>
          if !s.hostDma || decide (f.ended = 0) || decide (f.known = .pending) then s
          else
            let d := hostBytes f
            let s := fillBuffers r d.length (s.rgBuf r) f t.count d true s
            let s := ((s.rgCount r 0x18 1).rgCount r 0x20 d.length).setPulls r rest
            ((s.qBump (queueOf 1024 f.cls) 0 1).endFrame t.frame).rgVector r)

/-! ### Mailboxes (R461–R467) -/

/-- A write of the host or of custody to the window of a channel; the host reaches it while domain 72 is on. -/
def State.mbWrite (s : State) (cust : Bool) (ch r : Nat) (v : Reg) : State :=
  if cust then s.mbCustWrite ch r (leBytes 4 v.toNat)
  else if s.domOn 72 ∧ !s.st.pcieReset then s.mbHostWrite ch r (leBytes 4 v.toNat) else s

/-- The sender writes half-word `k` of the slot: MB_DATA[k / 2], LO or HI. -/
def execMbDataWrite (cust : Bool) (ch k : Nat) (v : Reg) (s : State) : Outcome :=
  done (if k < 32 then s.mbWrite cust ch (4 * k) v else s)
/-- The sender writes MB_SEND. -/
def execMbSend (cust : Bool) (ch : Nat) (v : Reg) (s : State) : Outcome := done (s.mbWrite cust ch 0x80 v)
/-- The receiver writes MB_TAKE. -/
def execMbTake (cust : Bool) (ch : Nat) (v : Reg) (s : State) : Outcome := done (s.mbWrite cust ch 0x88 v)
/-- Custody writes MB_ACK; the same write by the host is refused. -/
def execMbAck (cust : Bool) (ch : Nat) (v : Reg) (s : State) : Outcome := done (s.mbWrite cust ch 0x8C v)
/-- The sender writes 1 to MB_STAT.OVF. -/
def execMbOvfClear (ch : Nat) (s : State) : Outcome := done (s.mbWrite false ch 0x84 0x200)

/-- An endpoint names a core. -/
def endIsCore (e : Nat) : Bool := e < 128
/-- The endpoints of a channel agree with Table 13.8 (R467). -/
def endpointsOk (ch snd rcv : Nat) : Bool :=
  if ch < 8 then decide (snd = endHost) && endIsCore rcv
  else if ch < 16 then endIsCore snd && decide (rcv = endHost)
  else if ch < 48 then endIsCore snd && endIsCore rcv && decide (snd ≠ rcv)
  else if ch < 56 then decide (snd = endHost) || endIsCore snd
  else endIsCore rcv

/-- A write to MB_CH_CFG: refused while FULL and for endpoints that the channel cannot have. -/
def execMbChCfgWrite (ch : Nat) (v : Reg) (s : State) : Outcome :=
  done (
    if (s.mbox ch).full || !endpointsOk ch (getField v 9 0) (getField v 25 16) then s.status (ra tMB 0 0x200) 0xA04
    else
      let v := if 48 ≤ ch ∧ ch < 56 then setField v 25 16 endCust else if 56 ≤ ch then setField v 9 0 endCust else v
      (s.wr (mbCfg ch) (v &&& 0x83FF03FF)).took mbPage)

end Sys2Proof.Machine
end

