-- ==== Sys2Proof/Machine/PayCrypto.lean ====
section
/-!
DEFINITION. The computations of the payment functions: ISO 9797-1 MACs (Table 6.7), ISO 9564-1 PIN blocks (R204, R205),
AES DUKPT (R210), EMV key and cryptogram derivation (R211, R212) and X9.143 key derivation (R215). PRESUMED (log entry 4):
the spec names these standards and spells out only part of them.
-/
namespace Sys2Proof.Machine

/-! ### SHA-1, which EMV option B uses -/

/-- The message schedule of SHA-1, newest word first. -/
def sha1Schedule : Nat → List Nat → List Nat
  | 0, ws => ws
  | n + 1, ws => sha1Schedule n (shaRotr 32 (nth 0 ws 2 ^^^ nth 0 ws 7 ^^^ nth 0 ws 13 ^^^ nth 0 ws 15) 31 :: ws)

/-- One round of SHA-1. -/
def sha1Round (h : List Nat) (w : Nat × Nat) : List Nat :=
  let a := nth 0 h 0
  let b := nth 0 h 1
  let c := nth 0 h 2
  let d := nth 0 h 3
  let e := nth 0 h 4
  let f :=
    if w.2 < 20 then (b &&& c) ||| ((2 ^ 32 - 1 - b) &&& d)
    else if w.2 < 40 then b ^^^ c ^^^ d
    else if w.2 < 60 then (b &&& c) ||| (b &&& d) ||| (c &&& d) else b ^^^ c ^^^ d
  let k := if w.2 < 20 then 0x5A827999 else if w.2 < 40 then 0x6ED9EBA1 else if w.2 < 60 then 0x8F1BBCDC else 0xCA62C1D6
  [(shaRotr 32 a 27 + f + e + k + w.1) % 2 ^ 32, a, shaRotr 32 b 2, c, d]

/-- SHA-1. -/
def sha1 (m : List Byte) : List Byte :=
  let p := shaPad sha256Kind m
  ((shaBlocks 64 p.length p).foldl (fun h b =>
    let ws := (sha1Schedule 64 ((chunksOf 4 16 b).map ofBe).reverse).reverse
    (List.zipWith (fun x y => (x + y) % 2 ^ 32) h (ws.zipIdx.foldl sha1Round h)))
    [0x67452301, 0xEFCDAB89, 0x98BADCFE, 0x10325476, 0xC3D2E1F0]).flatMap (beBytes 4)

/-! ### ISO 9797-1 (R208) -/

/-- Padding methods 1 and 2. -/
def macPad (two : Bool) (m : List Byte) : List Byte :=
  let m := if two then m ++ [0x80] else m
  if m = [] then List.replicate 8 0 else m ++ List.replicate ((8 - m.length % 8) % 8) 0
/-- Algorithm 1: CBC-MAC with TDEA on every block. -/
def mac1 (key m : List Byte) (two : Bool) : List Byte := cbcMac 8 (tdeaEncrypt key) (macPad two m)
/-- Algorithm 3: CBC with single DES, then decipher and encipher. -/
def mac3 (key m : List Byte) (two : Bool) : List Byte :=
  let a := key.take 8
  desEncrypt a (desDecrypt (sliceBytes key 8 8) (cbcMac 8 (desEncrypt a) (macPad two m)))

/-! ### Nibbles -/

/-- The nibbles of a list of bytes, high nibble first. -/
def nibs (b : List Byte) : List Nat := b.flatMap fun x => [x.toNat / 16, x.toNat % 16]
/-- The bytes of a list of nibbles. -/
def fromNibbles : List Nat → List Byte
  | a :: b :: r => BitVec.ofNat 8 (a * 16 + b) :: fromNibbles r
  | [a] => [BitVec.ofNat 8 (a * 16)]
  | [] => []
/-- `l` padded on the left with zeros to `n` nibbles, or its rightmost `n`. -/
def rightmost (n : Nat) (l : List Nat) : List Nat := List.replicate (n - l.length) 0 ++ l.drop (l.length - n)

/-! ### PIN blocks (R204, R205) -/

/-- The PAN field of formats 0 and 3. -/
def panField0 (pan : List Nat) : List Byte := fromNibbles ([0, 0, 0, 0] ++ rightmost 12 pan.dropLast)
/-- The PAN field of format 4. -/
def panField4 (pan : List Nat) : List Byte :=
  let f := (pan.length - 12) :: rightmost (max 12 pan.length) pan
  fromNibbles (f ++ List.replicate (32 - f.length) 0)
/-- The PIN digits of a deciphered PIN field of 16 nibbles in format `f`, none where R205 calls the block invalid. -/
def pinDigits (f : Nat) (x : List Nat) : Option (List Nat) :=
  let n := nth 0 x 1
  let pin := (x.drop 2).take n
  let fill := (x.drop (2 + n)).take (14 - n)
  if nth 0 x 0 ≠ f ∨ n < 4 ∨ 12 < n ∨ pin.any (9 < ·) then none
  else if f = 0 ∧ fill.any (· ≠ 15) then none
  else if f = 3 ∧ fill.any (· < 10) then none
  else if f = 4 ∧ fill.any (· ≠ 10) then none
  else some pin
/-- The PIN of a source block. -/
def pinDecode (f : Nat) (key block : List Byte) (pan : List Nat) : Option (List Nat) :=
  let clear :=
    if f = 4 then aesDecrypt key (xorBytes (aesDecrypt key block) (panField4 pan))
    else if f = 1 then tdeaDecrypt key (block.take 8)
    else xorBytes (tdeaDecrypt key (block.take 8)) (panField0 pan)
  pinDigits f ((nibs clear).take 16)
/-- The destination block; `r` is 16 random bytes. Format 3 takes each fill nibble from 0xA to 0xF. -/
def pinEncode (f : Nat) (key : List Byte) (pan pin : List Nat) (r : List Byte) : List Byte :=
  let rn := nibs r
  let fill (g : Nat → Nat) : List Nat := (List.range (14 - pin.length)).map fun i => g (nth 0 rn i)
  let field (g : Nat → Nat) : List Byte := fromNibbles ([f, pin.length] ++ pin ++ fill g)
  if f = 4 then aesEncrypt key (xorBytes (aesEncrypt key (field (fun _ => 10) ++ r.drop 8)) (panField4 pan))
  else if f = 1 then tdeaEncrypt key (field fun x => x)
  else if f = 3 then tdeaEncrypt key (xorBytes (field fun x => 10 + x % 6) (panField0 pan))
  else tdeaEncrypt key (xorBytes (field fun _ => 15) (panField0 pan))

/-! ### AES DUKPT (R210, ANSI X9.24-3) -/

/-- Bytes of a key type 0–7 (Table 6.8). -/
def dukptLen (t : Nat) : Nat := nth 0 [16, 24, 16, 24, 32, 16, 24, 32] t
/-- Derivation data. -/
def dukptData (usage type : Nat) (tail : List Byte) : List Byte :=
  [1, 1] ++ beBytes 2 usage ++ beBytes 2 type ++ beBytes 2 (8 * dukptLen type) ++ tail
/-- Derive a key of a type. -/
def dukptKey (key : List Byte) (type : Nat) (data : List Byte) : List Byte :=
  ((List.range ((dukptLen type + 15) / 16)).flatMap fun i =>
    aesEncrypt key (spliceBytes data 1 [BitVec.ofNat 8 (i + 1)])).take (dukptLen type)
/-- The type of an AES key by its length. -/
def aesType (key : List Byte) : Nat := if key.length = 16 then 2 else if key.length = 24 then 3 else 4
/-- The key usage indicators of Table 6.9. -/
def dukptUsage (w : Nat) : Nat := nth 0 [0x1000, 0x2000, 0x2001, 0x2002, 0x3000, 0x3001, 0x3002, 0x0002] w
/-- The working key (R210). -/
def dukptDerive (key : List Byte) (isIk : Bool) (ksn : List Byte) (wuse wtype : Nat) : List Byte :=
  let id := ksn.take 8
  let ctr := ofBe (ksn.drop 8)
  let t := aesType key
  let ik := if isIk then key else dukptKey key t (dukptData 0x8001 t id)
  let last := (List.range 32).foldl (fun (p : List Byte × Nat) i =>
    let b := 31 - i
    if ctr.testBit b then
      let c := p.2 + 2 ^ b
      (dukptKey p.1 t (dukptData 0x8000 t (id.drop 4 ++ beBytes 4 c)), c)
    else p) (ik, 0)
  dukptKey last.1 wtype (dukptData (dukptUsage wuse) wtype (id.drop 4 ++ beBytes 4 ctr))

/-! ### EMV (R211, R212) -/

/-- Sixteen decimal digits from a hash (option B): its decimal digits first, then its letters as 0 to 5. -/
def decimalise (h : List Byte) : List Nat :=
  let n := nibs h
  ((n.filter (· < 10)) ++ ((n.filter (9 < ·)).map (· - 10))).take 16
/-- Eight bytes with every bit inverted. -/
def invBytes (b : List Byte) : List Byte := b.map (~~~ ·)
/-- The card master key (R211). -/
def emvMaster (key : List Byte) (aes forceA : Bool) (pan : List Nat) (psn : Nat) : List Byte :=
  let digits := pan ++ [psn / 16, psn % 16]
  if aes then
    let y := fromNibbles (rightmost 32 digits)
    (aesEncrypt key y ++ (if key.length = 16 then [] else aesEncrypt key (invBytes y))).take key.length
  else
    let y :=
      if pan.length ≤ 16 ∨ forceA then fromNibbles (rightmost 16 digits)
      else
        let d := if digits.length % 2 = 1 then 0 :: digits else digits
        fromNibbles (decimalise (sha1 (fromNibbles d)))
    tdeaEncrypt key y ++ tdeaEncrypt key (invBytes y)
/-- The session key (common session-key derivation). -/
def emvSession (mk : List Byte) (aes : Bool) (atc : List Byte) : List Byte :=
  let r (b : Nat) (n : Nat) : List Byte := padTo n (atc ++ [BitVec.ofNat 8 b])
  if aes then
    if mk.length = 16 then aesEncrypt mk (r 0 16)
    else (aesEncrypt mk (r 0xF0 16) ++ aesEncrypt mk (r 0x0F 16)).take mk.length
  else tdeaEncrypt mk (r 0xF0 8) ++ tdeaEncrypt mk (r 0x0F 8)
/-- The ARQC (R211). -/
def emvArqc (sk : List Byte) (aes two : Bool) (m : List Byte) : List Byte :=
  if aes then (aesCmac sk m).take 8 else mac3 sk m two
/-- The ARPC (R212). -/
def emvArpc (sk : List Byte) (aes : Bool) (method : Nat) (arqc arc csu prop : List Byte) : List Byte :=
  if method = 1 then
    let x := xorBytes arqc (arc ++ List.replicate 6 0)
    if aes then (aesEncrypt sk (x ++ List.replicate 8 0)).take 8 else tdeaEncrypt sk x
  else if method = 2 then (emvArqc sk aes true (arqc ++ csu ++ prop)).take 4
  else []

/-! ### X9.143 (R215) -/

/-- The KBPK's derived key: `usage` 0 for encryption, 1 for the MAC. -/
def kbDerive (aes : Bool) (kbpk : List Byte) (usage : Nat) : List Byte :=
  let n := kbpk.length
  let b := if aes then 16 else 8
  let alg := if aes then aesType kbpk else if n = 16 then 0 else 1
  ((List.range ((n + b - 1) / b)).flatMap fun i =>
    cmac b (if aes then aesEncrypt kbpk else tdeaEncrypt kbpk)
      (beBytes 1 (i + 1) ++ beBytes 2 usage ++ [0] ++ beBytes 2 alg ++ beBytes 2 (8 * n))).take n
/-- The MAC of a key block over its header and the clear key field. -/
def kbMac (aes : Bool) (kbpk m : List Byte) : List Byte :=
  let k := kbDerive aes kbpk 1
  if aes then aesCmac k m else tdeaCmac k m
/-- Encrypt or decrypt the key field, the MAC being the initial vector. -/
def kbCrypt (aes enc : Bool) (kbpk mac m : List Byte) : List Byte :=
  let k := kbDerive aes kbpk 0
  let b := if aes then 16 else 8
  if enc then cbcEncrypt b (if aes then aesEncrypt k else tdeaEncrypt k) mac m
  else cbcDecrypt b (if aes then aesDecrypt k else tdeaDecrypt k) mac m
/-- The check value of a key (R210) by its algorithm letter. -/
def checkValue (alg : Nat) (key : List Byte) : List Byte :=
  if alg = 0x54 then (tdeaEncrypt key (List.replicate 8 0)).take 3 else (aesCmac key (List.replicate 16 0)).take 5

/-- The value of an upper- or lower-case hexadecimal character. -/
def hexVal (c : Byte) : Option Nat :=
  let n := c.toNat
  if 48 ≤ n ∧ n ≤ 57 then some (n - 48) else if 65 ≤ n ∧ n ≤ 70 then some (n - 55) else if 97 ≤ n ∧ n ≤ 102 then some (n - 87) else none
/-- The bytes that pairs of hexadecimal characters spell. -/
def unhex : List Byte → Option (List Byte)
  | a :: b :: r =>
    match hexVal a, hexVal b, unhex r with
    | some x, some y, some t => some (BitVec.ofNat 8 (16 * x + y) :: t)
    | _, _, _ => none
  | [] => some []
  | [_] => none
/-- A hexadecimal digit as an upper-case character. -/
def hexChar (n : Nat) : Byte := BitVec.ofNat 8 (if n < 10 then 48 + n else 55 + n)
/-- Upper-case hexadecimal text. -/
def hexText (b : List Byte) : List Byte := (nibs b).map hexChar
/-- `n` decimal digits of a number as text. -/
def decText : Nat → Nat → List Byte
  | 0, _ => []
  | n + 1, v => decText n (v / 10) ++ [BitVec.ofNat 8 (48 + v % 10)]
/-- The number decimal characters spell. -/
def decVal (b : List Byte) : Option Nat :=
  b.foldl (fun a c => match a with | none => none | some n => if 48 ≤ c.toNat ∧ c.toNat ≤ 57 then some (10 * n + (c.toNat - 48)) else none)
    (some 0)
/-- The text of a string. -/
def asciiText (s : String) : List Byte := s.toList.map fun c => BitVec.ofNat 8 c.toNat

/-- The parsed header of a key block: usage, algorithm, mode, KVN, exportability, context, and the optional blocks. -/
structure KbHead where
  len : Nat := 0
  attr : List Byte := []
  opts : List (List Byte × List Byte) := []
deriving DecidableEq, Repr

/-- Read `n` optional blocks from text at the front of `b`: the blocks and the length read; none where one is malformed or
unknown (R215). -/
def kbOptions : Nat → List Byte → Option (List (List Byte × List Byte) × Nat)
  | 0, _ => some ([], 0)
  | n + 1, b =>
    match unhex (sliceBytes b 2 2) with
    | some [l] =>
      let id := b.take 2
      if l.toNat < 4 ∨ b.length < l.toNat ∨ !([asciiText "KS", asciiText "KC", asciiText "KP", asciiText "TS", asciiText "PB"].contains id)
      then none
      else match kbOptions n (b.drop l.toNat) with
        | none => none
        | some (r, k) => some ((id, sliceBytes b 4 (l.toNat - 4)) :: r, k + l.toNat)
    | _ => none

/-- Usages of R215. -/
def kbUsages : List (List Byte) :=
  [asciiText "P0", asciiText "M1", asciiText "M3", asciiText "M6", asciiText "M7", asciiText "B0", asciiText "B1", asciiText "E0",
   asciiText "D0", asciiText "K1", asciiText "K0"]

/-- The header of a key block of version `ver` and length `n`, its usage, algorithm, mode and exportability within the given
values (R215, R216, R342); none where it is refused. -/
def kbHeaderOf (usages : List (List Byte)) (algs modes exps : List Byte) (ver n : Nat) (b : List Byte) : Option KbHead :=
  let c (i : Nat) : Nat := (nth 0 b i).toNat
  match decVal (sliceBytes b 1 4), decVal (sliceBytes b 12 2) with
  | some len, some cnt =>
    if c 0 ≠ ver ∨ len ≠ n ∨ b.length ≠ n ∨ !usages.contains (sliceBytes b 5 2) ∨ !algs.contains (nth 0 b 7) ∨
        !modes.contains (nth 0 b 8) ∨ !exps.contains (nth 0 b 11) ∨ 9 < cnt ∨
        !(asciiText "012").contains (nth 0 b 14) ∨ c 15 ≠ 48 then none
    else match kbOptions cnt (b.drop 16) with
      | none => none
      | some (opts, k) =>
        if (16 + k) % (if ver = 0x44 then 16 else 8) ≠ 0 then none
        else some { len := 16 + k, opts := opts,
                    attr := sliceBytes b 5 4 ++ sliceBytes b 9 2 ++ [nth 0 b 11, nth 0 b 14] }
  | _, _ => none
/-- The header of a symmetric key block (R215). -/
def kbHeader (ver n : Nat) (b : List Byte) : Option KbHead :=
  kbHeaderOf kbUsages (asciiText "TAH") (asciiText "BCDEGNVX") (asciiText "ENS") ver n b

/-- The key field of a whole key block whose MAC agrees and whose length field suits: `okLen` judges the length in bytes. -/
def kbField (kbpk b : List Byte) (h : KbHead) (okLen : Nat → Bool) : Option (List Byte) :=
  let aes := nth 0 b 0 = 0x44
  let bs := if aes then 16 else 8
  let macText := b.drop (b.length - 2 * bs)
  let keyText := (b.take (b.length - 2 * bs)).drop h.len
  match unhex keyText, unhex macText with
  | some ct, some mac =>
    if ct = [] ∨ ct.length % bs ≠ 0 ∨ b.length < h.len + 4 * bs then none
    else
      let clear := kbCrypt aes false kbpk mac ct
      let bits := ofBe (clear.take 2)
      let n := bits / 8
      if kbMac aes kbpk (b.take h.len ++ clear) ≠ mac ∨ bits % 8 ≠ 0 ∨ !okLen n ∨ clear.length < 2 + n then none
      else some (sliceBytes clear 2 n)
  | _, _ => none
/-- The key of a symmetric key block under its KBPK (R216): none for every failure after the start. -/
def kbOpen (kbpk b : List Byte) (h : KbHead) : Option (List Byte) :=
  let alg := (nth 0 h.attr 2).toNat
  let okLen (n : Nat) : Bool :=
    if alg = 0x54 then n = 16 ∨ n = 24 else if alg = 0x41 then n = 16 ∨ n = 24 ∨ n = 32 else 16 ≤ n ∧ n ≤ 64
  match kbField kbpk b h okLen with
  | none => none
  | some key =>
    let want := (if alg = 0x54 then asciiText "00" else asciiText "01") ++ hexText (checkValue alg key)
    if h.opts.all fun o => decide (o.1 ≠ asciiText "KC") || decide (o.2 = want) then some key else none

/-- A key block (R217): `opts` is the text of the optional blocks and `rnd` the random bytes behind the key. -/
def kbSeal (aes : Bool) (kbpk attr kvn opts key rnd : List Byte) (cnt : Nat) : List Byte :=
  let bs := if aes then 16 else 8
  let alg := (nth 0 attr 2).toNat
  let most := if alg = 0x54 then 24 else if alg = 0x41 then 32 else 64
  let clearLen := (2 + most + bs - 1) / bs * bs
  let clear := (beBytes 2 (8 * key.length) ++ key ++ rnd).take clearLen
  let total := 16 + opts.length + 2 * clearLen + 2 * bs
  let head := (if aes then [0x44] else [0x42]) ++ decText 4 total ++ attr.take 4 ++ kvn ++ [nth 0 attr 6] ++ decText 2 cnt ++
    [nth 0 attr 7, 48] ++ opts
  let mac := kbMac aes kbpk (head ++ clear)
  head ++ hexText (kbCrypt aes true kbpk mac clear) ++ hexText mac

end Sys2Proof.Machine
end

