-- ==== Sys2Proof/Machine/PkOps.lean ====
section
/-!
DEFINITION. The public-key engines: engines in service, descriptors and their checks, key blobs, and the completion of an
operation (chapter 10, R330–R360).
-/
namespace Sys2Proof.Machine

/-- A register of the PK page of an ounce. -/
def pkReg (o off : Nat) : Nat := ra tPK o off
/-- The PK page of an ounce. -/
def pkPage (o : Nat) : Nat := pageNo tPK o
/-- A counter of the PK page: 0 OPS, 1 INVALID, 2 VFAIL, 3 MISMATCH, 4 REFUSED, 5 SEALS, 6 ABORTED, 7 KAT_PASS. -/
def State.pkBump (s : State) (o k : Nat) : State := s.bump (pkPage o) k 0 1
/-- Register `off` of queue `q`. -/
def pkQ (o q off : Nat) : Nat := pkReg o (0x200 + 0x40 * q + off)

/-! ### Engines (R330, R348, R354, R357, R358) -/

/-- An engine is retired. -/
def State.pkRetired (s : State) (o e : Nat) : Bool := s.fld (pkReg o 0x108) e e = 1
/-- The engine that serves seals: engine 15, or the highest-numbered engine still in service (R354). -/
def State.sealEngine (s : State) (o : Nat) : Option Nat := (List.range 16).reverse.find? fun e => !s.pkRetired o e
/-- An engine is under test, or about to be. -/
def State.pkTesting (s : State) (o e : Nat) : Bool := s.pk.test.contains (o * 16 + e)
/-- A general engine in service: not retired, not serving seals, not under test. -/
def State.pkInService (s : State) (o e : Nat) : Bool :=
  decide (e < 15) && !s.pkRetired o e && decide (s.sealEngine o ≠ some e) && !s.pkTesting o e && s.domOn (68 + o)
/-- The general engines in service. -/
def State.pkEngines (s : State) (o : Nat) : List Nat := (List.range 15).filter fun e => s.pkInService o e
/-- An operation occupies an engine. -/
def State.pkBusy (s : State) (o e : Nat) : Bool :=
  s.pk.run.any fun x => decide (x.1 / 16 = o) && (decide (x.2.e1 = e) || decide (x.2.e2 = some e))
/-- The general engines that are free. -/
def State.pkFree (s : State) (o : Nat) : List Nat := (s.pkEngines o).filter fun e => !s.pkBusy o e
/-- The ounce is in INV (R348). -/
def State.pkInv (s : State) (o : Nat) : Bool :=
  s.fld (ra tGLB 0 0x204) 9 9 = 0 || decide ((s.pkEngines o).length < 2) || decide (s.fld (pkReg o 0x100) 1 1 = 1)
/-- No general engine of the ounce is left: all are retired but the one that serves seals (R358). -/
def State.pkNone (s : State) (o : Nat) : Bool := (List.range 15).all fun e => s.pkRetired o e || decide (s.sealEngine o = some e)

/-! ### Descriptors (Table 10.1) -/

/-- `n` bytes of a descriptor, little-endian. -/
def PkRun.f (x : PkRun) (o n : Nat) : Nat := ofLe (sliceBytes x.desc o n)
/-- FN. -/
def PkRun.fn (x : PkRun) : Nat := x.f 0 1
/-- FLAGS. -/
def PkRun.flags (x : PkRun) : Nat := x.f 1 1
/-- PAD of RSA, USE of PKGEN. -/
def PkRun.pad (x : PkRun) : Nat := natField x.flags 3 2
/-- Bytes of the digest of HASH. -/
def PkRun.hlen (x : PkRun) : Nat := nth 0 [32, 48, 64, 0] (natField x.flags 5 4)
/-- CURVE. -/
def PkRun.curve (x : PkRun) : Nat := x.f 3 1
/-- NBITS. -/
def PkRun.nbits (x : PkRun) : Nat := x.f 4 2
/-- ZONE. -/
def PkRun.zone (x : PkRun) : Nat := x.f 6 1 % 64
/-- Address Ai. -/
def PkRun.a (x : PkRun) (i : Nat) : Nat := x.f (0x10 + 8 * i) 8
/-- Length Li. -/
def PkRun.l (x : PkRun) (i : Nat) : Nat := x.f (0x30 + 4 * i) 4
/-- An operation runs on a named engine. -/
def PkRun.named (x : PkRun) : Bool := x.flags.testBit 0

/-- The operations: the operands a row of Table 10.3 uses, and whether it uses ZONE. -/
def pkShape (fn : Nat) : Option (List Nat × Bool) :=
  match fn with
  | 0x01 => some ([0, 1, 2, 3], false) | 0x10 => some ([0, 1, 2], false) | 0x11 => some ([0, 1, 3], true)
  | 0x12 => some ([0, 1, 3], false) | 0x13 => some ([0, 1, 3], true) | 0x20 => some ([0, 1, 2], false)
  | 0x21 => some ([0, 1, 3], true) | 0x22 => some ([0, 1, 3], true) | 0x30 => some ([0, 1, 2], false)
  | 0x31 => some ([0, 1, 3], true) | 0x32 => some ([0, 1, 3], true) | 0x40 => some ([2, 3], true)
  | 0x41 => some ([1, 3], true) | 0x42 => some ([0, 3], true)
  | _ => none
/-- The operands an operation writes: A3, and A2 of PKGEN. -/
def pkOutputs (fn : Nat) : List Nat := if fn = 0x40 then [2, 3] else [3]

/-- Memory space and fence of a space code: 0 HBM, 1 host memory, 2 the ounce's cluster memory. -/
def pkSpace (o sp : Nat) : Nat × Option Nat := if sp = 0 then (spHbm, some 260) else if sp = 1 then (spHost, none) else (spCluster o, some (256 + o))
/-- The first byte of a range that the PK class may not reach. -/
def State.pkFence (s : State) (o sp k a n : Nat) : Option Nat :=
  match (pkSpace o sp).2 with | none => none | some f => s.fenceFail f clsPk k a n
/-- Bytes read in class PK. -/
def State.pkRead (s : State) (o sp a n : Nat) : List Byte :=
  match (pkSpace o sp).2 with
  | none => s.bytes ((pkSpace o sp).1 + a) n
  | some f => s.fencedBytes (pkSpace o sp).1 f clsPk a n
/-- Bytes written in class PK, failing bytes unwritten (R335). -/
def State.pkWrite (s : State) (o sp a : Nat) (bs : List Byte) : State :=
  match (pkSpace o sp).2 with
  | none => s.setBytes ((pkSpace o sp).1 + a) bs
  | some f =>
    let t := fencedPut (pkSpace o sp).1 f clsPk bs a s
    match s.fenceFail f clsPk accW a bs.length with
    | none => t
    | some x => t.violation f clsPk accW x

/-- The operand range `i` lies in memory and passes the fences (Table 10.2, check 6). -/
def State.pkRangeFail (s : State) (o : Nat) (x : PkRun) (i : Nat) : Bool :=
  let sp := x.a i / 2 ^ 62
  let a := x.a i % 2 ^ 62
  let out := (pkOutputs x.fn).contains i
  (decide (sp = 0) && decide (48 * 2 ^ 30 < a + x.l i)) || (s.pkFence o sp (if out then accW else accR) a (x.l i)).isSome

/-- The checks of Table 10.2 in order: a status, or the KBPK of PK_IMPORT. -/
def State.pkChecks (s : State) (o : Nat) (x : PkRun) : Except Nat (List Byte) × State :=
  let rsa := 0x10 ≤ x.fn ∧ x.fn ≤ 0x13
  match pkShape x.fn with
  | none => (.error 0x507, s)
  | some (used, zoned) =>
    let unusedBad := (List.range 4).any fun i => !used.contains i && (decide (x.a i ≠ 0) || decide (x.l i ≠ 0))
    if 64 ≤ x.flags ∨ x.pad = 3 ∨ x.hlen = 0 ∨ 64 ≤ x.f 6 1 ∨ (x.fn ≠ 0x41 ∧ x.f 12 4 ≠ 0) ∨
        used.any (fun i => decide (1 < x.a i / 2 ^ 62)) ∨ unusedBad ∨
        (rsa ∧ (if x.fn < 0x12 then x.pad = 2 else x.pad ≠ 2)) ∨ (x.fn = 0x40 ∧ 1 ≤ x.curve ∧ x.curve ≤ 3 ∧ x.pad = 0) then (.error 0x507, s)
    else if s.pkNone o then (.error 0x508, s)
    else if x.named ∧ !s.pkInService o (x.f 2 1) then (.error 0x503, s)
    else if zoned ∧ !(s.rd64 (pkQ o x.q 0x20)).testBit x.zone then (.error 0x506, s)
    else if zoned ∧ !s.zoneServed x.zone then (.error 0x401, s)
    else
      let (k, s) : Except Nat (List Byte) × State :=
        if x.fn = 0x41 then
          match s.resolve o (x.f 12 4) with
          | (.error e, s) => (.error e, s)
          | (.ok k, s) =>
            if k.retired then (.error 0x406, s)
            else if handleZone (x.f 12 4) ≠ x.zone ∨ attrUsage k.attr ≠ usage2 'K' '1' ∨ attrAlg k.attr ≠ 0x41 then (.error 0x341, s)
            else (.ok k.key, s)
        else (.ok [], s)
      match k with
      | .error e => (.error e, s)
      | .ok k =>
        match used.find? fun i => s.pkRangeFail o x i with
        | none => (.ok k, s)
        | some i =>
          let sp := x.a i / 2 ^ 62
          let kind := if (pkOutputs x.fn).contains i then accW else accR
          match s.pkFence o sp kind (x.a i % 2 ^ 62) (x.l i) with
          | none => (.error 0x505, s)
          | some b => (.error 0x505, s.violation 260 clsPk kind b)

/-- An operation completes (R335): RLEN and STATUS, then DONE, the counters and QDONE. -/
def State.pkFinish (s : State) (o : Nat) (x : PkRun) (status rlen : Nat) : State :=
  let (base, _) := pkSpace o x.space
  let s := s.pkWrite o x.space (x.at_ - base + 8) (leBytes 2 status ++ leBytes 2 rlen)
  let s := s.pkWrite o x.space (x.at_ - base + 7) [1]
  let s := s.pkBump o 0
  let s := if status = 0x501 then s.pkBump o 1 else if status = 0x502 then s.pkBump o 2 else s
  let s := s.setFld (pkQ o x.q 0x18) 15 0 (s.fld (pkQ o x.q 0x18) 15 0 + 1)
  if x.flags.testBit 1 then s.irq (pkPage o) 0 else s

/-- The outcome of an operation is written (R335, R344–R346): its result, or zeros over all L3 bytes of A3. -/
def State.pkIssue (s : State) (o : Nat) (x : PkRun) (status : Nat) : State :=
  let used := match pkShape x.fn with | some (u, _) => u | none => []
  if used.contains 3 then
    let sp := x.a 3 / 2 ^ 62
    let a := x.a 3 % 2 ^ 62
    if status = 0 then
      let bad := (s.pkFence o sp accW a x.out.length).isSome ||
        (decide (x.fn = 0x40) && (s.pkFence o (x.a 2 / 2 ^ 62) accW (x.a 2 % 2 ^ 62) x.pub.length).isSome)
      let s := if x.fn = 0x40 then s.pkWrite o (x.a 2 / 2 ^ 62) (x.a 2 % 2 ^ 62) x.pub else s
      let s := s.pkWrite o sp a x.out
      if bad then s.pkFinish o x 0x505 0 else s.pkFinish o x 0 x.out.length
    else
      let bad := (s.pkFence o sp accW a (x.l 3)).isSome
      let s := if bad then s.pkWrite o sp a (List.replicate (x.l 3) 0) else s.zeroBytes ((pkSpace o sp).1 + a) (x.l 3)
      s.pkFinish o x (if bad then 0x505 else status) 0
  else s.pkFinish o x status 0

/-- Every running operation of an ounce ends because its domain powers down or the ounce is isolated (R360). -/
def State.pkAbort (s : State) (o : Nat) : State :=
  let mine := (s.pk.run.filter fun e => e.1 / 16 = o).map (·.2) ++ (s.pk.retry.filter fun e => e.1 = o).map (·.2)
  let s := { s with pk := { s.pk with run := s.pk.run.filter (fun e => e.1 / 16 != o), retry := s.pk.retry.filter (fun e => e.1 != o) } }
  mine.foldl (fun s x => (s.pkIssue o x 0x509).pkBump o 6) s

/-! ### Key blobs (Table 10.4, R340, R341) -/

/-- The private key of a blob: KIND, CURVE, NBITS, USE and the plaintext. -/
structure PkKey where
  kind : Nat := 0
  curve : Nat := 0
  nbits : Nat := 0
  use : Nat := 0
  text : List Byte := []
deriving DecidableEq, Repr

/-- CTLEN of a kind of key. -/
def blobText (kind curve nbits : Nat) : Nat :=
  if kind = 1 then 5 * (nbits / 16) + nbits / 8 + 4
  else if kind = 2 then (if curve = 1 then 97 else if curve = 2 then 145 else 199) else 64
/-- KIND of a CURVE. -/
def curveKind (c : Nat) : Nat := if c = 0 then 1 else if c ≤ 3 then 2 else c - 1
/-- The NIST curve of a CURVE. -/
def curveOf (c : Nat) : Curve := if c = 1 then p256 else if c = 2 then p384 else p521
/-- A new blob under the zone's current epoch and the GEN given. -/
def State.blobSeal (s : State) (z gen : Nat) (k : PkKey) : List Byte :=
  let e := (s.zone z).epoch
  let h := leBytes 1 1 ++ leBytes 1 k.kind ++ leBytes 1 k.curve ++ leBytes 1 k.use ++ leBytes 2 k.nbits ++ leBytes 1 z ++ [0] ++ leBytes 2 e ++
    [0, 0] ++ leBytes 4 k.text.length ++ leBytes 8 gen ++ List.replicate 8 0
  let (ct, tag) := gcmSeal (Config.pkBlobKey (s.kek z e)) (List.replicate 4 0 ++ leBytes 8 gen) h k.text
  h ++ ct ++ tag
/-- The private key of a blob that R341 allows for a zone, a curve, a modulus length and a set of uses. -/
def State.blobOpen (s : State) (b : List Byte) (z curve nbits uses : Nat) : Option PkKey :=
  let f (o n : Nat) : Nat := ofLe (sliceBytes b o n)
  let kind := curveKind curve
  let n := blobText kind curve nbits
  let e := f 8 2
  if f 0 1 = 1 ∧ f 1 1 = kind ∧ f 2 1 = curve ∧ f 4 2 = nbits ∧ f 3 1 < 8 ∧ f 3 1 &&& uses ≠ 0 ∧ f 6 1 = z ∧ f 7 1 = 0 ∧ f 0xA 2 = 0 ∧
      f 0xC 4 = n ∧ f 0x18 8 = 0 ∧ cget 0 s.vlt.bfloor z ≤ e ∧ e ≤ (s.zone z).epoch ∧ b.length = 48 + n then
    (gcmOpen (Config.pkBlobKey (s.kek z e)) (List.replicate 4 0 ++ sliceBytes b 0x10 8) (b.take 32) (sliceBytes b 32 n) (b.drop (32 + n))).map
      fun t => { kind := kind, curve := curve, nbits := nbits, use := f 3 1, text := t }
  else none

/-- The RSA parts of a blob's plaintext: p, q, dp, dq, qinv, n, e. -/
def rsaParts (k : PkKey) : List Nat :=
  let h := k.nbits / 16
  ((List.range 5).map fun i => ofBe (sliceBytes k.text (i * h) h)) ++
    [ofBe (sliceBytes k.text (5 * h) (2 * h)), ofBe (sliceBytes k.text (7 * h) 4)]
/-- The private RSA operation by the CRT (R338). -/
def rsaPrivate (k : PkKey) (m : Nat) : Nat :=
  let r := rsaParts k
  let p := nth 0 r 0
  let q := nth 0 r 1
  let m1 := modPow m (nth 0 r 2) p
  let m2 := modPow m (nth 0 r 3) q
  m2 + q * (nth 0 r 4 * modSub m1 m2 p % p)
/-- An RSA public key n ‖ e of NBITS that Table 10.5 allows. -/
def rsaPublic (nbits : Nat) (b : List Byte) : Option (Nat × Nat) :=
  let k := nbits / 8
  let n := ofBe (b.take k)
  let e := ofBe (b.drop k)
  if b.length = k + 4 ∧ n % 2 = 1 ∧ n.testBit (nbits - 1) ∧ e % 2 = 1 ∧ 3 ≤ e then some (n, e) else none
/-- d of a Weierstrass blob. -/
def PkKey.d (k : PkKey) : Nat := ofBe (k.text.take (curveOf k.curve).fw)

end Sys2Proof.Machine
end

