-- ==== Sys2Proof/Machine/JournalCmds.lean ====
section
/-!
DEFINITION. Commands of the journal: admission to a strand, export rings, seals and GENESIS (chapter 11, R364–R373, R401).
-/
namespace Sys2Proof.Machine

/-! ### Admission (R367) -/

/-- Held appends of a strand's verdicts that waited for room in its input queue take their place (R176, R367). -/
def State.refillStrand (s : State) (k : Nat) : State :=
  s.vp.verdicts.foldl (fun s e =>
    if e.2.trust = .pass ∧ e.2.held ≠ [] ∧ strandOf e.2.core = k then (drainHeld e.1 16 s).verdictEnd e.1 else s) s

/-- The oldest append of the input queue is admitted with a token of the bucket: one token per µs, at most 64 (R367). Its
chain value is computed, and its verdict may now be released. -/
def execStrandAdmit (k : Nat) (s : State) : Outcome :=
  done (
    let x := s.strand k
    let n := (s.clk.ns - x.tokT) / 1000
    let tokens := min 64 (x.tokens + n)
    match x.queue with
    | [] => s
    | a :: rest =>
      if tokens = 0 then s
      else
        let s := s.setStrand k { x with queue := rest, reserved := x.reserved - 1, tokens := tokens - 1, tokT := x.tokT + 1000 * n }
        ((s.chainEntry k a).commitFollow a.vid).refillStrand k)

/-! ### Export (R369, R370) -/

/-- Registers of export ring `r` of an ounce (Table 11.12): offset 0 JN_XBASE, 8 JN_XLOG2, 12 JN_XPROD, 16 JN_XCONS. -/
def jnX (o r off : Nat) : Nat := jnReg o (0x200 + 0x20 * r + off)
/-- The next entry an export ring would take: strand entries in SEQ order, those of a standby once their chain values are
checked, or the oldest seal record. -/
def State.nextExport (s : State) (o r : Nat) : Option (List Byte) :=
  if r < 4 then
    let x := s.strand (4 * o + r)
    if x.exported < (if s.asStandby then x.verified else x.seq) then some (s.bytes (s.entryAddr (4 * o + r) (x.exported + 1)) 256) else none
  else (cget {} s.jn.seals o).out.head?
/-- An entry is written to the host export ring `r` (0–3 strands, 4 seals) of ounce `o`, if the ring has room. -/
def execJournalExport (o r : Nat) (s : State) : Outcome :=
  done (
    match s.nextExport o r with
    | none => s
    | some b =>
      let prod := (s.rd (jnX o r 12)).toNat
      let used := (prod + 2 ^ 32 - (s.rd (jnX o r 16)).toNat) % 2 ^ 32
      let size := 2 ^ s.fld (jnX o r 8) 4 0
      if s.fld (jnReg o 0x100) 1 1 = 0 ∨ size ≤ used ∨ !s.busMaster then s
      else
        let s := s.setBytes (spHost + s.rd64 (jnX o r 0) + 256 * (prod % size)) b
        let s := ((s.wrn (jnX o r 12) (prod + 1)).jnBump o 4).irq (jnPage o) 0
        if r < 4 then
          let x := s.strand (4 * o + r)
          (s.setStrand (4 * o + r) { x with exported := x.exported + 1 }).ringLeave (4 * o + r)
        else
          let x := cget {} s.jn.seals o
          { s with jn := { s.jn with seals := cput {} { x with out := x.out.drop 1 } o s.jn.seals } })
/-- The host advances JN_XCONS; beyond JN_XPROD the write is ignored with 0x0608 (R401). -/
def execJnXconsWrite (o r : Nat) (v : Reg) (s : State) : Outcome :=
  done (
    let prod := (s.rd (jnX o r 12)).toNat
    let cons := (s.rd (jnX o r 16)).toNat
    if (v.toNat + 2 ^ 32 - cons) % 2 ^ 32 ≤ (prod + 2 ^ 32 - cons) % 2 ^ 32 then (s.wr (jnX o r 16) v).took (jnPage o)
    else s.status (jnReg o 0x104) 0x608)

/-! ### Seals (R371–R373) -/

/-- Seals of an ounce. -/
def State.sealOf (s : State) (o : Nat) : Seal := cget {} s.jn.seals o
/-- Write the seals of an ounce. -/
def State.setSeal (s : State) (o : Nat) (x : Seal) : State := { s with jn := { s.jn with seals := cput {} x o s.jn.seals } }
/-- Bytes 0x00 to 0x6F of a seal record (Table 11.3). -/
def sealHead (o flags no time status gen : Nat) (heads : List Nat) (prev : List Byte) : List Byte :=
  [1, 3] ++ beBytes 1 o ++ beBytes 1 flags ++ beBytes 8 no ++ beBytes 8 time ++ beBytes 2 status ++ [0, 0] ++ beBytes 4 gen ++ beBytes 4 0 ++
    heads.flatMap (beBytes 8) ++ prev
/-- A seal record. -/
def sealRec (head sig : List Byte) : List Byte := head ++ padTo 96 sig ++ List.replicate 48 0
/-- D of a seal record (R372). -/
def State.sealDigest (s : State) (head : List Byte) : List Byte :=
  let o := beAt head 2 1
  sha384 (head ++ (List.range 4).flatMap fun k => s.chainAt (4 * o + k) (beAt head (0x20 + 8 * k) 8))
/-- A seal of the ounce is triggered: it seals the heads now, or waits for the outstanding one (R371). A standby seals
nothing of its own (R380). -/
def State.sealTrigger (s : State) (o : Nat) : State :=
  let x := s.sealOf o
  if s.isStandby then s
  else if x.cur.isSome then s.setSeal o { x with waiting := true }
  else
    let heads := (List.range 4).map fun k => (s.strand (4 * o + k)).seq
    let head := sealHead o (b2n (s.pkInv o)) (x.no + 1) s.clk.tim 0 s.roleGen heads x.prev
    let d := sha384 (head ++ (List.range 4).flatMap fun k => s.headChain (4 * o + k))
    let s := (s.setSeal o { x with cur := some (head, d), retried := false, waiting := false, asked := false }).setFld (jnReg o 0x308) 16 16 1
    (List.range 4).foldl (fun s k => s.setStrand (4 * o + k) { s.strand (4 * o + k) with admitted := 0 }) s
/-- SEAL_US elapses, or a strand of the ounce has admitted 65,536 entries (R371). -/
def execSealTrigger (o : Nat) (s : State) : Outcome := done (if s.jnEnabled o then s.sealTrigger o else s)
/-- JN_CMD.SEAL_NOW; without a journal it is refused with 0x0601. -/
def execSealNow (o : Nat) (s : State) : Outcome :=
  done (if s.jnEnabled o then (s.sealTrigger o).took (jnPage o) else s.status (jnReg o 0x104) 0x601)
/-- The ounce is isolated or isolating (OZ_ISO_STAT). -/
def State.isoOunce (s : State) (o : Nat) : Bool := s.fld (ra tOZ o 0x104) 1 0 != 0
/-- The ounce whose seal engine signs for ounce `o`: its own, or for an isolated ounce that of o XOR 1 alone (R639). -/
def State.sealBy (s : State) (o : Nat) : Nat := if s.isoOunce o then o ^^^ 1 else o
/-- That engine is in service. -/
def State.sealAble (s : State) (o : Nat) : Bool := (s.sealEngine (s.sealBy o)).isSome && s.domOn (68 + s.sealBy o)
/-- The seal engine takes the digest of an ounce: not under LOCK, and not without an engine in service (R352, R354, R359). The
request of an isolated ounce whose neighbour cannot sign is taken, and fails (R639). -/
def execSealRequest (o : Nat) (s : State) : Outcome :=
  done (
    let x := s.sealOf o
    if x.cur.isSome ∧ !s.lockInForce ∧ (s.sealAble o ∨ s.isoOunce o) then s.setSeal o { x with asked := true } else s)
/-- The signature of a digest under the blob at PK_SEAL_BLOB (R352, R353). -/
def State.sealSign (s : State) (o : Nat) (d : List Byte) : Nat × List Byte × State :=
  let z := s.fld (pkReg o 0x148) 5 0
  let n := 48 + blobText 2 2 0
  match (if s.zoneServed z then s.blobOpen (s.bytes (spHbm + s.rd64 (pkReg o 0x140)) n) z 2 0 1 else none) with
  | none => (0x501, [], s)
  | some k =>
    let (extra, s) :=
      match s.draw (s.sealBy o) 3 with
      | (some b, s) => (b, s)
      | (none, s) => s.freeBytes 48
    match p384.sign k.d d extra with
    | some (r, t) => (0, beBytes 48 r ++ beBytes 48 t, s)
    | none => (0x504, [], s)
/-- A seal record is complete: it chains, is exported and mirrored (R372, R373). -/
def State.sealFinish (s : State) (o status : Nat) (head d sig : List Byte) : State :=
  let x := s.sealOf o
  let r := sealRec head sig
  let s := s.setSeal o { x with no := x.no + 1, prev := d, cur := none, retried := false, asked := false, out := x.out ++ [r] }
  let s := (s.setFld (jnReg o 0x308) 16 0 status).wr64 (jnReg o 0x300) (x.no + 1)
  let s := if s.hasStandby then { s with jn := { s.jn with mirror := s.jn.mirror ++ [.sealRec r] } } else s
  let s :=
    if status = 0 then (s.jnBump o 2).pkBump o 5
    else ((((s.jnBump o 3).status (jnReg o 0x104) 0x60F).irq (jnPage o) 3).irq (pkPage o) 4)
  if x.waiting then s.sealTrigger o else s
/-- A seal returns to its strand; `fault` tells that the engines disagreed, or the check failed, twice (R351). A failure is
asked for once more with the same D, and the second one gives a FAILED record, whose own D the next seal chains on. -/
def execSealComplete (o : Nat) (fault : Bool) (s : State) : Outcome :=
  done (
    let x := s.sealOf o
    match x.cur with
    | none => s
    | some (head, d) =>
      if !x.asked then s
      else
        let (code, sig, s) := if s.isoOunce o && !s.sealAble o then (0x508, [], s) else s.sealSign o d
        let code := if code = 0 ∧ fault then 0x504 else code
        if code = 0 then s.sealFinish o 0 head d sig
        else if !x.retried then s.setSeal o { x with retried := true, asked := false }
        else
          let head := spliceBytes (spliceBytes head 3 (beBytes 1 (beAt head 3 1 + 2))) 0x14 (beBytes 2 code)
          s.sealFinish o code head (s.sealDigest head) [])

/-! ### GENESIS (R401) -/

/-- JN_CMD.GENESIS: only with the verdict pipeline off and the device DETACHED or ACTIVE_ALONE. -/
def execGenesis (o : Nat) (s : State) : Outcome :=
  done (
    if (List.range 4).any s.vpOn ∨ 2 ≤ s.twState then s.status (jnReg o 0x104) 0x608
    else
      let id := s.rd64 (jnReg 0 0x110)
      let s := (List.range 16).foldl (fun s k =>
        s.setStrand k { s.strand k with seq := 0, chain := genesisChain id k, left := 0, exported := 0, uncommitted := [], verified := 0, toVerify := [], heads := [] }) s
      let s := (List.range 4).foldl (fun s i =>
        (s.setSeal i { s.sealOf i with no := 0, prev := List.replicate 48 0 }).wr64 (jnReg i 0x300) 0) s
      (s.markers 1 s.roleGen).took (jnPage o))

end Sys2Proof.Machine
end

