-- ==== Sys2Proof/Machine/NorCmds.lean ====
section
/-!
DEFINITION. Commands of the Noriolys links: frames received and sent, NAK and BOND (R73–R76, R378, R420).
-/
namespace Sys2Proof.Machine

/-- A frame that fails its tag, or has a type no table lists, is counted in BLOCK_ERR of the lane (R74, R75). -/
def State.blockErr (s : State) (n : Nat) : State := s.lnBump n 10 1
/-- The types a link carries: of Table 2.12 on the twin lanes, of Table 12.3 with NAK and CREDIT on a ring lane. -/
def linkType (i type : Nat) : Bool :=
  if i = 0 then (1 ≤ type && type ≤ 7) else 0x20 ≤ type && type ≤ 0x3F
/-- An accepted frame waits to be acted on. -/
def State.linkAccept (s : State) (i type flags seq : Nat) (payload : List Byte) : State :=
  s.modNlink i fun x => { x with inbox := x.inbox ++ [(type, flags, seq, payload)] }

/-- A frame arrives on lane 1024–1033 (R73–R75): its tag and its sequence number are checked, and it is accepted or
NAKed. NAK, CREDIT and BOND are outside the sequence; a HELLO is judged by its own rule (R416). -/
def execNoriolysFrameRx (n : Nat) (b : List Byte) (s : State) : Outcome :=
  done (
    let i := linkOfLane n
    let h := b.take 8
    let type := beAt h 0 1
    let flags := beAt h 1 1
    let len := beAt h 2 2
    let seq := beAt h 4 4
    let ct := sliceBytes b 8 len
    let tag := b.drop (8 + len)
    let whole := decide (b.length = 16 + len) && decide (len ≤ 4096) && decide (len % 8 = 0)
    if s.lnState n ≠ 4 then s
    else if i ≠ 0 ∧ type = 0x20 then (if whole then s.linkAccept i type flags seq b else s.blockErr n)
    else if (type = 0x10 ∨ type = 0x11 ∨ (i = 0 ∧ type = 0x12)) then
      if whole && (s.linkKeys i).any (fun k => Config.controlTag k h = tag) then
        (if type = 0x11 then s.modNlink i fun x => { x with credits := x.credits + seq % 2 ^ 16 } else s.linkAccept i type flags seq [])
      else (s.blockErr n).sendNak i
    else if !(if i = 0 then s.jn.link.up && !s.jn.link.lost else s.laneJoined (i - 1)) then s
    else
      let plain := if whole then (s.linkKeys i).findSome? fun k => norOpen k (s.linkIv i false seq) (retryHeader h false) ct tag else none
      match plain with
      | none => (s.blockErr n).sendNak i
      | some p =>
        let x := s.nlink i
        if seq ≠ x.rxSeq then s.sendNak i
        else
          let s := s.setNlink i { x with rxSeq := (seq + 1) % 2 ^ 32, rxHi := if i = 0 then x.rxHi + (seq + 1) / 2 ^ 32 else x.rxHi }
          if !linkType i type then s.blockErr n
          else if 0x2E ≤ type then s.crBump 4
          else s.linkAccept i type (flags % 2) seq p)

/-- A NAK (R75): the sender retransmits from the SEQ it names; a SEQ that has left the replay buffer takes the link down. -/
def execNakRx (i : Nat) (s : State) : Outcome :=
  done (
    match s.linkTake i [0x10] with
    | none => s
    | some ((_, _, seq, _), s) =>
      let x := s.nlink i
      if seq = x.txSeq then s
      else if x.replay.any (·.1 = seq) then s.setNlink i { x with resend := some seq }
      else if i = 0 then s.twinDown
      else s.linkLoss (1031 + i))

/-- A BOND frame tells which twin lanes the partner has UP (R76). -/
def execBondRx (s : State) : Outcome :=
  done (
    match s.linkTake 0 [0x12] with
    | none => s
    | some ((_, _, seq, _), s) => { s with jn := { s.jn with link := { s.jn.link with peer := seq % 256 } } }.rebond)

/-! ### Sending (R378, R420) -/

/-- The retransmission under way: the next frame of the replay buffer with RETRY set (R75). -/
def State.resendNext (s : State) (i seq : Nat) : State :=
  let x := s.nlink i
  match x.replay.find? (·.1 = seq) with
  | none => s.setNlink i { x with resend := none }
  | some e =>
    let next := (seq + 1) % 2 ^ 32
    (s.setNlink i { x with resend := if next = x.txSeq then none else some next }).linkSent i (retryHeader (e.2.take 8) true ++ e.2.drop 8)
/-- A NAK, CREDIT or BOND leaves. -/
def State.sendControl (s : State) (i type seq : Nat) : State :=
  match s.linkKeys i with
  | k :: _ => let h := norHeader type 0 0 seq; s.linkSent i (h ++ Config.controlTag k h)
  | [] => s
/-- A link frame leaves: HELLO in clear with its CMAC, PDELAY and the twin's control frames in sequence. -/
def State.sendCtl (s : State) (i : Nat) (key : List Byte) (c : Nat × Nat × List Byte) : State :=
  if c.1 = 0x10 ∨ c.1 = 0x11 ∨ c.1 = 0x12 then s.sendControl i c.1 c.2.1
  else if c.1 = 0x20 then
    let p := s.helloPayload (i - 1)
    let h := norHeader 0x20 0 32 0
    s.linkSent i (h ++ p ++ helloTag s.ringKey h p)
  else s.sendSequenced i c.1 0 key c.2.2
/-- KEY_EXP once ESEQ reaches 2^62 (R381). -/
def State.keyExp (s : State) : State :=
  if s.jn.link.txHi = 2 ^ 30 ∧ s.jn.link.txSeq = 0 then (s.twBump 13).irq twPage 6 else s

/-- The next frame of the twin link by the strict priority of R378: link and swap frames, the mirror queue, forwarded
verdicts, checkpoint segments. Under LOCK no heartbeat, journal, delta or checkpoint frame leaves (R393). -/
def State.twinNext (s : State) : State :=
  let x := s.jn.link
  let ready := x.up && !x.lost && decide (x.key ≠ [])
  match x.ctl.find? fun c => ready || decide (c.1 = 0x12) with
  | some c =>
    let s := s.setNlink 0 { x with ctl := x.ctl.erase c }
    if c.1 = 5 ∧ s.lockInForce then s else (s.sendCtl 0 x.key c).keyExp
  | none =>
    if !ready then s
    else match s.jn.mirror, s.lockInForce with
    | m :: rest, false =>
      let (type, b) := match m with | .entry _ _ _ b => (1, b) | .sealRec b => (1, b) | .delta _ b => (3, b)
      let s := s.sendSequenced 0 type 0 x.key b
      (({ s with jn := { s.jn with mirror := rest, unacked := s.jn.unacked ++ [m], sentT := s.jn.sentT ++ [s.clk.ns] } }).twBump 8).keyExp
    | _, locked =>
      match s.vp.fwdOut with
      | f :: rest => (({ s with vp := { s.vp with fwdOut := rest } }).sendSequenced 0 7 (b2n f.2) x.key f.1).keyExp
      | [] =>
        let c := s.jn.tx
        if c.active && !c.ended && !locked && decide (c.nextT ≤ s.clk.ns) then
          let (p, s) := s.takeSegment
          (s.sendSequenced 0 4 0 x.key p).keyExp
        else s

/-- Counter-sync messages of the home (R442), one at a time: groups of 16 counters, then each lease entry, each answer kept,
and the end with the record count. Their layout is the model's (log entry 24). -/
def State.ctrSyncNext (s : State) : State :=
  let c := s.cr
  let msg (kind n : Nat) (d : List Byte) : List Byte := beBytes 1 1 ++ beBytes 1 kind ++ beBytes 2 n ++ beBytes 4 c.syncPos ++ d
  let go (s : State) (phase pos n : Nat) (b : List Byte) : State :=
    ({ s with cr := { s.cr with syncPhase := phase, syncPos := pos, syncCount := c.syncCount + n } }).ringSend 0x2B (dstPos s.partner) b
  let answers (s : State) : State :=
    match c.answers.drop (if c.syncPhase = 2 then c.syncPos else 0) with
    | a :: _ =>
      let k := if c.syncPhase = 2 then c.syncPos else 0
      go s 2 (k + 1) 1 (msg 2 1 (beBytes 2 a.req ++ [0, 0] ++ beBytes 4 a.tag ++ a.body))
    | [] =>
      let s := go s 0 0 0 (beBytes 1 2 ++ [0, 0, 0] ++ beBytes 4 c.syncCount)
      { s with cr := { s.cr with syncPhase := 3 } }
  let leases (s : State) : State :=
    match c.leases.find? fun e => decide (c.syncPhase ≠ 1) || decide (c.syncPos ≤ e.1) with
    | some (k, x) => go s 1 (k + 1) 1 (msg 1 1 (mirrorBody { entry := k, lease := x }))
    | none => answers s
  if !c.syncing ∨ c.syncPhase = 3 then s
  else if c.syncPhase = 0 ∧ c.syncPos < s.ctrCount then
    let n := min 16 (s.ctrCount - c.syncPos)
    go s 0 (c.syncPos + n) n (msg 0 n ((List.range n).flatMap fun j => s.bytes (s.ctrAddr (c.syncPos + j)) 32))
  else if c.syncPhase ≤ 1 then leases s
  else answers s

/-- The waiting frame of a class that goes next: forwarded and own frames alternate (R420). -/
def pickFrame (lastOwn : Bool) (q : List (Bool × Nat × List Byte)) : Option (Bool × Nat × List Byte) :=
  match q.find? fun e => e.1 != lastOwn with
  | some e => some e
  | none => q.head?
/-- The next frame of a ring lane (R420): link frames, then urgent frames with a waiting bulk frame after at most seven of
them, then bulk. -/
def State.ringNext (s : State) (l : Nat) : State :=
  let r := s.ringLane l
  let x := r.link
  match x.ctl.find? fun c => r.hello || decide (c.1 = 0x20) with
  | some c =>
    let s := s.setNlink (l + 1) { x with ctl := x.ctl.erase c }
    s.sendCtl (l + 1) s.ringKey c
  | none =>
    if !r.hello then s
    else if 0xFFFFFFFE ≤ x.txSeq then s.beginHello l
    else
      let s := if r.bulk.any (fun e => e.1) then s else s.ctrSyncNext
      let r := s.ringLane l
      let bulkTurn := decide (r.bulk ≠ []) && (decide (r.urgent = []) || decide (7 ≤ r.run))
      match pickFrame r.lastOwn (if bulkTurn then r.bulk else r.urgent) with
      | none => s
      | some e =>
        let r := if bulkTurn then { r with bulk := r.bulk.erase e, run := 0, lastOwn := e.1 }
          else { r with urgent := r.urgent.erase e, run := if r.bulk = [] then 0 else r.run + 1, lastOwn := e.1 }
        (s.setRingLane l r).sendSequenced (l + 1) e.2.1 0 s.ringKey e.2.2

/-- A transmitter finishes a frame and starts the next one: link 0 is the twin link, 1 CE, 2 CW. A retransmission comes
first (R75). -/
def execNoriolysFrameTx (i : Nat) (s : State) : Outcome :=
  done (
    let up := if i = 0 then decide (s.twinUp ≠ 0) else decide (s.lnState (1031 + i) = 4)
    if !up then s
    else match (s.nlink i).resend with
      | some seq => s.resendNext i seq
      | none => if i = 0 then s.twinNext else s.ringNext (i - 1))

end Sys2Proof.Machine
end

