-- ==== Sys2Proof/Machine/PayOps.lean ====
section
/-!
DEFINITION. The checks that precede a key operation, and the computation of each operation (chapter 6, R187–R217).
-/
namespace Sys2Proof.Machine

/-! ### Fields of a parameter block -/

/-- `n` bytes at `o`, little-endian. -/
def KReq.f (r : KReq) (o n : Nat) : Nat := ofLe (sliceBytes r.block o n)
/-- `n` bytes at `o`. -/
def KReq.b (r : KReq) (o n : Nat) : List Byte := sliceBytes r.block o n
/-- Whether `n` bytes at `o` are 0. -/
def KReq.z (r : KReq) (o n : Nat) : Bool := (r.b o n).all (· = 0)
/-- SRC of the key reference at `o` (R192). -/
def KReq.src (r : KReq) (o : Nat) : Nat := r.f (o + 4) 1
/-- HANDLE of the key reference at `o`. -/
def KReq.handle (r : KReq) (o : Nat) : Nat := r.f o 4
/-- TREG of the key reference at `o`. -/
def KReq.treg (r : KReq) (o : Nat) : Nat := r.f (o + 5) 1
/-- A key reference that names an operand and keeps to R192. -/
def KReq.refOk (r : KReq) (o : Nat) : Bool :=
  r.z (o + 6) 2 && (decide (r.src o = 1) || (decide (r.src o = 2) && decide (r.treg o < 4)))
/-- The zone of the verdict on whose behalf a request runs. -/
def State.reqZone (s : State) (r : KReq) : Option Nat := (r.vid.bind s.verdict).map fun v => (s.ctx v.m.ctx).zone
/-- The slot of the request still holds its verdict, or it has none (R196). -/
def State.reqLive (s : State) (r : KReq) : Bool := decide (r.slot = 255) || decide (s.slotVerdictOf r.core r.slot = r.vid)
/-- KV_PCF_CFG of an ounce, a field. -/
def State.pcf (s : State) (o hi lo : Nat) : Nat := s.fld (kvReg o 0xC00) hi lo
/-- The PAN nibbles of a block at 0x24. -/
def KReq.panNibbles (r : KReq) : List Nat := nibs (r.b 0x24 10)
/-- The PAN of a block. -/
def KReq.pan (r : KReq) : List Nat := r.panNibbles.take (r.f 0x22 1)
/-- The PAN holds a non-digit, or a nibble other than 0xF beyond its length (R203, R213), its length being `n`. -/
def panBad (nib : List Nat) (n : Nat) : Bool := (nib.take n).any (9 < ·) || (nib.drop n).any (· ≠ 15)
/-- `n` bytes at `a` of the data SRAM that the issuing ring may read. -/
def State.reqReadable (s : State) (r : KReq) (a n : Nat) : Bool :=
  decide (a + n ≤ 0x40000) && (s.fenceFail r.core (clsRing r.ring) accR a n).isNone

/-! ### MAC fields (Table 6.6, Table 6.7, R207) -/

/-- ALG of a MAC request. -/
def KReq.alg (r : KReq) : Nat := r.flags % 8
/-- The segments: address and length. -/
def KReq.segs (r : KReq) : List (Nat × Nat) := (List.range (r.f 0x21 1)).map fun k => (r.f (0x60 + 8 * k) 4, r.f (0x64 + 8 * k) 4)
/-- The range of MLEN for an algorithm. -/
def State.mlenOk (s : State) (o alg n : Nat) : Bool :=
  if alg = 1 ∨ alg = 3 then 4 ≤ n ∧ n ≤ 8
  else if alg = 4 then s.pcf o 15 12 ≤ n ∧ n ≤ 16
  else if alg = 5 then 16 ≤ n ∧ n ≤ 32 else 24 ≤ n ∧ n ≤ 48
/-- The data of a MAC request. -/
def State.macData (s : State) (r : KReq) : List Byte := r.segs.flatMap fun g => s.dataBytes r.core g.1 g.2

/-! ### Checks on the block (R190, R203–R216) -/

/-- Bits that an operation's FLAGS may have. -/
def flagsMask (fn : Nat) : Nat :=
  match fn with
  | 0x20 => 0xF | 0x21 => 0xF | 0x30 => 3 | 0x40 => 0xF | _ => 0

/-- The operation's own refusal before its keys are looked at; 0 for none. -/
def State.blockRefusal (s : State) (r : KReq) : Nat :=
  let o := coreOunce r.core
  if r.flags % 256 / (flagsMask r.fn + 1) ≠ 0 ∨ !r.z 5 1 ∨ !r.z 12 4 ∨ !r.refOk 0x10 then 0x340
  else match r.fn with
  | 0x10 =>
    let sf := r.f 0x20 1
    let df := r.f 0x21 1
    let n := r.f 0x22 1
    let fmt (f : Nat) : Bool := f = 0 ∨ f = 1 ∨ f = 3 ∨ f = 4
    if !r.refOk 0x18 ∨ !r.z 0x23 1 ∨ !r.z 0x2E 2 ∨ !fmt sf ∨ !fmt df ∨ (sf ≠ 4 ∧ !r.z 0x38 8) ∨
        (if n = 0 then sf ≠ 1 ∨ df ≠ 1 else n < 8 ∨ 19 < n) then 0x340
    else if panBad r.panNibbles n then 0x348
    else if df = 1 ∧ sf ≠ 1 ∧ s.pcf o 0 0 = 0 then 0x347 else 0
  | 0x20 =>
    if r.alg = 0 ∨ r.alg = 2 ∨ r.alg = 7 ∨ (3 < r.alg ∧ r.flags.testBit 3) ∨ !r.z 0x18 8 ∨ !r.z 0x22 14 ∨ !r.z 0x30 48 then 0x340
    else if !s.mlenOk o r.alg (r.f 0x20 1) ∨ r.f 0x21 1 = 0 ∨ 8 < r.f 0x21 1 ∨ 16384 < sumNat (r.segs.map (·.2)) ∨
        r.segs.any (fun g => !s.reqReadable r g.1 g.2) then 0x34E else 0
  | 0x21 =>
    if r.alg = 0 ∨ r.alg = 2 ∨ r.alg = 7 ∨ (3 < r.alg ∧ r.flags.testBit 3) ∨ !r.z 0x18 8 ∨ !r.z 0x22 14 ∨
        !r.z (0x30 + min 48 (r.f 0x20 1)) (48 - r.f 0x20 1) then 0x340
    else if !s.mlenOk o r.alg (r.f 0x20 1) ∨ r.f 0x21 1 = 0 ∨ 8 < r.f 0x21 1 ∨ 16384 < sumNat (r.segs.map (·.2)) ∨
        r.segs.any (fun g => !s.reqReadable r g.1 g.2) then 0x34E else 0
  | 0x30 =>
    let ctr := ofBe (r.b 0x28 4)
    let ones := sumNat ((List.range 32).map fun i => b2n (ctr.testBit i))
    if !r.refOk 0x18 ∨ !r.z 0x2E 2 ∨ r.src 0x18 ≠ (if r.flags.testBit 0 then 1 else 2) ∨ 7 < r.f 0x2C 1 ∨ 7 < r.f 0x2D 1 then 0x340
    else if ctr = 0 ∨ 16 < ones then 0x349
    else if r.slot = 255 ∧ r.src 0x18 = 2 then 0x34F
    else if 5 ≤ r.f 0x2D 1 ∧ (r.f 0x2C 1 = 0 ∨ 4 ≤ r.f 0x2C 1) then 0x341 else 0
  | 0x40 =>
    let n := r.f 0x20 1
    if !r.z 0x18 8 ∨ r.flags % 4 = 3 ∨ n < 8 ∨ 19 < n ∨ !r.z 0x3B 1 ∨ !r.z 0x4C 4 ∨ 2 ^ 18 ≤ r.f 0x48 4 then 0x340
    else if panBad (nibs (r.b 0x24 10)) n ∨ (nibs (r.b 0x21 1)).any (9 < ·) then 0x348
    else if r.f 0x2E 2 = 0 ∨ 256 < r.f 0x2E 2 ∨ 8 < r.f 0x3A 1 ∨ !s.reqReadable r (r.f 0x48 4) (r.f 0x2E 2) then 0x34E else 0
  | 0x60 =>
    if !r.refOk 0x18 ∨ r.src 0x18 ≠ 1 ∨ !r.z 0x22 2 ∨ 2 ^ 18 ≤ r.f 0x24 4 then 0x340
    else if r.f 0x20 2 < 16 ∨ 512 < r.f 0x20 2 ∨ !s.reqReadable r (r.f 0x24 4) (r.f 0x20 2) then 0x34E else 0
  | 0x61 =>
    if !r.refOk 0x18 ∨ (r.f 0x20 1 ≠ 0x42 ∧ r.f 0x20 1 ≠ 0x44) ∨ 3 < r.f 0x21 1 ∨ !r.z 0x24 4 then 0x340 else 0
  | _ =>
    let radix := r.f 0x20 2
    let n := r.f 0x22 1
    let t := r.f 0x23 1
    if !r.z 0x18 8 ∨ !r.z 0x24 12 ∨ !r.z (0x30 + min t 32) (32 - t) ∨ !r.z (0x50 + min n 64) (64 - n) then 0x340
    else if radix < 2 ∨ 256 < radix ∨ n < 2 ∨ 64 < n ∨ radix ^ n < 1000000 ∨ 32 < t ∨ (r.b 0x50 n).any (radix ≤ ·.toNat) then 0x34A else 0

/-- Bytes of the largest result of a request, the exported key's algorithm given (R191). -/
def KReq.most (r : KReq) (expAlg expKbpkAes : Nat) : Nat :=
  match r.fn with
  | 0x10 => if r.f 0x21 1 = 4 then 16 else 8
  | 0x20 => r.f 0x20 1
  | 0x21 => 0
  | 0x30 => if r.f 0x2D 1 < 2 then 3 else 5
  | 0x40 => if r.flags % 4 = 1 then 8 else if r.flags % 4 = 2 then 4 else 0
  | 0x60 => 5
  | 0x61 =>
    let bs := if expKbpkAes = 1 then 16 else 8
    let most := if expAlg = 0x54 then 24 else if expAlg = 0x41 then 32 else 64
    let kc := if (r.f 0x21 1).testBit 0 then (if expAlg = 0x54 then 12 else 16) else 0
    let ts := if (r.f 0x21 1).testBit 1 then 19 else 0
    let raw := 16 + kc + ts
    let gap := (bs - raw % bs) % bs
    let pb := if gap = 0 then 0 else if gap < 4 then gap + bs else gap
    raw + pb + 2 * ((2 + most + bs - 1) / bs * bs) + 2 * bs
  | _ => r.f 0x22 1

/-! ### Keys (R193, R194, R202, R305) -/

/-- Uses that a RETIRED key serves (R305): the operand at 0x10 of these requests. -/
def KReq.retiredUse (r : KReq) (off : Nat) : Bool :=
  off = 0x10 &&
    (decide (r.fn = 0x10) || decide (r.fn = 0x21) || decide (r.fn = 0x51) || decide (r.fn = 0x60) ||
      (decide (r.fn = 0x40) && decide (r.flags % 4 = 0)) ||
      (decide (r.fn = 0x30) && (decide (r.f 0x2C 1 = 2) || decide (r.f 0x2C 1 = 5))))

/-- A TDEA key that may not be used (R202): disabled, of a wrong length, or with equal halves but for parity. -/
def State.tdeaBad (s : State) (o : Nat) (k : KeyVal) : Bool :=
  attrAlg k.attr = 0x54 &&
    (decide (s.pcf o 2 2 = 0) || (decide (k.key.length ≠ 16) && decide (k.key.length ≠ 24)) ||
      decide ((k.key.take 8).map (· ||| 1) = (sliceBytes k.key 8 8).map (· ||| 1)))

/-- Table 6.4: the operand at `off` may be this key. -/
def KReq.permits (r : KReq) (off : Nat) (k : KeyVal) : Bool :=
  let u := attrUsage k.attr
  let a := attrAlg k.attr
  let m := attrMode k.attr
  let modes (l : List Char) : Bool := l.any fun c => c.toNat = m
  let alg (c : Char) : Bool := a = c.toNat
  match r.fn with
  | 0x10 =>
    let f := if off = 0x10 then r.f 0x20 1 else r.f 0x21 1
    u = usage2 'P' '0' && (if f = 4 then alg 'A' else alg 'T') && modes (if off = 0x10 then ['D', 'B'] else ['E', 'B'])
  | 0x30 => u = (if r.flags.testBit 1 then usage2 'B' '1' else usage2 'B' '0') && alg 'A' && modes ['X']
  | 0x40 => u = usage2 'E' '0' && (alg 'T' || alg 'A') && modes ['X']
  | 0x50 => u = usage2 'D' '0' && alg 'A' && modes ['E', 'B']
  | 0x51 => u = usage2 'D' '0' && alg 'A' && modes ['D', 'B']
  | 0x60 => u = usage2 'K' '1' && (alg 'A' || alg 'T') && modes ['D', 'B']
  | 0x61 =>
    if off = 0x10 then !(u = usage2 '9' '1' ∨ u = usage2 '9' '2' ∨ u = usage2 '9' '3')
    else u = usage2 'K' '1' && (if r.f 0x20 1 = 0x44 then alg 'A' else alg 'T') && modes ['E', 'B']
  | _ =>
    let way := modes (if r.fn = 0x20 then ['C', 'G'] else ['C', 'V'])
    way &&
      (if r.alg = 1 then u = usage2 'M' '1' && alg 'T'
       else if r.alg = 3 then u = usage2 'M' '3' && alg 'T' && decide (k.key.length = 16)
       else if r.alg = 4 then u = usage2 'M' '6' && alg 'A'
       else u = usage2 'M' '7' && alg 'H' && decide (16 ≤ k.key.length ∧ k.key.length ≤ 64))

/-- The key of the operand at `off`, resolved and checked (R192–R194, R202, R305, R307). -/
def State.operandKey (s : State) (r : KReq) (off : Nat) : Except Nat KeyVal × State :=
  let o := coreOunce r.core
  let check (k : KeyVal) (s : State) : Except Nat KeyVal × State :=
    if k.retired ∧ !r.retiredUse off then (.error 0x406, s)
    else if s.tdeaBad o k || !r.permits off k then (.error 0x341, s) else (.ok k, s)
  if r.src off = 2 then
    if r.slot = 255 ∨ r.fn = 0x30 ∨ (r.fn = 0x61 ∧ off = 0x10) then (.error 0x34F, s)
    else
      let k := cget {} s.pay.trans (transKey r.core r.slot (r.treg off))
      if k.key = [] then (.error 0x34F, s) else check k s
  else if r.slot ≠ 255 ∧ s.reqZone r ≠ some (handleZone (r.handle off)) then (.error 0x345, s)
  else
    match s.resolve o (r.handle off) with
    | (.error e, s) => (.error e, s)
    | (.ok k, s) => check k s

/-- The operands an operation reads. -/
def KReq.operands (r : KReq) : List Nat := if r.fn = 0x10 ∨ r.fn = 0x61 then [0x10, 0x18] else [0x10]

/-- All operands of a request. -/
def operandKeys (r : KReq) : List Nat → State → Except Nat (List KeyVal) × State
  | [], s => (.ok [], s)
  | o :: os, s =>
    match s.operandKey r o with
    | (.error e, s) => (.error e, s)
    | (.ok k, s) =>
      match operandKeys r os s with
      | (.error e, s) => (.error e, s)
      | (.ok ks, s) => (.ok (k :: ks), s)

/-- The key block of a KB_IMPORT. -/
def State.importText (s : State) (r : KReq) : List Byte := s.dataBytes r.core (r.f 0x24 4) (r.f 0x20 2)

/-- The refusals that need the keys (R209, R216, R217). -/
def State.keyRefusal (s : State) (r : KReq) (ks : List KeyVal) : Nat :=
  let k1 := nth {} ks 0
  let zoneBad (h : Nat) : Bool := decide (handleZone h ≠ k1.zone) || (decide (r.slot ≠ 255) && decide (s.reqZone r ≠ some (handleZone h)))
  match r.fn with
  | 0x30 =>
    if k1.key.length < dukptLen (r.f 0x2D 1) then 0x341
    else if r.flags.testBit 0 ∧ zoneBad (r.handle 0x18) then 0x345 else 0
  | 0x60 =>
    if zoneBad (r.handle 0x18) then 0x345
    else
      let ver := if attrAlg k1.attr = 0x41 then 0x44 else 0x42
      if (kbHeader ver (r.f 0x20 2) (s.importText r)).isNone then 0x34B else 0
  | 0x61 =>
    let k2 := nth {} ks 1
    let e := attrExport k1.attr
    let a := attrAlg k1.attr
    let weaker := if attrAlg k2.attr = 0x54 then a ≠ 0x54 else a = 0x41 ∧ k2.key.length < k1.key.length
    if e = 0x4E ∨ (e = 0x53 ∧ s.pcf (coreOunce r.core) 1 1 = 0) ∨ weaker then 0x34D else 0
  | _ => 0

/-- What the checks before the start come to (R189–R194, R202–R217): a status, or the keys. -/
def State.startChecks (s : State) (r : KReq) : Except Nat (List KeyVal) × State :=
  let e := s.blockRefusal r
  if r.f 8 4 % 8 ≠ 0 ∨ !s.resultOk r.core r.ring r.block 8 then (.error 0x352, s)
  else if e ≠ 0 then (.error e, s)
  else if r.fn ≠ 0x61 ∧ !s.resultOk r.core r.ring r.block (8 + r.most 0 0) then (.error 0x352, s)
  else match operandKeys r r.operands s with
    | (.error e, s) => (.error e, s)
    | (.ok ks, s) =>
      let e := s.keyRefusal r ks
      if e ≠ 0 then (.error e, s)
      else if r.fn = 0x61 ∧ !s.resultOk r.core r.ring r.block
          (8 + r.most (attrAlg (nth {} ks 0).attr) (if attrAlg (nth {} ks 1).attr = 0x41 then 1 else 0)) then (.error 0x352, s)
      else (.ok ks, s)

/-! ### The engines -/

/-- Key of an engine. -/
def engKey (o e : Nat) : Nat := o * 16 + e
/-- The operation in an engine. -/
def State.engRun (s : State) (o e : Nat) : Option KRun := oget s.pay.run (engKey o e)
/-- Set the operation in an engine. -/
def State.setEngRun (s : State) (o e : Nat) (x : KRun) : State := { s with pay := { s.pay with run := oput x (engKey o e) s.pay.run } }
/-- An engine is free and in service. -/
def State.engFree (s : State) (o e : Nat) : Bool := (s.engRun o e).isNone && decide (s.fld (kvReg o 0xC08) e e = 0)

/-- Request `a` reads a transient register that request `b` of the same slot writes (R195). -/
def KReq.waitsFor (a b : KReq) : Bool :=
  decide (a.core = b.core) && decide (a.slot = b.slot) && decide (b.fn = 0x30) && decide (b.src 0x18 = 2) &&
    a.operands.any fun o => decide (a.src o = 2) && decide (a.treg o = b.treg 0x18)

/-- The oldest request of a queue that may start (R187, R195), `seen` being the earlier ones. -/
def firstReady (running : List KReq) : List KReq → List KReq → Option KReq
  | _, [] => none
  | seen, r :: rs => if (running ++ seen).any r.waitsFor then firstReady running (seen ++ [r]) rs else some r

/-- The operation of function code `fn` in an engine computes: `f` gives status, result and the key to store. A failure
found after the start leaves zero bytes in place of the result (R201). -/
def State.engCompute (s : State) (o e : Nat) (fns : List Nat) (f : KRun → State → Nat × List Byte × Option KeyVal × State) : State :=
  match s.engRun o e with
  | none => s
  | some x =>
    if x.computed ∨ !fns.contains x.r.fn then s
    else
      let (st, res, out, s) := f x s
      s.setEngRun o e { x with computed := true, status := st, result := res, out := out }

/-- One 16-byte draw from the ounce DRBG, and `n` bytes for the operation: how the operation takes its random values from
the draw is the spec's to say and it does not, so they are free values (log entry 2). None while no draw is possible. -/
def State.engRandom (s : State) (o blocks n : Nat) : Option (List Byte × State) :=
  match s.draw o blocks with
  | (none, _) => none
  | (some _, s) => some (s.freeBytes n)

end Sys2Proof.Machine
end

