-- ==== Sys2Proof/Machine/PayCmds.lean ====
section
/-!
DEFINITION. Commands of the payment-cryptography engines (chapter 6).
-/
namespace Sys2Proof.Machine

/-- A request that no engine takes up is answered (R201). -/
def State.refuseReq (s : State) (r : KReq) (code engine : Nat) : State :=
  let o := coreOunce r.core
  let s := s.kvBump o 9
  let s := if code = 0x34B then s.kvBump o 13 else s
  let live := s.reqLive r
  let s := if code ≠ 0x352 && live && s.resultOk r.core r.ring r.block 8 then s.keyResult r.core r.block code engine [] else s
  (s.completeTicket r.core r.tkt (if live then code else 0x320)).closeSlots

/-- The lowest-numbered free engine takes the oldest request that may start (R187, R195): what its checks refuse is
answered, and an accepted operation reads its keys (R198). With every engine retired, each request is refused (R219). -/
def execKeyEngineTake (o : Nat) (s : State) : Outcome :=
  done (
    let running := (s.pay.run.filter fun e => e.1 / 16 = o).map (·.2.r)
    match firstReady running [] (cget [] s.pay.queue o) with
    | none => s
    | some r =>
      let pop (s : State) : State := { s with pay := { s.pay with queue := cput [] ((cget [] s.pay.queue o).filter (· != r)) o s.pay.queue } }
      if s.keyHold || !s.domOn (68 + o) then s
      else if s.fld (kvReg o 0xC08) 15 0 = 0xFFFF then (pop s).refuseReq r 0x350 0xFF
      else match (List.range 16).find? fun e => s.engFree o e with
        | none => s
        | some e =>
          match (pop s).startChecks r with
          | (.error code, s) => s.refuseReq r code 0xFF
          | (.ok ks, s) => s.setEngRun o e { r := r, keys := ks })

/-- PIN_XLATE (R204–R206). -/
def execPinXlate (o e : Nat) (s : State) : Outcome :=
  done (
    match s.engRun o e with
    | none => s
    | some x =>
      let r := x.r
      let df := r.f 0x21 1
      let go (rnd : List Byte) (s : State) : State :=
        s.engCompute o e [0x10] fun x s =>
          match pinDecode (r.f 0x20 1) (nth {} x.keys 0).key (r.b 0x30 16) r.pan with
          | none => (0x342, List.replicate (r.most 0 0) 0, none, s)
          | some pin => (0, pinEncode df (nth {} x.keys 1).key r.pan pin rnd, none, s)
      if r.fn ≠ 0x10 ∨ x.computed then s
      else if df = 0 then go [] s
      else match s.engRandom o 1 16 with
        | none => s
        | some (rnd, s) => go rnd s)

/-- The MAC of a request (Table 6.7). -/
def State.macOf (s : State) (r : KReq) (key : List Byte) : List Byte :=
  let m := s.macData r
  let two := r.flags.testBit 3
  (if r.alg = 1 then mac1 key m two else if r.alg = 3 then mac3 key m two else if r.alg = 4 then aesCmac key m
   else if r.alg = 5 then hmacSha256 key m else hmacSha384 key m).take (r.f 0x20 1)

/-- MAC_GEN (R207, R208). -/
def execMacGen (o e : Nat) (s : State) : Outcome :=
  done (s.engCompute o e [0x20] fun x s => (0, s.macOf x.r (nth {} x.keys 0).key, none, s))

/-- MAC_VER (R208). -/
def execMacVer (o e : Nat) (s : State) : Outcome :=
  done (s.engCompute o e [0x21] fun x s =>
    (if s.macOf x.r (nth {} x.keys 0).key = x.r.b 0x30 (x.r.f 0x20 1) then 0 else 0x343, [], none, s))

/-- The usage and mode of a working key (Table 6.9). -/
def wuseAttr (w t : Nat) : List Byte :=
  let mac := if t = 0 then "M3" else if t = 1 then "M1" else if t < 5 then "M6" else "M7"
  let alg := if t < 2 then "T" else if t < 5 then "A" else "H"
  let um : String × String := nth ("", "") [("P0", "B"), (mac, "G"), (mac, "V"), (mac, "C"), ("D0", "E"), ("D0", "D"), ("D0", "B"), ("K0", "B")] w
  asciiText um.1 ++ asciiText alg ++ asciiText um.2

/-- DUKPT_DERIVE (R209, R210). Table 6.9 gives the key no version number and no key context: free values (log entry 2). -/
def execDukptDerive (o e : Nat) (s : State) : Outcome :=
  done (s.engCompute o e [0x30] fun x s =>
    let r := x.r
    let t := r.f 0x2D 1
    let k1 := nth {} x.keys 0
    let key := dukptDerive k1.key (r.flags.testBit 1) (r.b 0x20 12) (r.f 0x2C 1) t
    let (kvn, s) := s.freeBytes 3
    let cx : Byte := BitVec.ofNat 8 (48 + (nth 0 kvn 2).toNat % 3)
    let attr := wuseAttr (r.f 0x2C 1) t ++ kvn.take 2 ++ asciiText "N" ++ [cx, BitVec.ofNat 8 key.length, 0, 0, 0]
    (0, checkValue (if t < 2 then 0x54 else 0x41) key, some { key := key, attr := attr, zone := k1.zone }, s))

/-- ARQC_VERIFY (R211–R213): the ARPC is returned whether or not the cryptogram agrees. -/
def execArqcVerify (o e : Nat) (s : State) : Outcome :=
  done (s.engCompute o e [0x40] fun x s =>
    let r := x.r
    let k := nth {} x.keys 0
    let aes := decide (attrAlg k.attr = 0x41)
    let pan := (nibs (r.b 0x24 10)).take (r.f 0x20 1)
    let mk := emvMaster k.key aes (r.flags.testBit 3) pan (r.f 0x21 1)
    let sk := emvSession mk aes (r.b 0x22 2)
    let arqc := r.b 0x30 8
    let ok := emvArqc sk aes (r.flags.testBit 2) (s.dataBytes r.core (r.f 0x48 4) (r.f 0x2E 2)) = arqc
    (if ok then 0 else 0x344, emvArpc sk aes (r.flags % 4) arqc (r.b 0x38 2) (r.b 0x3C 4) (r.b 0x40 (r.f 0x3A 1)), none, s))

/-- The numerals of an FF1 request. -/
def KReq.numerals (r : KReq) : List Nat := (r.b 0x50 (r.f 0x22 1)).map (·.toNat)

/-- FF1_ENC (R214). -/
def execFf1Enc (o e : Nat) (s : State) : Outcome :=
  done (s.engCompute o e [0x50] fun x s =>
    (0, (ff1Encrypt (nth {} x.keys 0).key (x.r.b 0x30 (x.r.f 0x23 1)) (x.r.f 0x20 2) x.r.numerals).map (BitVec.ofNat 8), none, s))

/-- FF1_DEC (R214). -/
def execFf1Dec (o e : Nat) (s : State) : Outcome :=
  done (s.engCompute o e [0x51] fun x s =>
    (0, (ff1Decrypt (nth {} x.keys 0).key (x.r.b 0x30 (x.r.f 0x23 1)) (x.r.f 0x20 2) x.r.numerals).map (BitVec.ofNat 8), none, s))

/-- KB_IMPORT after its start (R216). -/
def execKbImport (o e : Nat) (s : State) : Outcome :=
  done (s.engCompute o e [0x60] fun x s =>
    let b := s.importText x.r
    let kbpk := nth {} x.keys 0
    let ver := if attrAlg kbpk.attr = 0x41 then 0x44 else 0x42
    match kbHeader ver (x.r.f 0x20 2) b with
    | none => (0x34C, List.replicate 5 0, none, s)
    | some h =>
      let alg := (nth 0 h.attr 2).toNat
      match kbOpen kbpk.key b h with
      | none => (0x34C, List.replicate (if alg = 0x54 then 3 else 5) 0, none, s)
      | some key =>
        let attr := h.attr ++ [BitVec.ofNat 8 key.length, 0, 0, 0]
        let (kcv, s) :=
          if alg = 0x48 ∧ key.length ≠ 16 ∧ key.length ≠ 24 ∧ key.length ≠ 32 then s.freeBytes 5 else (checkValue alg key, s)
        (0, kcv, some { key := key, attr := attr, zone := handleZone (x.r.handle 0x18) }, s))

/-- The optional blocks of an exported key block, and their number: KC, TS and the PB that fills the header. The time of TS
and the padding of PB are free values (log entry 2). -/
def State.exportOpts (s : State) (aes : Bool) (opts alg : Nat) (key : List Byte) : List Byte × Nat × State :=
  let bs := if aes then 16 else 8
  let (kcv, s) :=
    if alg = 0x48 ∧ key.length ≠ 16 ∧ key.length ≠ 24 ∧ key.length ≠ 32 then s.freeBytes 5 else (checkValue alg key, s)
  let kc := if opts.testBit 0 then
    asciiText "KC" ++ hexText [BitVec.ofNat 8 (6 + 2 * kcv.length)] ++ (if alg = 0x54 then asciiText "00" else asciiText "01") ++ hexText kcv else []
  let (t, s) := s.freeBytes 14
  let ts := if opts.testBit 1 then
    asciiText "TS13" ++ t.map (fun b => BitVec.ofNat 8 (48 + b.toNat % 10)) ++ asciiText "Z" else []
  let gap := (bs - (16 + kc.length + ts.length) % bs) % bs
  let n := if gap = 0 then 0 else if gap < 4 then gap + bs else gap
  let (p, s) := s.freeBytes (n - 4)
  let pb := if n = 0 then [] else asciiText "PB" ++ hexText [BitVec.ofNat 8 n] ++ p.map fun b => hexChar (b.toNat % 16)
  (kc ++ ts ++ pb, b2n (opts.testBit 0) + b2n (opts.testBit 1) + b2n (decide (n ≠ 0)), s)

/-- KB_EXPORT after its start (R217). -/
def execKbExport (o e : Nat) (s : State) : Outcome :=
  done (
    match s.engRun o e with
    | none => s
    | some x =>
      if x.r.fn ≠ 0x61 ∨ x.computed then s
      else match s.engRandom o 2 64 with
        | none => s
        | some (rnd, s) =>
          s.engCompute o e [0x61] fun x s =>
            let k := nth {} x.keys 0
            let kbpk := nth {} x.keys 1
            let aes := decide (attrAlg kbpk.attr = 0x41)
            let (opts, cnt, s) := s.exportOpts aes (x.r.f 0x21 1) (attrAlg k.attr) k.key
            (0, kbSeal aes kbpk.key k.attr (x.r.b 0x22 2) opts k.key rnd cnt, none, s))

/-- The store of a completed operation: into its vault slot or its transient register (R194, R199). -/
def State.storeOut (s : State) (x : KRun) : Nat × State :=
  match x.out with
  | none => (x.status, s)
  | some k =>
    if x.r.src 0x18 = 2 then
      (x.status, { s with pay := { s.pay with trans := cput {} k (transKey x.r.core x.r.slot (x.r.treg 0x18)) s.pay.trans } })
    else s.storeKey (x.r.handle 0x18) k.attr k.key

/-- The counter of a failure (Table 6.17). -/
def failCounter (code : Nat) : Option Nat :=
  if code = 0x342 then some 10 else if code = 0x343 then some 11 else if code = 0x344 then some 12
  else if code = 0x34B ∨ code = 0x34C then some 13 else none

/-- The end of an operation: its key is stored, its result area written unless its slot was released, and its ticket
completes. -/
def State.keyOpEnds (s : State) (o e : Nat) (x : KRun) : State :=
  let (code, s) := s.storeOut x
  let res := if code = x.status then x.result else List.replicate x.result.length 0
  let s := { s with pay := { s.pay with run := odel (engKey o e) s.pay.run } }
  let s := s.kvBump o 8
  let s := match failCounter code with | some k => s.kvBump o k | none => s
  let live := s.reqLive x.r
  let s := if live then s.keyResult x.r.core x.r.block code e res else s
  (s.completeTicket x.r.core x.r.tkt (if live then code else 0x320)).closeSlots

/-- A key operation completes (R188, R196, R201). A store that needs a GEN at the ceiling waits (R384). -/
def execKeyOpComplete (o e : Nat) (s : State) : Outcome :=
  done (
    match s.engRun o e with
    | none => s
    | some x =>
      let z := handleZone (x.r.handle 0x18)
      if !x.computed then s
      else if x.out.isSome ∧ x.r.src 0x18 = 1 ∧ !s.genReady z then s.raiseCeil z
      else s.keyOpEnds o e x)

/-- The known-answer test of an engine, between two operations (R219): it passes, or the engine is retired. -/
def execKeSelfTest (o e : Nat) (pass : Bool) (s : State) : Outcome :=
  done (
    if !s.engFree o e || !s.domOn (68 + o) then s
    else if pass then s.kvBump o 15
    else ((s.setFld (kvReg o 0xC08) e e 1).status (kvReg o 0xC04) 0x350).irq (kvPage o) 8)

/-- A write to KV_PCF_CFG (R221, R222). -/
def execKvPcfCfgWrite (o : Nat) (v : Reg) (s : State) : Outcome :=
  done (s.rwlWrite (kvPage o) fun s =>
    if getField v 15 12 < 4 then s.status (kvReg o 0xC04) 0x34E
    else (s.wrAll tKV 0xC00 (v &&& 0xF007)).took (kvPage o))

/-- A write of 1 to KV_PCF_STATUS[31] clears the counters of Table 6.17 of the ounce (R221). -/
def execKvPcfClrCnt (o : Nat) (s : State) : Outcome :=
  done (((List.range 8).foldl (fun s k => s.clrCtr (kvPage o) (8 + k) 0) s).took (kvPage o))

end Sys2Proof.Machine
end

