-- ==== Sys2Proof/Machine/Parser.lean ====
section
/-!
DEFINITION. The ISO 8583 field engine: dialect tables, the parse of a message and the message record (R166–R171).
-/
namespace Sys2Proof.Machine

/-- What a word of a dialect table resets to (Tables 5.3 and 5.4): SECONDARY = 1 in the header, LTYPE = 4 in an entry. -/
def diaDefault (w : Nat) : Reg := if w = 0 then 0x10 else if 5 ≤ w ∧ w ≤ 131 then 4 else 0
/-- Word `w` of a dialect table. -/
def diaWord (d : Dialect) (w : Nat) : Reg := tget diaDefault d w
/-- Words of a table (R166). -/
def diaWords : Nat := 132

/-- An entry word that an enable accepts (R167, Table 5.4). -/
def diaEntryOk (e : Reg) : Bool :=
  let ltype := getField e 2 0
  let len := getField e 23 10
  decide (getField e 31 24 = 0) && decide (getField e 9 9 = 0) && decide (getField e 5 3 < 4) && decide (ltype < 5) &&
    !(decide (ltype < 4) && decide (len = 0 ∨ 9999 < len)) && !(bitAt e 8 && decide (getField e 5 3 = 2))
/-- A header word that an enable accepts (R167, Table 5.3). -/
def diaHeaderOk (h : Reg) : Bool := decide (getField h 31 5 = 0) && decide (getField h 3 2 < 3) && decide (getField h 1 0 < 3)
/-- A table that may be enabled (R167). -/
def diaOk (d : Dialect) : Bool :=
  diaHeaderOk (diaWord d 0) && (List.range 4).all (fun k => diaWord d (1 + k) = 0) && (List.range 127).all fun k => diaEntryOk (diaWord d (5 + k))

/-! ### Characters -/

/-- A decimal digit in ASCII or EBCDIC. -/
def charDigit (ebcdic : Bool) (b : Byte) : Option Nat :=
  let base := if ebcdic then 0xF0 else 0x30
  if base ≤ b.toNat ∧ b.toNat < base + 10 then some (b.toNat - base) else none
/-- A hexadecimal digit in ASCII or EBCDIC, of either case (Table 5.3). -/
def charHex (ebcdic : Bool) (b : Byte) : Option Nat :=
  let n := b.toNat
  match charDigit ebcdic b with
  | some d => some d
  | none =>
    let up := if ebcdic then 0xC1 else 0x41
    let low := if ebcdic then 0x81 else 0x61
    if up ≤ n ∧ n < up + 6 then some (10 + n - up) else if low ≤ n ∧ n < low + 6 then some (10 + n - low) else none
/-- The nibbles of bytes, high first. -/
def nibbles (bs : List Byte) : List Nat := bs.flatMap fun b => [b.toNat / 16, b.toNat % 16]
/-- A number spelled by digits, none where one is missing. -/
def digitsVal (ds : List (Option Nat)) : Option Nat := ds.foldl (fun a d => do let x ← a; let y ← d; pure (x * 10 + y)) (some 0)
/-- A nibble as a digit. -/
def nibDigit (n : Nat) : Option Nat := if n < 10 then some n else none

/-! ### The parse (R168, R169) -/

/-- A field found: its DE, the offset of its content, its length in units. -/
structure Found where
  de : Nat := 0
  off : Nat := 0
  len : Nat := 0
deriving DecidableEq, Repr

/-- What a parse found. -/
structure Parsed where
  status : Nat := 0
  errDe : Nat := 0
  mti : Nat := 0
  bm1 : Nat := 0
  bm2 : Nat := 0
  found : List Found := []
deriving DecidableEq, Repr

/-- The MTI: its size, and its four digits as packed BCD. -/
def parseMti (enc : Nat) (m : List Byte) : Except Nat (Nat × Nat) :=
  let n := if enc = 1 then 2 else 4
  if m.length < n then .error 0x301
  else
    let ds := if enc = 1 then (nibbles (m.take 2)).map nibDigit else (m.take 4).map (charDigit (enc = 2))
    match digitsVal ds with
    | none => .error 0x307
    | some _ => .ok (n, ds.foldl (fun a d => a * 16 + d.getD 0) 0)

/-- A bitmap at offset `o`: its size and its 64 bits, bitmap bit 1 as the most significant. -/
def parseBitmap (enc : Nat) (m : List Byte) (o : Nat) : Except Nat (Nat × Nat) :=
  let n := if enc = 0 then 8 else 16
  if m.length < o + n then .error 0x301
  else
    let b := sliceBytes m o n
    if enc = 0 then .ok (n, ofBe b)
    else
      let hs := b.map (charHex (enc = 2))
      if hs.all Option.isSome then .ok (n, hs.foldl (fun a d => a * 16 + d.getD 0) 0) else .error 0x303

/-- The length prefix of a variable field: its size and its value (R166, R169). -/
def parsePrefix (e : Reg) (m : List Byte) (o : Nat) : Except Nat (Nat × Nat) :=
  let digits := getField e 2 0 + 1
  let lenc := getField e 7 6
  let n := if lenc = 0 ∨ lenc = 3 then digits else if digits = 2 then 1 else 2
  if m.length < o + n then .error 0x301
  else
    let b := sliceBytes m o n
    let v :=
      if lenc = 2 then some (ofBe b)
      else if lenc = 1 then digitsVal ((nibbles b).map nibDigit)
      else digitsVal (b.map (charDigit (lenc = 3)))
    match v with
    | none => .error 0x303
    | some x => if 10 ^ digits ≤ x then .error 0x303 else if getField e 23 10 < x then .error 0x304 else .ok (n, x)

/-- Whether the content of a field is well formed (R169): digits where CHECK asks for them, digits in every packed-BCD
nibble, and a zero pad nibble. -/
def contentOk (e : Reg) (units : Nat) (b : List Byte) : Bool :=
  let ct := getField e 5 3
  if ct = 1 then
    let ns := nibbles b
    ns.all (· < 10) && !(decide (units % 2 = 1) && decide (nth 0 ns 0 ≠ 0))
  else if bitAt e 8 then b.all fun c => (charDigit (ct = 3) c).isSome
  else true

/-- One field at offset `o`: where the next begins, and what was found. -/
def parseField (e : Reg) (de : Nat) (m : List Byte) (o : Nat) : Except Nat (Nat × Found) := do
  if getField e 2 0 = 4 then throw 0x302
  let (p, units) ← if getField e 2 0 = 0 then pure (0, getField e 23 10) else parsePrefix e m o
  let n := if getField e 5 3 = 1 then (units + 1) / 2 else units
  if m.length < o + p + n then throw 0x301
  if contentOk e units (sliceBytes m (o + p) n) then pure (o + p + n, ⟨de, o + p, units⟩) else throw 0x303

/-- The fields of the DEs listed, in order, from offset `o`. -/
def parseFields (d : Dialect) (m : List Byte) : List Nat → Nat → Parsed → Parsed
  | [], o, r => if o < m.length then { r with status := 0x305 } else r
  | de :: rest, o, r =>
    match parseField (diaWord d (3 + de)) de m o with
    | .error c => { r with status := c, errDe := de }
    | .ok (next, x) => parseFields d m rest next { r with found := r.found ++ [x] }

/-- The parse of a message under a dialect table; none when the dialect is disabled (R169). -/
def parseMessage (d : Option Dialect) (m : List Byte) : Parsed :=
  match d with
  | none => { status := 0x306 }
  | some d =>
    let h := diaWord d 0
    let enc := getField h 3 2
    match parseMti (getField h 1 0) m with
    | .error c => { status := c }
    | .ok (o, mti) =>
      match parseBitmap enc m o with
      | .error c => { status := c, mti := mti }
      | .ok (n, b1) =>
        let r : Parsed := { mti := mti, bm1 := b1 }
        let o := o + n
        let second := b1.testBit 63
        if second && !bitAt h 4 then { r with status := 0x302 }
        else
          match (if second then parseBitmap enc m o else .ok (0, 0)) with
          | .error c => { r with status := c }
          | .ok (n2, b2) =>
            let des := (List.range 127).map (· + 2)
            let present := des.filter fun i => if i ≤ 64 then b1.testBit (64 - i) else b2.testBit (128 - i)
            parseFields d m present (o + n2) { r with bm2 := b2 }

/-! ### The message record (R171, Table 5.6) -/

/-- A FIELD word of the record. -/
def fieldWord (r : Parsed) (i : Nat) : List Byte :=
  match r.found.find? (·.de = i) with
  | none => [0, 0, 0, 0]
  | some f => leBytes 4 (f.off % 65536 + f.len * 65536 + 2 ^ 31)

/-- Bytes 0x000 to 0x2FF of the record; VREF and FLAGS[3] are filled in at dispatch. -/
def buildRecord (r : Parsed) (len dialect program flags ctx port reqId rx : Nat) (tag : List Byte) : List Byte :=
  leBytes 2 len ++ leBytes 2 r.status ++ leBytes 1 r.errDe ++ leBytes 1 dialect ++ leBytes 1 program ++ leBytes 1 flags ++
    leBytes 4 ctx ++ leBytes 2 port ++ leBytes 2 0 ++ leBytes 8 reqId ++ leBytes 8 rx ++ leBytes 8 0 ++ leBytes 2 r.mti ++
    List.replicate 6 0 ++ leBytes 8 r.bm1 ++ leBytes 8 r.bm2 ++ padTo 24 tag ++ List.replicate 168 0 ++
    (List.range 127).flatMap (fun k => fieldWord r (k + 2)) ++ List.replicate 4 0

end Sys2Proof.Machine
end

