-- ==== Sys2Proof/Machine/PipelineCmds.lean ====
section
/-!
DEFINITION. The verdict pipeline (chapter 5): envelopes, dialects, records, dispatch, held effects, responses and the
forwarding of a standby.
-/
namespace Sys2Proof.Machine

/-! ### Envelope (R162, R163) -/

/-- What is known to be wrong with an envelope so far: EtherType, VER, FLAGS, MSG_LEN; and, once the frame has ended, a
message or an envelope that runs beyond the secure data. -/
def State.envelopeBad (s : State) (o : Nat) (f : Frame) : Bool :=
  let e := f.vmEnv
  if f.body.length < 14 then true
  else
    decide (f.vmEtype ≠ s.vpEtype o) || decide (beAt e 0 1 ≠ 1) || decide (beAt e 1 1 ≠ 0) || decide (f.vmLen = 0 ∨ 8192 < f.vmLen) ||
      (decide (f.ended ≠ 0) && decide (e.length < 12 + f.vmLen))

/-- The dialect table of a context as the parser of ounce `o` holds it, where it is enabled. -/
def State.dialectOf (s : State) (o t : Nat) : Option Dialect :=
  if (s.rd64 (ozReg o 0x828)).testBit t then some (cget [] s.vp.dialects (o * 64 + t)) else none

/-- The envelope of a verdict message has arrived: a bad one drops the message (R163). The parse begins with the dialect
as it stands now (R167); a standby parses nothing (R180). -/
def execEnvelopeCheck (n : Nat) (s : State) : Outcome :=
  done (
    let s := s.refreshBody n
    match s.frame n with
    | none => s
    | some f =>
      match f.place with
      | .parsing o =>
        if f.envOk ∨ (f.body.length < 14 ∧ f.ended = 0) then s
        else if s.envelopeBad o f then ((s.vmBump o 3).dropMessage n o).txEnvelope n
        else ((s.modFrame n fun x => { x with envOk := true, dia := s.dialectOf o (s.ctx f.ctx).dialect }).txEnvelope n).tryForward n
      | _ => s)

/-! ### Dialect tables (R166, R167) -/

/-- OZ_VP_STATUS of an ounce records a refusal. -/
def State.vpStatus (s : State) (o code : Nat) : State := s.status (ozReg o 0x814) code
/-- The table and word that OZ_VP_DIA_SEL of an ounce selects; a word above 131 is taken modulo 132 (log entry 20). -/
def State.diaSel (s : State) (o : Nat) : Nat × Nat := (s.fld (ozReg o 0x820) 21 16, s.fld (ozReg o 0x820) 7 0 % diaWords)
/-- The word index advances by 1, wrapping from 131 to 0. -/
def State.diaAdvance (s : State) (o : Nat) : State := s.setFld (ozReg o 0x820) 7 0 (((s.diaSel o).2 + 1) % diaWords)
/-- A word of a table in the copies of all four ounces. -/
def State.diaWrite (s : State) (t w : Nat) (v : Reg) : State :=
  [0, 1, 2, 3].foldl (fun s o =>
    { s with vp := { s.vp with dialects := cput [] (tput diaDefault v w (cget [] s.vp.dialects (o * 64 + t))) (o * 64 + t) s.vp.dialects } }) s

/-- An access to OZ_VP_DIA_DATA of an ounce: a read answers the selected word, a write to a disabled table changes it in
all copies; each access advances the index. -/
def execDiaDataAccess (o : Nat) (write : Bool) (v : Reg) (s : State) : Outcome :=
  done (
    let (t, w) := s.diaSel o
    let s' := s.diaAdvance o
    if !write then { s' with lastRead := (diaWord (cget [] s.vp.dialects (o * 64 + t)) w).setWidth 64 }
    else if (s.rd64 (ozReg o 0x828)).testBit t then s'.vpStatus o 0x318
    else (s'.diaWrite t w v).took (ozPage o))

/-- A write to the half `h` (0 LO, 1 HI) of OZ_VP_DIA_EN: each table is judged for itself (R167). -/
def execDiaEnWrite (o h : Nat) (v : Reg) (s : State) : Outcome :=
  done (
    let ok (i : Nat) : Bool := diaOk (cget [] s.vp.dialects (o * 64 + 32 * h + i))
    let new := bitsOf ((List.range 32).map fun i => bitAt v i && ok i)
    let s := (s.wrAll tOZ (0x828 + 4 * h) (BitVec.ofNat 32 new)).took (ozPage o)
    if new = v.toNat then s else s.vpStatus o 0x319)

/-! ### Records and dispatch (R168–R174) -/

/-- The message of a frame whose record is complete. -/
def State.messageOf (s : State) (o n : Nat) (f : Frame) : VMsg × Nat :=
  let c := s.ctx f.ctx
  let e := f.vmEnv
  let msg := sliceBytes e 12 f.vmLen
  let ply := s.framePlynun f
  let host := f.src = 1024 && !f.isFwd
  let port := if f.isFwd then f.fwdPort else f.src
  let r := parseMessage f.dia msg
  let record := buildRecord r f.vmLen c.dialect c.program (b2n f.isFwd + 2 * b2n host + 4 * b2n ply) f.ctx port (beAt e 4 8) f.rxTime
    (if ply then plynunTag f.plain else [])
  ({ ctx := f.ctx, port := port, record := record, msg := msg, frame := if f.trust = .pending then some n else none, fwd := f.isFwd,
     fwdId := f.fwdId, plynun := if f.isFwd then f.tagged else c.plynun && f.prot, host := host, reqId := beAt e 4 8, rxTime := f.rxTime,
     src := f.smac, parser := o }, r.status)

/-- A message with a complete record is dispatched, queued or dropped (R172, R173). -/
def State.placeMessage (s : State) (m : VMsg) (status : Nat) : Bool × State :=
  let c := s.ctx m.ctx
  let block := s.coreBlock c
  let bo := coreOunce (nth 0 block 0)
  let refuse (k code : Nat) : Bool × State := (false, (s.vmBump bo k).errInfo (ozPage bo) bo code)
  let cores := block.filter s.coreEnabled
  if c.vmax ≤ c.vinprog then refuse 5 0x311
  else if cores = [] then refuse 7 0x313
  else
    let take (s : State) : State := if status = 0 then s.vinprog m.ctx true else (s.vinprog m.ctx true).vmBump bo 2
    match (if s.rendersVerdicts then s.bestCore cores else none) with
    | some k => (true, (take s).dispatchTo m k)
    | none =>
      let q := cget [] s.vp.queues bo
      if 512 ≤ q.length then refuse 6 0x312
      else
        let s := take s
        (true, { s with vp := { s.vp with queues := cput [] (q ++ [m]) bo s.vp.queues } })

/-- The record of a message is complete (R172): a message that runs beyond its secure data or whose TRUST is FAIL is
dropped; any other goes on to dispatch. -/
def execRecordComplete (n : Nat) (s : State) : Outcome :=
  done (
    let s := s.refreshBody n
    match s.frame n with
    | none => s
    | some f =>
      match f.place with
      | .parsing o =>
        if !f.envOk || decide (f.ended = 0) || s.asStandby then s
        else if f.ended = 1 ∧ s.envelopeBad o f then (s.vmBump o 3).dropMessage n o
        else if f.trust = .fail ∨ f.ended ≠ 1 then (s.vmBump o 8).dropMessage n o
        else
          let (m, status) := s.messageOf o n f
          let (ok, s) := s.placeMessage m status
          if ok then
            let s := s.parseUse o false
            if f.trust = .pending then (s.releaseRoom n f).modFrame n fun x => { x with place := .dispatched } else s.endFrame n
          else s.dropMessage n o
      | _ => s)

/-- The record and the message of a verdict reach its slot; SLOT_READY is raised (R174, R259). -/
def execSlotFilled (v : Nat) (s : State) : Outcome :=
  done (
    match s.verdict v with
    | none => s
    | some x =>
      if x.filled then s
      else
        let a := spData x.core + 0x2E000 + 0x2400 * x.slot
        let s := (s.setBytes a x.m.record).setBytes (a + 0x400) x.m.msg
        (s.modVerdict v fun y => { y with filled := true, ready := (s.core x.core).cycle, budget := (s.core x.core).vbudget }).setEvent x.core x.slot)

/-- A held append finds room in its strand's queue; the effects behind it follow (R176). -/
def execHeldAppendRoom (v : Nat) (s : State) : Outcome :=
  done (
    match s.verdict v with
    | none => s
    | some x => if x.trust = .pass ∧ x.held ≠ [] then ((drainHeld v 16 s).tryRelease v).verdictEnd v else s)

/-- RESP_TMO in nanoseconds (Table 5.13). -/
def State.respTmo (s : State) (o : Nat) : Nat :=
  let us := s.fld (ozReg o 0x800) 31 16
  (if us = 0 then 10000 else us) * 1000

/-- A response held longer than RESP_TMO is discarded (R178). -/
def execRespTmoExpiry (v : Nat) (s : State) : Outcome :=
  done (
    match s.verdict v with
    | none => s
    | some x =>
      match x.resp with
      | none => s
      | some r =>
        let o := coreOunce x.core
        if s.respTmo o < s.clk.ns - r.at_ then ((((s.dropResp v).vmBump o 11).errInfo (ozPage o) o 0x317).verdictEnd v) else s)

/-! ### Forwarding (R180–R182) -/

/-- A piece of a forwarded transfer is joined to what came before; the whole transfer once it is the last. -/
def State.fwdJoin (s : State) (dir : Nat) (piece : List Byte) (last : Bool) : Option (List Byte) × State :=
  let all := cget [] s.vp.fwdIn dir ++ piece
  let set (b : List Byte) : State := { s with vp := { s.vp with fwdIn := cput [] b dir s.vp.fwdIn } }
  if last then (some all, set []) else (none, set all)

/-- The next VERDICT_FWD frame accepted on the twin link, when it belongs to a transfer of direction `dir`: one under way, or
one whose header byte DIR says so (Table 5.9). -/
def State.takeFwd (s : State) (dir : Nat) : Option ((List Byte × Bool) × State) :=
  match s.linkTake 0 [7] with
  | none => none
  | some ((_, flags, _, p), t) =>
    let d := if cget [] s.vp.fwdIn 0 ≠ [] then 0 else if cget [] s.vp.fwdIn 1 ≠ [] then 1 else beAt p 0 1
    if d = dir then some ((p, flags % 2 = 1), t) else none

/-- A frame of a forwarded request arrives at the active device: the whole request enters the parser of ounce 2 with
TRUST PASS; one whose TRUST is FAIL is discarded, and a device that is not active discards it (R181, R182). -/
def execVerdictFwdRequestRx (s : State) : Outcome :=
  done (
    let (whole, s) : Option (List Byte) × State := match s.takeFwd 0 with | none => (none, s) | some ((piece, last), s) => s.fwdJoin 0 piece last
    match whole with
    | none => s
    | some b =>
      if !s.twActive then s.vmBump 2 14
      else
        let s := s.vmBump 2 13
        if beAt b 1 1 ≠ 1 then s.vmBump 2 8
        else
          let env := sliceBytes b 48 (beAt b 10 2)
          (s.parseUse 2 true).newFrame {
            src := 1024, data := [], body := beBytes 2 (s.vpEtype 2) ++ env, trust := .pass, known := .pass, ended := 1, committed := true,
            ctx := beAt b 4 4 % 2 ^ 17, place := .parsing 2, isVerdict := true, isFwd := true, fwdId := beAt b 12 4, fwdPort := beAt b 8 2,
            rxTime := beAt b 16 8, tagged := decide (beAt b 41 1 % 2 = 1) })

/-- A frame of a forwarded response arrives at the standby: the whole response is built into a frame for the recorded
port; a FWD_ID that is not in the table discards it (R181). -/
def execVerdictFwdResponseRx (s : State) : Outcome :=
  done (
    let (whole, s) : Option (List Byte) × State := match s.takeFwd 1 with | none => (none, s) | some ((piece, last), s) => s.fwdJoin 1 piece last
    match whole with
    | none => s
    | some b =>
      let i := beAt b 12 4
      match oget s.vp.fwd i with
      | none => s.vmBump 2 14
      | some e =>
        let vref := beAt b 24 8
        let o := natField vref 53 47 / 32
        let s := { s with vp := { s.vp with fwd := odel i s.vp.fwd } }
        s.buildResponse o e.ctx e.port (beAt b 3 1 % 32) e.src (sliceBytes b 48 (beAt b 10 2)) (beAt b 41 1 % 2 = 1) vref (beAt b 32 8)
          (beAt b 40 1))

/-- RESP_TMO of a standby's table entry expires: the entry is freed (R180). -/
def execFwdEntryTimeout (i : Nat) (s : State) : Outcome :=
  done (
    match oget s.vp.fwd i with
    | none => s
    | some e => if s.respTmo 2 < s.clk.ns - e.at_ then { s with vp := { s.vp with fwd := odel i s.vp.fwd } } else s)

/-! ### Registers (R184, R185) -/

/-- A write to OZ_VP_CFG: EN = 1 written while it is 1 clears the pipeline counters of all four ounces. -/
def execOzVpCfgWrite (o : Nat) (v : Reg) (s : State) : Outcome :=
  done (
    let s :=
      if bitAt v 0 && s.vpOn o then
        [0, 1, 2, 3].foldl (fun s p => (List.range 16).foldl (fun s k => s.clrCtr (ozPage p) (1 + k) 0) s) s
      else s
    (s.wrAll tOZ 0x800 (v &&& 0xFFFF0007)).took (ozPage o))

/-- The writable bits of the service registers (Table 5.12). -/
def serviceMask (off : Nat) : Reg := if off = 0x808 then 0xFFFFFFFF else if off = 0x810 then 0xFF else 0xFFFF

/-- A write to OZ_VP_ETYPE, OZ_VP_SVC_MAC or OZ_VP_REMAP: refused while the service is enabled. -/
def execVpServiceRegWrite (o off : Nat) (v : Reg) (s : State) : Outcome :=
  done (
    if off ≠ 0x804 ∧ off ≠ 0x808 ∧ off ≠ 0x80C ∧ off ≠ 0x810 then s
    else if s.vpOn o then s.vpStatus o 0x314
    else (s.wrAll tOZ off (v &&& serviceMask off)).took (ozPage o))

end Sys2Proof.Machine
end

