-- ==== Sys2Proof/Machine/PkCmds.lean ====
section
/-!
DEFINITION. Commands of the public-key engines (chapter 10).
-/
namespace Sys2Proof.Machine

/-! ### Queues (R331, R332) -/

/-- A write to PK_Q_PROD. -/
def execPkQProdWrite (o q v : Nat) (s : State) : Outcome := done ((s.pkProd o q v).took (pkPage o))

/-- An 8-byte store of core `c` reaches the doorbell word of queue 4 + `k` (R331). -/
def execPkDoorbellStore (c k : Nat) (v : Word) (s : State) : Outcome :=
  done (
    if s.coreRuns c then s.storeArrives c (0x1000000 + 0x97F000 + 8 * k) (leBytes 8 v.toNat) (s.core c).ring else s)

/-- Descriptors waiting in a queue. -/
def State.pkPending (s : State) (o q : Nat) : Nat :=
  (s.fld (pkQ o q 0x10) 15 0 + 65536 - s.fld (pkQ o q 0x14) 15 0) % 65536
/-- The queue to serve next, in rotation after the one served last. -/
def State.pkNextQueue (s : State) (o : Nat) : Option Nat :=
  ((List.range 8).map fun i => (cget 7 s.pk.lastQ o + 1 + i) % 8).find? fun q =>
    decide (s.fld (pkQ o q 0) 0 0 = 1) && decide (0 < s.pkPending o q)
/-- The head descriptor of a queue. -/
def State.pkHead (s : State) (o q : Nat) : PkRun :=
  let sp := s.fld (pkQ o q 0) 9 8
  let size := s.fld (pkQ o q 0) 7 4
  let a := s.rd64 (pkQ o q 8) + 64 * (s.fld (pkQ o q 0x14) 15 0 % 2 ^ size)
  { q := q, space := sp, at_ := (pkSpace o sp).1 + a, desc := s.pkRead o sp a 64 }
/-- The engines an operation gets now: the named one, two in DUP, one in INV (R332, R334, R349–R351). -/
def State.pkAssign (s : State) (o : Nat) (x : PkRun) : Option (Nat × Option Nat) :=
  let free := (s.pkFree o).filter fun e => !x.bad.contains e
  if x.named && !x.retried then (if (s.pkFree o).contains (x.f 2 1) then some (x.f 2 1, none) else none)
  else if s.pkInv o || x.named then free.head?.map fun e => (e, none)
  else match free with
    | a :: b :: _ => some (a, some b)
    | [a] => if x.retried ∧ (s.pkEngines o).all (fun e => x.bad.contains e || decide (e = a)) then some (a, none) else none
    | [] => none
/-- An operation starts on its engines. -/
def State.pkStart (s : State) (o : Nat) (x : PkRun) (e : Nat × Option Nat) : State :=
  { s with pk := { s.pk with run := oput { x with e1 := e.1, e2 := e.2 } (o * 16 + e.1) s.pk.run } }

/-- The arbiter of an ounce takes a descriptor: a retry that waits goes first (R351), then the next queue in rotation. What
the checks of Table 10.2 refuse is completed; the rest waits for its engines (R332). -/
def execPkDescriptorTake (o : Nat) (s : State) : Outcome :=
  done (
    if s.keyHold || !s.domOn (68 + o) then s
    else match s.pk.retry.find? fun e => e.1 = o with
      | some (_, x) =>
        (match s.pkAssign o x with
        | none => s
        | some e => { s with pk := { s.pk with retry := s.pk.retry.erase (o, x) } }.pkStart o x e)
      | none =>
        if s.fld (pkReg o 0x100) 0 0 = 0 then s
        else match s.pkNextQueue o with
          | none => s
          | some q =>
            let x := s.pkHead o q
            let take (s : State) : State :=
              { s.setFld (pkQ o q 0x14) 15 0 (s.fld (pkQ o q 0x14) 15 0 + 1) with pk := { s.pk with lastQ := cput 7 q o s.pk.lastQ } }
            if x.space = 1 && !s.busMaster then s
            else match s.pkChecks o x with
              | (.error code, s) => ((take s).pkBump o 4).pkFinish o x code 0
              | (.ok k, t) =>
                match t.pkAssign o x with
                | none => s
                | some e => (take t).pkStart o { x with kbpk := k } e)

/-- The operation whose lower engine is `e`. -/
def State.pkRun (s : State) (o e : Nat) : Option PkRun := oget s.pk.run (o * 16 + e)
/-- Write it. -/
def State.setPkRun (s : State) (o e : Nat) (x : PkRun) : State := { s with pk := { s.pk with run := oput x (o * 16 + e) s.pk.run } }

/-- The engines hold every operand byte (R345, R347). -/
def execPkOperandsReady (o e : Nat) (s : State) : Outcome :=
  done (
    match s.pkRun o e with
    | none => s
    | some x =>
      if x.ready || ((List.range 4).any fun i => decide (x.a i / 2 ^ 62 = 1)) && !s.busMaster then s
      else
        let arg (i : Nat) : List Byte := if (pkOutputs x.fn).contains i then [] else s.pkRead o (x.a i / 2 ^ 62) (x.a i % 2 ^ 62) (x.l i)
        s.setPkRun o e { x with ready := true, args := (List.range 3).map arg })

/-- What an operation comes to: done with its result and public key, an invalid input (R344), a signature that does not
verify (R346), or a wait for random bytes or a GEN. -/
inductive PkRes where
  | ok (out pub : List Byte)
  | invalid
  | unverified
  | wait
deriving DecidableEq, Repr

/-- The operation of code `fn` in engine `e` computes. -/
def State.pkCompute (s : State) (o e fn : Nat) (f : PkRun → State → PkRes × State) : State :=
  match s.pkRun o e with
  | none => s
  | some x =>
    if x.fn ≠ fn ∨ x.ready = false ∨ x.computed then s
    else match f x s with
      | (.ok out pub, s) => s.setPkRun o e { x with computed := true, status := 0, out := out, pub := pub }
      | (.invalid, s) => s.setPkRun o e { x with computed := true, status := 0x501 }
      | (.unverified, s) => s.setPkRun o e { x with computed := true, status := 0x502 }
      | (.wait, s) => s
/-- Argument `i`. -/
def PkRun.arg (x : PkRun) (i : Nat) : List Byte := nth [] x.args i
/-- The result of a verification. -/
def verdictOf (ok : Bool) : PkRes := if ok then .ok [] [] else .unverified
/-- Random bytes for an operation: drawn from the ounce DRBG, their values free (log entry 2). -/
def State.pkRandom (s : State) (o n : Nat) (k : List Byte → State → PkRes × State) : PkRes × State :=
  match s.draw o ((n + 15) / 16) with
  | (none, _) => (.wait, s)
  | (some _, s) =>
    let (r, s) := s.freeBytes n
    k r s

/-! ### Modular exponentiation and RSA (R336, R338) -/

/-- MODEXP. -/
def execModexp (o e : Nat) (s : State) : Outcome :=
  done (s.pkCompute o e 0x01 fun x s =>
    let k := x.nbits / 8
    let n := ofBe (x.arg 0)
    let b := ofBe (x.arg 1)
    let y := ofBe (x.arg 2)
    if x.curve ≠ 0 ∨ x.nbits < 256 ∨ 8192 < x.nbits ∨ x.nbits % 64 ≠ 0 ∨ x.l 0 ≠ k ∨ x.l 1 ≠ k ∨ x.l 2 = 0 ∨ k < x.l 2 ∨ x.l 3 < k ∨
        n % 2 = 0 ∨ !n.testBit (x.nbits - 1) ∨ b = 0 ∨ n ≤ b ∨ y = 0 then (.invalid, s)
    else (.ok (beBytes k (modPow b y n)) [], s))

/-- The RSA sizes of an operation. -/
def rsaSize (n : Nat) (verify : Bool) : Bool := decide (n = 2048) || decide (n = 3072) || decide (n = 4096) || (verify && decide (n = 1024))

/-- RSA_VERIFY. -/
def execRsaVerify (o e : Nat) (s : State) : Outcome :=
  done (s.pkCompute o e 0x10 fun x s =>
    let k := x.nbits / 8
    let sig := ofBe (x.arg 2)
    match rsaPublic x.nbits (x.arg 0) with
    | none => (.invalid, s)
    | some (n, y) =>
      if x.curve ≠ 0 ∨ !rsaSize x.nbits true ∨ x.l 1 ≠ x.hlen ∨ x.l 2 ≠ k ∨ sig = 0 ∨ n ≤ sig then (.invalid, s)
      else
        let em := beBytes k (modPow sig y n)
        (verdictOf (if x.pad = 0 then em = emsaPkcs1 k (x.arg 1) else pssVerify k (x.arg 1) em), s))

/-- RSA_SIGN. -/
def execRsaSign (o e : Nat) (s : State) : Outcome :=
  done (s.pkCompute o e 0x11 fun x s =>
    let k := x.nbits / 8
    match s.blobOpen (x.arg 0) x.zone 0 x.nbits 1 with
    | none => (.invalid, s)
    | some key =>
      if x.curve ≠ 0 ∨ !rsaSize x.nbits false ∨ x.l 1 ≠ x.hlen ∨ x.l 3 < k then (.invalid, s)
      else if x.pad = 0 then (.ok (beBytes k (rsaPrivate key (ofBe (emsaPkcs1 k (x.arg 1))))) [], s)
      else s.pkRandom o x.hlen fun salt s =>
        match emsaPss k (x.arg 1) salt with
        | none => (.invalid, s)
        | some em => (.ok (beBytes k (rsaPrivate key (ofBe em))) [], s))

/-- RSA_ENCRYPT. -/
def execRsaEncrypt (o e : Nat) (s : State) : Outcome :=
  done (s.pkCompute o e 0x12 fun x s =>
    let k := x.nbits / 8
    match rsaPublic x.nbits (x.arg 0) with
    | none => (.invalid, s)
    | some (n, y) =>
      if x.curve ≠ 0 ∨ !rsaSize x.nbits false ∨ k < x.l 1 + 2 * x.hlen + 2 ∨ x.l 3 < k then (.invalid, s)
      else s.pkRandom o x.hlen fun seed s =>
        (.ok (beBytes k (modPow (ofBe (oaepEncode k x.hlen (x.arg 1) seed)) y n)) [], s))

/-- RSA_DECRYPT. -/
def execRsaDecrypt (o e : Nat) (s : State) : Outcome :=
  done (s.pkCompute o e 0x13 fun x s =>
    let k := x.nbits / 8
    match s.blobOpen (x.arg 0) x.zone 0 x.nbits 2 with
    | none => (.invalid, s)
    | some key =>
      let c := ofBe (x.arg 1)
      if x.curve ≠ 0 ∨ !rsaSize x.nbits false ∨ x.l 1 ≠ k ∨ x.l 3 < k - 2 * x.hlen - 2 ∨ c = 0 ∨ nth 0 (rsaParts key) 5 ≤ c then (.invalid, s)
      else match oaepDecode k x.hlen (beBytes k (rsaPrivate key c)) with
        | none => (.invalid, s)
        | some m => (.ok m [], s))

/-! ### Elliptic curves (R338, R339) -/

/-- A NIST curve. -/
def PkRun.nist (x : PkRun) : Bool := decide (1 ≤ x.curve ∧ x.curve ≤ 3) && decide (x.nbits = 0)
/-- A digest length of ECDSA. -/
def digestLen (n : Nat) : Bool := decide (n = 32) || decide (n = 48) || decide (n = 64)

/-- ECDSA_VERIFY. -/
def execEcdsaVerify (o e : Nat) (s : State) : Outcome :=
  done (s.pkCompute o e 0x20 fun x s =>
    let c := curveOf x.curve
    let r := ofBe ((x.arg 2).take c.fw)
    let t := ofBe ((x.arg 2).drop c.fw)
    if !x.nist ∨ !digestLen (x.l 1) ∨ x.l 2 ≠ 2 * c.fw then (.invalid, s)
    else match c.decode (x.arg 0) with
      | none => (.invalid, s)
      | some q =>
        if r = 0 ∨ c.n ≤ r ∨ t = 0 ∨ c.n ≤ t then (.invalid, s) else (verdictOf (c.verify q (x.arg 1) r t), s))

/-- ECDSA_SIGN. -/
def execEcdsaSign (o e : Nat) (s : State) : Outcome :=
  done (s.pkCompute o e 0x21 fun x s =>
    let c := curveOf x.curve
    if !x.nist ∨ !digestLen (x.l 1) ∨ x.l 3 < 2 * c.fw then (.invalid, s)
    else match s.blobOpen (x.arg 0) x.zone x.curve 0 1 with
      | none => (.invalid, s)
      | some key =>
        s.pkRandom o 32 fun extra s =>
          match c.sign key.d (x.arg 1) extra with
          | none => (.wait, s)
          | some (r, t) => (.ok (beBytes c.fw r ++ beBytes c.fw t) [], s))

/-- ECDH. -/
def execEcdh (o e : Nat) (s : State) : Outcome :=
  done (s.pkCompute o e 0x22 fun x s =>
    let c := curveOf x.curve
    if !x.nist ∨ x.l 3 < c.fw then (.invalid, s)
    else match s.blobOpen (x.arg 0) x.zone x.curve 0 4, c.decode (x.arg 1) with
      | some key, some q =>
        (match c.mul key.d (some q) with
        | none => (.invalid, s)
        | some (px, _) => (.ok (beBytes c.fw px) [], s))
      | _, _ => (.invalid, s))

/-- ED25519_VERIFY. -/
def execEd25519Verify (o e : Nat) (s : State) : Outcome :=
  done (s.pkCompute o e 0x30 fun x s =>
    if x.curve ≠ 4 ∨ x.nbits ≠ 0 ∨ x.l 0 ≠ 32 ∨ 65536 < x.l 1 ∨ x.l 2 ≠ 64 then (.invalid, s)
    else match edVerify (x.arg 0) (x.arg 1) (x.arg 2) with
      | none => (.invalid, s)
      | some ok => (verdictOf ok, s))

/-- ED25519_SIGN. -/
def execEd25519Sign (o e : Nat) (s : State) : Outcome :=
  done (s.pkCompute o e 0x31 fun x s =>
    if x.curve ≠ 4 ∨ x.nbits ≠ 0 ∨ 65536 < x.l 1 ∨ x.l 3 < 64 then (.invalid, s)
    else match s.blobOpen (x.arg 0) x.zone 4 0 1 with
      | none => (.invalid, s)
      | some key => (.ok (edSign (key.text.take 32) (x.arg 1)) [], s))

/-- X25519. -/
def execX25519 (o e : Nat) (s : State) : Outcome :=
  done (s.pkCompute o e 0x32 fun x s =>
    if x.curve ≠ 5 ∨ x.nbits ≠ 0 ∨ x.l 1 ≠ 32 ∨ x.l 3 < 32 then (.invalid, s)
    else match s.blobOpen (x.arg 0) x.zone 5 0 4 with
      | none => (.invalid, s)
      | some key =>
        let out := x25519 (key.text.take 32) (x.arg 1)
        if out.all (· = 0) then (.invalid, s) else (.ok out [], s))

/-! ### Keys (R340–R342) -/

/-- Write a key as a blob of the zone under its current epoch and next GEN; it waits for a GEN at the ceiling (R384). -/
def State.pkBlob (s : State) (x : PkRun) (k : PkKey) (pub : List Byte) : PkRes × State :=
  if !s.genReady x.zone then (.wait, s.raiseCeil x.zone)
  else if x.l 3 < 48 + k.text.length then (.invalid, s)
  else
    let (gen, s) := s.nextGen x.zone
    (.ok (s.blobSeal x.zone gen k) pub, s)

/-- PKGEN: the private key comes from the ounce DRBG; how the spec does not say, so its value is free (log entry 2). -/
def execPkgen (o e : Nat) (s : State) : Outcome :=
  done (s.pkCompute o e 0x40 fun x s =>
    let c := curveOf x.curve
    let size := if x.curve ≤ 3 then 2 * c.fw + 1 else 32
    if x.curve = 0 ∨ 5 < x.curve ∨ x.nbits ≠ 0 ∨ x.l 2 ≠ size ∨ x.l 3 < 48 + blobText (curveKind x.curve) x.curve 0 then (.invalid, s)
    else if !s.genReady x.zone then (.wait, s.raiseCeil x.zone)
    else s.pkRandom o 72 fun r s =>
      if x.curve ≤ 3 then
        let d := 1 + ofLe r % (c.n - 1)
        let q := c.encode (c.mul d c.g)
        s.pkBlob x { kind := 2, curve := x.curve, use := if x.pad = 1 then 1 else 4, text := beBytes c.fw d ++ q } q
      else
        let seed := r.take 32
        let q := if x.curve = 4 then edPublic seed else x25519Public seed
        s.pkBlob x { kind := curveKind x.curve, curve := x.curve, use := if x.curve = 4 then 1 else 4, text := seed ++ q } q)

/-- A private key carried by a key block agrees with itself (R342). -/
def pkConsistent (k : PkKey) : Bool :=
  if k.kind = 1 then
    let r := rsaParts k
    let p := nth 0 r 0
    let q := nth 0 r 1
    let y := nth 0 r 6
    decide (p * q = nth 0 r 5) && decide (y * nth 0 r 2 % (p - 1) = 1) && decide (y * nth 0 r 3 % (q - 1) = 1) &&
      decide (q * nth 0 r 4 % p = 1) && (rsaPublic k.nbits (k.text.drop (5 * (k.nbits / 16)))).isSome
  else if k.kind = 2 then
    let c := curveOf k.curve
    decide (0 < k.d ∧ k.d < c.n) && decide (k.text.drop c.fw = c.encode (c.mul k.d c.g))
  else if k.kind = 3 then decide (k.text.drop 32 = edPublic (k.text.take 32))
  else decide (k.text.drop 32 = x25519Public (k.text.take 32))

/-- The private key of a key block (R342), the descriptor naming its CURVE and NBITS. -/
def pkImportKey (x : PkRun) : Option PkKey :=
  let b := x.arg 1
  match kbHeaderOf [asciiText "S0", asciiText "D1", asciiText "K3"] (asciiText "RE") (asciiText "SDX") (asciiText "N") 0x44 (x.l 1) b with
  | none => none
  | some h =>
    let usage := h.attr.take 2
    let use := if usage = asciiText "S0" then 1 else if usage = asciiText "D1" then 2 else 4
    let mode := if use = 1 then asciiText "S" else if use = 2 then asciiText "D" else asciiText "X"
    let alg := sliceBytes h.attr 2 1
    let kind := curveKind x.curve
    let n := blobText kind x.curve x.nbits
    let fits := if kind = 1 then decide (alg = asciiText "R") && decide (use ≠ 4) && rsaSize x.nbits false
      else decide (alg = asciiText "E") && decide (use ≠ 2) && decide (x.curve ≤ 5) && decide (x.nbits = 0) &&
        (decide (kind = 2) || decide (use = if kind = 3 then 1 else 4))
    if !fits ∨ sliceBytes h.attr 3 1 ≠ mode then none
    else match kbField x.kbpk b h (fun k => k = n) with
      | none => none
      | some t =>
        let k : PkKey := { kind := kind, curve := x.curve, nbits := x.nbits, use := use, text := t }
        if pkConsistent k then some k else none

/-- PK_IMPORT. -/
def execPkImport (o e : Nat) (s : State) : Outcome :=
  done (s.pkCompute o e 0x41 fun x s =>
    if x.l 1 < 16 ∨ 4096 < x.l 1 then (.invalid, s)
    else match pkImportKey x with
      | none => (.invalid, s)
      | some k => s.pkBlob x k [])

/-- PK_REWRAP. -/
def execPkRewrap (o e : Nat) (s : State) : Outcome :=
  done (s.pkCompute o e 0x42 fun x s =>
    if 5 < x.curve ∨ (x.curve = 0 ∧ !rsaSize x.nbits false) ∨ (x.curve ≠ 0 ∧ x.nbits ≠ 0) then (.invalid, s)
    else match s.blobOpen (x.arg 0) x.zone x.curve x.nbits 7 with
      | none => (.invalid, s)
      | some k => s.pkBlob x k [])

/-! ### Result issue and faults (R345–R351) -/

/-- The result issues: `agree` says whether the two engines' results match, or the invariant check passes. A fault sends the
engines to their test and the operation to one retry; a second fault, or no other engine, ends it with 0x0504 (R351). -/
def execPkResultIssue (o e : Nat) (agree : Bool) (s : State) : Outcome :=
  done (
    match s.pkRun o e with
    | none => s
    | some x =>
      if !x.computed then s
      else
        let s := { s with pk := { s.pk with run := odel (o * 16 + e) s.pk.run } }
        if agree then s.pkIssue o x x.status
        else
          let es := x.e1 :: x.e2.toList
          let s := (s.pkBump o 3).irq (pkPage o) 1
          let s := { s with pk := { s.pk with test := s.pk.test ++ (es.map (o * 16 + ·)).filter (fun k => !s.pk.test.contains k) } }
          let bad := x.bad ++ es
          if x.retried ∨ (s.pkEngines o).all (bad.contains ·) then s.pkIssue o x 0x504
          else
            let y := { x with ready := false, computed := false, retried := true, bad := bad, args := [], out := [], pub := [] }
            match s.pkAssign o y with
            | none => { s with pk := { s.pk with retry := s.pk.retry ++ [(o, y)] } }
            | some es => s.pkStart o y es)

/-! ### Self-test (R357, R358) -/

/-- The next general engine, or the seal engine, leaves service for its test; the turn of the general engines is skipped
while fewer than three are in service. -/
def execPkSelfTest (o : Nat) (seals : Bool) (s : State) : Outcome :=
  done (
    let start (e : Nat) (s : State) : State := { s with pk := { s.pk with test := s.pk.test ++ [o * 16 + e] } }
    if !s.domOn (68 + o) then s
    else if seals then
      match s.sealEngine o with
      | none => s
      | some e => if s.pkTesting o e then s else start e s
    else if (s.pkEngines o).length < 3 then s
    else
      match ((List.range 15).map fun i => (cget 14 s.pk.lastTest o + 1 + i) % 15).find? fun e => s.pkInService o e with
      | none => s
      | some e => { start e s with pk := { (start e s).pk with lastTest := cput 14 e o s.pk.lastTest } })

/-- The test of an engine ends: it returns to service, or is retired (R358). -/
def execPkSelfTestEnd (o e : Nat) (pass : Bool) (s : State) : Outcome :=
  done (
    if !s.pkTesting o e || s.pkBusy o e then s
    else
      let s := { s with pk := { s.pk with test := s.pk.test.filter (· != o * 16 + e) } }
      if pass then s.pkBump o 7
      else ((s.setFld (pkReg o 0x108) e e 1).status (pkReg o 0x10C) 0x508).irq (pkPage o) 2)

/-! ### Configuration (R343, R361, R362) -/

/-- A write to PK_CFG: FORCE_INV is set only in MAKER or INTEGRATOR. -/
def execPkCfgWrite (o : Nat) (v : Reg) (s : State) : Outcome :=
  done (
    let clear (s : State) : State := if bitAt v 31 then (List.range 8).foldl (fun s k => s.clrCtr (pkPage o) k 0) s else s
    if s.lockInForce then clear (s.lockDrop (pkPage o))
    else
      let s := (clear (s.setFld (pkReg o 0x100) 0 0 (getField v 0 0))).took (pkPage o)
      if bitAt v 1 && decide (s.silicon ≠ 0) && decide (s.silicon ≠ 1) then s.status (pkReg o 0x10C) 0x50B
      else s.setFld (pkReg o 0x100) 1 1 (getField v 1 1))

/-- A write to PK_Q_CFG (`off` 0) or to a half of PK_Q_BASE (`off` 8, 12) of a queue (R362). -/
def execPkQCfgWrite (o q off : Nat) (v : Reg) (s : State) : Outcome :=
  done (
    let a := pkQ o q off
    let refuse := s.status (pkReg o 0x10C) 0x50A
    let on := s.fld (pkQ o q 0) 0 0 = 1
    if off = 0 then
      let same := getField v 7 4 = s.fld a 7 4 ∧ getField v 9 8 = s.fld a 9 8
      if (on ∧ ¬ same) ∨ getField v 9 8 = 3 ∨ getField v 7 4 < 4 ∨ 12 < getField v 7 4 then refuse
      else (s.wr a (v &&& 0x3F1)).took (pkPage o)
    else
      let w := if off = 8 then v &&& 0xFFFFFFC0 else v
      if on ∧ w ≠ s.rd a then refuse else (s.wr a w).took (pkPage o))

/-- A write to PK_ZONE_BFLOOR of the zone of PK_ZONE_SEL (R343). -/
def execPkBfloorWrite (o : Nat) (v : Reg) (s : State) : Outcome :=
  done (s.rwlWrite (pkPage o) fun s =>
    let z := s.fld (pkReg o 0x120) 5 0
    if (s.zone z).epoch < getField v 15 0 then s.status (pkReg o 0x10C) 0x50A
    else ({ s with vlt := { s.vlt with bfloor := cput 0 (getField v 15 0) z s.vlt.bfloor } }.zoneDelta z).took (pkPage o))

end Sys2Proof.Machine
end

