-- ==== Sys2Proof/Machine/PowerOps.lean ====
section
/-!
DEFINITION. Power domains (R40–R42, R507–R510): dependencies, what a domain loses and how it comes up, the closing rules of
drams and clusters (R633–R637), isolation of an ounce (R638–R642), and the carrying out of requests.
-/
namespace Sys2Proof.Machine

/-! ### Dependencies (Table 1.7) -/

/-- The domains a domain depends on; 77 is never switched. -/
def domDeps (d : Nat) : List Nat :=
  if d < 64 ∨ d = 73 then [74, 75] else if d < 68 then [d + 4, 74, 75] else if d < 72 then [76, 74, 75] else []
/-- The domains that depend on a domain. -/
def domUsers (d : Nat) : List Nat := (List.range 80).filter fun e => (domDeps e).contains d
/-- The 80 domains, each after those it depends on (R42). -/
def domOrder : List Nat := [74, 75, 76, 72, 73, 79, 68, 69, 70, 71, 64, 65, 66, 67] ++ List.range 64
/-- The ounce of a domain that an ounce isolation switches (R638). -/
def domOunce (d : Nat) : Option Nat := if d < 64 then some (d / 16) else if d < 72 then some (d % 4) else none

/-- A domain changes state; PW_DSTAT counts from here. -/
def State.domTo (s : State) (d v : Nat) : State := { s.setDomain d v with st := { s.st with domT := cput 0 s.clk.ns d s.st.domT } }

/-! ### Registers of a domain (R480) -/

/-- The block-specific registers and counters of a page return to their reset values; `keep` names offsets that stay. -/
def State.dropPage (s : State) (p : Nat) (keep : Nat → Bool) : State :=
  { s with regs := tdrop (fun a => a < bar2 ∧ a / 0x1000 = p ∧ 0x100 ≤ a % 0x1000 ∧ !keep (a % 0x1000)) s.regs,
           ctrs := tdrop (fun k => k / 2 ^ 24 = p) s.ctrs }
/-- The RWS fields of a lane block: LN_TXEQ and LN_RXEQ (R14). -/
def lnKept (off : Nat) : Bool := let o := (off - 0x100) % 0xE0; o == 8 || o == 0xC

/-! ### Drams (R633–R635) -/

/-- A register of a dram's DR page. -/
def drReg (d off : Nat) : Nat := ra tDR d off
/-- The DR page of a dram. -/
def drPage (d : Nat) : Nat := pageNo tDR d
/-- DR_STAT.STATE: 0 IN, 1 DRAINING, 2 CLOSING, 3 OFF, 4 BIST, 5 FAILED. -/
def State.drState (s : State) (d : Nat) : Nat := s.fld (drReg d 0x104) 2 0
/-- A dram changes state: STATE_CHANGE. -/
def State.drTo (s : State) (d v : Nat) : State := (s.setFld (drReg d 0x104) 2 0 v).irq (drPage d) 0
/-- DR_STATUS records a code. -/
def State.drStatus (s : State) (d code : Nat) : State := s.status (drReg d 0x108) code
/-- Frames whose cells lie in a dram. -/
def State.dramFrames (s : State) (d : Nat) : List (Nat × Frame) :=
  s.fab.frames.filter fun e => decide (e.2.src < 1024 ∧ e.2.src / 16 = d ∧ 0 < e.2.cells + e.2.head)
/-- DR_CELLS. -/
def State.dramCells (s : State) (d : Nat) : Nat := sumNat ((s.dramFrames d).map fun e => e.2.cells + e.2.head)
/-- The lanes of a dram. -/
def dramLanes (d : Nat) : List Nat := (List.range 16).map (16 * d + ·)
/-- IN to DRAINING: the lanes go to OFF and their queues are flushed. -/
def State.drainDram (s : State) (d : Nat) : State :=
  if s.drState d = 0 then ((dramLanes d).foldl (fun s l => (s.laneOff l).flushLane l) s).drTo d 1 else s
/-- DRAINING to CLOSING: no cell holds a frame, or the rest is dropped. -/
def State.closeDram (s : State) (d : Nat) : State := (s.drTo d 2).domTo d 3
/-- Every frame whose cells still lie in the dram is dropped at its queue, in FLUSH_DROP (Table 20.4). -/
def State.dropDram (s : State) (d : Nat) : State :=
  let s := (s.dramFrames d).foldl (fun s e =>
    match s.frame e.1 with
    | none => s
    | some f =>
      match f.place with
      | .queued q => s.dropQueued q e.1 4
      | .pulled l _ => s.dropQueued (queueOf l f.cls) e.1 4
      | .staged l => s.dropQueued (queueOf l f.cls) e.1 4
      | .sending l => (s.endTx l 2).qBump (queueOf l f.cls) 4 1
      | .noticed q => (s.endFrame e.1).qBump q 4 1
      | _ => s.endFrame e.1) s
  ((s.drStatus d 0x20C).irq (drPage d) 1).closeDram d
/-- CLOSING ends: changed contexts are written back, the cache is empty (R322), and the domain powers down. -/
def State.dramClosed (s : State) (d : Nat) : State :=
  ((s.cacheHolds d).foldl (fun s i => s.evictCtx i) s).domTo d 4

/-! ### Verdict clusters (R637) -/

/-- Verdicts still in progress in an ounce. -/
def State.clusterVerdicts (s : State) (o : Nat) : List Nat :=
  (s.vp.verdicts.filter fun e => decide (coreOunce e.2.core = o) && !e.2.ended).map (·.1)
/-- Steps 1 and 2: the messages of the dispatch queue move to the substitute ounce, or are dropped. -/
def State.moveQueue (s : State) (o : Nat) : State :=
  let q := cget [] s.vp.queues o
  let sub := s.fld (ozReg o 0x810) (2 * o + 1) (2 * o)
  let s := { s with vp := { s.vp with queues := cput [] [] o s.vp.queues } }
  q.foldl (fun s m =>
    let t := cget [] s.vp.queues sub
    if sub ≠ o ∧ s.domOn (64 + sub) ∧ t.length < 512 then { s with vp := { s.vp with queues := cput [] (t ++ [m]) sub s.vp.queues } }
    else
      let s := ((s.vmBump o 7).errInfo (ozPage o) o 0x313).vinprog m.ctx false
      match m.frame with | some n => s.delFrame n | none => s) s
/-- Step 3, its time over: what is still in progress loses its held effects and its response, counted in SVC_DISCARD. -/
def State.discardCluster (s : State) (o : Nat) : State :=
  (s.clusterVerdicts o).foldl (fun s v =>
    match s.verdict v with
    | none => s
    | some x =>
      let s := (s.dropResp v).modVerdict v fun y => { y with trust := .fail, held := [], resp := none }
      let s := x.held.foldl (fun s h => s.dropHeld x.core h) s
      let s := if x.owns then s.releaseSlot x.core x.slot else s.verdictEnd v
      s.bump (ozPage o) 0 0 1) s

/-! ### What a domain loses, and how it comes up (R508) -/

/-- Every core of an ounce is reset and its memories are lost: they come up filled with zeros (R228). -/
def State.clusterLost (s : State) (o : Nat) : State :=
  let s := (List.range 32).foldl (fun s k =>
    let c := 32 * o + k
    let s := s.resetCore c
    ((s.modCore c fun x => { vcount := x.vcount, slots := x.slots }).zeroBytes (spData c) 0x40000).zeroBytes (spInstr c) 0x20000) s
  (s.zeroBytes (spCluster o) 0x1000000).dropPage (vcPage o) fun _ => false
/-- The key and PK engines of an ounce stop (R312, R360): vault, engines and DRBG are lost. Their cluster went off before them,
so every key operation is of a slot already released, and ends without a result (R196). -/
def State.keyLost (s : State) (o : Nat) : State :=
  let s := s.pkAbort o
  let s := { s with pay := { s.pay with queue := cput [] [] o s.pay.queue, run := tdrop (fun k => k / 16 = o) s.pay.run },
                    vlt := { s.vlt with resident := tdrop (fun k => k / 2 ^ 32 = o) s.vlt.resident,
                                        fills := s.vlt.fills.filter (fun f => f.1 != o) } }
  s.closeSlots.drbgOff o

/-- A domain reaches OFF: what it holds is lost. -/
def State.domainLost (s : State) (d : Nat) : State :=
  let s := s.domTo d 0
  if d < 64 then
    let s := (dramLanes d).foldl (fun s l => (s.laneOff l).flushLane l) s
    let s := { s with fab := { s.fab with lanes := tdrop (fun l => l < 1024 ∧ l / 16 = d) s.fab.lanes,
                                          grains := tdrop (fun k => k / 8 = d) s.fab.grains,
                                          scEvents := tdrop (fun k => k = d) s.fab.scEvents, cvlRx := tdrop (fun k => k = d) s.fab.cvlRx },
                      cxs := { s.cxs with cache := s.cxs.cache.filter fun (e : Nat × CachedCtx) => e.2.c.cacheOf != d } }
    ((s.dropPage (pageNo tDQ d) fun _ => false).dropPage (pageNo tLN d) lnKept).dropPage (pageNo tSC d) fun _ => false
  else if d < 68 then s.clusterLost (d - 64)
  else if d < 72 then s.keyLost (d - 68)
  else if d = 72 then s.hostReset true
  else if d = 73 then
    let s := (List.range 12).foldl (fun s i => s.laneOff (1024 + i)) s
    let s := { s with jn := { s.jn with link := { s.jn.link with lost := true, key := [] } } }
    let s := { s.ringOut with fab := { s.fab with lanes := tdrop (fun l => 1024 ≤ l) s.fab.lanes } }
    s.dropPage (pageNo tLN 64) lnKept
  else if d = 74 ∨ d = 75 then { s with mem := s.mem.filter (fun c => 2 ^ 64 ≤ c.1), cxs := { s.cxs with hbm := [] } }
  else if d = 76 then { s with rng := { s.rng with src := [] } }
  else if d = 79 then (s.custodianStop).dropPage cbPage fun _ => false
  else s

/-- The words of the firmware image enter the instruction SRAM of a core: word i of the image at byte 8i (log entry 32). -/
def State.loadFirmware (s : State) (c : Nat) : State :=
  s.st.fw.foldl (fun s e => if e.1 < 0x4000 then s.setLe (spInstr c + 8 * e.1) 8 e.2.toNat else s) s

/-- A domain reaches ON: its blocks start at their reset values. -/
def State.domainUp (s : State) (d : Nat) : State :=
  let s := s.domTo d 2
  let s := { s with st := { s.st with held := s.st.held.filter (fun w => w.1 != d), wakes := s.st.wakes.filter (fun w => w.1 != d) } }
  if d < 64 then s.drTo d 4
  else if d < 68 then
    let o := d - 64
    let due := s.hi.mbWait.filter fun c => coreOunce c = o
    let s := due.foldl (fun s c => s.setEvent c 17) { s with hi := { s.hi with mbWait := s.hi.mbWait.filter fun c => coreOunce c ≠ o } }
    (List.range 32).foldl (fun s k => s.loadFirmware (32 * o + k)) s
  else if d < 72 then
    let o := d - 68
    let s := (s.wrn (kvReg o 0xC08) 0).wrn (ra tPK o 0x108) 0
    s.drbgInstantiateDue o
  else if d = 76 then s.startTests 1024
  else if d = 79 then
    let s := { s with cb := { s.cb with card := s.cb.card.idle } }
    if s.readerOn then s.modRdr fun x => { x with st := 1 } else s
  else s

/-- Closing begins: the crossings close and the block's closing rule runs (Table 15.5). -/
def State.beginClose (s : State) (d : Nat) : State :=
  if d < 64 then s.drainDram d
  else if d < 68 then (s.domTo d 3).moveQueue (d - 64)
  else if d < 72 then (s.domTo d 3).pkAbort (d - 68)
  else if d = 79 then (s.custodianStop).domTo d 3
  else s.domTo d 3

/-! ### Carrying out what is wanted (R42, R509) -/

/-- A domain on its way, judged once: it begins to move when what it depends on, or what depends on it, allows. -/
def State.moveDomain (s : State) (w : Nat × Bool) : State :=
  let d := w.1
  if w.2 then
    if s.domain d = 0 ∧ (domDeps d).all s.domOn then (if d < 64 then (s.drTo d 4).domTo d 1 else s.domTo d 1) else s
  else if s.domain d = 2 ∧ (domUsers d).all (fun e => s.domain e = 0) then s.beginClose d
  else s
/-- A domain on its way has arrived. -/
def State.arrived (s : State) (w : Nat × Bool) : Bool := s.domain w.1 = if w.2 then 2 else 0
/-- Everything that can move begins to; a power request whose last domain has arrived ends (R509). -/
def State.powerStep (s : State) : State :=
  let s := s.st.want.foldl State.moveDomain s
  let s := { s with st := { s.st with want := s.st.want.filter fun w => !s.arrived w } }
  let a := ra tPW 0 0x110
  if s.fld a 31 31 = 1 ∧ s.st.req.all (fun d => !(s.st.want.any fun w => w.1 = d)) then
    let s := (s.setFld a 31 31 0).setFld a 22 16 (s.st.reqIso.getD 0)
    let s := s.status a (if s.st.reqIso.isSome then 0x885 else 0)
    { s with st := { s.st with req := [], reqIso := none } }.irq (pageNo tPW 0) 0
  else s
/-- Domains are to go to a state. -/
def State.wantAll (s : State) (ds : List Nat) (on : Bool) : State :=
  let old := s.st.want.filter fun w => !ds.contains w.1
  { s with st := { s.st with want := old ++ (ds.map fun d => (d, on)) } }

/-- A start runs (GLB_START_STAT.RUNNING). -/
def State.startRunning (s : State) : Bool := s.fld (ra tGLB 0 0x204) 8 8 = 1
/-- OZ_ISO_STAT.STATE of an ounce. -/
def State.isoState (s : State) (o : Nat) : Nat := s.fld (ozReg o 0x104) 1 0
/-- A domain belongs to an ounce that is isolated or isolating. -/
def State.isoDomain (s : State) (d : Nat) : Bool := match domOunce d with | some o => s.isoState o != 0 | none => false
/-- The domains that must be ON for a domain, itself included. -/
def domClosure (d : Nat) : List Nat := domOrder.filter fun e => e == d || (domDeps d).contains e || (domDeps d).any fun f => (domDeps f).contains e

/-- The first wake that may act does (R510): no request is BUSY, no start runs, and its ounce is in service. -/
def State.serveWake (s : State) : State :=
  if s.fld (ra tPW 0 0x110) 31 31 = 1 ∨ s.startRunning then s
  else match s.st.wakes.find? fun w => !s.isoDomain w.1 with
    | none => s
    | some w =>
      let s := { s with st := { s.st with wakes := s.st.wakes.filter (· != w) } }
      (s.wantAll ((domClosure w.1).filter fun e => !s.domOn e) true).powerStep

/-! ### Power requests (R507) -/

/-- Why a domain refuses a request, 0 if it does not: `mask` is the set requested. -/
def State.pwRefusal (s : State) (mask : List Nat) (on cust : Bool) (d : Nat) : Nat :=
  if 79 < d then 0x886
  else if d = 77 ∨ d = 78 ∨ (!cust && (d == 72 || d == 73 || d == 76 || d == 79)) then 0x883
  else if s.domain d = (if on then 2 else 0) then 0
  else if on ∧ (domDeps d).any (fun e => !s.domOn e && !mask.contains e) then 0x881
  else if !on ∧ (domUsers d).any (fun e => s.domain e != 0 && !mask.contains e) then 0x882
  else if s.isoDomain d then 0x885
  else if s.fld (ra tPW 0 0x110) 31 31 = 1 ∨ s.startRunning then 0x884
  else if d < 64 ∧ s.drState d ≠ 0 ∧ s.drState d ≠ 3 then 0x884
  else 0
/-- A refused request. -/
def State.pwRefuse (s : State) (d code : Nat) : State :=
  let a := ra tPW 0 0x110
  (((s.setFld a 22 16 d).status a code).bump (pageNo tPW 0) 0 0 1).irq (pageNo tPW 0) 1
/-- A power request for the domains of a bit mask; 74 and 75 go together (R28). The status is answered as well. -/
def State.pwRequest (s : State) (bits : Nat) (on cust : Bool) : Nat × State :=
  let named := (List.range 128).filter bits.testBit
  let mask := named ++ (if named.contains 74 && !named.contains 75 then [75] else []) ++
    (if named.contains 75 && !named.contains 74 then [74] else [])
  if mask = [] then (0x886, s.pwRefuse 0 0x886)
  else
    match (List.range 128).find? fun d => mask.contains d && s.pwRefusal mask on cust d != 0 with
    | some d => (s.pwRefusal mask on cust d, s.pwRefuse (d % 128) (s.pwRefusal mask on cust d))
    | none =>
      if s.fld (ra tPW 0 0x110) 31 31 = 1 ∨ s.startRunning then (0x884, s.pwRefuse (mask.headD 0) 0x884)
      else
        let s := (s.setFld (ra tPW 0 0x110) 31 31 1).setFld (ra tPW 0 0x110) 22 16 0
        let s := ({ s with st := { s.st with req := mask } }).wantAll (mask.filter fun d => s.domain d != (if on then 2 else 0)) on
        (0, s.powerStep)

/-! ### Isolation (R638–R642) -/

/-- The 18 domains an isolation switches. -/
def isoDomains (o : Nat) : List Nat := (List.range 16).map (16 * o + ·) ++ [64 + o, 68 + o]
/-- The isolation of an ounce begins: OZ_ISO_PREV, step 1 of Table 20.5. A power request under way leaves its domains to it. -/
def State.isoBegin (s : State) (o : Nat) (forced : Bool) : State :=
  let prev := bitsOf ((isoDomains o).map s.domOn)
  let hit := s.st.req.find? fun d => (isoDomains o).contains d && (s.st.want.any fun w => w.1 == d)
  let s := (s.wrn (ozReg o 0x110) prev).wrn (ozReg o 0x104) (1 + 4 * b2n forced + 16)
  let s := { s with st := { s.st with want := s.st.want.filter (fun w => !(isoDomains o).contains w.1),
                                      reqIso := if s.st.reqIso.isSome then s.st.reqIso else hit } }
  (if forced then s.irq (ozPage o) 2 else s).powerStep
/-- An ounce is isolated by force (R641), with a cause that holds until its end. -/
def State.forceIso (s : State) (o cause : Nat) : State :=
  let cs := cget [] s.svc.causes o
  let s := { s with svc := { s.svc with causes := cput [] (if cs.contains cause then cs else cs ++ [cause]) o s.svc.causes } }
  if s.isoState o = 0 then s.isoBegin o true else s.setFld (ozReg o 0x104) 2 2 1
/-- An isolation reaches a dram (Table 20.4): one in BIST, or in service, goes to DRAINING; a forced one waits for no drain. -/
def State.isoDram (s : State) (forced : Bool) (d : Nat) : State :=
  let s := if s.drState d = 4 then s.drTo d 1 else s.drainDram d
  if forced ∧ s.drState d = 1 then s.dropDram d else s
/-- The step of an isolation ends, and the next begins (Table 20.5). A forced one waits for no drain. -/
def State.isoStep (s : State) (o : Nat) : State :=
  let a := ozReg o 0x104
  let forced := s.fld a 2 2 = 1
  let k := s.fld a 7 4
  if s.isoState o ≠ 1 then s
  else if k = 1 then
    let s := if s.domOn (64 + o) then s.beginClose (64 + o) else s
    (if forced then s.discardCluster o else s).setFld a 7 4 2
  else if k = 2 then
    if s.clusterVerdicts o ≠ [] then s
    else (if s.domOn (68 + o) then (s.domTo (68 + o) 3).pkAbort (68 + o - 68) else s).setFld a 7 4 3
  else if k = 3 then
    (((List.range 16).map (16 * o + ·)).foldl (fun s d => s.isoDram forced d) s).setFld a 7 4 4
  else if k = 4 then
    if (List.range 16).any fun i => s.domain (16 * o + i) != 0 then ((List.range 16).map (16 * o + ·)).foldl (fun s d => s.isoDram forced d) s
    else
      let s := if s.domain (64 + o) = 0 then s else s.domTo (64 + o) 4
      (if s.domain (68 + o) = 0 then s else s.domTo (68 + o) 4).setFld a 7 4 5
  else
    let s := if s.domain (64 + o) = 0 then s else s.domainLost (64 + o)
    let s := if s.domain (68 + o) = 0 then s else s.domainLost (68 + o)
    ((s.setFld a 1 0 2).setFld a 7 4 6).irq (ozPage o) 0
/-- The domains that an ounce's RESTORE brings back. -/
def State.isoPrev (s : State) (o : Nat) : List Nat :=
  let m := (s.rd (ozReg o 0x110)).toNat
  ((List.range 18).zip (isoDomains o)).filterMap fun e => if m.testBit e.1 then some e.2 else none
/-- A RESTORE ends once its domains are ON and its drams have ended their BIST (R640). -/
def State.restoreCheck (s : State) (o : Nat) : State :=
  if s.fld (ozReg o 0x104) 3 3 = 1 ∧ (s.isoPrev o).all (fun d => (s.domOn d && (64 ≤ d || s.drState d == 0)) || (d < 64 && s.drState d == 5)) then
    (s.wrn (ozReg o 0x104) 0).irq (ozPage o) 1
  else s

/-! ### Everything off (R506, R657) -/

/-- Every switched domain goes off at once, without drains. -/
def State.allOff (s : State) : State :=
  let s := (domOrder.reverse.filter fun d => s.domain d != 0).foldl (fun s d => s.domainLost d) s
  let s := (List.range 64).foldl (fun s d => if s.drState d = 3 then s else s.setFld (drReg d 0x104) 2 0 3) s
  { s with st := { s.st with want := [], req := [], wakes := [] } }.setFld (ra tPW 0 0x110) 31 31 0

end Sys2Proof.Machine
end

