-- ==== Sys2Proof/Machine/TwinCmds.lean ====
section
/-!
DEFINITION. Commands of the twin: the mirror stream, checkpoints, heartbeats, probes, swaps and the TW registers (chapter 11,
R374–R403).
-/
namespace Sys2Proof.Machine

/-! ### Acknowledgements (R377, R384) -/

/-- What the acknowledgement of a mirrored item does: an entry commits, a GEN ceiling may be used. -/
def State.acked (s : State) (m : Mirror) : State :=
  match m with
  | .entry k q v _ => (s.commitEntry k q).commitFollow v
  | .sealRec _ => s
  | .delta _ b => if beAt b 8 1 = 4 then let z := beAt b 12 4; s.setZone z { s.zone z with ceil := beAt b 16 8 } else s
/-- An ACK matches the oldest unacknowledged JOURNAL or DELTA frame. -/
def execTwinAckRx (s : State) : Outcome :=
  done (
    match s.linkTake 0 [2] with
    | none => s
    | some (_, s) =>
      match s.jn.unacked with
      | [] => s
      | m :: rest =>
        let s := { s with jn := { s.jn with unacked := rest, sentT := s.jn.sentT.drop 1 } }
        ((s.twBump 9).acked m).tryCommitSwap)

/-! ### The standby's side of the mirror (R379, R380, R385) -/

/-- Mirror frames are accepted: by a standby that has found no fault. -/
def State.mirrorOpen (s : State) : Bool := s.isStandby && s.jn.accepting
/-- An ACK is queued. -/
def State.sendAck (s : State) : State := s.linkSend 0 2 0 []
/-- A seal record is checked, kept and acknowledged (R380). Until a seal of the ounce has been accepted there is nothing to
compare its number and PREV_DIGEST with. -/
def State.acceptSeal (s : State) (b : List Byte) : State :=
  let o := beAt b 2 1 % 4
  let x := s.sealOf o
  let no := beAt b 4 8
  let prev := sliceBytes b 0x40 48
  let genesis := (List.range 4).all fun k => (s.strand (4 * o + k)).genesisSeen
  let okNo := x.fresh || decide (no = x.no + 1) || (genesis && decide (no = 1))
  let okHead := (List.range 4).all fun k => decide (beAt b (0x20 + 8 * k) 8 ≤ (s.strand (4 * o + k)).seq)
  let okPrev := x.fresh || decide (prev = x.prev) || (decide (no = 1) && genesis && decide (prev = List.replicate 48 0))
  if okNo && okHead && okPrev then
    let d := s.sealDigest (b.take 0x70)
    let s := (s.setSeal o { x with no := no, prev := d, out := x.out ++ [b], fresh := false }).wr64 (jnReg o 0x300) no
    ((List.range 4).foldl (fun s k => s.setStrand (4 * o + k) { s.strand (4 * o + k) with genesisSeen := false }) s).sendAck
  else s.mirrorFault
/-- A JOURNAL frame at the standby (R379): accepted in sequence and acknowledged, or a mirror fault. -/
def State.acceptEntry (s : State) (b : List Byte) : State :=
  let k := beAt b 2 1 % 16
  let q := beAt b 4 8
  let x := s.strand k
  if beAt b 2 1 < 16 ∧ q = x.seq + 1 then
    let gen := decide (beAt b 1 1 = 4) && decide (beAt b 0x30 1 = 1)
    (s.setStrand k { x with seq := q, toVerify := x.toVerify ++ [b], genesisSeen := x.genesisSeen || gen }).sendAck
  else s.mirrorFault
/-- A JOURNAL frame arrives. -/
def execJournalFrameRx (s : State) : Outcome :=
  done (
    match s.linkTake 0 [1] with
    | none => s
    | some ((_, _, _, b), s) =>
      if !s.mirrorOpen then s else if beAt b 1 1 = 3 then s.acceptSeal b else s.acceptEntry b)
/-- The standby recomputes the chain value of an accepted entry. -/
def execStandbyChainVerify (k : Nat) (s : State) : Outcome := done (if s.asStandby then s.verifyOne k else s)
/-- A JOURNAL frame that holds a seal record arrives; one that does not is left to its own command. -/
def execSealRecordRx (s : State) : Outcome :=
  done (
    match s.linkTake 0 [1] with
    | none => s
    | some ((_, _, _, b), t) => if beAt b 1 1 = 3 then (if t.mirrorOpen then t.acceptSeal b else t) else s)
/-- A delta names a zone whose KEK fingerprint this device does not share: it is refused with 0x060E, and the stream with it
(R382). -/
def State.fingerprintFault (s : State) : State :=
  (({ s with jn := { s.jn with accepting := false, rx := {}, shadow := [] } }).twStatus 0x60E).setTwState 8
/-- A DELTA frame arrives (R385): its records are applied in DSEQ order and logged for a checkpoint under way. -/
def execDeltaFrameRx (s : State) : Outcome :=
  done (
    match s.linkTake 0 [3] with
    | none => s
    | some ((_, _, _, b), s) =>
      let rs := deltaRecords 256 b
      if !s.mirrorOpen then s
      else if rs.any fun r => decide (beAt r 8 1 = 3) && s.fingerprintBad (beAt r 12 4) (r.drop 16) then s.fingerprintFault
      else
        (rs.foldl (fun s r =>
          if s.jn.dseq < beAt r 0 8 then
            let s := (({ s with jn := { s.jn with dseq := beAt r 0 8 } }).wr64 (twReg 0x120) (beAt r 0 8)).applyDelta r
            if s.jn.rx.active ∧ s.jn.rx.dseqStart ≤ beAt r 0 8 then { s with jn := { s.jn with rx := { s.jn.rx with log := s.jn.rx.log ++ [r] } } } else s
          else s) s).sendAck)

/-! ### Checkpoints (R386, R387) -/

/-- TW_CKPT_S elapses while the stone is paired. -/
def execCheckpointTimer (s : State) : Outcome :=
  done (if s.twState = 2 ∧ s.fld (twReg 0x144) 15 0 ≠ 0 then s.startCheckpoint else s)
/-- A checkpoint fails at the standby: SHADOW is discarded and epoch N kept (R387). -/
def State.checkpointFail (s : State) (code : Nat) : State :=
  let s := ({ s with jn := { s.jn with rx := {}, shadow := [] } }).wrn (twReg 0x14C) 0
  let s := ((s.twStatus code).twBump 7).irq twPage 2
  if s.twState = 11 then s.setTwState 10 else s
/-- Key of a SHADOW record: its region and index. -/
def shadowKey (region i : Nat) : Nat := region * 2 ^ 40 + i
/-- The data of a segment enter SHADOW as records of `n` bytes from index `i` on. -/
def State.putShadow (s : State) (region i n : Nat) (d : List Byte) : State :=
  (List.range (d.length / n)).foldl (fun s j =>
    { s with jn := { s.jn with shadow := oput (sliceBytes d (n * j) n) (shadowKey region (i + j)) s.jn.shadow } }) s
/-- Strand heads of a checkpoint become those of a standby that is LOADING (R387). -/
def State.takeHeads (s : State) (d : List Byte) : State :=
  let s := (List.range 16).foldl (fun s k =>
    let q := beAt d (56 * k) 8
    let c := sliceBytes d (56 * k + 8) 48
    s.setStrand k { s.strand k with seq := q, chain := c, verified := q, left := q, exported := q, toVerify := [], heads := [(q, c)] }) s
  (List.range 4).foldl (fun s o => s.setSeal o { s.sealOf o with fresh := true }) s
/-- A checkpoint segment arrives: segment 0 starts the checkpoint (Table 11.10), a gap fails it. -/
def execCheckpointSegmentRx (s : State) : Outcome :=
  done (
    match s.linkTake 0 [4] with
    | none => s
    | some ((_, _, _, b), t) =>
      let epoch := beAt b 0 4
      let seg := beAt b 4 4
      let region := beAt b 8 1
      let d := sliceBytes b 32 (beAt b 12 4)
      let first := beAt b 16 8
      if region = 0xFF then s
      else
        let s := t
        let s : State :=
          if s.mirrorOpen ∧ seg = 0 then
            let s : State := { s with jn := { s.jn with rx := { active := true, epoch := epoch, dseqStart := beAt b 24 8 }, shadow := [] } }
            if s.twState = 8 then s.setTwState 9 else if s.twState = 10 then s.setTwState 11 else s
          else s
        let c := s.jn.rx
        if !s.mirrorOpen ∨ !c.active then s
        else if c.seg ≠ seg ∨ c.epoch ≠ epoch then s.checkpointFail 0x60A
        else if region = 1 ∧ ((List.range (d.length / 32)).any fun j => s.fingerprintBad (first + j) (sliceBytes d (32 * j) 32)) then s.checkpointFail 0x60E
        else
          let s := ({ s with jn := { s.jn with rx := { c with seg := seg + 1, data := c.data ++ d } } }).wrn (twReg 0x14C) (seg + 1)
          if region = 0 then (if s.twState = 9 then s.takeHeads d else s)
          else s.putShadow region first (if region = 1 then 32 else if region = 2 then 64 else 128) d)
/-- SHADOW becomes LIVE: its records, and then the deltas logged since DSEQ_START (R387). -/
def State.shadowLive (s : State) : State :=
  let c := s.jn.rx
  let s := s.jn.shadow.foldl (fun s e =>
    let i := e.1 % 2 ^ 40
    let r := e.1 / 2 ^ 40
    if r = 1 then s.applyZone i e.2 else if r = 2 then s.applyStone i e.2 else s.applyKey i e.2) s
  let s := c.log.foldl (fun s r => s.applyDelta r) s
  let d := max s.jn.dseq (c.dseqStart - 1)
  (({ s with jn := { s.jn with rx := {}, shadow := [], dseq := d } }).wr64 (twReg 0x120) d).wrn (twReg 0x114) c.epoch
/-- The end segment arrives: its count and digest decide. -/
def execCheckpointEndRx (s : State) : Outcome :=
  done (
    match s.linkTake 0 [4] with
    | none => s
    | some ((_, _, _, b), t) =>
      if beAt b 8 1 ≠ 0xFF then s
      else
        let c := t.jn.rx
        let d := b.drop 32
        if !t.mirrorOpen ∨ !c.active then t
        else if c.epoch = beAt b 0 4 ∧ c.seg = beAt b 4 4 ∧ beAt d 0 4 = c.seg ∧ sliceBytes d 4 48 = sha384 c.data then
          let s := ((t.shadowLive).wrn (twReg 0x14C) 0).twBump 6
          let s := s.irq twPage 2
          if s.twState = 9 ∨ s.twState = 11 then s.setTwState 10 else s
        else t.checkpointFail 0x60A)

/-! ### Heartbeats, loss and probes (R390–R393) -/

/-- Every 1.0 µs a HEARTBEAT is sent while the link is up, except under LOCK, by a device cut off from its HBM and
while a warm start is prepared (R497). -/
def execHeartbeatTx (s : State) : Outcome :=
  done (if s.jn.link.up ∧ !s.lockInForce ∧ !s.jn.cutOff ∧ s.st.prep.isNone then s.linkSend 0 5 0 [] else s)
/-- A HEARTBEAT arrives; it tells the partner's state, and what became of a checkpoint there: 1 completed, 2 failed, else
nothing (R387). -/
def execHeartbeatRx (st ckpt : Nat) (s : State) : Outcome :=
  done (
    match s.linkTake 0 [5] with
    | none => s
    | some (_, s) =>
      if s.jn.gone ∨ !s.jn.link.up then s
      else
        let was := s.jn.partState
        let s := { s with jn := { s.jn with partState := st } }
        if !s.twActive ∨ s.twState = 4 then s
        else if 9 ≤ was ∧ was ≤ 11 ∧ ¬ (9 ≤ st ∧ st ≤ 11) then
          ({ s with jn := { s.jn with partState := was } }).standbyLost
        else
          let s :=
            if s.jn.tx.active ∧ s.jn.tx.ended then
              if ckpt = 1 then s.checkpointDone
              else if ckpt = 2 then ((({ s with jn := { s.jn with tx := {} } }).twBump 7).irq twPage 2).startCheckpoint
              else s
            else s
          if st = 10 then s.paired else s)
/-- 8.0 µs pass without a HEARTBEAT: eight are missed, and the partner is declared lost. -/
def execHeartbeatLoss (s : State) : Outcome :=
  done (if s.jn.link.up ∧ !s.jn.gone then (s.bump twPage 0 0 8).declareLoss else s)
/-- No probe answer within PROBE_US. -/
def execProbeTimeout (s : State) : Outcome := done (if s.jn.probing then s.afterProbe false false false else s)
/-- A probe answer arrives (R391, R432); a late one is ignored. -/
def execProbeRspRx (s : State) : Outcome :=
  done (
    match s.ringTake [0x26] with
    | none => s
    | some ((_, _, p), s) =>
      let b := ringBody p
      if !s.jn.probing ∨ ringSrc p ≠ s.partner then s
      else
        let locked := beAt b 2 1 % 2 = 1
        let role := beAt b 0 1
        let s := { s with jn := { s.jn with partLocked := decide locked, partRole := role, partGen := beAt b 4 4 } }
        s.afterProbe true (decide (role = 1) && !decide locked) (decide (role = 1) && decide (s.jn.swapG = some (beAt b 4 4))))

/-! ### The partners meet (R389, R394) -/

/-- The twin link comes up over two lanes or more, with a key whose ESEQ is not lost: a STATE frame is sent. -/
def execTwinLinkUp (s : State) : Outcome :=
  done (
    let x := s.jn.link
    if x.up ∨ x.width < 2 ∨ x.lost ∨ x.key = [] then s
    else ({ s with jn := { s.jn with link := { x with up := true } } }).sendState)

/-- Entries of a strand after `q` that its ring still holds, as mirror items; none when some are gone. -/
def State.resendFrom (s : State) (k q : Nat) : Option (List Mirror) :=
  let x := s.strand k
  if q < x.left ∨ x.seq < q then none
  else some ((List.range (x.seq - q)).map fun j =>
    .entry k (q + 1 + j) ((x.uncommitted.find? (·.1 = q + 1 + j)).bind (·.2)) (s.bytes (s.entryAddr k (q + 1 + j)) 256))
/-- A standby joins the active (R389): it resumes from its DSEQ and strand heads, or starts with a checkpoint. -/
def State.standbyJoins (s : State) (p : TwinPos) : State :=
  let s := { s with jn := { s.jn with gone := false, probing := false, partState := 8 } }
  let later := s.jn.deltas.filter fun d => decide (p.dseq < d.1)
  let held := decide (p.dseq = s.jn.dseq) || (match later with | d :: _ => decide (d.1 = p.dseq + 1) | [] => false)
  let entries := (List.range 16).map fun k => s.resendFrom k (nth 0 p.heads k)
  if p.epoch ≠ 0 ∧ p.epoch = (s.rd (twReg 0x114)).toNat ∧ held ∧ entries.all Option.isSome then
    let items := later.map (fun d => Mirror.delta d.1 d.2) ++ entries.flatMap fun e => e.getD []
    ((({ s with jn := { s.jn with partState := 10, mirror := s.jn.mirror ++ items } }).twBump 12).paired).sendState
  else (s.twStatus 0x611).startCheckpoint
/-- Two actives met (R394): this device becomes a standby; entries after the fork are counted. -/
def State.forked (s : State) (gen : Nat) (p : TwinPos) : State :=
  let n := sumNat ((List.range 16).map fun k => (s.strand k).seq - nth 0 p.mirrored k)
  let s := ((s.twStatus 0x60C).irq twPage 4).bump twPage 11 0 n
  let s := ({ s with jn := { s.jn with tx := {}, accepting := true, swapG := none, swapSent := none, drained := false, solo := false } }).stopMirror
  ((s.setRoleGen gen).dropTransfers).setTwState 8
/-- A STATE frame arrives. What R389 and R394 need beyond Table 11.9 comes with it: the partner's epoch, DSEQ, strand heads and
LAST_MIRRORED, and whether the active grants a resumption (log entry 26). -/
def execSwapStateRx (p : TwinPos) (s : State) : Outcome :=
  done (
    match s.linkTake 0 [6] with
    | none => s
    | some ((_, _, _, b), t) =>
      if beAt b 0 1 ≠ 6 then s
      else
        let role := beAt b 1 1
        let st := beAt b 2 1
        let gen := beAt b 4 4
        let s := { t with jn := { t.jn with partRole := role, partGen := gen } }
        let active := s.twState = 1 ∨ s.twState = 2 ∨ s.twState = 3
        if active then
          if role = 1 then
            if s.roleGen < gen then s.forked gen p
            else if s.roleGen = gen then s.forked gen p
            else { s with jn := { s.jn with gone := false, probing := false } }
          else if role = 2 ∧ st = 8 then s.standbyJoins p
          else { s with jn := { s.jn with partState := st, gone := false } }
        else if s.isStandby ∧ role = 1 then
          let was := s.jn.gone
          let s := { s with jn := { s.jn with gone := false, probing := false, partState := st, accepting := true } }
          let s := s.setRoleGen gen
          let s := if was ∧ s.twState ≠ 8 then ({ s with jn := { s.jn with rx := {}, shadow := [] } }).setTwState 8 else s
          if s.twState = 8 ∧ p.resume then s.setTwState 10 else s
        else { s with jn := { s.jn with partState := st, gone := false, probing := false } })

/-! ### Swaps (R395–R397) -/

/-- A SWAP frame with an OP, at the head of the accepted frames: its GEN and STATUS. -/
def State.takeSwap (s : State) (op : Nat) : Option ((Nat × Nat) × State) :=
  match s.linkTake 0 [6] with
  | some ((_, _, _, b), t) => if beAt b 0 1 = op then some ((beAt b 4 4, beAt b 8 2), t) else none
  | none => none
/-- The stone is paired as this device knows it (R396, step 3). -/
def State.stonePaired (s : State) : Bool :=
  (decide (s.twState = 2) && decide (s.jn.partState = 10)) || (decide (s.twState = 10) && decide (s.jn.partState = 2))
/-- A rejected request. -/
def State.rejectSwap (s : State) (g code : Nat) : State := ((s.sendSwap 5 g code).twBump 4).irq twPage 5
/-- A swap request is judged (R396). -/
def execSwapReqRx (s : State) : Outcome :=
  done (
    match s.takeSwap 1 with
    | none => s
    | some ((g, _), s) =>
      if g ≤ s.roleGen then s.rejectSwap g 0x604
      else if s.roleGen + 1 < g then s.rejectSwap g 0x607
      else if !s.stonePaired then s.rejectSwap g 0x605
      else if s.twState = 2 then s.beginDrain g
      else if s.jn.swapSent = some g then s
      else ({ s with jn := { s.jn with swapG := some g } }).sendSwap 2 g 0)
/-- The partner has accepted the swap: a standby notes it; an active whose own request was accepted begins the drain. -/
def execSwapAcceptRx (s : State) : Outcome :=
  done (
    match s.takeSwap 2 with
    | none => s
    | some ((g, _), s) =>
      if s.twState = 2 ∧ s.jn.swapSent = some g then s.beginDrain g
      else if s.isStandby then { s with jn := { s.jn with swapG := some g } }
      else s)
/-- COMMIT(G) makes a SYNCED standby the active (R397, step 5). -/
def execSwapCommitRx (s : State) : Outcome :=
  done (
    match s.takeSwap 3 with
    | none => s
    | some ((g, _), s) =>
      let s := if s.twState = 10 then s.verifyAll else s
      if s.twState = 10 then
        let s := { s with jn := { s.jn with swapG := none, swapSent := none, accepting := false, partState := 10, solo := false, rx := {}, shadow := [] } }
        let s := ((s.setRoleGen g).takeCeilings).setTwState 2
        (((s.sendSwap 4 g 0).twBump 3).irq twPage 5).becomeActive 2
      else s)
/-- DONE(G) makes the old active a SYNCED standby, and its queued messages go to the new active (R397, step 6). -/
def execSwapDoneRx (s : State) : Outcome :=
  done (
    match s.takeSwap 4 with
    | none => s
    | some ((g, _), s) =>
      if s.twState = 4 ∧ s.jn.swapG = some g then
        let s := { s with jn := { s.jn with swapG := none, swapSent := none, drained := false, accepting := true, partState := 2, partRole := 1 } }
        let s := (List.range 16).foldl (fun s k => let x := s.strand k; s.setStrand k { x with verified := x.seq }) s
        let s := (List.range 4).foldl (fun s o => s.setSeal o { s.sealOf o with fresh := false }) s
        (((s.setTwState 10).twBump 3).irq twPage 5).forwardQueued
      else s)
/-- REJECT ends the requester's swap (R396). -/
def execSwapRejectRx (s : State) : Outcome :=
  done (
    match s.takeSwap 5 with
    | none => s
    | some ((g, code), s) =>
      if s.jn.swapSent = some g then
        (({ s with jn := { s.jn with swapSent := none } }).twStatus code).irq twPage 5
      else s)
/-- The drain ends: what is still in progress is discarded and SWAP markers are written (R397, steps 2 and 3). -/
def execSwapDrainEnd (s : State) : Outcome :=
  done (
    if s.twState = 3 ∧ !s.jn.drained then
      let s := s.discardVerdicts.markers 4 s.roleGen
      ({ s with jn := { s.jn with drained := true } }).tryCommitSwap
    else s)

/-! ### TW_CMD (Table 11.10, R403) -/

/-- TW_CMD.ACTIVATE. -/
def execTwActivate (s : State) : Outcome :=
  done (
    if s.twState ≠ 0 ∨ s.jn.cutOff then s.twStatus 0x608
    else
      let g := s.roleGen
      let s := { s with jn := { s.jn with solo := s.onLossSolo, accepting := false } }
      let s := (s.setRoleGen ((g + 1) % 2 ^ 32)).setTwState 1
      (((s.markers 2 g).becomeActive 1).twStatus 0).took twPage)
/-- TW_CMD.STANDBY, with the link up and an active partner. -/
def execTwStandby (s : State) : Outcome :=
  done (
    if s.twState ≠ 0 ∨ s.jn.cutOff ∨ !s.jn.link.up ∨ s.jn.partRole ≠ 1 then s.twStatus 0x608
    else
      let s := { s with jn := { s.jn with accepting := true, gone := false } }
      ((((s.setRoleGen s.jn.partGen).setTwState 8).sendState).twStatus 0).took twPage)
/-- TW_CMD.SWAP, by a device with a role in the stone (R395, R403). -/
def execTwSwap (s : State) : Outcome :=
  done (
    if !s.jn.link.up then s.twStatus 0x603
    else if s.twState = 1 ∨ s.twState = 2 ∨ s.isStandby then ((s.twStatus 0).requestSwap).took twPage
    else s.twStatus 0x608)
/-- TW_CMD.CHECKPOINT, at an active with a standby on its link. -/
def execTwCheckpoint (s : State) : Outcome :=
  done (
    if (s.twState = 1 ∨ s.twState = 2) ∧ s.jn.link.up ∧ 8 ≤ s.jn.partState ∧ s.jn.partState ≤ 11 then ((s.twStatus 0).startCheckpoint).took twPage
    else s.twStatus 0x608)
/-- A device goes to DETACHED: dispatch off, mirror stopped. -/
def State.detach (s : State) : State :=
  (({ s with jn := { s.jn with probing := false, accepting := false, rx := {}, shadow := [], swapG := none, swapSent := none, drained := false } }).stopMirror).setTwState 0
/-- TW_CMD.DETACH. -/
def execTwDetach (s : State) : Outcome := done ((s.detach.twStatus 0).took twPage)

/-! ### TW registers (R381, R403) -/

/-- A write to a register of the twin's configuration: TW_CFG, TW_ZONE_MIRROR, TW_SHADOW_BASE, TW_DELTA_BASE,
TW_DELTA_LOG2. -/
def execTwCfgWrite (off : Nat) (v : Reg) (s : State) : Outcome :=
  done (
    if off = 0x100 then
      let probe := getField v 15 8
      if 2 ≤ getField v 1 0 ∨ probe < 2 ∨ 11 < probe then s.twStatus 0x608
      else
        let s := if bitAt v 31 then (List.range 14).foldl (fun s k => s.clrCtr twPage k 0) s else s
        s.rwlWrite twPage fun s => (s.wr (twReg 0x100) (v &&& 0x7FFFFF13)).took twPage
    else if off = 0x140 ∨ (0x128 ≤ off ∧ off < 0x140 ∧ off % 4 = 0) then
      s.rwlWrite twPage fun s =>
        if s.twState ≠ 0 ∨ (off = 0x140 ∧ (getField v 4 0 < 20 ∨ 30 < getField v 4 0)) then s.twStatus 0x608
        else (s.wr (twReg off) (if off = 0x140 then v &&& 0x1F else v)).took twPage
    else s)
/-- A write to TW_LINK_KEY: the key it names is installed and ESEQ starts at 0 (R381). A key in a mirrored zone is not
taken. -/
def execTwLinkKeyWrite (v : Reg) (s : State) : Outcome :=
  done (s.rwlWrite twPage fun s =>
    let s := (s.wr (twReg 0x11C) v).took twPage
    let (k, code, s) := s.linkKeyOf v.toNat
    let k := if s.mirrored (handleZone v.toNat) then [] else k
    let s := if code = 0 then s else s.twStatus code
    let x := s.jn.link
    { s with jn := { s.jn with link := { x with key := k, lost := decide (k = []), txSeq := 0, rxSeq := 0, txHi := 0, rxHi := 0, replay := [], resend := none,
                                                inbox := [] } } })

end Sys2Proof.Machine
end

