-- ==== Sys2Proof/Machine/StartOps.lean ====
section
/-!
DEFINITION. Starts (R494–R505): what a cold and a warm start reset and keep, the steps of Table 15.3, failed starts and HELD,
the watchdog, heat and undervoltage.
-/
namespace Sys2Proof.Machine

/-- A register of the GLB page. -/
def glReg (off : Nat) : Nat := ra tGLB 0 off
/-- The GLB page. -/
def glPage : Nat := pageNo tGLB 0
/-- A field of GLB_START_STAT (Table 15.10). -/
def State.startFld (s : State) (hi lo : Nat) : Nat := s.fld (glReg 0x204) hi lo
/-- Write a field of GLB_START_STAT. -/
def State.setStart (s : State) (hi lo v : Nat) : State := s.setFld (glReg 0x204) hi lo v
/-- GLB_START_STAT.HELD. -/
def State.isHeld (s : State) : Bool := s.startFld 10 10 = 1
/-- A start is under way, or waits to be retried, or the device is off: the ports are not in service. -/
def State.warmKind (s : State) : Bool := s.startFld 7 6 = 2
/-- A cause enters GLB_START_STAT; the one before it moves to PREV_CAUSE. -/
def State.startCause (s : State) (c : Nat) : State := (s.setStart 27 24 (s.startFld 31 28)).setStart 31 28 c
/-- GLB_START_STATUS: step and status. -/
def State.startStatus (s : State) (step code : Nat) : State := s.wrn (glReg 0x208) (step * 2 ^ 28 + code)

/-! ### The steps begin (Table 15.3) -/

/-- A step begins. The conditioner and the sources are tested in step 2 (R592), with the entropy domain on; step 10 sends the
partner a STATE frame where the twin link is up. -/
def State.enterStep (s : State) (k : Nat) : State :=
  let s := ({ s with st := { s.st with stepT := s.clk.ns } }).setStart 3 0 k
  if k = 2 then
    if s.warmKind then s.startTests 1024
    else ((s.setDomain 76 2).startTests 65536).drbgInstantiateDue 4
  else if k = 10 then (if s.jn.link.up then s.sendState else s)
  else s
/-- GLB_STEP_US of a step takes the time since it began. -/
def State.recordStep (s : State) (k : Nat) : State :=
  s.wrn (glReg (0x220 + 4 * (k - 1))) (min ((s.clk.ns - s.st.stepT) / 1000) 0xFFFFFFFF)

/-! ### What a start resets (R494–R496) -/

/-- Flash work that a reset cuts short (R564): the words of an interrupted program, and the sector of an interrupted erase,
hold undefined values; a store write never reaches its COMMIT. -/
def State.flashCut (s : State) : State :=
  let put (s : State) (w n : Nat) : State := (List.range n).foldl (fun s i => let (v, s) := s.free; s.setFlWord (w + i) v) s
  let s := match s.fl.op with
    | some x => if s.fl.move.isSome then s else if x.op = 2 then put s x.word x.count else if x.op = 3 then put s (x.word / 512 * 512) 512 else s
    | none => s
  match s.fl.csOp with
  | some (b, k) => put (s.eraseBank k) (bankAddr k / 8) (8 + (b.length + 7) / 8)
  | none => s

/-- The registers that both kinds of start keep: the start block in domain 77 but for WD_CTL.EN after a cold start, and what it
shows of the latest start. -/
def glKept (a : Nat) : Bool := decide (glReg 0x200 ≤ a ∧ a < glReg 0x300)
/-- The start block shows a new start: kind, step 1, no hold, and no step time yet. -/
def State.startShown (s : State) (kind : Nat) : State :=
  let s := (List.range 12).foldl (fun s k => s.wrn (glReg (0x220 + 4 * k)) 0) s
  let s := { s with st := { s.st with prep := none, preOpen := false, stepT := s.clk.ns } }
  (((s.setStart 12 8 1).setStart 7 6 kind).setStart 3 0 1)

/-- Everything a cold start resets (R494, R495): the ounce dies, the CST logic and every register but those of domains 77 and
78; host memory, the flash, OTP and the contents of domain 78 stay. -/
def State.coldReset (s : State) (cause : Nat) : State :=
  let s := s.flashCut
  let tripped := s.st.tripped
  let c := s.cus
  let t : State :=
    { regs := (s.regs.filter fun e => glKept e.1 && e.1 != glReg 0x280 && e.1 != glReg 0x284),
      ctrs := s.ctrs.filter (fun e => e.1 / 2 ^ 24 = glPage),
      mem := s.mem.filter (fun e => spHost ≤ e.1 ∧ e.1 < spCluster 0),
      clk := { ns := s.clk.ns },
      vlt := { zones := s.vlt.zones.map (fun (e : Nat × Zone) => (e.1, { e.2 with started := false, busy := 0, rekey := false, fails := 0 })),
               bfloor := s.vlt.bfloor },
      cr := { rscKept := s.cr.rscKept },
      cb := { card := { inserted := false, unk := s.cb.card.unk, unkLost := s.cb.card.unkLost, tx := s.cb.card.tx }, log := s.cb.log,
              logOvf := s.cb.logOvf },
      st := { fails := s.st.fails, temp := s.st.temp, rails := [], sysReset := s.st.sysReset, pcieReset := s.st.pcieReset,
              custKick := s.clk.ns,
              slow := s.st.slow.map (fun (e : Nat × SlowIn) => (e.1, { raw := e.2.raw, changed := e.2.changed })) },
      fl := { words := s.fl.words, groups := s.fl.groups, prot := s.fl.prot, pass := s.fl.pass, opRec := s.fl.opRec },
      cus := { latch := c.latch, monitors := c.monitors, sticky := c.sticky, alarmWait := c.alarmWait, records := c.records,
               overflow := c.overflow, boots := min (c.boots + 1) 0xFFFFFFFF, aon := c.aon, root := c.root, rootDigest := c.rootDigest,
               m := c.m, n := c.n, cards := c.cards, badges := c.badges, revoked := c.revoked, otp := c.otp,
               corrected := c.corrected, digest1 := c.digest1, digest2 := c.digest2, makerSlots := c.makerSlots,
               keepOff := c.keepOff, retLost := c.retLost },
      jtag := { s.jtag with boundary := false, cust := false },
      fresh := s.fresh,
      lastRead := s.lastRead,
      pending := s.pending }
  let t := (t.startCause cause).setFld (glReg 0x2A0) 9 9 (b2n tripped)
  ((t.startShown 1).setStart 17 16 (min t.st.fails.length 3)).bump glPage 1 0 1

/-- A cold start begins. -/
def State.coldStart (s : State) (cause : Nat) : State := s.coldReset cause

/-- Registers that a warm start keeps (Table 15.2). -/
def warmKept (a : Nat) : Bool :=
  if bar2 ≤ a then true
  else
    let t := a / 0x100000
    let off := a % 0x1000
    glKept a || t == tCD || t == tPW || (t == tLN && decide (0x100 ≤ off ∧ off < 0xF00) && lnKept off) ||
      (t == tSC && (off == 0x114 || off == 0x118 || off == 0x11C || off == 0x120)) ||
      (t == tKV && off == 0xC08) || (t == tPK && (off == 0x104 || off == 0x108)) || (t == tDR && off == 0x104) ||
      (t == tOZ && (off == 0x104 || off == 0x110)) || (t == tHI && off == 0x100) || (t == tMB && decide (0x1C0 ≤ off ∧ off < 0x200)) || (t == tTW && off == 0x114)

/-- A strand as its ring holds it (R497): what has no chain value yet is lost. -/
def Strand.warm (x : Strand) : Strand :=
  { seq := x.seq, chain := x.chain, left := x.left, exported := x.exported, uncommitted := x.uncommitted.map (fun e => (e.1, none)),
    verified := x.verified, heads := x.heads, genesisSeen := x.genesisSeen }

/-- What a warm start resets on the ounce dies (R496). -/
def State.warmReset (s : State) (cause : Nat) : State :=
  let s := (List.range 256).foldl (fun s r => s.setFld (rgReg r 8) 0 0 0) s
  let stalled := (List.range 64).flatMap fun d => ((List.range 8).filter fun k => s.fld (ra tSC d 0x110) (4 * k + 3) (4 * k) = 0xE).map fun k => (d, k)
  let seals := (List.range 4).map fun o => s.fld (ra tPK o 0x104) 31 28
  let l := s.jn.link
  let t : State :=
    { s with
      regs := s.regs.filter (fun e => warmKept e.1 && !(e.1 / 0x100000 == tPK && e.1 % 0x1000 == 0x104)),
      ctrs := s.ctrs.filter (fun e => let t := e.1 / 2 ^ 32; t = tGLB ∨ t = tCD ∨ t = tPW),
      mem := s.mem.filter (fun e => e.1 < spCluster 0),
      latch := none,
      clk := { s.clk with tim := 0, held := false },
      pgs := { snaps := s.pgs.snaps.filter (fun e => let t := e.1 / 0x100; t = tCD ∨ t = tPW) },
      fab := { nextFrame := s.fab.nextFrame, linkDown := s.fab.linkDown },
      cxs := { hbm := s.cxs.hbm },
      vp := { nextVerdict := s.vp.nextVerdict },
      pay := {},
      vc := { cores := s.vc.cores.map (fun (e : Nat × Core) => (e.1, { vcount := e.2.vcount })) },
      vlt := { s.vlt with resident := [], fills := [], retire := [], zones := s.vlt.zones.map (fun (e : Nat × Zone) => (e.1, { e.2 with busy := 0, rekey := false })) },
      pk := {},
      jn := { strands := s.jn.strands.map (fun (e : Nat × Strand) => (e.1, e.2.warm)),
              seals := s.jn.seals.map (fun (e : Nat × Seal) => (e.1, { no := e.2.no, prev := e.2.prev, out := e.2.out, fresh := e.2.fresh })),
              link := { txSeq := l.txSeq, rxSeq := l.rxSeq, txHi := l.txHi, rxHi := l.rxHi, lost := l.lost, key := l.key },
              dseq := s.jn.dseq, deltas := s.jn.deltas, cutOff := s.jn.cutOff },
      cr := { rscKept := s.cr.rscKept },
      hi := { mbox := s.hi.mbox.filter (fun e => 48 ≤ e.1), custQ := s.hi.custQ, nonfatal := s.hi.nonfatal },
      svc := { causes := s.svc.causes } }
  let t := stalled.foldl (fun (t : State) (e : Nat × Nat) => t.setFld (ra tSC e.1 0x110) (4 * e.2 + 3) (4 * e.2) 0xE) t
  let t := (List.range 4).foldl (fun t o => t.setFld (ra tPK o 0x104) 31 28 (nth 15 seals o)) t
  let t := (List.range 1036).foldl (fun t n => if t.fld (lnReg n 0x0C) 31 31 = 1 then t.modLane n fun x => { x with kept := true } else t) t
  let t := (List.range 4).foldl (fun t o => let t := t.drbgOff o; if t.domOn (68 + o) then t.drbgInstantiateDue o else t) t
  let t := t.endGrant
  (((t.startCause cause).startShown 2).setFld (glReg 0x2A0) 9 9 0).bump glPage 2 0 1

/-! ### Warm starts are prepared (R497) -/

/-- Preparation begins: heartbeats and dispatch stop, and lanes end what they transmit with an error block (R67). -/
def State.warmPrep (s : State) (cause : Nat) : State :=
  let s := { s with st := { s.st with prep := some cause } }
  (tkeys s.fab.lanes).foldl (fun s l => if (s.lane l).txCur.isSome then s.endTx l 2 else s) s
/-- Why a warm start is refused (Table 15.4): 0 when it is not. A device that is off, or whose failed start waits for its retry,
makes no warm start. -/
def State.warmRefusal (s : State) : Nat :=
  if s.isHeld then 0x889 else if s.startRunning || s.st.off || s.st.retryDue || s.st.prep.isSome then 0x880 else 0
/-- Preparation ends: changed contexts are written back, and the ounce dies are reset. -/
def State.warmBegin (s : State) (cause : Nat) : State :=
  ((s.cxs.cache.map (·.1)).foldl (fun s i => s.evictCtx i) s).warmReset cause

/-! ### Failures, HELD and off (R500, R503, R506) -/

/-- Every switched domain but 72, 74 and 75 goes off, and the device waits (R503). -/
def State.enterHeld (s : State) : State :=
  let s := (domOrder.reverse.filter fun d => s.domain d != 0 && d != 72 && d != 74 && d != 75).foldl (fun s d => s.domainLost d) s
  let s := [72, 74, 75].foldl (fun s d => if s.domOn d then s else s.domainUp d) s
  ((s.setStart 10 10 1).setStart 3 0 0).irq glPage 2
/-- A start fails at its step with a status (R500). -/
def State.startFail (s : State) (code : Nat) : State :=
  let k := s.startFld 3 0
  let s := ((s.startStatus k code).bump glPage 3 0 1).irq glPage 1
  if s.warmKind then (s.startStatus k 0x88B).coldStart 6
  else
    let f := (s.st.fails.filter fun t => s.clk.ns ≤ t + 600000000000) ++ [s.clk.ns]
    let s := ({ s with st := { s.st with fails := f } }.setStart 17 16 (min f.length 3)).setStart 8 8 0
    if 3 ≤ f.length then (s.startStatus k 0x889).enterHeld
    else { s with st := { s.st with retryDue := true } }
/-- Everything goes off, and the device stays so (R506, R657). -/
def State.goOff (s : State) : State :=
  let s := s.allOff
  let s := { s with st := { s.st with off := true, retryDue := false, prep := none } }
  (s.setStart 12 8 0).setStart 3 0 0

/-! ### Steps end (Table 15.3) -/

/-- The image that a warm start loads: the staged one of FW_LOAD, or the HBM copy. -/
def imageBytes (w : List (Nat × Word)) : List Byte := w.flatMap fun e => leBytes 4 e.1 ++ leBytes 8 e.2.toNat
/-- The words of an image that are not erased. -/
def imageWords (b : List Byte) : List (Nat × Word) :=
  let w := flWords b
  ((List.range w.length).map fun i => (i, nth 0 w i)).filter fun e => e.2 != erasedWord
/-- The words of a flash slot that are not erased. -/
def State.slotWords (s : State) (k : Nat) : List (Nat × Word) :=
  (List.range 1024).flatMap fun i =>
    let p := s.phys (1024 * k + i)
    (s.fl.words.filter fun e => e.1 / 512 = p).map fun e => (512 * i + e.1 % 512, e.2)
/-- The items of the configuration that are of no listed type: they are ignored (R577). -/
def State.csIgnored (s : State) : Nat :=
  match s.fl.body with
  | none => 0
  | some b => ((csItems b.length b).filter fun e => (e.1 = 0 ∨ 4 < e.1) ∧ e.1 < 0x7000).length
/-- APPLIED of CS_APPLIED rises, and IGNORED. -/
def State.csApplied (s : State) (n m : Nat) : State :=
  let a := csReg 0x120
  (s.setFld a 15 0 (s.fld a 15 0 + n)).setFld a 31 16 (s.fld a 31 16 + m)

/-- Step 1: 0, or its failure. -/
def State.step1 (s : State) : Nat × State :=
  if s.silicon = 7 then (0x807, s)
  else if s.silicon = 4 then (0x803, s)
  else if s.warmKind then
    let w := if s.startFld 31 28 = 9 then imageWords s.st.staged else s.st.fw
    if Config.imageVerifies (imageBytes w) then (0, ({ s with st := { s.st with fw := w, staged := [] } }.wrn (csReg 0x120) 0).csApplied 0 s.csIgnored)
    else (0x88A, s)
  else
    match s.bootSlot with
    | none => (0x88A, s)
    | some (k, shown) =>
      let w := s.csWinner
      let body := w.map fun b => s.bankBody b
      let seq := match w with | some b => s.bankSeq b | none => 0
      let st := (match w with | none => 0x100 | some b => b + 1) + 4 * s.bankState 0 + 16 * s.bankState 1
      let s := { s with fl := { s.fl with booted := k, body := body }, st := { s.st with fw := s.slotWords k } }
      let s := ((s.wrn (flReg 0x154) shown).wrn (csReg 0x114) st).wr64 (csReg 0x118) seq
      let s := if w.isNone then s.irq csPage 1 else s
      (0, (s.wrn (csReg 0x120) 0).csApplied 0 s.csIgnored)

/-- Step 3: the latch leaves RELEASED (Table 16.4), and a RETURNED device without a root draws a new one (R540). -/
def State.step3 (s : State) : State :=
  let s := if s.cus.latch = 0x5AC3 then s.unlatch else s
  if !s.warmKind ∧ s.rootLost ∧ s.silicon = 3 then
    match s.draw 4 2 with
    | (some r, s) => s.modCus fun c => { c with root := some r, rootDigest := sha384 r, boots := 0 }
    | (none, s) => s
  else s

/-- Cold step 4: the domains of the power mask come up in dependency order. -/
def State.step4 (s : State) : State :=
  let mask := s.powerMask
  let fw := s.st.fw
  let s := { s with st := { s.st with fw := [] } }
  let s := (domOrder.filter fun d => mask.testBit d && !s.domOn d).foldl (fun s d => if (domDeps d).all s.domOn then s.domainUp d else s) s
  { s with st := { s.st with fw := fw } }.csApplied (b2n (s.csItem 1).isSome) 0

/-- The lanes of a dram whose LN_RXEQ.KEEP is set start from their coefficients (R64, R634). -/
def State.keepLanes (s : State) (d : Nat) : State :=
  (dramLanes d).foldl (fun s n => if s.fld (lnReg n 0x0C) 31 31 = 1 then s.modLane n fun x => { x with kept := true } else s) s
/-- A dram enters service. -/
def State.dramIn (s : State) (d : Nat) : State := (s.keepLanes d).drTo d 0
/-- The BIST of a dram fails in an SRAM (Table 20.4): 1 cell buffer, 2 descriptors, 3 context cache, 4 dispatch buffers. -/
def State.dramFailed (s : State) (d sram : Nat) : State :=
  let s := ((s.domainLost d).drTo d 5).drStatus d 0x20D
  (((s.wrn (drReg d 0x110) sram).bump (drPage d) 1 0 1).irq (drPage d) 2)
/-- Step 5: the drams whose SRAM failed go out, named in `bad` with the SRAM as 64 · SRAM + dram; the others enter service. -/
def State.step5 (s : State) (bad : List Nat) : State :=
  (List.range 64).foldl (fun s d =>
    if s.domOn d then
      match bad.find? fun b => b % 64 = d with
      | some b => s.dramFailed d (max 1 (min 4 (b / 64)))
      | none => s.dramIn d
    else s) s

/-- Step 7: the enabled lanes leave OFF. -/
def State.step7 (s : State) : State :=
  (List.range 1036).foldl (fun s n =>
    if s.governs n ∧ s.lnCfg n 0 ∧ s.lnState n = 0 ∧ s.pageLive (lanePage n) then s.acquire n else s) s

/-- The cores of the clusters that are on leave reset (R228, R530). -/
def State.releaseCores (s : State) : State :=
  (List.range 128).foldl (fun s c =>
    if s.domOn (64 + coreOunce c) && (s.core c).st == 0 then (s.setFld (vcCore c 0) 0 0 1).modCore c fun x => { x with st := 1 } else s) s
/-- Step 8: the firmware enters the cores, and the cores run unless LOCK holds; then the presets are written, each as a custody
write that `write` answers true for (R578). -/
def State.step8 (s : State) (write : Nat → Reg → State → Bool × State) : State :=
  let s := (List.range 128).foldl (fun s c => if s.domOn (64 + coreOunce c) then s.loadFirmware c else s) s
  let s := if s.lockInForce then s else s.releaseCores
  let items := match s.fl.body with | some b => (csItems b.length b).filter (fun (e : Nat × List Byte) => e.1 = 4) | none => []
  let s := s.csApplied items.length 0
  let all := items.flatMap fun (e : Nat × List Byte) => (List.range (e.2.length / 8)).map fun i => (ofLe (sliceBytes e.2 (8 * i) 4), ofLe (sliceBytes e.2 (8 * i + 4) 4))
  all.foldl (fun (s : State) (e : Nat × Nat) =>
    if e.1 / 0x100000 = tCD ∨ e.1 / 0x100000 = tPW then s.csApplied 0 1
    else
      let (ok, t) := write e.1 (BitVec.ofNat 32 e.2) s
      if ok then t else t.csApplied 0 1) s

/-- Step 11 begins: the ring is joined when the configuration holds a position and a key (R501). -/
def State.step11 (s : State) (write : Nat → Reg → State → Bool × State) : State :=
  let v (x : List Byte) : Nat := ofLe (x.take 4)
  let s := match s.csItem 2 with | some x => ((write (ra tCR 0 0x100) (BitVec.ofNat 32 (v x % 2 ^ 31)) s).2).csApplied 1 0 | none => s
  let s := match s.csItem 3 with | some x => ((write (ra tCR 0 0x110) (BitVec.ofNat 32 (v x)) s).2).csApplied 1 0 | none => s
  if (s.csItem 2).isSome ∧ (s.csItem 3).isSome then (write (ra tCR 0 0x108) 1 s).2 else s

/-- Step 12 can end (R502): an ounce whose key/PK domain is on has two general PK engines in service, and a cluster is on. -/
def State.step12Ok (s : State) : Bool :=
  ((List.range 4).all fun o => !s.domOn (68 + o) || decide (2 ≤ (s.pkEngines o).length)) && (List.range 4).any fun o => s.domOn (64 + o)
/-- Step 12 ends: the ports open, the watchdog is armed and START_DONE raised; the record of failures is cleared. -/
def State.portOpen (s : State) : State :=
  let s := if s.lockInForce then s else s.releaseCores
  let s := (((s.setStart 9 9 1).setStart 8 8 0).setStart 3 0 0).setStart 17 16 0
  (({ s with st := { s.st with fails := [] } }.kickWatchdog).irq glPage 0).serveWake

/-! ### The watchdog (R505) -/

/-- The device watchdog counts: EN, no start, not HELD, no LOCK. -/
def State.deviceWdCounts (s : State) : Bool := s.fld (glReg 0x280) 0 0 = 1 && !s.startRunning && !s.isHeld && !s.lockInForce && !s.st.off

end Sys2Proof.Machine
end

