-- ==== Sys2Proof/Machine/PowerCmds.lean ====
section
/-!
DEFINITION. Commands of chapter 15: the sources of starts, the preparation of a warm start, the watchdogs, heat and supply, power
requests and wakes, and the slow control inputs. The end of a start step stands in StartCmds.
-/
namespace Sys2Proof.Machine

/-! ### Sources of starts (Table 15.1) -/

/-- VDD_KEEP rises (`keep`), or VDD_CORE rises with VDD_KEEP present: a cold start with cause 0x1. When domain 77 powers up, what
it held is lost, a lost retention shows as a lost root (R531), and the operation record of an interrupted flash operation
is shown in FL_INTR, an interrupted gap move being completed (R564). -/
def State.powerOn (s : State) (keep : Bool) : State :=
  if keep then
    let lost := s.cus.retLost
    let s := s.flashCut
    let s := { s with st := { pcieReset := s.st.pcieReset, sysReset := s.st.sysReset }, cb := {},
                      regs := s.regs.filter (fun e => !glKept e.1), ctrs := s.ctrs.filter (fun e => e.1 / 2 ^ 24 ≠ glPage),
                      fl := { s.fl with op := none, csOp := none, move := none } }
    let s := s.modCus fun c => { c with monitors := [], keepOff := false, retLost := false }
    let s := if lost then s.modCus fun c => { c with root := none, latch := 0xC3A5, records := [], overflow := 0,
                                                     aon := 2 ^ 48 - aonTicks s.clk.ns % 2 ^ 48 } else s
    let s := (s.coldStart 1).setStart 27 24 0
    match s.fl.opRec with
    | none => s
    | some (k, x) =>
      let s := (s.wrn (flReg 0x150) (2 ^ 31 + k * 2 ^ 28 + x)).irq flPage 3
      let s := if k = 3 then s.gapMove x else s
      { s with fl := { s.fl with opRec := none } }
  else s.coldStart 1
/-- Power rises. -/
def execPowerOn (keep : Bool) (s : State) : Outcome := done (s.powerOn keep)
/-- SYS_RESET_N has been low for 1 µs: a cold start that waits while the input stays low (R654). -/
def execSysResetAssert (s : State) : Outcome := done ({ s with st := { s.st with sysReset := true } }.coldStart 2)
/-- SYS_RESET_N returns high: the start that waited on it proceeds. -/
def execSysResetDeassert (s : State) : Outcome :=
  done (if s.st.sysReset then { s with st := { s.st with sysReset := false, stepT := s.clk.ns } } else s)
/-- GLB_START_CMD COLD: the record of failures is cleared (R500). -/
def execStartCold (s : State) : Outcome := done ({ s.took glPage with st := { s.st with fails := [] } }.coldStart 3)
/-- A warm start with a cause is prepared, or refused (Table 15.4). -/
def State.startWarm (s : State) (cause : Nat) : State :=
  let c := s.warmRefusal
  if c ≠ 0 then s.startStatus (s.startFld 3 0) c else s.warmPrep cause
/-- GLB_START_CMD WARM. -/
def execStartWarm (s : State) : Outcome := done ((s.took glPage).startWarm 8)
/-- GLB_START_CMD FW_LOAD: the image of GLB_FW_LEN bytes at GLB_FW_HADDR is copied into the firmware area, then as WARM (R505). -/
def execFwLoad (s : State) : Outcome :=
  done (
    let s := s.took glPage
    if s.warmRefusal ≠ 0 then s.startWarm 9
    else
      let b := s.bytes (spHost + s.rd64 (glReg 0x260)) (s.fld (glReg 0x268) 23 0)
      { s with st := { s.st with staged := b } }.startWarm 9)
/-- The preparation of a warm start ends (R497). -/
def execWarmPrepDone (s : State) : Outcome := done (match s.st.prep with | none => s | some c => s.warmBegin c)
/-- The preparation has not ended within 1 ms: a cold start with cause 0x6 and 0x088B. -/
def execWarmPrepTimeout (s : State) : Outcome :=
  done (match s.st.prep with | none => s | some _ => (s.startStatus 0 0x88B).coldStart 6)
/-- One second after a failed cold start (R500). -/
def execColdRetryTimer (s : State) : Outcome := done (if s.st.retryDue then s.coldStart 7 else s)
/-- Custody firmware has not kicked its watchdog for 2 s. -/
def execCustodyWdExpiry (s : State) : Outcome := done (s.coldStart 5)
/-- GLB_WD_CNT reaches 0 with EN = 1: a warm start with cause 0xA is prepared (R497, R505). -/
def execDeviceWdExpiry (s : State) : Outcome :=
  done (if s.deviceWdCounts ∧ s.st.prep.isNone then (s.setFld (glReg 0x288) 15 0 0).warmPrep 0xA else s)
/-- A write to GLB_WD_KICK: only 0xA55A acts. -/
def execGlbWdKick (v : Reg) (s : State) : Outcome :=
  done (let s := s.took glPage; if getField v 15 0 = 0xA55A then s.kickWatchdog else s)
/-- An 8-byte store of core `c` to the kick window (R505); the fence of the cluster memory judges it. -/
def execWdKickStore (c : Nat) (v : Word) (s : State) : Outcome :=
  done (if s.coreRuns c then s.storeArrives c 0x197F040 (leBytes 8 v.toNat) (s.core c).ring else s)

/-! ### Heat and supply (R506, R657) -/

/-- The five sensors are read, in °C, ounces 0 to 3 and custody: GLB_THERM, and throttling of an ounce from 105 °C until it
reads below 100 °C. -/
def execThermalSample (temps : List Nat) (s : State) : Outcome :=
  done (
    let t := (List.range 5).map fun i => nth 0 temps i % 256
    let hot := t.foldl max 0
    let die := ((List.range 5).find? fun i => nth 0 t i = hot).getD 0
    let was := s.st.throttle
    let now := bitsOf ((List.range 4).map fun o => decide (105 ≤ nth 0 t o) || (was.testBit o && decide (100 ≤ nth 0 t o)))
    let s := { s with st := { s.st with temp := t, throttle := now } }
    let s := ((s.setFld (glReg 0x2A0) 7 0 hot).setFld (glReg 0x2A0) 14 12 die).setFld (glReg 0x2A0) 8 8 (b2n (now ≠ 0))
    if (List.range 4).any fun o => now.testBit o && !was.testBit o then s.irq glPage 3 else s)
/-- A die has reached 115 °C: every switched domain but 77 and 78 goes off, and the device stays off. -/
def execThermalTrip (s : State) : Outcome :=
  done (
    if s.st.temp.any fun t => decide (115 ≤ t) then
      let s := (s.goOff.startCause 4).startStatus 0 0x88C
      { s with st := { s.st with tripped := true } }
    else s)
/-- Every die has read below 95 °C for 1 s: with AUTO_RESTART a cold start begins. The trip has already entered
GLB_START_STAT as the cause 0x4, which stays the cause of that start. -/
def execThermalRestartTimer (s : State) : Outcome :=
  done (
    if s.st.tripped ∧ s.fld (glReg 0x2A4) 0 0 = 1 ∧ s.st.temp.all (fun t => decide (t < 95)) then
      let prev := s.startFld 27 24
      (s.coldStart 4).setStart 27 24 prev
    else s)
/-- The detector of a rail (0 VDD_SRAM, 1 VDD_SERDES, 2 VDD_SERDES_H, 3 VDD_HBM, 4 VDDQ_HBM, 5 VDD_IO) trips while VDD_CORE is in
band. -/
def execUndervoltageDetect (rail : Nat) (s : State) : Outcome :=
  done (
    if (List.range 4).any fun m => (s.monitor m).below then s
    else
      let s := { s with st := { s.st with rails := if s.st.rails.contains rail then s.st.rails else s.st.rails ++ [rail] } }
      if s.st.tripped then s else s.goOff.startStatus 0 0x887)

/-! ### Power requests and domains (R507–R509) -/

/-- The set that PW_MASK0–2 name. -/
def State.pwMask (s : State) : Nat :=
  sumNat ((List.range 3).map fun w => (s.rd (ra tPW 0 (0x100 + 4 * w))).toNat * 2 ^ (32 * w))
/-- PW_CMD ON, by the host or by custody firmware. -/
def execPwOn (cust : Bool) (s : State) : Outcome := done ((s.took (pageNo tPW 0)).pwRequest s.pwMask true cust).2
/-- PW_CMD OFF. -/
def execPwOff (cust : Bool) (s : State) : Outcome := done ((s.took (pageNo tPW 0)).pwRequest s.pwMask false cust).2
/-- Something changed: what waits may go on. -/
def State.powerFollow (s : State) : State :=
  (List.range 4).foldl (fun s o => s.restoreCheck o) (s.powerStep.serveWake)
/-- A domain ends a transition (Table 15.5): POWERING_UP to ON, CLOSING to POWERING_DOWN once its closing rule has ended, and
POWERING_DOWN to OFF. A dram that leaves CLOSING does so at DRAM_CLOSE_DONE; one that was cycled comes up again. -/
def execDomainTransitionDone (d : Nat) (s : State) : Outcome :=
  done (
    let v := s.domain d
    if v = 1 then (s.domainUp d).powerFollow
    else if v = 3 then
      if d < 64 ∨ (64 ≤ d ∧ d < 68 ∧ s.clusterVerdicts (d - 64) ≠ []) then s else s.domTo d 4
    else if v = 4 then
      let s := s.domainLost d
      let s :=
        if d < 64 then
          let s := if s.drState d = 5 then s else s.drTo d 3
          if s.svc.cycling.contains d then
            { s with svc := { s.svc with cycling := s.svc.cycling.filter (· ≠ d) } }.wantAll [d] true
          else s
        else s
      s.powerFollow
    else s)

/-- A wake event for a domain from a source (R510). One that a mailbox raised waits already; it acts when it may. -/
def execWakeEvent (d src : Nat) (s : State) : Outcome :=
  done (
    let ok : Bool := (decide (64 ≤ d ∧ d < 68) && src == 1) || (d == 72 && src == 2) || (d == 79 && (src == 3 || src == 4))
    let waits : Bool := (s.st.wakes ++ s.st.held).any fun w => w.1 == d
    (if ok && !waits then s.wake d src else s).serveWake)

/-! ### Slow control inputs (R511–R513) -/

/-- Re-arm times (Table 15.6), in ns. -/
def rearmTime (i : Nat) : Nat := nth 0 [1000000000, 100000000, 10000000, 100000000] i
/-- The input has been inactive for its re-arm time, or has not been active since the start. -/
def SlowIn.armed (x : SlowIn) (i now : Nat) : Bool :=
  (x.inactiveT == 0 || decide (x.inactiveT + rearmTime i ≤ now + 1)) && (i != 0 || x.seenInactive)
/-- A filtered input changes, or is accepted for the first time: SWAP_N 0, CD 1, WP 2, FIELD_DET 3. -/
def execSlowInputAccept (i : Nat) (active : Bool) (s : State) : Outcome :=
  done (
    let x := s.slow i
    let s := s.setSlow i { x with raw := active }
    let x := s.slow i
    if 4 ≤ i then s
    else if !active then
      s.setSlow i { x with filt := false, seenInactive := true, acted := false, inactiveT := if x.filt then s.clk.ns + 1 else x.inactiveT }
    else if x.filt then s
    else
      let acts := x.armed i s.clk.ns
      let s := s.setSlow i { x with filt := true, acted := acts }
      if !acts then s
      else if i = 0 then
        if s.fld (cdReg 0 0x304) 0 0 = 1 ∧ s.jn.link.up ∧ (s.twState = 1 ∨ s.twState = 2 ∨ s.isStandby) then s.requestSwap else s
      else if i = 1 then (if s.domOn 79 then s else (s.wake 79 4).serveWake)
      else if i = 3 then (if s.domOn 79 then s else (s.wake 79 3).serveWake)
      else s)
/-- A raw change within 1 ms of the previous one counts as chatter (R512). -/
def execSlowInputChatter (i : Nat) (s : State) : Outcome :=
  done (
    if 4 ≤ i then s
    else
      let x := s.slow i
      (s.setSlow i { x with raw := !x.raw, changed := s.clk.ns }).bump (cdPage 0) i 0 1)

end Sys2Proof.Machine
end

