-- ==== Sys2Proof/Machine/ServiceCmds.lean ====
section
/-!
DEFINITION. Commands of chapter 20: lane tests, drams, core tests, isolation of an ounce, losses of clocks and links, and JTAG.
-/
namespace Sys2Proof.Machine

/-! ### Lane test (R628–R632) -/

/-- A lane block's test register. -/
def State.testMode (s : State) (n : Nat) : Nat := s.fld (lnReg n 0x24) 1 0
/-- One transmitted bit is inverted: in NEAR_LOOP the lane's own checker receives it. -/
def State.prbsInject (s : State) (n : Nat) : State :=
  if s.lnState n = 6 ∧ s.testMode n = 1 ∧ s.fld (lnReg n 0x34) 0 0 = 1 then
    s.wrn (lnReg n 0x30) (min ((s.rd (lnReg n 0x30)).toNat + 1) 0xFFFFFFFF)
  else s
/-- A write to LN_TEST_CFG (R630): MODE only in OFF and not 3, INJECT in TEST. -/
def execLnTestCfgWrite (n : Nat) (v : Reg) (s : State) : Outcome :=
  done (s.pageWrite (lanePage n) fun s =>
    if s.lnState n = 6 ∧ bitAt v 8 then (s.prbsInject n).took (lanePage n)
    else if s.lnState n ≠ 0 ∨ getField v 1 0 = 3 then s.lnStatus n 0x120
    else (s.wrn (lnReg n 0x24) (getField v 1 0)).took (lanePage n))
/-- LN_TEST_CFG.INJECT. -/
def execPrbsInject (n : Nat) (s : State) : Outcome :=
  done (s.pageWrite (lanePage n) fun s =>
    if s.lnState n = 6 then (s.prbsInject n).took (lanePage n) else s.lnStatus n 0x120)
/-- The checker enters or leaves PRBS_LOCK (R629), with the bits it counted while it was in lock. FAR_LOOP has no checker. -/
def execPrbsLockChange (n : Nat) (lock : Bool) (bits errs : Nat) (s : State) : Outcome :=
  done (
    if s.lnState n ≠ 6 ∨ s.testMode n = 2 then s
    else
      let was := s.fld (lnReg n 0x34) 0 0 = 1
      let s :=
        if was then
          (s.wr64 (lnReg n 0x28) (min (s.rd64 (lnReg n 0x28) + bits) ctrMax)).wrn (lnReg n 0x30)
            (min ((s.rd (lnReg n 0x30)).toNat + errs) 0xFFFFFFFF)
        else s
      let s := s.setFld (lnReg n 0x34) 0 0 (b2n lock)
      if was ∧ !lock then s.setFld (lnReg n 0x34) 1 1 1 else s)

/-! ### Drams (R633–R635) -/

/-- A DR_CMD on dram `d` that needs state `st`: refused with 0x020B in another state, while a power request names the dram, or
in an ounce that is isolated. -/
def State.dramCmd (s : State) (d : Nat) (st : List Nat) (f : State → State) : State :=
  let busy : Bool := s.fld (ra tPW 0 0x110) 31 31 == 1 && s.st.req.contains d
  if busy || s.isoDomain d || !st.contains (s.drState d) then (s.drStatus d 0x20B).took (drPage d)
  else (f (s.drStatus d 0)).took (drPage d)
/-- DR_CMD OUT. -/
def execDramOut (d : Nat) (s : State) : Outcome := done (s.dramCmd d [0] fun s => s.drainDram d)
/-- DR_CMD IN: with the domain's dependencies off it is refused as a power request is (R41). -/
def execDramIn (d : Nat) (s : State) : Outcome :=
  done (s.dramCmd d [3, 5] fun s =>
    if (domDeps d).all s.domOn then (s.wantAll [d] true).powerStep else s.drStatus d 0x881)
/-- DR_CMD CYCLE: OUT, then IN. -/
def execDramCycle (d : Nat) (s : State) : Outcome :=
  done (s.dramCmd d [0] fun s =>
    ({ s with svc := { s.svc with cycling := s.svc.cycling ++ [d] } }.drainDram d).bump (drPage d) 0 0 1)
/-- DR_CELLS reaches 0 in DRAINING. -/
def execDramDrainDone (d : Nat) (s : State) : Outcome :=
  done (if s.drState d = 1 ∧ s.dramCells d = 0 then s.closeDram d else s)
/-- DRAIN_US expires. -/
def execDramDrainTimeout (d : Nat) (s : State) : Outcome := done (if s.drState d = 1 then s.dropDram d else s)
/-- The closing rule of a dram has ended. -/
def execDramCloseDone (d : Nat) (s : State) : Outcome := done (if s.drState d = 2 then s.dramClosed d else s)
/-- The BIST of a dram ends: 0, or the SRAM that failed (1–4). -/
def execDramBistDone (d sram : Nat) (s : State) : Outcome :=
  done (
    if s.drState d = 4 ∧ s.domOn d ∧ !s.startRunning then
      (if sram = 0 then (s.wrn (drReg d 0x110) 0).dramIn d else s.dramFailed d (min 4 sram)).powerFollow
    else s)

/-! ### Verdict cores (R636, R649) -/

/-- A register of a TS page. -/
def tsReg (o off : Nat) : Nat := ra tTS o off
/-- A TS_CORE_CMD on a local core: refused with 0x032A unless the core is HALTED or in RESET and its CORE_EN bit is 0. -/
def State.coreTest (s : State) (o k op : Nat) : State :=
  let c := 32 * o + k % 32
  let st := (s.core c).st
  let s := s.took (pageNo tTS o)
  if !s.domOn (64 + o) || (st != 0 && st != 4) || s.fld (ozReg o 0x818) (c % 32) (c % 32) == 1 || s.fld (tsReg o 0x104) 31 31 == 1 then
    s.status (tsReg o 0x104) 0x32A
  else ({ s with svc := { s.svc with test := oput (c * 4 + op) o s.svc.test } }).wrn (tsReg o 0x104) (2 ^ 31)
/-- TS_CORE_CMD BIST. -/
def execCoreBist (o k : Nat) (s : State) : Outcome := done (s.coreTest o k 1)
/-- TS_CORE_CMD RELOAD. -/
def execReload (o k : Nat) (s : State) : Outcome := done (s.coreTest o k 2)
/-- A core test or reload ends. -/
def execCoreTestDone (o : Nat) (pass : Bool) (s : State) : Outcome :=
  done (
    match oget s.svc.test o with
    | none => s
    | some v =>
      let c := v / 4
      let s := { s with svc := { s.svc with test := odel o s.svc.test } }
      let s := if v % 4 = 1 then ((s.resetCore c).zeroBytes (spData c) 0x40000).zeroBytes (spInstr c) 0x20000 else s.loadFirmware c
      (s.wrn (tsReg o 0x104) (if v % 4 = 1 ∧ !pass then 0x32B else 0)).irq (pageNo tTS o) 0)
/-- VDRAIN_US of a closing cluster ends (R637, step 3). -/
def execVerdictDrainTimeout (o : Nat) (s : State) : Outcome :=
  done (if s.domain (64 + o) = 3 then s.discardCluster o else s)

/-! ### Isolation (R638–R642) -/

/-- OZ_ISO_STATUS records a code. -/
def State.isoStatus (s : State) (o code : Nat) : State := (s.status (ozReg o 0x108) code).took (ozPage o)
/-- OZ_ISO_CMD ISOLATE. -/
def execIsolate (o : Nat) (s : State) : Outcome :=
  done (
    let n := ((List.range 4).filter fun p => s.isoState p != 0 && s.fld (ozReg p 0x104) 2 2 == 0).length
    if s.startRunning || s.isHeld then s.isoStatus o 0x890
    else if 2 ≤ n then s.isoStatus o 0x891
    else if s.isoState o ≠ 0 then s.isoStatus o 0x893
    else (s.isoStatus o 0).isoBegin o false)
/-- OZ_ISO_CMD RESTORE. -/
def execRestore (o : Nat) (s : State) : Outcome :=
  done (
    if s.isoState o ≠ 2 ∨ s.fld (ozReg o 0x104) 3 3 = 1 ∨ (s.fld (ozReg o 0x104) 2 2 = 1 ∧ cget [] s.svc.causes o ≠ []) then
      s.isoStatus o 0x893
    else (((s.isoStatus o 0).setFld (ozReg o 0x104) 3 3 1).wantAll (s.isoPrev o) true).powerFollow)
/-- A step of an isolation ends (Table 20.5). -/
def execIsolationStepDone (o : Nat) (s : State) : Outcome := done ((s.isoStep o).powerFollow)

/-- The ounces that a down link isolates (Table 20.6). -/
def linkIsolates (a b : Nat) : List Nat :=
  match min a b, max a b with
  | 0, 1 => [1] | 0, 2 => [2] | 0, 3 => [0, 3] | 1, 3 => [1] | 2, 3 => [2] | _, _ => []
/-- The cause of a forced isolation that a link is. -/
def linkCause (a b : Nat) : Nat := 16 + 4 * min a b + max a b
/-- The link of two ounces goes down (R147, R641, R642). An ounce 2 that has lost a stack is cut off: its twin is detached. -/
def State.linkFall (s : State) (a b : Nat) : State :=
  if a = b ∨ 4 ≤ a ∨ 4 ≤ b then s
  else
    let s := { s with fab := { s.fab with linkDown := cput false true (linkKey b a) (cput false true (linkKey a b) s.fab.linkDown) } }
    let s := (s.errInfo (ozPage a) b 0x209).errInfo (ozPage b) a 0x209
    let s := (linkIsolates a b).foldl (fun s o => s.forceIso o (linkCause a b)) s
    if (linkIsolates a b).contains 2 then { s with jn := { s.jn with cutOff := true } }.detach else s
/-- A link has failed to deliver for 10 µs. -/
def execLinkDeliveryTimeout (a b : Nat) (s : State) : Outcome := done (s.linkFall a b)
/-- A cause of forced isolation ends. -/
def State.causeEnds (s : State) (o cause : Nat) : State :=
  { s with svc := { s.svc with causes := cput [] ((cget [] s.svc.causes o).filter (· != cause)) o s.svc.causes } }
/-- A link delivers again. -/
def execCrossOunceLinkRestored (a b : Nat) (s : State) : Outcome :=
  done (
    if a = b ∨ 4 ≤ a ∨ 4 ≤ b then s
    else
      let s := { s with fab := { s.fab with linkDown := cput false false (linkKey b a) (cput false false (linkKey a b) s.fab.linkDown) } }
      let s := (linkIsolates a b).foldl (fun s o => s.causeEnds o (linkCause a b)) s
      if ((cget [] s.svc.causes 2).any fun c => decide (16 ≤ c)) then s else { s with jn := { s.jn with cutOff := false } })

/-! ### Clocks (R35, R641, R643) -/

/-- A PLL of an ounce loses lock: OZ_PLL_STAT, PLL_LOSS. Bits: 0 FAB, 1 RND, 2 VCK, 3–5 XOZ. -/
def State.pllLoss (s : State) (o bit : Nat) : State :=
  let a := ozReg o 0x114
  ((s.setFld a bit bit 0).setFld a 31 16 (min (s.fld a 31 16 + 1) 0xFFFF)).irq (ozPage o) 3
/-- The RND or VCK PLL of an ounce loses lock: the ounce is isolated by force. -/
def execRndVckPllLoss (o : Nat) (vck : Bool) (s : State) : Outcome :=
  done (if 4 ≤ o then s else (((s.pllLoss o (1 + b2n vck)).errInfo (ozPage o) (1 + b2n vck) 0x892).forceIso o (1 + b2n vck)))
/-- The PLL of an ounce's link to its `k`-th neighbour loses lock: the link is down. -/
def execXozPllLoss (o k : Nat) (s : State) : Outcome :=
  done (if 4 ≤ o ∨ 3 ≤ k then s else (s.pllLoss o (3 + k)).linkFall o (nth 0 ((List.range 4).filter (· != o)) k))
/-- The FAB PLL of an ounce loses lock: custody tries to relock it (R643). -/
def execFabPllLoss (o : Nat) (s : State) : Outcome :=
  done (
    if 4 ≤ o then s
    else
      let s := s.pllLoss o 0
      { s with svc := { s.svc with fabLost := if s.svc.fabLost.contains o then s.svc.fabLost else s.svc.fabLost ++ [o] } })
/-- The base has not relocked within 1 ms: a cold start with cause 0x3, and 0x0892. -/
def execFabRelockTimeout (o : Nat) (s : State) : Outcome :=
  done (
    if s.svc.fabLost.contains o then ({ s with st := { s.st with fails := [] } }.coldStart 3).startStatus 0 0x892 else s)
/-- A PLL locks again: 0–5 as OZ_PLL_STAT numbers those of an ounce, 6 the TIM PLL. -/
def execPllRelock (o pll : Nat) (s : State) : Outcome :=
  done (
    if pll = 6 then { s with clk := { s.clk with held := false } }
    else if 4 ≤ o ∨ 6 < pll then s
    else
      let s := s.setFld (ozReg o 0x114) pll pll 1
      let s := { s with svc := { s.svc with fabLost := if pll = 0 then s.svc.fabLost.filter (· != o) else s.svc.fabLost } }
      if pll = 1 ∨ pll = 2 then s.causeEnds o pll else s)

/-! ### JTAG (R546, R644–R646) -/

/-- The class of an instruction is open (Table 16.8): 0 A, 1 B, 2 C, 3 D. -/
def State.jtagOpen (s : State) (cls : Nat) : Bool := s.jtagClasses.testBit cls
/-- The TAP takes an instruction. -/
def State.tap (s : State) (ir : Nat) (dr : Nat) : State := { s with jtag := { s.jtag with ir := ir, dr := dr } }
/-- The TAP takes BYPASS. -/
def State.tapBypass (s : State) : State := s.tap 0xFF 0
/-- A free capture of `n` words: what the boundary register shows of the pins. -/
def State.tapPins (s : State) (ir : Nat) : State := let (v, s) := s.free; s.tap ir v.toNat
/-- An instruction that takes boundary-scan control of the pins (R645): class B, and only before the ports open or in HELD. -/
def State.tapBoundary (s : State) (ir : Nat) (scan : Bool) : State :=
  if !s.jtagOpen 1 then s.tapBypass
  else if s.portsOpen && !s.isHeld then
    (List.range 4).foldl (fun s o => s.setFld (tsReg o 0x108) 0 0 1) s.tapBypass
  else
    let s := if scan then s.tapPins ir else s.tap ir 0
    { s with jtag := { s.jtag with boundary := true } }

/-- Test-Logic-Reset selects IDCODE. -/
def execTestLogicReset (s : State) : Outcome := done (s.tap 0x01 0x11024A4B)
/-- EXTEST. -/
def execExtest (s : State) : Outcome := done (s.tapBoundary 0x00 true)
/-- IDCODE. -/
def execIdcode (s : State) : Outcome := done (s.tap 0x01 0x11024A4B)
/-- SAMPLE/PRELOAD, which never disturbs operation. -/
def execSamplePreload (s : State) : Outcome := done (if s.jtagOpen 1 then s.tapPins 0x02 else s.tapBypass)
/-- HIGHZ. -/
def execHighz (s : State) : Outcome := done (s.tapBoundary 0x08 false)
/-- CLAMP. -/
def execClamp (s : State) : Outcome := done (s.tapBoundary 0x09 false)
/-- EXTEST_PULSE. -/
def execExtestPulse (s : State) : Outcome := done (s.tapBoundary 0x0A true)
/-- EXTEST_TRAIN. -/
def execExtestTrain (s : State) : Outcome := done (s.tapBoundary 0x0B true)
/-- CUST_DBG, the custody debug port. -/
def execCustDbg (s : State) : Outcome :=
  done (if s.jtagOpen 3 then { s.tap 0x30 0 with jtag := { (s.tap 0x30 0).jtag with cust := true } } else s.tapBypass)
/-- BYPASS. -/
def execBypass (s : State) : Outcome := done s.tapBypass
/-- CORE_SEL: the core number. -/
def execCoreSel (c : Nat) (s : State) : Outcome :=
  done (if s.jtagOpen 2 then { s.tap 0x20 (c % 128) with jtag := { (s.tap 0x20 (c % 128)).jtag with sel := c % 128 } } else s.tapBypass)

/-- The captured 96 bits of CORE_ACCESS: OP, address, data. -/
def accessWord (op a d : Nat) : Nat := op * 2 ^ 94 + a % 2 ^ 30 * 2 ^ 64 + d % 2 ^ 64
/-- A read or write by CORE_ACCESS: the core HALTED or in RESET and not enabled for dispatch; otherwise OP reads 0b11. `f` acts on
the core. -/
def State.coreAccess (s : State) (op a : Nat) (f : Nat → State → Nat × State) : State :=
  if !s.jtagOpen 2 then s.tapBypass
  else
    let c := s.jtag.sel
    let st := (s.core c).st
    if (st != 0 && st != 4) || !s.domOn (64 + coreOunce c) || s.fld (ozReg (coreOunce c) 0x818) (c % 32) (c % 32) == 1 then
      s.tap 0x21 (accessWord 3 a 0)
    else
      let (d, s) := f c s
      s.tap 0x21 (accessWord op a d)
/-- CORE_ACCESS read: a general register, a special register, or 8 bytes of the core's space behind its fences as ring 0, where an
address outside the space reads 0. -/
def execCoreAccessRead (a : Nat) (s : State) : Outcome :=
  done (s.coreAccess 0 a fun c s =>
    let a := a % 2 ^ 30
    if 0x3FFF0000 ≤ a then ((if a % 2 ^ 16 < 32 then ((s.core c).reg (a % 2 ^ 16)).toNat else 0), s)
    else if 0x3FFE0000 ≤ a then ((s.specialValue c (a % 2 ^ 16)).toNat, s)
    else if areaOf a 8 = .none then (0, s)
    else
      let bad := (List.range 8).map fun i => (s.coreFence c (clsRing 0) accR (a + i) 1).isSome
      let b := (s.coreBytes c a 8).zipWith (fun b x => if x then 0 else b) bad
      (ofLe b, match s.coreFence c (clsRing 0) accR a 8 with | some x => s.coreViolation c (clsRing 0) accR x | none => s))
/-- CORE_ACCESS write. -/
def execCoreAccessWrite (a : Nat) (v : Word) (s : State) : Outcome :=
  done (s.coreAccess 1 a fun c s =>
    let a := a % 2 ^ 30
    let s :=
      if 0x3FFF0000 ≤ a then (if a % 2 ^ 16 < 32 then s.setReg c (a % 2 ^ 16) v else s)
      else if 0x3FFE0000 ≤ a then (if specialAccess (a % 2 ^ 16) 0 = 3 then s.modCore c fun x => { ({ x with ring := 0 }.mts (a % 2 ^ 16) v) with ring := x.ring } else s)
      else
        let (f, sp, off) := areaAt c a (areaOf a 8)
        if areaOf a 8 = .none then s
        else if areaOf a 8 = .cluster then s.storeArrives c a (leBytes 8 v.toNat) 0
        else
          let t := fencedPut sp f (clsRing 0) (leBytes 8 v.toNat) off s
          match s.fenceFail f (clsRing 0) accW off 8 with
          | some x => t.violation f (clsRing 0) accW x
          | none => t
    (v.toNat, s))
/-- VC_CTL.RUN of a core as CORE_ACCESS writes it. -/
def State.jtagRun (s : State) (run : Bool) : State :=
  if !s.jtagOpen 2 then s.tapBypass
  else
    let c := s.jtag.sel
    match execVcRun c run s with
    | .next t => t.tap 0x21 (accessWord (2 + b2n run) 0 0)
    | _ => s
/-- CORE_ACCESS halt: as VC_CTL.RUN = 0. -/
def execCoreAccessHalt (s : State) : Outcome := done (s.jtagRun false)
/-- CORE_ACCESS run: as VC_CTL.RUN = 1. -/
def execCoreAccessRun (s : State) : Outcome := done (s.jtagRun true)

end Sys2Proof.Machine
end

