-- ==== Sys2Proof/Machine/RegMap.lean ====
section
/-!
DEFINITION. Every register of every page by its access type (Table 0.6) and its writable bits, which registers are halves of a
64-bit pair (R13), the interrupt sources each page implements (R481), and what the read-only registers show.
-/
namespace Sys2Proof.Machine

/-- How a register answers a write. -/
inductive Acc where
  /-- RO and RC: ignored (R14) -/
  | ro
  /-- RW and RWS: the masked bits take the value -/
  | rw
  /-- RWL: as RW, dropped under LOCK (R17) -/
  | rwl
  /-- RW in the four copies of a device-wide register (R475) -/
  | dw
  /-- RWL and device-wide -/
  | dwl
  /-- WO with a stored value; reads 0 -/
  | wo
  /-- a write is judged, or is a command -/
  | act
  /-- as `act`, and reads 0 -/
  | cmd
deriving DecidableEq, Repr

/-- One run of registers: first and last offset, access type, writable bits. -/
abbrev RegRow := Nat × Nat × Acc × Reg

/-- The row that holds an offset. -/
def rowAt (l : List RegRow) (off : Nat) : Option (Acc × Reg) :=
  (l.find? fun r => decide (r.1 ≤ off ∧ off ≤ r.2.1)).map fun r => r.2.2

/-- All 32 bits. -/
def allOnes : Reg := 0xFFFFFFFF

/-- Tables 14.10 and 15.9. -/
def rowsGLB : List RegRow :=
  [(0x100, 0x103, .act, 0), (0x108, 0x113, .ro, 0), (0x114, 0x117, .rw, 0x1F), (0x118, 0x123, .ro, 0), (0x128, 0x147, .ro, 0),
   (0x200, 0x203, .cmd, 0), (0x204, 0x20B, .ro, 0), (0x220, 0x24F, .ro, 0), (0x260, 0x263, .rw, 0xFFFFF000),
   (0x264, 0x267, .rw, allOnes), (0x268, 0x26B, .rw, 0xFFFFFF), (0x280, 0x287, .act, 0), (0x288, 0x28B, .ro, 0),
   (0x28C, 0x28F, .cmd, 0), (0x2A0, 0x2A3, .ro, 0), (0x2A4, 0x2A7, .rwl, 1), (0x2C0, 0x2DF, .ro, 0)]
/-- Tables 20.10, 4.9 and 5.12. -/
def rowsOZ : List RegRow :=
  [(0x100, 0x103, .cmd, 0), (0x104, 0x10B, .ro, 0), (0x10C, 0x10F, .rw, 0xFFFF), (0x110, 0x11B, .ro, 0), (0x140, 0x147, .ro, 0),
   (0x400, 0x403, .cmd, 0), (0x404, 0x407, .ro, 0), (0x408, 0x40B, .rw, allOnes), (0x40C, 0x40F, .rw, 0x0FFFFFFF),
   (0x410, 0x413, .rw, 0x3F07FF), (0x414, 0x417, .ro, 0), (0x800, 0x813, .act, 0), (0x814, 0x817, .ro, 0),
   (0x818, 0x81B, .rw, allOnes), (0x820, 0x823, .dw, 0x3F00FF), (0x824, 0x827, .act, 0), (0x828, 0x82F, .act, 0),
   (0x830, 0x833, .ro, 0), (0x840, 0x8BF, .ro, 0)]
/-- Table 20.9. -/
def rowsDR : List RegRow :=
  [(0x100, 0x103, .cmd, 0), (0x104, 0x10B, .ro, 0), (0x10C, 0x10F, .rw, 0xFFFF), (0x110, 0x11B, .ro, 0), (0x140, 0x14F, .ro, 0)]
/-- Table 4.7. -/
def rowsDQ : List RegRow :=
  [(0x100, 0x103, .rw, 0xFFFF), (0x140, 0x17F, .act, 0), (0x180, 0x187, .rw, 0x1F1F1F1F), (0x1C0, 0x1FF, .rw, 0x1F1F1F1F),
   (0x200, 0x207, .ro, 0), (0x208, 0x20B, .rw, 0x1FF), (0x20C, 0x21F, .ro, 0), (0x220, 0x247, .ro, 0), (0x280, 0x2BF, .act, 0),
   (0x2C0, 0x2C3, .cmd, 0), (0x2C4, 0x2C7, .ro, 0), (0x2C8, 0x2F7, .rw, allOnes), (0x300, 0x6FF, .ro, 0), (0x700, 0x72F, .ro, 0),
   (0x800, 0xFFF, .act, 0)]
/-- Table 2.5, by offset within a lane block. -/
def rowsLaneBlock : List RegRow :=
  [(0x00, 0x03, .act, 0), (0x04, 0x07, .ro, 0), (0x08, 0x0B, .act, 0), (0x0C, 0x0F, .rw, 0xFF000000), (0x10, 0x13, .act, 0),
   (0x14, 0x17, .ro, 0), (0x18, 0x1B, .rw, 0xFFF), (0x1C, 0x1F, .cmd, 0), (0x20, 0x23, .ro, 0), (0x24, 0x27, .act, 0),
   (0x28, 0x37, .ro, 0), (0x40, 0xDF, .ro, 0)]
/-- Table 3.11. -/
def rowsSC : List RegRow :=
  [(0x100, 0x103, .rw, 0xF), (0x104, 0x10B, .rw, 0xFFFF), (0x10C, 0x10F, .act, 0), (0x110, 0x123, .ro, 0), (0x140, 0x17F, .act, 0),
   (0x200, 0xA1F, .ro, 0), (0xA40, 0xA43, .cmd, 0), (0xA44, 0xA4B, .ro, 0), (0xA80, 0xABF, .rw, allOnes)]
/-- Table 7.15, by offset within a core's block. -/
def rowsCoreBlock : List RegRow := [(0x00, 0x03, .act, 0), (0x04, 0x33, .ro, 0)]
/-- Tables 9.10 and 6.15. -/
def rowsKV : List RegRow :=
  [(0x100, 0x103, .act, 0), (0x108, 0x10F, .act, 0), (0x110, 0x113, .act, 0), (0x118, 0x11F, .act, 0), (0x120, 0x127, .ro, 0),
   (0x140, 0x143, .dw, 0x3F), (0x144, 0x14B, .act, 0), (0x14C, 0x14F, .ro, 0), (0x150, 0x153, .cmd, 0), (0x154, 0x157, .ro, 0),
   (0x158, 0x15B, .dw, 0xFFFFFFC0), (0x15C, 0x15F, .dw, allOnes), (0x160, 0x16B, .ro, 0), (0x200, 0x203, .cmd, 0),
   (0x204, 0x207, .rw, allOnes), (0x208, 0x20B, .ro, 0), (0x210, 0x223, .ro, 0), (0x300, 0x303, .cmd, 0), (0x304, 0x307, .ro, 0),
   (0x380, 0x3FF, .rw, allOnes), (0x400, 0x43F, .ro, 0), (0xC00, 0xC07, .act, 0), (0xC08, 0xC0F, .ro, 0), (0xC40, 0xC7F, .ro, 0)]
/-- Table 10.10, the queue blocks apart. -/
def rowsPK : List RegRow :=
  [(0x100, 0x103, .act, 0), (0x104, 0x113, .ro, 0), (0x120, 0x123, .dw, 0x3F), (0x124, 0x127, .act, 0), (0x140, 0x147, .dwl, allOnes),
   (0x148, 0x14B, .dwl, 0x3F), (0x400, 0x43F, .ro, 0)]
/-- Table 10.13, by offset within a queue block. -/
def rowsPkQueue : List RegRow :=
  [(0x00, 0x03, .act, 0), (0x08, 0x0F, .act, 0), (0x10, 0x13, .act, 0), (0x14, 0x1B, .ro, 0), (0x20, 0x27, .rwl, allOnes), (0x28, 0x2B, .ro, 0)]
/-- Table 11.12, the export rings apart. -/
def rowsJN : List RegRow :=
  [(0x100, 0x103, .act, 0), (0x104, 0x107, .ro, 0), (0x108, 0x10B, .cmd, 0), (0x110, 0x117, .dwl, allOnes), (0x118, 0x123, .act, 0),
   (0x140, 0x1DF, .ro, 0), (0x300, 0x30B, .ro, 0), (0x340, 0x36F, .ro, 0)]
/-- JN_X of Table 11.12, by offset within an export ring. -/
def rowsJnX : List RegRow := [(0x00, 0x0B, .act, 0), (0x0C, 0x0F, .ro, 0), (0x10, 0x13, .act, 0)]
/-- Table 11.15. -/
def rowsTW : List RegRow :=
  [(0x100, 0x103, .act, 0), (0x104, 0x107, .ro, 0), (0x108, 0x10B, .cmd, 0), (0x10C, 0x117, .ro, 0), (0x118, 0x11B, .rw, allOnes),
   (0x11C, 0x11F, .act, 0), (0x120, 0x127, .ro, 0), (0x128, 0x143, .act, 0), (0x144, 0x147, .rw, 0xFFFF), (0x148, 0x14B, .act, 0),
   (0x14C, 0x14F, .ro, 0), (0x200, 0x26F, .ro, 0)]
/-- Table 12.9. -/
def rowsCR : List RegRow :=
  [(0x100, 0x103, .act, 0), (0x104, 0x107, .ro, 0), (0x108, 0x10B, .cmd, 0), (0x10C, 0x10F, .ro, 0), (0x110, 0x117, .act, 0),
   (0x118, 0x11F, .rwl, allOnes), (0x120, 0x12B, .ro, 0), (0x140, 0x157, .act, 0), (0x158, 0x15B, .rw, 0xFFFFF), (0x15C, 0x15F, .cmd, 0),
   (0x160, 0x167, .rw, allOnes), (0x168, 0x173, .ro, 0), (0x180, 0x1FF, .ro, 0), (0x200, 0x203, .cmd, 0), (0x204, 0x207, .rw, 0xFFF),
   (0x208, 0x20F, .ro, 0), (0x300, 0x36F, .ro, 0), (0x800, 0xBFF, .rw, allOnes), (0xC00, 0xFFF, .ro, 0)]
/-- Table 13.14. -/
def rowsHI : List RegRow :=
  [(0x100, 0x107, .ro, 0), (0x108, 0x10B, .rw, 0xFFFF), (0x200, 0x2FF, .act, 0), (0x300, 0x303, .rw, 0x1F), (0x304, 0x307, .ro, 0),
   (0x308, 0x327, .ro, 0), (0x400, 0x407, .ro, 0)]
/-- Table 13.11. -/
def rowsMB : List RegRow := [(0x100, 0x1FF, .act, 0), (0x200, 0x203, .ro, 0), (0x208, 0x227, .ro, 0)]
/-- Tables 15.12, 16.15 to 16.17, 17.6, 17.7, 18.2 and 19.11. -/
def rowsCD (i : Nat) : List RegRow :=
  match i with
  | 0 => [(0x100, 0x107, .ro, 0), (0x300, 0x303, .ro, 0), (0x304, 0x307, .rwl, 1), (0x340, 0x35F, .ro, 0)]
  | 1 => [(0x100, 0x103, .ro, 0), (0x104, 0x107, .act, 0), (0x108, 0x11B, .ro, 0), (0x120, 0x127, .ro, 0), (0x140, 0x33F, .ro, 0),
          (0x340, 0x343, .cmd, 0), (0x380, 0x39F, .ro, 0)]
  | 2 => [(0x100, 0x10F, .ro, 0), (0x140, 0x1BF, .ro, 0), (0x200, 0x207, .ro, 0)]
  | 3 => [(0x100, 0x103, .rw, 0xF01FF), (0x108, 0x10B, .rw, 0xFFFFFFF0), (0x10C, 0x10F, .rw, allOnes), (0x110, 0x113, .rw, 0xFFFFFFF0),
          (0x114, 0x117, .rw, allOnes), (0x118, 0x11B, .rw, 0xFFFFFF), (0x11C, 0x11F, .rw, 1), (0x120, 0x123, .cmd, 0), (0x124, 0x127, .ro, 0),
          (0x200, 0x2FF, .ro, 0), (0x300, 0x307, .ro, 0)]
  | 4 => [(0x100, 0x103, .cmd, 0), (0x104, 0x107, .ro, 0), (0x108, 0x10B, .rw, 0xFFFFF8), (0x10C, 0x10F, .rw, 0x7F), (0x110, 0x113, .rw, 0x1FFFF),
          (0x118, 0x11F, .wo, allOnes), (0x120, 0x13F, .ro, 0), (0x140, 0x143, .rw, 0xF), (0x144, 0x14B, .ro, 0), (0x150, 0x153, .act, 0),
          (0x154, 0x157, .ro, 0), (0x180, 0x1AF, .ro, 0), (0x200, 0x3FF, .rw, allOnes)]
  | 5 => [(0x100, 0x103, .cmd, 0), (0x104, 0x107, .ro, 0), (0x108, 0x10B, .rw, 0xFFFFFFC0), (0x10C, 0x10F, .rw, allOnes), (0x110, 0x113, .rw, 0x1FFFF),
          (0x114, 0x123, .ro, 0), (0x140, 0x14F, .ro, 0)]
  | 6 => [(0x100, 0x103, .act, 0), (0x104, 0x107, .ro, 0), (0x108, 0x10B, .cmd, 0), (0x10C, 0x10F, .ro, 0), (0x110, 0x113, .rw, allOnes),
          (0x114, 0x117, .ro, 0), (0x140, 0x16F, .rwl, allOnes), (0x170, 0x173, .act, 0), (0x180, 0x183, .act, 0), (0x188, 0x18F, .rwl, allOnes),
          (0x1C0, 0x1E7, .ro, 0), (0x200, 0x25F, .ro, 0), (0x300, 0x303, .ro, 0), (0x400, 0x7FF, .ro, 0)]
  | 7 => [(0x100, 0x103, .act, 0), (0x104, 0x107, .ro, 0), (0x108, 0x10B, .cmd, 0), (0x10C, 0x137, .ro, 0), (0x140, 0x143, .rw, allOnes),
          (0x144, 0x147, .rw, 0xFFFFFF), (0x148, 0x14B, .ro, 0), (0x200, 0x3FF, .ro, 0), (0x400, 0x44F, .ro, 0)]
  | _ => []
/-- Table 15.11. -/
def rowsPW : List RegRow :=
  [(0x100, 0x107, .rw, allOnes), (0x108, 0x10B, .rw, 0xFFFF), (0x10C, 0x10F, .cmd, 0), (0x110, 0x113, .ro, 0), (0x120, 0x12B, .ro, 0),
   (0x130, 0x13B, .ro, 0), (0x140, 0x14B, .act, 0), (0x150, 0x153, .ro, 0), (0x160, 0x163, .rw, 0x7F), (0x164, 0x167, .ro, 0), (0x200, 0x20F, .ro, 0)]
/-- R649. -/
def rowsTS : List RegRow := [(0x100, 0x103, .cmd, 0), (0x104, 0x107, .ro, 0), (0x108, 0x10B, .act, 0)]

/-- The access of a block-specific register: page type, instance and offset; none for a reserved location (R16, R493). -/
def access (t i off : Nat) : Option (Acc × Reg) :=
  match t with
  | 0x01 => rowAt rowsGLB off
  | 0x02 => rowAt rowsOZ off
  | 0x03 => rowAt rowsDR off
  | 0x04 => rowAt rowsDQ off
  | 0x05 =>
    if off < (if i = 64 then 0xB80 else 0xF00) then rowAt rowsLaneBlock ((off - 0x100) % 0xE0)
    else if off / 4 = 0x3C0 ∧ i ≠ 64 then some (.act, 0) else if off / 4 = 0x3C1 then some (.act, 0) else none
  | 0x06 => rowAt rowsSC off
  | 0x07 =>
    if off < 0x900 then rowAt rowsCoreBlock ((off - 0x100) % 0x40)
    else if off < 0xD00 then (if off % 0x20 < 0x1C then some (.ro, 0) else none)
    else rowAt [(0xD00, 0xD03, .rw, 1), (0xD04, 0xD07, .ro, 0), (0xD08, 0xD0F, .act, 0)] off
  | 0x08 => rowAt rowsKV off
  | 0x09 => if 0x200 ≤ off ∧ off < 0x400 then rowAt rowsPkQueue (off % 0x40) else rowAt rowsPK off
  | 0x0A => if 0x200 ≤ off ∧ off < 0x2A0 then rowAt rowsJnX (off % 0x20) else rowAt rowsJN off
  | 0x0B => rowAt rowsTW off
  | 0x0C => rowAt rowsCR off
  | 0x0D => rowAt rowsHI off
  | 0x0E => rowAt rowsMB off
  | 0x0F => rowAt (rowsCD i) off
  | 0x10 => rowAt rowsPW off
  | 0x11 => rowAt rowsTS off
  | _ => none

/-- The bits of PG_IRQ_RAW that a page implements (R481): its sources, and ERR. -/
def irqMask (p : Nat) : Reg :=
  0x80000000 |||
  (match p / 0x100 with
  | 0x01 => 0x1F | 0x02 => 0xF | 0x03 => 7 | 0x04 => 0x1F | 0x05 => 3 | 0x06 => 0x1F | 0x07 => 7 | 0x08 => 0x107 | 0x09 => 0x1F
  | 0x0A => 0xF | 0x0B => 0x7F | 0x0C => 0x7F | 0x0D => 0xF | 0x10 => 7 | 0x11 => 1
  | 0x0F => (match p % 0x100 with | 1 => 0x1F | 2 => 0xF | 3 => 1 | 4 => 0xF | 5 => 3 | 6 => 0x1F | 7 => 0x1F | _ => 0)
  | _ => 0)

/-! ### 64-bit pairs (R13) -/

/-- Runs of 64-bit pairs that are no counters: first and last offset. -/
def pairRuns (t i : Nat) : List (Nat × Nat) :=
  match t with
  | 0x01 => [(0x108, 0x10F), (0x128, 0x12F), (0x260, 0x267)]
  | 0x02 => [(0x828, 0x82F)]
  | 0x04 => [(0x210, 0x21F), (0x2C8, 0x2F7), (0x700, 0x72F)]
  | 0x08 => [(0x108, 0x10F), (0x118, 0x11F), (0x158, 0x167)]
  | 0x09 => [(0x140, 0x147)]
  | 0x0A => [(0x110, 0x11F), (0x300, 0x307)]
  | 0x0B => [(0x120, 0x13F)]
  | 0x0C => [(0x118, 0x11F), (0x148, 0x157), (0x160, 0x16F)]
  | 0x0E => [(0x220, 0x227)]
  | 0x0F =>
    (match i with
    | 1 => [(0x120, 0x127)] | 2 => [(0x140, 0x1BF)] | 3 => [(0x108, 0x117)] | 4 => [(0x118, 0x11F), (0x200, 0x3FF)]
    | 5 => [(0x108, 0x10F), (0x118, 0x11F)] | 6 => [(0x188, 0x18F), (0x1C0, 0x1E7)] | 7 => [(0x140, 0x147)] | _ => [])
  | _ => []

/-- Whether an offset is in a run of 64-bit pairs. -/
def inPair (t i off : Nat) : Bool := (pairRuns t i).any fun r => decide (r.1 ≤ off ∧ off ≤ r.2)

/-- Counter and unit whose LO or HI lies at an offset; the selected queue's counters give unit 0 here. -/
def counterAt (t i off : Nat) : Option (Nat × Nat) :=
  let l := counterTable t i
  ((List.range l.length).zip l).findSome? fun e =>
    let o := e.2.1
    let n := e.2.2.1
    if off < o then none
    else if n = 0 then (if off < o + 8 then some (e.1, 0) else none)
    else if (off - o) % n < 8 ∧ (off - o) / n < e.2.2.2 then some (e.1, (off - o) / n) else none

/-- Whether the register at an offset is the LO half of a 64-bit pair. -/
def isLo (t i off : Nat) : Bool :=
  let even := off % 8 = 0
  if off < 0x100 then decide (0x40 ≤ off ∧ off < 0x80 ∧ off % 16 = 4)
  else if (counterAt t i off).isSome || inPair t i off then even
  else
    match t with
    | 0x05 => decide ((off - 0x100) % 0xE0 = 0x28 ∧ off < 0xF00)
    | 0x07 => decide (0x900 ≤ off ∧ off < 0xD00 ∧ off % 0x20 = 8)
    | 0x09 => decide (0x200 ≤ off ∧ off < 0x400 ∧ (off % 0x40 = 8 ∨ off % 0x40 = 0x20))
    | 0x0A => decide ((0x140 ≤ off ∧ off < 0x1C0 ∧ (off % 0x20 = 0 ∨ off % 0x20 = 8)) ∨ (0x200 ≤ off ∧ off < 0x2A0 ∧ off % 0x20 = 0))
    | 0x0F => decide (i = 3 ∧ 0x200 ≤ off ∧ off < 0x300 ∧ off % 16 = 0)
    | _ => false

/-! ### What the read-only registers show -/

/-- Word `k` of a byte string. -/
def wordOf (b : List Byte) (k : Nat) : Nat := ofLe (sliceBytes b (4 * k) 4)
/-- LO or HI of a 64-bit value, by the offset of the register. -/
def half (v off : Nat) : Nat := if off % 8 = 0 then v % 2 ^ 32 else v / 2 ^ 32 % 2 ^ 32
/-- A mask of `n` bits. -/
def maskOf (n : Nat) (f : Nat → Bool) : Nat := bitsOf ((List.range n).map f)

/-- GLB_TIM. -/
def State.timShown (s : State) : Nat := s.clk.tim % 2 ^ 63 + 2 ^ 63 * b2n s.clk.held
/-- GLB (Tables 14.10, 15.9). -/
def State.viewGLB (s : State) (off : Nat) : Option Nat :=
  if off = 0x110 then some (bitsOf ((List.range 18).map fun t => (List.range (pageCount t)).any fun i => s.irqOut (pageNo t i) != 0))
  else if 0x118 ≤ off ∧ off < 0x124 then
    let t := s.fld (glReg 0x114) 4 0
    some (maskOf 32 fun b => let i := (off - 0x118) / 4 * 32 + b; decide (i < pageCount t) && s.irqOut (pageNo t i) != 0)
  else if off = 0x128 ∨ off = 0x12C then some (half s.timShown off)
  else if 0x130 ≤ off ∧ off < 0x140 then some (Config.uid.toNat / 2 ^ (8 * (off - 0x130)) % 2 ^ 32)
  else if off = 0x280 then some (s.fld (glReg 0x280) 0 0 + 2 * b2n s.deviceWdCounts)
  else none
/-- The ounces other than `o` in ascending order: the links of an ounce. -/
def linkPartners (o : Nat) : List Nat := [0, 1, 2, 3].filter (· ≠ o)
/-- OZ (Tables 4.9, 5.12, 20.10). -/
def State.viewOZ (s : State) (o off : Nat) : Option Nat :=
  if off = 0x118 then
    some (ofLe ((linkPartners o).map fun b =>
      let n := ((s.link o b).resent.filter fun t => decide (s.clk.ns < t + 1000000)).length
      BitVec.ofNat 8 (b2n (!s.linkIsDown o b) + 2 * min n 127)))
  else if off = 0x414 then some (s.ftCount o)
  else if off = 0x830 then some ((cget [] s.vp.queues o).length + 2 ^ 16 * cget 0 s.vp.units o)
  else none
/-- DR (Table 20.9). -/
def State.viewDR (s : State) (d off : Nat) : Option Nat :=
  if off = 0x114 then some (s.dramCells d)
  else if off = 0x118 then
    let c := s.cxs.cache.filter fun (e : Nat × CachedCtx) => e.2.c.cacheOf == d
    some (c.length + 2 ^ 16 * (c.filter fun (e : Nat × CachedCtx) => e.2.changed).length)
  else none
/-- Depth of a queue: cells and frames, each saturating. -/
def State.qDepth (s : State) (q : Nat) : Nat := min (s.queueCells q) 0xFFFF * 2 ^ 16 + min (s.queue q).length 0xFFFF
/-- DQ (Table 4.7). -/
def State.viewDQ (s : State) (d off : Nat) : Option Nat :=
  let j := s.fld (ra tDQ d 0x208) 8 0
  let q := 512 * d + j
  if off = 0x200 then
    some (s.sharedFree d + 2 ^ 16 * (1024 - sumNat ((List.range 16).map fun i => (s.lane (16 * d + i)).stgUsed)))
  else if off = 0x20C then some (s.qDepth q)
  else if off = 0x210 ∨ off = 0x214 then
    let tag := match s.queue q with | n :: _ => (match s.frame n with | some f => f.tag | none => none) | [] => none
    some (half (match tag with | some x => x % tagMod + 2 ^ 63 | none => 0) off)
  else if off = 0x218 ∨ off = 0x21C then some (half (s.lane (16 * d + j / 32)).vclk off)
  else none
/-- VC: the per-core block (Tables 7.15, 7.17). -/
def State.viewVC (s : State) (o off : Nat) : Option Nat :=
  let c := 32 * o + (off - 0x100) / 0x40
  let x := s.core c
  let k := (off - 0x100) % 0x40
  if 0x900 ≤ off then none
  else if k = 0x04 then
    some (x.st + 16 * x.ring + 64 * b2n x.ds.isSome + 128 * b2n (x.loops.lc0 ≠ 0) + 256 * b2n (x.loops.lc1 ≠ 0))
  else if k = 0x08 then some (x.pc.toNat % 2 ^ 17)
  else if k = 0x0C then some (x.tktstat % 2 ^ 32)
  else if k / 8 = 2 then some (half x.cycle off)
  else if k / 8 = 3 then some (half x.instret off)
  else if k / 8 = 4 then some (half x.stallMem off)
  else if k / 8 = 5 then some (half x.stallTkt off)
  else none
/-- KV (Tables 9.10, 9.13, 6.15). -/
def State.viewKV (s : State) (o off : Nat) : Option Nat :=
  let z := s.fld (kvReg o 0x140) 5 0
  let x := s.zone z
  if off = 0x124 then some (s.vaultUse o + 2 ^ 24 * min (s.vlt.fills.filter fun f => f.1 == o).length 31)
  else if off = 0x144 then some x.zbase
  else if off = 0x148 then some x.count
  else if off = 0x14C then some (s.zoneLc z + 8 * b2n x.started + 16 * b2n x.rekey + 2 ^ 16 * x.epoch)
  else if off = 0x160 ∨ off = 0x164 then some (half x.gen off)
  else if off = 0x168 then some x.floor
  else if off = 0xC0C then
    some ((cget [] s.pay.queue o).length + 2 ^ 16 * (s.pay.run.filter fun (e : Nat × KRun) => e.1 / 16 == o).length)
  else none
/-- PK (Tables 10.10, 10.12). -/
def State.viewPK (s : State) (o off : Nat) : Option Nat :=
  if off = 0x104 then
    some ((s.pkEngines o).length * 2 ^ 16 + b2n (s.pkInv o) + 2 * b2n (s.fld (glReg 0x204) 9 9 = 0) +
      2 ^ 27 * b2n ((s.sealEngine (o ^^^ 1)).isSome && s.domOn (68 + (o ^^^ 1))) + 2 ^ 28 * (s.sealEngine o).getD 15)
  else if off = 0x110 then some (maskOf 16 fun e => s.pkBusy o e || s.pkTesting o e)
  else if off = 0x124 then some (cget 0 s.vlt.bfloor (s.fld (pkReg o 0x120) 5 0))
  else none
/-- JN (Table 11.12). -/
def State.viewJN (s : State) (o off : Nat) : Option Nat :=
  if 0x140 ≤ off ∧ off < 0x1C0 then
    let x := s.strand (4 * o + (off - 0x140) / 0x20)
    let k := off % 0x20
    if k < 8 then some (half x.seq off) else if k < 0x10 then some (half x.commitSeq off)
    else if k = 0x10 then some x.queue.length else if k = 0x14 then some x.inUse else some 0
  else none
/-- TW (Table 11.15); w = 8 does not fit its field and is shown elsewhere. -/
def State.viewTW (s : State) (off : Nat) : Option Nat :=
  if off = 0x104 then
    some (s.twState + 16 * (s.jn.partRole % 4) + 256 * b2n s.jn.link.up + 512 * (s.jn.link.width % 8) + 4096 * b2n s.jn.partLocked)
  else none
/-- CR (Table 12.9). -/
def State.viewCR (s : State) (off : Nat) : Option Nat :=
  if 0x180 ≤ off ∧ off < 0x200 then
    some (maskOf 32 fun b => let p := (off - 0x180) / 4 * 32 + b; s.cr.present.any fun (e : Nat × Present) => e.1 == p)
  else none
/-- HI and MB (Tables 13.11, 13.14). -/
def State.viewHI (s : State) (off : Nat) : Option Nat :=
  if off = 0x304 then some (s.qDepth (queueOf 1024 (s.fld (ra tHI 0 0x300) 4 0))) else none
/-- MB. -/
def State.viewMB (s : State) (off : Nat) : Option Nat :=
  if off = 0x220 ∨ off = 0x224 then some (half (maskOf 64 fun ch => (s.mbox ch).full) off) else none

/-- CD instance 0 (Table 15.12). The custody phase is VERIFY in step 1 of a cold start and RUN from then on. -/
def State.viewCD0 (s : State) (off : Nat) : Option Nat :=
  if off = 0x100 then
    some ((if s.startFld 3 0 = 1 ∧ !s.warmKind then 1 else 2) + 256 * b2n s.rootLost + 512 * b2n s.lockInForce +
      1024 * s.fld (cdReg 0 0x100) 10 10)
  else if off = 0x300 then
    some (maskOf 4 (fun i => (s.slow i).filt) + 256 * maskOf 4 (fun i => if i < 2 then !(s.slow i).raw else (s.slow i).raw) +
      2 ^ 16 * maskOf 4 (fun i => !(s.slow i).filt && !(s.slow i).armed i s.clk.ns))
  else none
/-- CD instance 1 (Table 16.15). -/
def State.viewCD1 (s : State) (off : Nat) : Option Nat :=
  let x := s.cus.session
  if off = 0x100 then
    some (s.cus.latch % 2 ^ 16 + 2 ^ 16 * b2n s.lockInForce + 2 ^ 17 * b2n x.open_ + 2 ^ 18 * b2n s.provisional +
      2 ^ 20 * min x.cards.length 15 + 2 ^ 24 * min x.badges.length 3)
  else if off = 0x108 then
    some (maskOf 6 (fun m => (s.monitor m).outGlitch) + 256 * maskOf 6 (fun m => (s.monitor m).outSlow) +
      2 ^ 16 * maskOf 6 (fun m => (s.monitor m).below))
  else if off = 0x10C then some (maskOf 6 fun m => (s.monitor m).armed)
  else if off = 0x110 then some (s.cus.m + 16 * s.cus.n + 2 ^ 16 * s.cus.badges.length)
  else if off = 0x114 then some (if x.open_ then (x.begun + 600000000000 - s.clk.ns) / 1000000 else 0)
  else if off = 0x118 then some (s.cus.records.length + 2 ^ 16 * s.cus.overflow)
  else if off = 0x120 ∨ off = 0x124 then some (half s.aonTime off)
  else if 0x140 ≤ off ∧ off < 0x340 then some (wordOf (padTo 32 (nth [] s.cus.records ((off - 0x140) / 32))) (off % 32 / 4))
  else none
/-- CD instance 2 (Table 16.16). -/
def State.viewCD2 (s : State) (off : Nat) : Option Nat :=
  if off = 0x100 then some s.lcStat
  else if off = 0x104 then some s.cus.otp
  else if off = 0x108 then
    some (b2n s.cus.grant.isSome + 2 * (s.cus.grant.getD 0 % 4) + 8 * b2n s.cus.challenge.isSome + 16 * s.jtagClasses)
  else none
/-- CD instance 3 (Table 16.17). -/
def State.viewCD3 (s : State) (off : Nat) : Option Nat :=
  if 0x200 ≤ off ∧ off < 0x300 then
    match s.cus.log[(off - 0x200) / 16]? with
    | none => some 0
    | some v =>
      let k := off % 16
      if k < 8 then some (half v.addr off)
      else if k = 8 then some (v.fence + 2 ^ 16 * v.cls + 2 ^ 20 * b2n v.write + 2 ^ 21 * b2n v.fetch) else some 0
  else if off = 0x300 then some s.cus.log.length
  else none
/-- CD instance 4 (Table 17.6). -/
def State.viewCD4 (s : State) (off : Nat) : Option Nat :=
  let g := s.wear (s.fld (flReg 0x140) 3 0)
  if 0x120 ≤ off ∧ off < 0x140 then some (s.fl.prot / 2 ^ (8 * (off - 0x120)) % 2 ^ 32)
  else if off = 0x144 then some (g.start + 256 * g.gap + 2 ^ 24 * g.erases)
  else if off = 0x148 then some g.moves
  else none
/-- CD instance 6 (Tables 18.2, 18.4). -/
def State.viewCD6 (s : State) (off : Nat) : Option Nat :=
  if off = 0x104 then
    some (s.fld (cdReg 6 0x104) 7 0 + 256 * maskOf 5 (fun i => (s.drbg i).ready) +
      2 ^ 16 * b2n ((List.range 5).any (fun i => (s.drbg i).taint) || s.rng.pool.any (·.2)))
  else if off = 0x114 then some s.rng.pool.length
  else if 0x188 ≤ off ∧ off < 0x190 then let v := s.rd64 (cdReg 6 0x188); some (half (if v = 0 then 1 else v) off)
  else if 0x1C0 ≤ off ∧ off < 0x1E8 then some (half (s.drbg ((off - 0x1C0) / 8)).gen off)
  else if off = 0x300 then
    let n := s.rng.tapBits.length / 8
    some (n + 2 ^ 16 * s.rng.tapSrc + 2 ^ 30 * b2n s.rng.tap + 2 ^ 31 * b2n (n = 1024))
  else if 0x400 ≤ off ∧ off < 0x800 then
    let b := sliceBits s.rng.tapBits (8 * (off - 0x400))
    some (ofLe ((List.range 4).map fun k => BitVec.ofNat 8 (bitsOf (sliceBits8 b (8 * k)).reverse)))
  else none
where
  /-- 32 bits from bit `k` on; absent bits are 0. -/
  sliceBits (l : List Bool) (k : Nat) : List Bool := (l.drop k).take 32
  /-- 8 bits from bit `k` on. -/
  sliceBits8 (l : List Bool) (k : Nat) : List Bool := let b := (l.drop k).take 8; b ++ List.replicate (8 - b.length) false
/-- CB_STAT.SLOT. -/
def Card.slotShown (c : Card) : Nat := if c.phase = 0 then 0 else if c.phase ≤ 2 then 1 else if c.phase = 3 then 2 else if c.phase = 4 then 4 else 3
/-- CD instance 7 (Table 19.11). -/
def State.viewCD7 (s : State) (off : Nat) : Option Nat :=
  let c := s.cb.card
  let r := s.cb.rdr
  if off = 0x104 then
    some (c.slotShown + 8 * b2n c.wp + 16 * b2n (s.slow 1).filt + 32 * b2n c.unk.isSome + 64 * b2n c.unkLost + 256 * r.st + 2 ^ 11 +
      2 ^ 12 * min (r.found.length + r.shown.length) 7)
  else if off = 0x10C then some (s.fld (cbReg 0x10C) 15 0 + 2 ^ 31 * b2n s.cbBusy)
  else if 0x110 ≤ off ∧ off < 0x120 then some (wordOf (padTo 16 c.ident) ((off - 0x110) / 4))
  else if 0x120 ≤ off ∧ off < 0x130 then some ((c.unk.getD {}).card / 2 ^ (8 * (off - 0x120)) % 2 ^ 32)
  else if off = 0x130 then some (c.unk.getD {}).txn
  else if off = 0x134 then some (c.unk.getD {}).op
  else if off = 0x148 then some (s.cb.log.length + 2 ^ 16 * s.cb.logOvf)
  else if 0x200 ≤ off ∧ off < 0x400 then some (wordOf (padTo 32 (nth [] s.cb.log ((off - 0x200) / 32))) (off % 32 / 4))
  else none
/-- PW (Table 15.11). -/
def State.viewPW (s : State) (off : Nat) : Option Nat :=
  if 0x120 ≤ off ∧ off < 0x12C then some (maskOf 32 fun b => s.domOn ((off - 0x120) / 4 * 32 + b))
  else if 0x130 ≤ off ∧ off < 0x13C then
    some (maskOf 32 fun b => let v := s.domain ((off - 0x130) / 4 * 32 + b); v == 1 || v == 3 || v == 4)
  else if off = 0x164 then
    let d := s.fld (ra tPW 0 0x160) 6 0
    some (s.domain d % 8 + 2 ^ 16 * min ((s.clk.ns - cget 0 s.st.domT d) / 1000000) 0xFFFF)
  else none

/-- The register of a page as the state gives it, where the register table does not hold it. -/
def State.view (s : State) (t i off : Nat) : Option Nat :=
  match t with
  | 0x01 => s.viewGLB off
  | 0x02 => s.viewOZ i off
  | 0x03 => s.viewDR i off
  | 0x04 => s.viewDQ i off
  | 0x07 => s.viewVC i off
  | 0x08 => s.viewKV i off
  | 0x09 => s.viewPK i off
  | 0x0A => s.viewJN i off
  | 0x0B => s.viewTW off
  | 0x0C => s.viewCR off
  | 0x0D => s.viewHI off
  | 0x0E => s.viewMB off
  | 0x0F =>
    (match i with
    | 0 => s.viewCD0 off | 1 => s.viewCD1 off | 2 => s.viewCD2 off | 3 => s.viewCD3 off | 4 => s.viewCD4 off
    | 6 => s.viewCD6 off | 7 => s.viewCD7 off | _ => none)
  | 0x10 => s.viewPW off
  | 0x11 =>
    if off = 0x108 then some (s.fld (tsReg i 0x108) 0 0 + 256 * b2n ((s.jtag.ir = 0x20 ∨ s.jtag.ir = 0x21) ∧ s.jtag.sel / 32 % 4 = i)) else none
  | _ => none

/-- A field that reads as its default while it holds 0: offset, bits, default. -/
def zeroDefaults (t : Nat) : List (Nat × Nat × Nat × Nat) :=
  match t with
  | 0x02 => [(0x10C, 15, 0, 200), (0x800, 31, 16, 10000)]
  | 0x03 => [(0x10C, 15, 0, 1000)]
  | 0x04 => [(0x100, 15, 0, 1000)]
  | 0x08 => [(0x100, 15, 8, 50)]
  | 0x0A => [(0x100, 25, 16, 100)]
  | 0x0B => [(0x100, 30, 16, 200)]
  | 0x0C => [(0x100, 20, 16, 5)]
  | 0x0D => [(0x108, 15, 0, 1000)]
  | _ => []
/-- A stored value as it reads. -/
def asRead (t off : Nat) (v : Reg) : Reg :=
  let o := if t = 0x05 ∧ 0x100 ≤ off ∧ off < 0xF00 then (off - 0x100) % 0xE0 else off
  let l := if t = 0x05 ∧ 0x100 ≤ off ∧ off < 0xF00 then [(0x18, 11, 0, 500)] else zeroDefaults t
  match l.find? fun e => e.1 == o with
  | some (_, hi, lo, d) => if getField v hi lo = 0 then setField v hi lo d else v
  | none => v

/-- The value of counter `k` at an offset: the queue counters of a DQ page and of the HI page are those of the selected queue. -/
def State.counterShown (s : State) (t i k u : Nat) : Nat :=
  let u := if t = tDQ ∧ k < 5 then s.fld (ra tDQ i 0x208) 8 0 else if t = tHI ∧ k < 4 then s.fld (ra tHI 0 0x300) 4 0 else u
  s.ctr (pageNo t i) k u

/-- The header of a page (Tables 14.1 to 14.5, 14.7). -/
def State.header (s : State) (p off : Nat) : Nat :=
  let t := p / 0x100
  let i := p % 0x100
  let raw := (s.rd (pra p off)).toNat
  if off = 0x000 then t * 2 ^ 24 + i * 2 ^ 12 + 1
  else if off = 0x004 then
    let n := (counterTable t i).length
    let ev := if t = tSC then 0x61 else if n = 0 then 0x3F else 0x40 + n - 1
    ev * 2 ^ 16 + pageDie p * 2 ^ 12 + b2n (pageDevWide p) * 2 ^ 11 + 4 * 2 ^ 8 +
      (match pageDomain p with | some d => 128 + d | none => 0)
  else if off = 0x00C then
    b2n (s.pageLive p) + 2 * s.fld (pra p 0x020) 31 31 + 4 * b2n ((List.range 4).any fun n => (cget {} s.pgs.snaps (p * 4 + n)).valid) +
      8 * s.fld (pra p 0x008) 0 0
  else if off = 0x018 then 0
  else if off = 0x01C then s.irqOut p
  else if 0x40 ≤ off ∧ off < 0x80 then
    let n := (off - 0x40) / 16
    let x := cget {} s.pgs.snaps (p * 4 + n)
    let ctl := (s.rd (pra p (0x4C + 16 * n))).toNat % 2
    let k := off % 16
    if k = 4 then (if ctl = 1 then x.count % 2 ^ 32 else raw)
    else if k = 8 then (if ctl = 1 then x.count / 2 ^ 32 else raw % 2 ^ 16)
    else if k = 12 then ctl + 2 * b2n x.valid + 2 ^ 16 * (x.seq % 2 ^ 16)
    else raw
  else if off < 0x24 then raw else 0

end Sys2Proof.Machine
end

