-- ==== Sys2Proof/Machine/RingCmds.lean ====
section
/-!
DEFINITION. Commands of the control ring: joining and leaving, frames, presence, time, keys, messages, leases and counters
(chapter 12).
-/
namespace Sys2Proof.Machine

/-! ### Ring states (Table 12.2) -/

/-- CR_CMD.JOIN: refused without a ring key (0x0706), or where Table 12.2 has no row. -/
def execJoin (s : State) : Outcome :=
  done (
    let st := s.ringState
    if 1 ≤ st ∧ st ≤ 3 then s.crStatus 0x705
    else if s.rd (crReg 0x110) = 0 then s.crStatus 0x706
    else
      let s := ({ s with cr := { s.cr with gotSync := false } }).setRingState 1
      let s := (List.range 2).foldl (fun s l => if s.lnState (1032 + l) = 4 ∧ !s.laneJoined l then s.beginHello l else s) s
      (s.crStatus 0).took crPage)
/-- CR_CMD.LEAVE, only when JOINED: PRESENCE with LEAVING set. -/
def execLeave (s : State) : Outcome :=
  done (if s.ringState = 2 then ((((s.setRingState 3).sendPresence).crStatus 0).took crPage) else s.crStatus 0x705)
/-- CR_CMD.KEY_ARM (R430). -/
def execKeyArm (s : State) : Outcome :=
  done ((({ s with cr := { s.cr with armed := true, switched := false } }).crStatus 0).took crPage)
/-- 100 µs after LEAVE. -/
def execLeaveTimeout (s : State) : Outcome := done (if s.ringState = 3 then s.setRingState 0 else s)
/-- 20 ms in JOINING. -/
def execJoinTimeout (s : State) : Outcome := done (if s.ringState = 1 then (s.setRingState 0).crStatus 0x707 else s)
/-- Both ring lanes have been out of UP for ISOLATE_MS. -/
def execRingIsolateTimeout (s : State) : Outcome :=
  done (
    if s.ringState = 2 ∧ s.lnState 1032 ≠ 4 ∧ s.lnState 1033 ≠ 4 then (s.setRingState 4).crStatus 0x708 else s)

/-! ### HELLO and frames (R416–R419) -/

/-- A HELLO of lane `l` (R416). One whose CMAC fails is dropped and counted in BLOCK_ERR. One that echoes this lane's nonce
completes the exchange; one that does not, or that carries a new nonce, is answered. -/
def execRingHelloRx (l : Nat) (s : State) : Outcome :=
  done (
    match s.linkTake (l + 1) [0x20] with
    | none => s
    | some ((_, _, _, b), s) =>
      let h := b.take 8
      let p := sliceBytes b 8 32
      if b.length ≠ 48 ∨ !((s.linkKeys (l + 1)).any fun k => helloTag k h p = b.drop 40) then s.lnBump (1032 + l) 10 1
      else
        let nonce := beAt p 8 8
        let echo := beAt p 16 8
        let r := s.ringLane l
        let answer := echo ≠ r.nonce ∨ nonce ≠ r.echo
        let s := s.modRingLane l fun r => { r with echo := nonce }
        let s := if answer ∧ !r.waiting then s.sendHello l else s
        if echo = r.nonce ∧ r.rsc ≠ 0 then
          let s := s.modRingLane l fun r =>
            { r with npos := beAt p 0 2, nrsc := beAt p 4 4, delays := [], t1 := none, link := { r.link with txSeq := 0, rxSeq := 0, replay := [], resend := none } }
          (s.setHello l true).tryJoined
        else s)

/-- A copy is new by its MSGID (R419); the window after it. -/
def MsgWin.accept (w : MsgWin) (m : Nat) : Option MsgWin :=
  if !w.any then some { high := m, marks := 1, any := true }
  else if w.high < m then some { w with high := m, marks := (w.marks * 2 ^ min (m - w.high) 64 + 1) % 2 ^ 64 }
  else if w.high - m < 64 ∧ !w.marks.testBit (w.high - m) then some { w with marks := w.marks + 2 ^ (w.high - m) }
  else none
/-- A message is handed to the device. -/
def State.ringDeliver (s : State) (type l : Nat) (p : List Byte) : State :=
  let s := s.crBump 1
  if type = 0x27 ∧ 2 < beAt (ringBody p) 0 1 then s else { s with cr := { s.cr with inbox := s.cr.inbox ++ [(type, l, p)] } }
/-- Delivery by MSGID (R419). -/
def State.ringOnce (s : State) (type l src : Nat) (p : List Byte) : State :=
  match (cget {} s.cr.wins src).accept (beAt p 8 8) with
  | none => s.crBump 2
  | some w => ({ s with cr := { s.cr with wins := cput {} w src s.cr.wins } }).ringDeliver type l p
/-- A frame that is not hop-local arrives on lane `l` (R418): ring A arrives on CW and leaves on CE, ring B the other way. A
TIME_SYNC is judged copy by copy and forwarded by its own command (R425, R426). -/
def execRingFrameRx (l : Nat) (s : State) : Outcome :=
  done (
    match s.linkTake (l + 1) [0x23, 0x24, 0x25, 0x26, 0x27, 0x28, 0x29, 0x2A, 0x2B, 0x2C, 0x2D] with
    | none => s
    | some ((type, _, _, p), s) =>
      let dst := beAt p 0 2
      let src := beAt p 2 2 % 1024
      let hops := beAt p 4 2 % 1024
      let mode := natField dst 11 10
      let body := p.length - 16
      if !s.onRing then s
      else if mode = 3 ∨ (if ringUrgent type then 128 else 1024) < body ∨ p.length < 16 then s.crBump 4
      else if src = s.position then (if type = 0x23 then s.ringDeliver type l p else s)
      else if hops ≤ 1 then s.crBump 3
      else
        let p := spliceBytes p 4 (beBytes 2 (hops - 1))
        if type = 0x24 then s.ringDeliver type l p
        else
          let s := if s.ringMine dst then s.ringOnce type l src p else s
          let last := if l = 1 then 1 else 0
          let stop := (decide (mode = 0) && decide (dst % 1024 = s.position)) ||
            (decide (mode = 1) && decide (dst % 512 = s.position / 2) && decide (s.position % 2 = last))
          if stop then s else s.ringQueue (1 - l) false type p)

/-! ### Presence and faults (R421, R422) -/

/-- Every 1.0 ms. -/
def execPresenceTx (s : State) : Outcome := done (if s.ringState = 2 ∨ s.ringState = 3 then s.sendPresence else s)
/-- A PRESENCE: a duplicate of the own position, or an entry of the presence map. -/
def execPresenceRx (s : State) : Outcome :=
  done (
    match s.ringTake [0x23] with
    | none => s
    | some ((_, _, p), s) =>
      let b := ringBody p
      let src := ringSrc p
      let uid := b.take 16
      if src = s.position then
        if uid ≠ beBytes 16 Config.uid.toNat ∧ (s.ringState = 1 ∨ s.ringState = 2) then
          ((s.setRingState 5).crStatus 0x703).irq crPage 6
        else s
      else
        let fl := beAt b 21 1
        if fl.testBit 6 then ({ s with cr := { s.cr with present := odel src s.cr.present } }).electMaster
        else
          let first := (oget s.cr.present src).isNone
          let e : Present := { at_ := s.clk.ns, uid := uid, roleGen := beAt b 16 4, twState := beAt b 20 1, flags := fl, prio := beAt b 22 1 }
          let wins := if first then cput {} ((({} : MsgWin).accept (beAt p 8 8)).getD {}) src s.cr.wins else s.cr.wins
          let s := { s with cr := { s.cr with present := oput e src s.cr.present, wins := wins } }
          s.electMaster)
/-- A position without PRESENCE for 3.5 ms leaves the map. -/
def execPresenceExpiry (p : Nat) (s : State) : Outcome :=
  done ({ s with cr := { s.cr with present := odel p s.cr.present } }.electMaster)
/-- A ring lane has been out of UP for 1 ms while JOINED: counted once (R422). -/
def execSegDownTimeout (l : Nat) (s : State) : Outcome :=
  done (
    if s.ringState = 2 ∧ s.lnState (1032 + l) ≠ 4 ∧ !(s.ringLane l).segDown then
      ((s.modRingLane l fun r => { r with segDown := true }).crBump 6).irq crPage 2
    else s)

/-! ### Time (R423–R428) -/

/-- Every 100 µs the master sends TIME_SYNC; `t0` and `t1` are the egress timestamps on CE and CW in 2^-16 ns. -/
def execTimeSyncTx (t0 t1 : Nat) (s : State) : Outcome :=
  done (
    if s.onRing ∧ s.crStat 9 then
      let n := s.cr.msgid + 1
      let q := (s.cr.txSeq + 1) % 2 ^ 32
      let body (t : Nat) : List Byte := beBytes 10 t ++ beBytes 8 0 ++ beBytes 4 q ++ beBytes 1 (s.fld (crReg 0x100) 27 24) ++ [0]
      let s := ({ s with cr := { s.cr with msgid := n, txSeq := q } }).crBump 0
      (s.ringQueue 0 true 0x24 (ringHeader dstAll s.position 1023 0 n ++ body t0)).ringQueue 1 true 0x24
        (ringHeader dstAll s.position 1023 1 n ++ body t1)
    else s)
/-- The peer delay in use on a lane, in 2^-16 ns: the mean of the measurements (R427). -/
def State.peerDelay (s : State) (l : Nat) : Int :=
  let d := (s.ringLane l).delays
  if d = [] then 0 else (d.foldl (· + ·) 0) / (d.length : Int)
/-- Before the ports open an offset above 1 µs is corrected by a single step of TIM (R428). -/
def State.stepTim (s : State) (off : Int) : State :=
  if s.fld (ra tGLB 0 0x204) 9 9 = 0 ∧ 1000 < off.natAbs then
    { s with clk := { s.clk with tim := ofSigned64 ((s.clk.tim : Int) - off) }, cr := { s.cr with offsets := [] } }
  else s
/-- TIME_VALID is set once 16 consecutive offsets have stayed within ±50 ns (R428). -/
def State.checkTime (s : State) : State :=
  if s.cr.offsets.length = 16 && s.cr.offsets.all (fun o => decide (o.natAbs ≤ 50)) then s.setCrStat 7 true else s
/-- A new offset in ns reaches the servo (R426, R428); a better copy of the same SYNC_SEQ replaces the one before. -/
def State.useOffset (s : State) (off : Int) (again : Bool) : State :=
  let offs := (off :: (if again then s.cr.offsets.drop 1 else s.cr.offsets)).take 16
  let s := { s with cr := { s.cr with offsets := offs, syncT := s.clk.ns, gotSync := true } }
  let s := ((s.wr (crReg 0x120) (BitVec.ofInt 32 off)).setCrStat 8 false).crBump 7
  ((s.stepTim off).checkTime).electMaster.tryJoined
/-- A TIME_SYNC copy, first bit in at `tin`, and out again at `tout` where it is forwarded, in 2^-16 ns (R425, R426). -/
def execTimeSyncRx (tin tout : Nat) (s : State) : Outcome :=
  done (
    match s.ringTake [0x24] with
    | none => s
    | some ((_, l, p), s) =>
      let b := ringBody p
      let origin : Int := (beAt b 0 10 : Int)
      let corr := toSigned64 (beAt b 10 8)
      let q := beAt b 18 4
      let hops := 1023 - beAt p 4 2 % 1024
      let pd := s.peerDelay l
      let ncorr := corr + ((tout : Int) - (tin : Int)) + pd
      let fwd := spliceBytes p 16 (spliceBytes b 10 (beBytes 8 (ofSigned64 ncorr)))
      let s := s.ringQueue (1 - l) false 0x24 fwd
      let again := s.cr.gotSync && decide (q = s.cr.syncSeq)
      let better := !again || decide (hops < s.cr.syncHops) || (decide (hops = s.cr.syncHops) && decide (l = 1))
      if s.crStat 9 ∨ !better then s
      else
        let off := ((tin : Int) - (origin + corr + pd)) / 65536
        let s := { s with cr := { s.cr with syncSeq := q, syncHops := hops } }
        let s := s.setFld (crReg 0x124) 9 0 hops
        let s := if s.ringState = 2 then s else s.setMaster (beAt b 22 1 * 1024 + ringSrc p)
        s.useOffset off again)
/-- Every 10 ms a PDELAY_REQ is sent at `t1` on a lane whose HELLO is done. -/
def execPdelayReqTx (l t1 : Nat) (s : State) : Outcome :=
  done (
    if s.laneJoined l then (s.modRingLane l fun r => { r with t1 := some t1 }).linkSend (l + 1) 0x21 0 (beBytes 8 t1) else s)
/-- A neighbour's PDELAY_REQ received at `t2` is answered at `t3`. -/
def execPdelayReqRx (l t2 t3 : Nat) (s : State) : Outcome :=
  done (
    match s.linkTake (l + 1) [0x21] with
    | none => s
    | some (_, s) => s.linkSend (l + 1) 0x22 0 (beBytes 8 t2 ++ beBytes 8 t3))
/-- A PDELAY_RSP received at `t4` gives a measurement (R427); CR_PDELAY shows the mean in 1/16 ns. -/
def execPdelayRspRx (l t4 : Nat) (s : State) : Outcome :=
  done (
    match s.linkTake (l + 1) [0x22] with
    | none => s
    | some ((_, _, _, b), s) =>
      match (s.ringLane l).t1 with
      | none => s
      | some t1 =>
        let d : Int := (((t4 : Int) - (t1 : Int)) - ((beAt b 8 8 : Int) - (beAt b 0 8 : Int))) / 2
        let s := s.modRingLane l fun r => { r with t1 := none, delays := (d :: r.delays).take 16 }
        let m := min (s.peerDelay l / 4096).toNat 0xFFFF
        if l = 0 then s.setFld (crReg 0x128) 31 16 m else s.setFld (crReg 0x128) 15 0 m)
/-- A JOINING eligible device with a ring lane UP and no TIME_SYNC for 5 ms elects itself master (R423), its own TIM being tun
time. -/
def execMasterSelfElect (s : State) : Outcome :=
  done (
    if s.ringState = 1 ∧ s.fld (crReg 0x100) 23 23 = 1 ∧ !s.cr.gotSync ∧ (s.lnState 1032 = 4 ∨ s.lnState 1033 = 4) then
      ((s.setCrStat 7 true).setMaster (s.fld (crReg 0x100) 27 24 * 1024 + s.position)).tryJoined
    else s)
/-- 1 ms without an accepted TIME_SYNC, at a device that is not master. -/
def execHoldoverEntry (s : State) : Outcome :=
  done (if s.cr.gotSync ∧ !s.crStat 9 ∧ !s.crStat 8 then ((s.setCrStat 8 true).crBump 8).irq crPage 4 else s)
/-- 100 ms in HOLDOVER. -/
def execTimeValidLoss (s : State) : Outcome := done (if s.crStat 8 then ((s.setCrStat 7 false).electMaster) else s)

/-! ### Keys and messages (R430–R432) -/

/-- At T the device transmits under the new key. -/
def execKeySwitchTime (s : State) : Outcome := done (if s.cr.armed then { s with cr := { s.cr with switched := true } } else s)
/-- At T + 50 µs the successor becomes the current key. -/
def execKeySwitchCommit (s : State) : Outcome :=
  done (
    if s.cr.armed ∧ s.cr.switched then
      let s := (s.wr (crReg 0x110) (s.rd (crReg 0x114))).wr (crReg 0x114) 0
      { s with cr := { s.cr with keyCur := s.cr.keyNext, keyNext := [], armed := false, switched := false } }
    else s)
/-- A delivered RING_MGMT or RING_KEY enters the 64-entry receive queue (R431). -/
def execRingMgmtRx (s : State) : Outcome :=
  done (
    match s.ringTake [0x2C, 0x2D] with
    | none => s
    | some ((type, _, p), s) =>
      if 64 ≤ s.cr.rxq.length then { s with cr := { s.cr with rxLost := true } }.crBump 5
      else ({ s with cr := { s.cr with rxq := s.cr.rxq ++ [(type, ringSrc p, ringBody p)] } }).irq crPage 1)
/-- CR_TX_DATA. -/
def State.crTxData (s : State) (n : Nat) : List Byte := ((List.range 256).flatMap fun k => leBytes 4 (s.rd (crReg (0x800 + 4 * k))).toNat).take n
/-- Own bulk messages that have not left on every lane they wait for. -/
def State.crTxUsed (s : State) : Nat :=
  max ((s.ringLane 0).bulk.filter fun e => e.1).length ((s.ringLane 1).bulk.filter fun e => e.1).length
/-- A write to CR_TX_CMD sends. -/
def execCrTxSend (v : Reg) (s : State) : Outcome :=
  done (
    let type := getField v 7 0
    let len := getField v 18 8
    if s.ringState ≠ 2 then s.crStatus 0x701
    else if (type ≠ 0x2C ∧ type ≠ 0x2D) ∨ len = 0 ∨ 1024 < len then s.crStatus 0x705
    else if 16 ≤ s.crTxUsed then s.crStatus 0x704
    else ((s.ringSend type (s.fld (crReg 0x204) 11 0) (s.crTxData len)).crStatus 0).took crPage)
/-- A read of CR_RX_STAT presents and removes the oldest entry; OVF tells of copies lost since the last read. -/
def execCrRxRead (s : State) : Outcome :=
  done (
    let ovf := 2 ^ 30 * b2n s.cr.rxLost
    match s.cr.rxq with
    | [] => { s with lastRead := BitVec.ofNat 64 ovf, cr := { s.cr with rxLost := false } }
    | (type, src, b) :: rest =>
      let s := { s with lastRead := BitVec.ofNat 64 (2 ^ 31 + ovf + type * 2 ^ 16 + b.length), cr := { s.cr with rxq := rest, rxLost := false } }
      let s := s.setFld (crReg 0x20C) 9 0 src
      (List.range 256).foldl (fun s k => s.wrn (crReg (0xC00 + 4 * k)) (ofLe (sliceBytes b (4 * k) 4))) s)
/-- A probe to the device's position is answered (R432). -/
def execRingProbeRx (s : State) : Outcome :=
  done (
    match s.ringTake [0x25] with
    | none => s
    | some ((_, _, p), s) =>
      if s.onRing ∧ (s.laneJoined 0 ∨ s.laneJoined 1) then s.ringSend 0x26 (dstPos (ringSrc p)) s.probeBody else s)

/-! ### Leases at the home (R434–R437) -/

/-- The device serves its stone's counters. -/
def State.servesLeases (s : State) : Bool := decide (1 ≤ s.twState ∧ s.twState ≤ 3)
/-- Checks 1 and 2 of R436: the index of a counter that is this stone's and KNOWN. -/
def State.leaseCounter (s : State) (id : Nat) : Except Nat Nat :=
  if id / 2 ^ 20 ≠ s.position / 2 ∨ s.ctrCount ≤ id % 2 ^ 20 then .error 0x702
  else if !s.ctrKnown (id % 2 ^ 20) then .error 0x724
  else .ok (id % 2 ^ 20)
/-- A refusal is answered and counted: a lapsed lease in LEASE_LOST, any other in LEASE_REFUSED. -/
def State.leaseRefuse (s : State) (req tag code : Nat) : State :=
  (s.crBump (if code = 0x721 then 11 else 12)).leaseAnswer { req := req, tag := tag, body := leaseBody code tag 0 0 0 0 }
/-- A request with the WOP given, at the head of the messages delivered: a device that does not serve discards it, an answer
in the result table is sent again, and one whose mirror is outstanding goes unanswered (R434, R441). -/
def State.leaseRequest (s : State) (wop : Nat) (f : Nat → List Byte → State → State) : State :=
  match s.ringTake [0x27] with
  | none => s
  | some ((_, _, p), t) =>
    let b := ringBody p
    let req := ringSrc p
    let tag := beAt b 8 4
    if beAt b 0 1 ≠ wop then s
    else if !t.servesLeases then t
    else match t.cr.answers.find? fun a => a.req = req && a.tag = tag with
      | some a => t.ringSend 0x28 (dstPos req) a.body
      | none => if t.cr.mirrors.any fun m => m.ans.req = req && m.ans.tag = tag then t else f req b t
/-- The lowest lease entry that is free and not promised to a grant being mirrored. -/
def State.freeLease (s : State) : Option Nat :=
  let busy := (s.cr.leases.filterMap fun e => if e.2.used then some e.1 else none) ++ s.cr.mirrors.map (·.entry)
  match (List.range (busy.length + 1)).find? fun e => !busy.contains e with
  | some e => if e < 65536 then some e else none
  | none => none
/-- READ-LEASE (R436). -/
def execLeaseReqReadRx (s : State) : Outcome :=
  done (s.leaseRequest 0 fun req b s =>
    let tag := beAt b 8 4
    match s.leaseCounter (beAt b 4 4) with
    | .error e => s.leaseRefuse req tag e
    | .ok i =>
      if !s.crStat 7 then s.leaseRefuse req tag 0x709
      else match s.freeLease with
        | none => s.leaseRefuse req tag 0x726
        | some e =>
          let gen := ((s.lease e).gen + 1) % 65536
          let expiry := s.clk.tim + 2000000
          let version := s.ctrVersion i
          let id := e + gen * 2 ^ 16 + (s.position / 2) * 2 ^ 32
          let value := s.leAt (s.ctrAddr i) 8
          let lease : Lease := { used := true, idx := i, req := req, tag := tag, gen := gen, version := version, expiry := expiry }
          let ans : LeaseAns := { req := req, tag := tag, body := leaseBody 0 tag value version id expiry }
          s.leaseCommit { idx := i, write := false, value := value, version := version, entry := e, lease := lease, ans := ans })
/-- WRITE-WITH-LEASE (R437). While the mirror of a write to the counter is outstanding the request goes unanswered; its
retransmission is judged after that write (log entry 133). -/
def State.leaseWrite (s : State) (req : Nat) (b : List Byte) (add : Bool) : State :=
  let tag := beAt b 8 4
  let id := beAt b 16 8
  let v := beAt b 24 8
  let e := id % 65536
  let x := s.lease e
  match s.leaseCounter (beAt b 4 4) with
  | .error c => s.leaseRefuse req tag c
  | .ok i =>
    if !x.used ∨ x.gen ≠ natField id 31 16 ∨ x.idx ≠ i ∨ x.req ≠ req ∨ x.expiry ≤ s.clk.tim then s.leaseRefuse req tag 0x721
    else if s.cr.mirrors.any fun m => m.write && decide (m.idx = i) then s
    else if !add ∧ s.ctrVersion i ≠ x.version then s.leaseRefuse req tag 0x722
    else
      let sum := if add then s.ctrValue i + toSigned64 v else toSigned64 v
      if sum < -(2 ^ 63 : Int) ∨ (2 ^ 63 : Int) ≤ sum then s.leaseRefuse req tag 0x723
      else
        let value := ofSigned64 sum
        let version := (s.ctrVersion i + 1) % 2 ^ 64
        let ans : LeaseAns := { req := req, tag := tag, body := leaseBody 0 tag value version 0 0 }
        s.leaseCommit { idx := i, write := true, value := value, version := version, entry := e, lease := { x with used := false }, ans := ans }
/-- SET. -/
def execLeaseReqSetRx (s : State) : Outcome := done (s.leaseRequest 1 fun req b s => s.leaseWrite req b false)
/-- ADD. -/
def execLeaseReqAddRx (s : State) : Outcome := done (s.leaseRequest 2 fun req b s => s.leaseWrite req b true)
/-- A lease entry reaches EXPIRY and is freed. -/
def execLeaseExpiry (e : Nat) (s : State) : Outcome :=
  done (if (s.lease e).used ∧ (s.lease e).expiry ≤ s.clk.tim then s.setLease e { s.lease e with used := false } else s)
/-- An answer is dropped 8 ms after it was stored. -/
def execResultEntryExpiry (req tag : Nat) (s : State) : Outcome :=
  done ({ s with cr := { s.cr with answers := s.cr.answers.filter fun (a : LeaseAns) => !(a.req = req && a.tag = tag) } })

/-! ### Mirror of the counters (R440–R442) -/

/-- Acknowledgements beyond those of mirrors: of a desync, and of a counter sync that matched (log entry 24). -/
def ackDesync : Nat := 2 ^ 64 - 1
/-- Counter sync matched. -/
def ackSynced : Nat := 2 ^ 64 - 2
/-- MACK is sent. -/
def State.sendMack (s : State) (n : Nat) : State := s.ringSend 0x2A (dstPos s.partner) (beBytes 8 n)
/-- A standby's counters no longer match. -/
def State.ctrDesync (s : State) : State := (s.setCrStat 20 false).irq crPage 5
/-- A lease mirror at the standby (R440, R441): applied in MSEQ order; a gap clears CTR_SYNCED. -/
def execLeaseMirrorRx (s : State) : Outcome :=
  done (
    match s.ringTake [0x29] with
    | none => s
    | some ((_, _, p), s) =>
      let m := mirrorOf (ringBody p)
      if ringSrc p ≠ s.partner ∨ !s.asStandby then s
      else if s.crStat 20 ∧ m.mseq ≠ s.cr.mseqRx + 1 then s.ctrDesync
      else
        let s := s.setLease m.entry m.lease
        let s := if m.write then s.setCounter m.idx m.value m.version true else s
        let a := { m.ans with at_ := s.clk.ns }
        ({ s with cr := { s.cr with mseqRx := m.mseq, answers := s.cr.answers.filter (fun (x : LeaseAns) => !(x.req = a.req && x.tag = a.tag)) ++ [a] } }).sendMack
          m.mseq)
/-- MACK at the home: the grant or write is applied and answered; or a desync or a sync is acknowledged. -/
def execLeaseMackRx (s : State) : Outcome :=
  done (
    match s.ringTake [0x2A] with
    | none => s
    | some ((_, _, p), s) =>
      let n := beAt (ringBody p) 0 8
      if ringSrc p ≠ s.partner then s
      else if n = ackDesync then (if s.hasStandby then s.desyncDone.startCtrSync else s.desyncDone)
      else if n = ackSynced then (if s.cr.syncing then ({ s with cr := { s.cr with syncing := false } }).setCrStat 20 true else s)
      else match s.cr.mirrors.find? fun m => decide (m.mseq = n) && !m.desync with
        | none => s
        | some m => ({ s with cr := { s.cr with mirrors := s.cr.mirrors.filter (· != m) } }).leaseApply m)
/-- No MACK within MIRROR_TMO (R441): the home applies nothing and sends CTR_DESYNC. -/
def execMirrorTmoExpiry (n : Nat) (s : State) : Outcome :=
  done (
    match s.cr.mirrors.find? fun m => decide (m.mseq = n) && !m.desync with
    | none => s
    | some m =>
      let s := { s with cr := { s.cr with mirrors := s.cr.mirrors.map fun x => if x = m then { x with desync := true } else x, syncing := false } }
      let s := ((s.setCrStat 20 false).irq crPage 5).crBump 13
      if s.hasStandby then s.ringSend 0x2B (dstPos s.partner) (beBytes 8 (3 * 2 ^ 56)) else s.desyncDone)
/-- One record of counter sync at the standby (R442). -/
def State.syncRecord (s : State) (kind i : Nat) (d : List Byte) : State :=
  if kind = 0 then
    let a := s.ctrAddr i
    let known := beAt d 16 1 % 2 = 1
    if s.ctrVersion i < ofLe (sliceBytes d 8 8) ∨ (!s.ctrKnown i ∧ known) then s.setBytes a d else s
  else if kind = 1 then
    let m := mirrorOf d
    if (s.lease m.entry).gen < m.lease.gen then s.setLease m.entry m.lease else s
  else
    let a : LeaseAns := { req := beAt d 0 2, tag := beAt d 4 4, body := sliceBytes d 8 40, at_ := s.clk.ns }
    { s with cr := { s.cr with answers := s.cr.answers.filter (fun (x : LeaseAns) => !(x.req = a.req && x.tag = a.tag)) ++ [a] } }
/-- RING_CTR_SYNC at the standby (R441, R442): records, the end with the record count, or a desync. -/
def execCtrSyncRx (s : State) : Outcome :=
  done (
    match s.ringTake [0x2B] with
    | none => s
    | some ((_, _, p), s) =>
      let b := ringBody p
      let op := beAt b 0 1
      if ringSrc p ≠ s.partner ∨ !s.asStandby then s
      else if op = 1 then
        let n := beAt b 2 2
        let k := beAt b 1 1
        let w := if k = 0 then 32 else if k = 1 then 112 else 48
        let s := (List.range n).foldl (fun s j => s.syncRecord k (beAt b 4 4 + j) (sliceBytes b (8 + w * j) w)) s
        { s with cr := { s.cr with syncRx := s.cr.syncRx + n } }
      else if op = 2 then
        let ok := s.cr.syncRx = beAt b 4 4
        let s := { s with cr := { s.cr with syncRx := 0 } }
        if ok then ((s.setCrStat 20 true).ctrUnknown).sendMack ackSynced else s
      else if op = 3 then ({ s with cr := { s.cr with syncRx := 0 } }).ctrDesync.sendMack ackDesync
      else s)

/-! ### Leases at the requester (R435, R438) -/

/-- An answer to a request of this device: the result and the ticket. -/
def execLeaseRspRx (s : State) : Outcome :=
  done (
    match s.ringTake [0x28] with
    | none => s
    | some ((_, _, p), s) =>
      let b := ringBody p
      match oget s.cr.reqs (beAt b 4 4) with
      | none => s
      | some q =>
        let lease := beAt b 24 8
        let expiry := beAt b 32 8
        let s := { s with cr := { s.cr with reqs := odel q.tag s.cr.reqs } }
        let s := if q.wop = 0 ∧ beAt b 0 2 = 0 then { s with cr := { s.cr with expiry := cput 0 expiry lease s.cr.expiry } } else s
        s.leaseResult q (beAt b 0 2) (beAt b 8 8) (beAt b 16 8) lease expiry)
/-- RETRY_US elapsed without an answer: a copy is sent again, not after the deadline. -/
def execLeaseRetry (tag : Nat) (s : State) : Outcome :=
  done (
    match oget s.cr.reqs tag with
    | none => s
    | some q => if s.clk.tim < q.deadline then s.leaseSendReq q else s)
/-- A request ends at its deadline. -/
def State.leaseGiveUp (s : State) (tag : Nat) (write : Bool) (code : Nat) : State :=
  match oget s.cr.reqs tag with
  | none => s
  | some q =>
    if decide (q.wop ≠ 0) = write then ({ s with cr := { s.cr with reqs := odel tag s.cr.reqs } }).leaseResult q code 0 0 0 0 else s
/-- The READ deadline. -/
def execLeaseReadDeadline (tag : Nat) (s : State) : Outcome := done (s.leaseGiveUp tag false 0x727)
/-- The WRITE deadline; the lease is lost. -/
def execLeaseWriteDeadline (tag : Nat) (s : State) : Outcome :=
  done (
    match oget s.cr.reqs tag with
    | none => s
    | some q => if q.wop = 0 then s else (s.crBump 11).leaseGiveUp tag true 0x721)

/-! ### Counters and registers (R444, R445) -/

/-- CR_CTR_STATUS. -/
def State.ctrStatus (s : State) (code : Nat) (known : Bool) : State := s.wrn (crReg 0x170) (code + 2 ^ 16 * b2n known)
/-- A CR_CTR_CMD: refused while one is busy. -/
def State.ctrCmd (s : State) (f : State → State) : State :=
  if s.fld (crReg 0x170) 31 31 = 1 then s.crStatus 0x704 else (f s).took crPage
/-- CR_CTR_SEL. -/
def State.ctrSel (s : State) : Nat := s.fld (crReg 0x158) 19 0
/-- CR_CTR_CMD.READ. -/
def execCtrRead (s : State) : Outcome :=
  done (s.ctrCmd fun s =>
    let i := s.ctrSel
    if s.ctrCount ≤ i then s.ctrStatus 0x702 false
    else (((s.wr64 (crReg 0x160) (s.leAt (s.ctrAddr i) 8)).wr64 (crReg 0x168) (s.ctrVersion i)).ctrStatus 0 (s.ctrKnown i)))
/-- CR_CTR_CMD.SET. -/
def execCtrSet (s : State) : Outcome :=
  done (s.ctrCmd fun s =>
    let i := s.ctrSel
    if s.ctrCount ≤ i then s.ctrStatus 0x702 false
    else ((s.setCounter i (s.rd64 (crReg 0x160)) ((s.ctrVersion i + 1) % 2 ^ 64) true).ctrStatus 0 true).ctrUnknown)
/-- CR_CTR_CMD.CLEAR_ALL. -/
def execClearAll (s : State) : Outcome :=
  done (s.ctrCmd fun s =>
    (((List.range s.ctrCount).foldl (fun s i => s.setCounter i 0 (s.ctrVersion i) true) s).ctrStatus 0 true).setCrStat 21 false)
/-- A write to the CR configuration: POSITION, CR_CTR_COUNT, CR_CTR_BASE and CR_LEASE_BASE only in OUT, CR_LEASE_CFG within its
ranges; else 0x0705. -/
def execCrCfgWrite (off : Nat) (v : Reg) (s : State) : Outcome :=
  done (
    if off = 0x100 then
      if !s.lockInForce ∧ getField v 9 0 ≠ s.position ∧ s.ringState ≠ 0 then s.crStatus 0x705
      else
        let s := if bitAt v 31 then (List.range 14).foldl (fun s k => s.clrCtr crPage k 0) s else s
        s.rwlWrite crPage fun s => (s.wr (crReg 0x100) (v &&& 0x0F9F03FF)).took crPage
    else if off = 0x140 then
      let g := getField v 15 0
      if g < 100 ∨ 4000 < g ∨ getField v 23 16 < 10 ∨ getField v 31 24 < 1 ∨ 100 < getField v 31 24 then s.crStatus 0x705
      else (s.wr (crReg off) v).took crPage
    else if 0x144 ≤ off ∧ off ≤ 0x154 ∧ off % 4 = 0 then
      s.rwlWrite crPage fun s =>
        if s.ringState ≠ 0 ∨ (off = 0x144 ∧ 2 ^ 20 < v.toNat) then s.crStatus 0x705 else (s.wr (crReg off) v).took crPage
    else s)

end Sys2Proof.Machine
end

