-- ==== Sys2Proof/Machine/VaultCmds.lean ====
section
/-!
DEFINITION. Commands of the key vault: fills, key commands, zone commands and the vault's configuration (chapter 9,
R297–R315, R326–R328).
-/
namespace Sys2Proof.Machine

/-! ### Fills (R307–R310) -/

/-- A fill of key `h` is under way in ounce `o`. -/
def State.filling (s : State) (o h : Nat) : Bool := s.vlt.fills.any fun f => decide (f.1 = o) && decide (f.2.1 = h)

/-- A reference of ounce `o` to a key that is not resident starts a fill (R307); at most 16 are outstanding (R309). -/
def execVaultFill (o h : Nat) (s : State) : Outcome :=
  done (
    let z := handleZone h
    if s.zoneServed z ∧ s.domOn (68 + o) ∧ 1 ≤ handleSlot h ∧ handleSlot h < (s.zone z).count ∧ !s.keyHold ∧
        (oget s.vlt.resident (resKey o h)).isNone ∧ !s.filling o h ∧ (s.vlt.fills.filter (·.1 = o)).length < 16 then
      { s with vlt := { s.vlt with fills := s.vlt.fills ++ [(o, h, true)] } }
    else s)

/-- A fill ends (R307, R309): the record is authenticated and its key placed, or it fails. A fill that a command on its
slot overtook is discarded and the reference resolved again (R310). -/
def execVaultFillDone (o h : Nat) (s : State) : Outcome :=
  done (
    match s.vlt.fills.find? fun f => decide (f.1 = o) && decide (f.2.1 = h) with
    | none => s
    | some f =>
      let s := { s with vlt := { s.vlt with fills := s.vlt.fills.filter (· != f) } }
      if !s.domOn (68 + o) || s.keyHold then s
      else if f.2.2 then (s.fill o h).2
      else (s.resolve o h).2)

/-! ### Key commands (R304–R310, R328, Table 9.15) -/

/-- KV_KEY_STATUS of an ounce: BUSY and a status. -/
def State.keyStat (s : State) (o code : Nat) (busy : Bool) : State :=
  (s.status (kvReg o 0x208) code).setFld (kvReg o 0x208) 31 31 (b2n busy)

/-- A key command written to the KV page of ounce `o`: ignored with 0x040F while one is busy (R328); refused for a handle
that names no slot of a served zone (R298, R299); else `f` acts and answers a status. -/
def State.keyCmd (s : State) (o : Nat) (f : Nat → State → Nat × State) : State :=
  let h := (s.rd (kvReg o 0x204)).toNat
  let z := handleZone h
  if s.fld (kvReg o 0x208) 31 31 = 1 then s.status (kvReg o 0x208) 0x40F
  else if !s.zoneServed z then s.keyStat o 0x401 false
  else if handleSlot h = 0 ∨ (s.zone z).count ≤ handleSlot h then s.keyStat o 0x402 false
  else
    let (code, s) := f h s
    s.keyStat o code (code = 0)

/-- The refusals that RETIRE and DELETE share: LOCK (R312), and a mirrored zone at a standby (R383). -/
def State.keyWriteRefusal (s : State) (h : Nat) : Nat :=
  if s.keyHold then 0x410 else if s.isStandby ∧ s.mirrored (handleZone h) then 0x60D else 0

/-- Fills of a key in flight are discarded on arrival (R310). -/
def State.spoilFills (s : State) (h : Nat) : State :=
  { s with vlt := { s.vlt with fills := s.vlt.fills.map fun f => if f.2.1 = h then (f.1, h, false) else f } }

/-- READ_ATTR (R326): the attributes of an authentic record. -/
def execReadAttr (o : Nat) (s : State) : Outcome :=
  done (s.keyCmd o fun h s =>
    let r := s.recBytes h
    if recState r = 0 then (0x403, s)
    else match s.openRecord h r with
      | none => (0x404, s)
      | some k =>
        let s := s.wrn (kvReg o 0x210) (recState r + 4 * handleZone h + 2 ^ 16 * recEpoch r)
        let s := (List.range 3).foldl (fun s i => s.wrn (kvReg o (0x214 + 4 * i)) (ofLe (sliceBytes k.attr (4 * i) 4))) s
        (0, s.wrn (kvReg o 0x220) (s.refcnt h)))

/-- An ACTIVE record is rewritten as RETIRED, in the store and in every vault (R304, R310). -/
def State.retireKey (s : State) (h : Nat) (k : KeyVal) : State :=
  ((s.writeKey h 2 k.attr k.key k.h (s.refcnt h)).modResident h fun x => { x with retired := true }).spoilFills h

/-- RETIRE (Table 9.3). A record write that needs a GEN at the ceiling waits for the acknowledgement (R384). -/
def execRetire (o : Nat) (s : State) : Outcome :=
  done (s.keyCmd o fun h s =>
    let r := s.recBytes h
    let e := s.keyWriteRefusal h
    if e ≠ 0 then (e, s)
    else if recState r = 0 then (0x403, s)
    else match s.openRecord h r with
      | none => (0x404, s)
      | some k =>
        if k.retired then (0, s)
        else if s.genReady (handleZone h) then (0, s.retireKey h k)
        else
          let s := s.raiseCeil (handleZone h)
          (0, { s with vlt := { s.vlt with retire := oput h o s.vlt.retire } }))

/-- DELETE (Table 9.3): a slot that no SA record in service names becomes EMPTY and every copy is zeroised. -/
def execDelete (o : Nat) (s : State) : Outcome :=
  done (s.keyCmd o fun h s =>
    let e := s.keyWriteRefusal h
    if e ≠ 0 then (e, s)
    else if recState (s.recBytes h) = 0 then (0x403, s)
    else if s.refcnt h ≠ 0 then (0x405, s)
    else (0, (s.putRecord h (emptyRecord h)).zeroiseKey h))

/-- EVICT (Table 9.15): the key leaves all four vaults; its record stays. -/
def execEvict (o : Nat) (s : State) : Outcome := done (s.keyCmd o fun h s => (0, s.zeroiseKey h))

/-- A key command has acted everywhere and BUSY clears (R310); a RETIRE that waited for its GEN acts first. -/
def execKeyCmdComplete (o : Nat) (s : State) : Outcome :=
  done (
    match oget s.vlt.retire o with
    | none => s.setFld (kvReg o 0x208) 31 31 0
    | some h =>
      if !s.genReady (handleZone h) || s.keyHold then s
      else
        let s := { s with vlt := { s.vlt with retire := odel o s.vlt.retire } }
        let s := match s.openRecord h (s.recBytes h) with | some k => s.retireKey h k | none => s.status (kvReg o 0x208) 0x404
        s.setFld (kvReg o 0x208) 31 31 0)

/-! ### Zone commands (R302, R313–R315, R327) -/

/-- A zone command is busy: a REKEY walk, an EXPORT or a LOAD. -/
def State.zoneBusy (s : State) : Bool := s.vlt.zones.any fun e => e.2.rekey || decide (e.2.busy ≠ 0)

/-- The status of an accepted zone command, in every copy. -/
def State.zoneDone (s : State) (code : Nat) (busy : Bool) : State :=
  s.wrAll tKV 0x154 (BitVec.ofNat 32 (code + 2 ^ 31 * b2n busy))

/-- A zone command written to the KV page of ounce `o`: a refusal is recorded in that page (R475). `f` answers a status
for the zone of KV_ZONE_SEL. -/
def State.zoneCmd (s : State) (o : Nat) (f : Nat → State → Nat × State) : State :=
  let z := s.fld (kvReg o 0x140) 5 0
  if s.keyHold then s.status (kvReg o 0x154) 0x410
  else if s.isStandby ∧ s.mirrored z then s.status (kvReg o 0x154) 0x60D
  else
    let (code, s) := f z s
    if code = 0 then s.zoneDone 0 s.zoneBusy else s.status (kvReg o 0x154) code

/-- START (R302, R327). -/
def execZoneStart (o : Nat) (s : State) : Outcome :=
  done (s.zoneCmd o fun z s =>
    let x := s.zone z
    if s.zoneLc z ≠ 1 ∧ s.zoneLc z ≠ 2 then (0x401, s)
    else if x.count = 0 then (0x40C, s)
    else if x.started then (0, s)
    else if 0xFFFF ≤ x.epoch then (0x411, s)
    else (0, (s.setZone z { x with started := true, epoch := x.epoch + 1 }).zoneDelta z))

/-- STOP (R313, R327). -/
def execZoneStop (o : Nat) (s : State) : Outcome :=
  done (s.zoneCmd o fun z s =>
    let x := s.zone z
    if !x.started then (0, s)
    else (0, ((s.setZone z { x with started := false }).zeroiseZone z).zoneDelta z))

/-- REKEY (R314): the epoch rises and the walk begins. -/
def execZoneRekey (o : Nat) (s : State) : Outcome :=
  done (s.zoneCmd o fun z s =>
    let x := s.zone z
    if s.zoneBusy then (0x40F, s)
    else if !s.zoneServed z then (0x401, s)
    else if 0xFFFF ≤ x.epoch then (0x411, s)
    else (0, (s.setZone z { x with epoch := x.epoch + 1, rekey := true }).zoneDelta z))

/-- Slots of a record range that memory lists a byte of. -/
def State.usedSlots (s : State) (base count : Nat) : List Nat :=
  (s.mem.filterMap fun e => if base ≤ e.1 ∧ e.1 < base + 128 * count then some ((e.1 - base) / 128) else none).eraseDups

/-- The handle of a slot. -/
def handleOf (z slot : Nat) : Nat := z * 2 ^ 26 + slot

/-- One record of the walk (R314): an authentic record below the current epoch is rewrapped under it, when its GEN may be
used. -/
def State.rewrap (s : State) (h : Nat) : State :=
  match s.openRecord h (s.recBytes h) with
  | none => s
  | some k =>
    if recEpoch (s.recBytes h) < (s.zone (handleZone h)).epoch then
      if s.genReady (handleZone h) then s.writeKey h (if k.retired then 2 else 1) k.attr k.key k.h (s.refcnt h)
      else s.raiseCeil (handleZone h)
    else s

/-- The walk over a zone's records goes on as far as its GENs allow; when none is left below the current epoch, FLOOR
becomes the epoch and ZONE_DONE is raised (R314). -/
def execRekeyWalkEnd (z : Nat) (s : State) : Outcome :=
  done (
    let x := s.zone z
    if x.rekey ∧ x.started ∧ !s.keyHold then
      let hs := (s.usedSlots (s.recAddr (handleOf z 0)) x.count).map (handleOf z)
      let s := hs.foldl (fun s h => s.rewrap h) s
      if hs.any fun h => (s.openRecord h (s.recBytes h)).isSome && decide (recEpoch (s.recBytes h) < x.epoch) then s
      else
        let s := (s.setZone z { s.zone z with floor := x.epoch, rekey := false }).zoneDelta z
        let s := (List.range 4).foldl (fun s o => s.setFld (kvReg o 0x154) 31 31 (b2n s.zoneBusy)) s
        (List.range 4).foldl (fun s o => s.irq (kvPage o) 1) s
    else s)

/-- EXPORT of a started zone begins (R315). -/
def execZoneExport (o : Nat) (s : State) : Outcome :=
  done (s.zoneCmd o fun z s =>
    if s.zoneBusy then (0x40F, s)
    else if !s.zoneServed z then (0x401, s)
    else (0, { s.setZone z { s.zone z with busy := 4 } with vlt := { (s.setZone z { s.zone z with busy := 4 }).vlt with
      haddr := s.rd64 (kvReg o 0x158) } }))

/-- LOAD of a stopped zone begins (R315). -/
def execZoneLoad (o : Nat) (s : State) : Outcome :=
  done (s.zoneCmd o fun z s =>
    if s.zoneBusy then (0x40F, s)
    else if (s.zone z).started then (0x412, s)
    else (0, { s.setZone z { s.zone z with busy := 5 } with vlt := { (s.setZone z { s.zone z with busy := 5 }).vlt with
      haddr := s.rd64 (kvReg o 0x158) } }))

/-- `n` bytes copied from `src` to `dst`. -/
def State.copyRange (s : State) (src dst n : Nat) : State :=
  (s.mem.filter fun e => src ≤ e.1 ∧ e.1 < src + n).foldl (fun t e => t.setByte (dst + (e.1 - src)) e.2) (s.zeroBytes dst n)

/-- The header of a zone image (Table 9.4). -/
def State.imageHeader (s : State) (z seq : Nat) : List Byte :=
  let x := s.zone z
  let b := leBytes 4 z ++ leBytes 4 x.count ++ leBytes 8 seq ++ leBytes 8 x.gen ++ leBytes 2 x.floor ++ leBytes 2 x.epoch ++
    List.replicate 20 0
  b ++ aesCmac (Config.zoneImageKey (s.kek z x.epoch)) b

/-- The image at `a` is accepted for zone `z` (R315). -/
def State.imageOk (s : State) (z a : Nat) : Bool :=
  let b := s.bytes a 64
  let x := s.zone z
  aesCmac (Config.zoneImageKey (s.kek z (recField b 0x1A 2))) (b.take 0x30) == b.drop 0x30 && decide (recField b 0 4 = z) &&
    decide (recField b 4 4 = x.count) && decide (recField b 8 8 = x.seq)

/-- A zone export or load finishes (R315): the image is written, SEQ recorded before it; or an accepted image is taken into
the record range, with REFCNT 0. -/
def execZoneTransferDone (z : Nat) (s : State) : Outcome :=
  done (
    let x := s.zone z
    let a := spHost + s.vlt.haddr
    let base := s.recAddr (handleOf z 0)
    if x.busy = 0 ∨ !s.busMaster ∨ s.keyHold then s
    else if x.busy = 4 then
      let s := s.setZone z { x with busy := 0, seq := x.seq + 1 }
      let s := (s.setBytes a (s.imageHeader z (x.seq + 1))).copyRange base (a + 64) (128 * x.count)
      let s := (s.usedSlots (a + 64) x.count).foldl (fun s k => s.setLe (a + 64 + 128 * k + 0x1C) 4 0) s
      (List.range 4).foldl (fun s o => s.irq (kvPage o) 1) (s.zoneDone 0 s.zoneBusy)
    else if !s.imageOk z a then
      let s := s.setZone z { x with busy := 0 }
      s.zoneDone 0x412 s.zoneBusy
    else
      let b := s.bytes a 64
      let slots := (s.usedSlots base x.count ++ s.usedSlots (a + 64) x.count).eraseDups
      let s := s.setZone z { x with busy := 0, gen := recField b 0x10 8, floor := recField b 0x18 2 }
      let s := slots.foldl (fun s k =>
        s.putRecord (handleOf z k) (spliceBytes (s.bytes (a + 64 + 128 * k) 128) 0x1C (leBytes 4 0))) s
      let s := s.zoneDelta z
      (List.range 4).foldl (fun s o => s.irq (kvPage o) 1) (s.zoneDone 0 s.zoneBusy))

/-! ### Configuration (R299, R326, R328) -/

/-- A refused register write, recorded in KV_STATUS of the page written. -/
def State.kvRefuse (s : State) (o : Nat) : State := (s.status (kvReg o 0x120) 0x40C)

/-- The slot range of a zone may become `base`, `count` (R299). -/
def State.rangeOk (s : State) (z base count : Nat) : Bool :=
  !(s.zone z).started && decide (count ≤ 2 ^ 26) &&
    (decide (count = 0) ||
      (decide (base + count ≤ s.fld (kvReg 0 0x110) 25 0) &&
        !s.vlt.zones.any fun e => decide (e.1 ≠ z) && decide (e.2.count ≠ 0) && decide (base < e.2.zbase + e.2.count) &&
          decide (e.2.zbase < base + count)))

/-- A write of ZBASE, or of COUNT, of the selected zone (R299). -/
def execZoneRangeWrite (o : Nat) (isCount : Bool) (v : Reg) (s : State) : Outcome :=
  done (s.rwlWrite (kvPage o) fun s =>
    let z := s.fld (kvReg o 0x140) 5 0
    let x := s.zone z
    let base := if isCount then x.zbase else getField v 24 0
    let count := if isCount then getField v 26 0 else x.count
    if s.rangeOk z base count then (s.setZone z { x with zbase := base, count := count }).took (kvPage o) else s.kvRefuse o)

/-- A write to half `off` of KV_STORE_BASE, to KV_STORE_SIZE or to KV_CTX_BASE (R326). -/
def execKvBaseWrite (o off : Nat) (v : Reg) (s : State) : Outcome :=
  done (s.rwlWrite (kvPage o) fun s =>
    let bad :=
      if off = 0x108 then decide (getField v 15 0 ≠ 0)
      else if off = 0x110 then decide (2 ^ 25 < getField v 25 0)
      else if off = 0x118 then decide (getField v 26 0 ≠ 0) else false
    if bad || s.vlt.zones.any (fun e => e.2.started) || s.validCtxs != [] then s.kvRefuse o
    else (s.wrAll tKV off (if off = 0x110 then BitVec.ofNat 32 (getField v 25 0) else v)).took (kvPage o))

/-- A write to KV_CFG (R326, R328): WB_US and PN_RES_LOG2 unless LOCK is in force, and CLR_CNT. -/
def execKvCfgWrite (o : Nat) (v : Reg) (s : State) : Outcome :=
  done (
    let p := getField v 4 0
    let clear (s : State) : State :=
      if bitAt v 31 then (List.range 32).foldl (fun s i => s.clrCtr (kvPage (i / 8)) (i % 8) 0) s else s
    if s.lockInForce then clear (s.lockDrop (kvPage o))
    else if p < 10 ∨ 30 < p then s.kvRefuse o
    else (clear (s.wrAll tKV 0x100 (BitVec.ofNat 32 (p + 2 ^ 8 * getField v 15 8)))).took (kvPage o))

end Sys2Proof.Machine
end

