-- ==== Sys2Proof/Machine/PageOps.lean ====
section
/-!
DEFINITION. Writes and reads of the register pages (chapter 14): the page header, interrupts, event counters and snapshots; and
the one function that writes any register of the BARs by its access type, in which a register that has a command of its own
acts as that command does.
-/
namespace Sys2Proof.Machine

/-! ### Interrupt group and error record (R478, R482, R483) -/

/-- The condition sources of a page whose condition holds now (R482). -/
def State.conditions (s : State) (p : Nat) : Nat :=
  let i := p % 0x100
  match p / 0x100 with
  | 0x04 => b2n ((cget {} s.fab.cvlRx i).items ≠ [])
  | 0x06 => 2 * b2n ((cget {} s.fab.scEvents i).items ≠ [])
  | 0x0C => 2 * b2n (s.cr.rxq ≠ [])
  | _ => 0
/-- A write to RAW or EN is done: a non-zero PG_IRQ_OUT sends the vector again (R453); `old` is PG_IRQ_OUT before. -/
def State.irqWritten (s : State) (p old : Nat) : State :=
  if s.irqOut p = 0 then s else (if old = 0 then s.event p 0x02 0 1 1 else s).pageMsix p
/-- W1C of PG_IRQ_RAW: a bit whose condition holds stays set. -/
def State.rawClear (s : State) (p : Nat) (v : Reg) : State :=
  let old := s.irqOut p
  let held : Reg := if s.pageLive p then BitVec.ofNat 32 (s.conditions p) else 0
  (s.wr (pra p 0x010) (s.rd (pra p 0x010) &&& ~~~(v &&& ~~~held))).irqWritten p old
/-- PG_IRQ_EN. -/
def State.enWrite (s : State) (p : Nat) (v : Reg) : State :=
  let old := s.irqOut p
  (s.wr (pra p 0x014) (v &&& irqMask p)).irqWritten p old
/-- PG_IRQ_FORCE: every bit written as 1 is set as its source would set it. -/
def State.forceWrite (s : State) (p : Nat) (v : Reg) : State :=
  ((List.range 32).filter fun b => bitAt (v &&& irqMask p) b).foldl (fun s b => s.rawSet p b) s
/-- W1C of PG_ERR_INFO: VALID clears the record, MORE alone clears MORE. -/
def State.errClear (s : State) (p : Nat) (v : Reg) : State :=
  if bitAt v 31 then s.wr (pra p 0x020) 0 else if bitAt v 30 then s.setFld (pra p 0x020) 30 30 0 else s

/-! ### Event counters and snapshots (R485–R491) -/

/-- The registers of event counter `n`. -/
def evcReg (p n off : Nat) : Nat := pra p (0x40 + 16 * n + off)
/-- A counter becomes 0 and OVF clears. -/
def State.evcZero (s : State) (p n : Nat) : State := (s.setFld (evcReg p n 0) 31 31 0).wr64 (evcReg p n 4) 0
/-- A write to SEL. Between the instant of a snapshot and the page's capture it makes the counter capture 0 (R490). -/
def State.selWrite (s : State) (p n : Nat) (v : Reg) : State :=
  let s := (s.wr (evcReg p n 0) (v &&& 0x01FF03FF)).wr64 (evcReg p n 4) 0
  match s.pgs.snapT with
  | some t =>
    if t ≤ s.clk.ns ∧ s.pgs.snapDue.contains p then { s with pgs := { s.pgs with snapBegun := s.pgs.snapBegun ++ [p * 4 + n] } } else s
  | none => s
/-- EVC_CLR. -/
def State.evcClear (s : State) (p : Nat) : State := (List.range 4).foldl (fun s n => s.evcZero p n) s

/-- The pages of the device. -/
def allPages : List Nat := (List.range 0x12).flatMap fun t => (List.range (pageCount t)).map fun i => pageNo t i
/-- GLB_EVC_SNAP.TAKE. -/
def State.snapTake (s : State) : State :=
  let a := glReg 0x100
  if s.fld a 1 1 = 1 then s.setFld a 2 2 1
  else
    let s := (s.setFld a 1 1 1).setFld a 31 16 (s.fld a 31 16 + 1)
    let s := s.wr64 (glReg 0x108) (if s.clk.held then s.clk.tim % 2 ^ 63 + 2 ^ 63 else (s.clk.tim + 1000) % 2 ^ 64)
    { s with pgs := { s.pgs with snapT := some (s.clk.ns + 1000), snapDue := allPages.filter fun p => s.fld (pra p 0x008) 2 2 = 1,
                                 snapBegun := [] } }
/-- A counter enters its snapshot store. -/
def State.snapOne (s : State) (p n : Nat) : State :=
  let zero := s.pgs.snapBegun.contains (p * 4 + n)
  let x : Snap :=
    { valid := true,
      count := if zero then 0 else (s.rd (evcReg p n 4)).toNat + s.fld (evcReg p n 8) 15 0 * 2 ^ 32,
      ovf := !zero && s.fld (evcReg p n 0) 31 31 = 1,
      seq := s.fld (glReg 0x100) 31 16 }
  { s with pgs := { s.pgs with snaps := cput {} x (p * 4 + n) s.pgs.snaps } }
/-- A page captures; BUSY clears when every participating page has. -/
def State.snapPage (s : State) (p : Nat) : State :=
  if !s.pgs.snapDue.contains p then s
  else
    let s := if s.fld (pra p 0x008) 2 2 = 1 then (List.range 4).foldl (fun s n => s.snapOne p n) s else s
    let s := { s with pgs := { s.pgs with snapDue := s.pgs.snapDue.filter (· ≠ p) } }
    if s.pgs.snapDue = [] then { s with pgs := { s.pgs with snapT := none, snapBegun := [] } }.setFld (glReg 0x100) 1 1 0 else s

/-- A write to the header of a page (Table 14.1). -/
def State.headerWrite (s : State) (p off : Nat) (v : Reg) : State :=
  if off = 0x008 then (if bitAt v 1 then s.evcClear p else s).wr (pra p 0x008) (v &&& 5)
  else if off = 0x010 then s.rawClear p v
  else if off = 0x014 then s.enWrite p v
  else if off = 0x018 then s.forceWrite p v
  else if off = 0x020 then s.errClear p v
  else if 0x40 ≤ off ∧ off < 0x80 then
    let n := (off - 0x40) / 16
    if off % 16 = 0 then s.selWrite p n v else if off % 16 = 12 then s.wr (evcReg p n 12) (v &&& 1) else s
  else if off < 0x20 then s
  else s.discard p

/-! ### Writes to the block-specific registers -/

/-- The state that a command goes on to. -/
def State.after (s : State) (o : Outcome) : State := match o with | .next t => t | _ => s

/-- GLB. -/
def State.writeGLB (s : State) (off : Nat) (v : Reg) : State :=
  if off = 0x100 then
    let s := if bitAt v 2 then s.setFld (glReg 0x100) 2 2 0 else s
    (if bitAt v 0 then s.snapTake else s).took glPage
  else if off = 0x200 then
    let op := getField v 3 0
    if getField v 31 16 = 0x5354 ∧ op = 1 then s.after (execStartWarm s)
    else if getField v 31 16 = 0x5354 ∧ op = 2 then s.after (execStartCold s)
    else if getField v 31 16 = 0x5354 ∧ op = 3 then s.after (execFwLoad s)
    else s.startStatus (s.startFld 3 0) 0x880
  else if off = 0x280 then (if bitAt v 0 then s.setFld (glReg 0x280) 0 0 1 else s).took glPage
  else if off = 0x284 then (s.wrn (glReg 0x284) (max 10 (getField v 15 0))).took glPage
  else s.after (execGlbWdKick v s)
/-- OZ. -/
def State.writeOZ (s : State) (o off : Nat) (v : Reg) : State :=
  if off = 0x100 then
    let op := getField v 3 0
    if op = 1 then s.after (execIsolate o s) else if op = 2 then s.after (execRestore o s) else s.isoStatus o 0x893
  else if off = 0x400 then (s.ftCommand o (getField v 3 0)).took (ozPage o)
  else if off = 0x800 then s.after (execOzVpCfgWrite o v s)
  else if off = 0x824 then s.after (execDiaDataAccess o true v s)
  else if off = 0x828 ∨ off = 0x82C then s.after (execDiaEnWrite o ((off - 0x828) / 4) v s)
  else s.after (execVpServiceRegWrite o off v s)
/-- DR_CMD. -/
def State.writeDR (s : State) (d : Nat) (v : Reg) : State :=
  match getField v 3 0 with
  | 1 => s.after (execDramOut d s) | 2 => s.after (execDramIn d s) | 3 => s.after (execDramCycle d s)
  | _ => (s.drStatus d 0x20B).took (drPage d)
/-- DQ. -/
def State.writeDQ (s : State) (d off : Nat) (v : Reg) : State :=
  if off < 0x180 then s.after (execDqPortWrite (16 * d + (off - 0x140) / 4) v s)
  else if off < 0x2C0 then s.after (execCvlKeyInstall (16 * d + (off - 0x280) / 4) v s)
  else if off = 0x2C0 then s.after (if bitAt v 31 then execCvlTxFrame d v s else execCvlTxMessage d v s)
  else s.after (execDqQcfgWrite (512 * d + (off - 0x800) / 4) v s)
/-- LN. -/
def State.writeLN (s : State) (i off : Nat) (v : Reg) : State :=
  if off = 0xF00 then s.after (execPortmodeWrite i v s)
  else if off = 0xF04 then (s.wr (ra tLN i 0xF04) (s.rd (ra tLN i 0xF04) &&& ~~~v)).took (pageNo tLN i)
  else
    let b := (off - 0x100) / 0xE0
    let n := if i = 64 then 1024 + b else 16 * i + b
    match (off - 0x100) % 0xE0 with
    | 0x00 => s.after (execLnCfgWrite n v s)
    | 0x08 => s.after (execLnTxeqWrite n v s)
    | 0x10 => s.after (execLnMaxframeWrite n v s)
    | 0x1C => s.lnCommand n v
    | _ => s.after (execLnTestCfgWrite n v s)
/-- SC. -/
def State.writeSC (s : State) (d off : Nat) (v : Reg) : State :=
  if off = 0x10C then s.after (execScKatCtlWrite d v s)
  else if off < 0x180 then s.after (execScPortWrite (16 * d + (off - 0x140) / 4) v s)
  else s.saCommand d (getField v 23 20) (getField v 19 17) (getField v 16 0)
/-- VC. -/
def State.writeVC (s : State) (o off : Nat) (v : Reg) : State :=
  if off < 0x900 then
    let c := 32 * o + (off - 0x100) / 0x40
    s.after (if bitAt v 1 then execVcReset c (bitAt v 0) s else execVcRun c (bitAt v 0) s)
  else (s.wr (vcReg o off) (s.rd (vcReg o off) &&& ~~~v)).took (vcPage o)
/-- KV. -/
def State.writeKV (s : State) (o off : Nat) (v : Reg) : State :=
  if off = 0x100 then s.after (execKvCfgWrite o v s)
  else if off < 0x120 then s.after (execKvBaseWrite o off v s)
  else if off = 0x144 then s.after (execZoneRangeWrite o false v s)
  else if off = 0x148 then s.after (execZoneRangeWrite o true v s)
  else if off = 0x150 then
    match getField v 3 0 with
    | 1 => s.after (execZoneStart o s) | 2 => s.after (execZoneStop o s) | 3 => s.after (execZoneRekey o s)
    | 4 => s.after (execZoneExport o s) | 5 => s.after (execZoneLoad o s) | _ => s.status (kvReg o 0x154) 0x40C
  else if off = 0x200 then
    match getField v 3 0 with
    | 1 => s.after (execReadAttr o s) | 2 => s.after (execRetire o s) | 3 => s.after (execDelete o s) | 4 => s.after (execEvict o s)
    | _ => s.status (kvReg o 0x208) 0x40C
  else if off = 0x300 then
    let i := getField v 16 0
    match getField v 23 20 with
    | 1 => s.after (execCreate o i s) | 2 => s.after (execModify o i s) | 3 => s.after (execCtxRead o i s)
    | 4 => s.after (execDestroy o i s) | 5 => s.after (execResetLimiter o i s) | _ => s.status (kvReg o 0x304) 0x40C
  else if off = 0xC00 then s.after (execKvPcfCfgWrite o v s)
  else if bitAt v 31 then s.after (execKvPcfClrCnt o s) else s
/-- PK. -/
def State.writePK (s : State) (o off : Nat) (v : Reg) : State :=
  if off = 0x100 then s.after (execPkCfgWrite o v s)
  else if off = 0x124 then s.after (execPkBfloorWrite o v s)
  else
    let q := (off - 0x200) / 0x40
    if off % 0x40 = 0x10 then s.after (execPkQProdWrite o q v.toNat s) else s.after (execPkQCfgWrite o q (off % 0x40) v s)

/-- JN_STATUS records a refusal. -/
def State.jnRefuse (s : State) (o : Nat) : State := s.status (jnReg o 0x104) 0x608
/-- JN_CFG (Table 11.13): CLR_CNT clears the counters of all four pages, also under LOCK. -/
def State.jnCfgWrite (s : State) (o : Nat) (v : Reg) : State :=
  let s := if bitAt v 31 then (List.range 24).foldl (fun s k => s.clrCtr (jnPage (k / 6)) (k % 6) 0) s else s
  s.rwlWrite (jnPage o) fun s => (s.wrAll tJN 0x100 (v &&& 0x03FF0003)).took (jnPage o)
/-- JN. A ring size outside its range is refused as well (log entry 33). -/
def State.writeJN (s : State) (o off : Nat) (v : Reg) : State :=
  let en := s.jnEnabled o
  if off = 0x100 then s.jnCfgWrite o v
  else if off = 0x108 then
    match getField v 3 0 with
    | 1 => s.after (execGenesis o s) | 2 => s.after (execSealNow o s) | _ => s.jnRefuse o
  else if off < 0x120 then
    s.rwlWrite (jnPage o) fun s => if en then s.jnRefuse o else (s.wrAll tJN off (if off = 0x118 then v &&& 0xFFFFF000 else v)).took (jnPage o)
  else if off = 0x120 then
    s.rwlWrite (jnPage o) fun s =>
      if en ∨ getField v 4 0 < 10 ∨ 24 < getField v 4 0 then s.jnRefuse o else (s.wrAll tJN off (v &&& 0x1F)).took (jnPage o)
  else if off % 0x20 = 0x10 then s.after (execJnXconsWrite o ((off - 0x200) / 0x20) v s)
  else if off % 0x20 = 8 then
    s.rwlWrite (jnPage o) fun s =>
      if en ∨ getField v 4 0 < 4 ∨ 20 < getField v 4 0 then s.jnRefuse o else (s.wr (jnReg o off) (v &&& 0x1F)).took (jnPage o)
  else
    s.rwlWrite (jnPage o) fun s =>
      if en then s.jnRefuse o else (s.wr (jnReg o off) (if off % 0x20 = 0 then v &&& 0xFFFFFF00 else v)).took (jnPage o)
/-- TW. TW_CKPT_RATE takes 1 to 100 (log entry 33). -/
def State.writeTW (s : State) (off : Nat) (v : Reg) : State :=
  if off = 0x108 then
    match getField v 3 0 with
    | 1 => s.after (execTwActivate s) | 2 => s.after (execTwStandby s) | 3 => s.after (execTwSwap s)
    | 4 => s.after (execTwCheckpoint s) | 5 => s.after (execTwDetach s) | _ => s.twStatus 0x608
  else if off = 0x11C then s.after (execTwLinkKeyWrite v s)
  else if off = 0x148 then
    if 1 ≤ getField v 7 0 ∧ getField v 7 0 ≤ 100 then (s.wrn (twReg 0x148) (getField v 7 0)).took twPage else s.twStatus 0x608
  else s.after (execTwCfgWrite off v s)
/-- CR. -/
def State.writeCR (s : State) (off : Nat) (v : Reg) : State :=
  if off = 0x108 then
    match getField v 3 0 with
    | 1 => s.after (execJoin s) | 2 => s.after (execLeave s) | 3 => s.after (execKeyArm s) | _ => s.crStatus 0x705
  else if off = 0x110 ∨ off = 0x114 then
    s.rwlWrite crPage fun s => ((s.wr (crReg off) v).took crPage).installRingKey (off = 0x114)
  else if off = 0x15C then
    match getField v 3 0 with
    | 1 => s.after (execCtrRead s) | 2 => s.after (execCtrSet s) | 3 => s.after (execClearAll s) | _ => s.crStatus 0x705
  else if off = 0x200 then s.after (execCrTxSend v s)
  else s.after (execCrCfgWrite off v s)
/-- HI_HQCFG: WEIGHT 0 is refused; a new LIMIT acts on the map at once (R132). -/
def State.writeHI (s : State) (off : Nat) (v : Reg) : State :=
  let a := ra tHI 0 off
  if off % 8 = 4 then (s.wr a (v &&& 0x7F)).took hiPage
  else if getField v 9 0 = 0 then s.status (ra tHI 0 0x104) 0x201
  else ((s.wr a (v &&& 0xFFFF03FF)).updateCong (queueOf 1024 ((off - 0x200) / 8))).took hiPage
/-- CD. -/
def State.writeCD (s : State) (cust : Bool) (i off : Nat) (v : Reg) : State :=
  let a := cdReg i off
  let op := getField v 3 0
  match i with
  | 1 => if off = 0x104 then (s.wr a (s.rd a &&& ~~~(v &&& 0xF))).took (cdPage 1) else s.after (execLkForce v s)
  | 3 =>
    if 4 < op then s.fnCmd cust fun s => (0x812, s)
    else
      let s := if bitAt v 31 then s.after (execLogClear cust s) else s
      (match op with
      | 1 => s.after (execWriteRegion cust s) | 2 => s.after (execReadRegion cust s) | 3 => s.after (execWriteDefault cust s)
      | 4 => s.after (execReadDefault cust s) | _ => s)
  | 4 =>
    if off = 0x150 then (if bitAt v 31 then s.setFld a 31 31 0 else s).took flPage
    else
      (match op with
      | 1 => s.after (execFlashRead s) | 2 => s.after (execFlashProgram s) | 3 => s.after (execFlashErase s)
      | 4 => s.after (execFlashProtect s) | 5 => s.after (execFlashUnprotect s) | 6 => s.after (execFlashUnlock s)
      | 7 => s.after (execFlashRelock s) | 8 => s.after (execFlashSetPassword s)
      | _ => s.flRefuse (if s.flBusy then 0x821 else 0x820))
  | 5 =>
    (match op with
    | 1 => s.after (execCsWrite s) | 2 => s.after (execCsRead s) | 3 => s.after (execEraseBoth s) | _ => s.csStatus 0x820)
  | 6 =>
    if off = 0x100 then s.after (execRngCfgWrite v s)
    else if off = 0x108 then
      (match op with
      | 1 => s.after (execReseed (getField v 10 8) s) | 2 => s.after (execReinstantiate (getField v 10 8) s)
      | 3 => s.after (execTapStart (getField v 17 16) s) | 4 => s.after (execTapStop s) | _ => s.rnStatus 0x840)
    else if off = 0x170 then
      s.rwlWrite rnPage fun s => if 48 < getField v 5 0 then s.rnStatus 0x840 else (s.wr a (v &&& 0x3F)).took rnPage
    else s.after (execRngTpCtlWrite v s)
  | _ =>
    if off = 0x100 then s.after (execCbCfgWrite v s)
    else
      (match op with
      | 1 => s.after (execEject s) | 2 => s.after (execClearUnknown s) | 3 => s.after (execRevoke s) | 4 => s.after (execClearLog s)
      | _ => (s.cbStatus 0x911).took cbPage)
/-- PW. A wake that was held for the bit of PW_WAKE_EN now acts (R510, log entry 33). -/
def State.writePW (s : State) (cust : Bool) (off : Nat) (v : Reg) : State :=
  if off = 0x10C then
    match getField v 1 0 with
    | 1 => s.after (execPwOn cust s) | 2 => s.after (execPwOff cust s) | _ => s.pwRefuse 0 0x886
  else
    s.rwlWrite (pageNo tPW 0) fun s =>
      let s := (s.wr (ra tPW 0 off) (if off = 0x148 then v &&& 0xFFFF else v)).took (pageNo tPW 0)
      let on (w : Nat × Nat) : Bool := s.fld (ra tPW 0 (0x140 + 4 * (w.1 / 32))) (w.1 % 32) (w.1 % 32) == 1
      let due := s.st.held.filter on
      let s := { s with st := { s.st with held := s.st.held.filter fun w => !due.contains w, wakes := s.st.wakes ++ due } }
      (if due = [] then s else s.rawSet (pageNo tPW 0) 2).serveWake
/-- TS. -/
def State.writeTS (s : State) (o off : Nat) (v : Reg) : State :=
  if off = 0x100 then
    match getField v 2 0 with
    | 1 => s.after (execCoreBist o (getField v 12 8) s) | 2 => s.after (execReload o (getField v 12 8) s)
    | _ => s.status (tsReg o 0x104) 0x32A
  else (s.wr (tsReg o 0x108) (s.rd (tsReg o 0x108) &&& ~~~(v &&& 1))).took (pageNo tTS o)

/-- A write to a register whose writes are judged or are commands. -/
def State.writeAct (s : State) (cust : Bool) (t i off : Nat) (v : Reg) : State :=
  match t with
  | 0x01 => s.writeGLB off v
  | 0x02 => s.writeOZ i off v
  | 0x03 => s.writeDR i v
  | 0x04 => s.writeDQ i off v
  | 0x05 => s.writeLN i off v
  | 0x06 => s.writeSC i off v
  | 0x07 => s.writeVC i off v
  | 0x08 => s.writeKV i off v
  | 0x09 => s.writePK i off v
  | 0x0A => s.writeJN i off v
  | 0x0B => s.writeTW off v
  | 0x0C => s.writeCR off v
  | 0x0D => s.writeHI off v
  | 0x0E => s.after (execMbChCfgWrite ((off - 0x100) / 4) v s)
  | 0x0F => s.writeCD cust i off v
  | 0x10 => s.writePW cust off v
  | 0x11 => s.writeTS i off v
  | _ => s

/-- The masked bits of a register take a value, its other bits stay (R14, R16). -/
def State.masked (s : State) (a : Nat) (m v : Reg) : State := s.wr a ((s.rd a &&& ~~~m) ||| (v &&& m))

/-- A 32-bit write to a page, by the host or by custody, by the access type of the register. -/
def State.writePage (s : State) (cust : Bool) (t i off : Nat) (v : Reg) : State :=
  let p := pageNo t i
  let a := ra t i off
  if pageCount t ≤ i then s
  else if off < 0x100 then s.headerWrite p off v
  else if !s.pageLive p then s.discard p
  else match access t i off with
    | none => s.discard p
    | some (.ro, _) => s
    | some (.rw, m) => (s.masked a m v).took p
    | some (.wo, m) => (s.masked a m v).took p
    | some (.rwl, m) => s.rwlWrite p fun s => (s.masked a m v).took p
    | some (.dw, m) => (s.wrAll t off (v &&& m)).took p
    | some (.dwl, m) => s.rwlWrite p fun s => (s.wrAll t off (v &&& m)).took p
    | some (.act, _) => s.writeAct cust t i off v
    | some (.cmd, _) => s.writeAct cust t i off v

/-- A 32-bit write to BAR2 (Table 13.2): a mailbox window or a ring block. -/
def State.writeBar2 (s : State) (cust : Bool) (x : Nat) (v : Reg) : State :=
  if x < 0x4000 then s.mbWrite cust (x / 0x100) (x % 0x100) v
  else if x < 0x8000 then
    let r := (x - 0x4000) / 0x40
    match x % 0x40 with
    | 0x00 => s.writeRgBase r 0 v
    | 0x04 => s.writeRgBase r 1 v
    | 0x08 => s.after (execRgCfgWrite r v s)
    | 0x0C => s.after (execRgProdWrite r v s)
    | _ => s
  else s
/-- A 32-bit write to BAR4: the MSI-X table; clearing a mask bit releases a pending vector (R453). -/
def State.writeBar4 (s : State) (x : Nat) (v : Reg) : State :=
  if x < 0x8000 then
    if x % 16 = 12 then (if bitAt v 0 then s.wr (bar4 + x) 1 else s.after (execMsixUnmask (x / 16) s))
    else s.wr (bar4 + x) (if x % 16 = 0 then v &&& 0xFFFFFFFC else v)
  else s
/-- A 32-bit write to the configuration space (log entry 27): Command, and the AER status, mask and severity. -/
def State.writeConfig (s : State) (x : Nat) (v : Reg) : State :=
  if x = 4 then s.writeCommand v
  else if x = 0x104 then
    let s := s.wr (cfgSpace + 0x104) (s.rd (cfgSpace + 0x104) &&& ~~~v)
    if s.fld (cfgSpace + 0x104) 15 15 = 0 then { s with hi := { s.hi with hdrLog := none } } else s
  else if x = 0x108 ∨ x = 0x10C then s.wr (cfgSpace + x) v
  else s

/-- A 32-bit write with full byte enables to any register, past its fence. -/
def State.writeReg (s : State) (cust : Bool) (a : Nat) (v : Reg) : State :=
  if a % 4 ≠ 0 then s
  else if a < bar2 then s.writePage cust (a / 0x100000) (a / 0x1000 % 0x100) (a % 0x1000) v
  else if a < bar4 then s.writeBar2 cust (a - bar2) v
  else if a < cfgSpace then s.writeBar4 (a - bar4) v
  else s.writeConfig (a - cfgSpace) v

/-- The registers of a page that record the status of a refused write or command. -/
def statusRegs (t i : Nat) : List Nat :=
  match t with
  | 0x01 => [0x208] | 0x02 => [0x108, 0x404, 0x814] | 0x03 => [0x108] | 0x04 => [0x204]
  | 0x05 => (List.range 16).map fun b => 0x120 + 0xE0 * b
  | 0x06 => [0xA44]
  | 0x07 => (List.range 32).map fun j => 0x130 + 0x40 * j
  | 0x08 => [0x120, 0x154, 0x208, 0x304, 0xC04]
  | 0x09 => 0x10C :: (List.range 8).map fun q => 0x228 + 0x40 * q
  | 0x0A => [0x104] | 0x0B => [0x10C] | 0x0C => [0x10C, 0x170] | 0x0D => [0x104] | 0x0E => [0x200]
  | 0x0F => (match i with | 3 => [0x124] | 4 => [0x104] | 5 => [0x104] | 6 => [0x10C] | 7 => [0x10C] | _ => [])
  | 0x10 => [0x110] | 0x11 => [0x104]
  | _ => []
/-- Whether a write to a page register is refused: it records a status where none stood. -/
def State.writeRefused (s : State) (cust : Bool) (a : Nat) (v : Reg) : Bool :=
  let t := a / 0x100000
  let i := a / 0x1000 % 0x100
  let regs := (statusRegs t i).map (ra t i)
  let s := regs.foldl (fun s r => s.status r 0) s
  let u := s.writeReg cust a v
  regs.any fun r => u.fld r 15 0 != 0
/-- A write as step 8 of a start makes it: whether it was accepted, and the state after it. -/
def State.writePreset (a : Nat) (v : Reg) (s : State) : Bool × State := (!s.writeRefused true a v, s.writeReg true a v)

/-! ### Device-wide registers (R475) -/

/-- The device-wide registers whose copies take a write one by one. -/
def devWide (t off : Nat) : Bool :=
  match t with
  | 0x02 => off = 0x800 || off = 0x804 || off = 0x808 || off = 0x80C || off = 0x810 || off = 0x820 || off = 0x828 || off = 0x82C
  | 0x08 => off = 0x100 || off = 0x108 || off = 0x10C || off = 0x110 || off = 0x118 || off = 0x11C || off = 0x140 || off = 0x158 ||
            off = 0x15C || off = 0xC00
  | 0x09 => off = 0x120 || off = 0x140 || off = 0x144 || off = 0x148
  | 0x0A => off = 0x100 || off = 0x110 || off = 0x114 || off = 0x118 || off = 0x11C || off = 0x120
  | _ => false
/-- Those that LOCK holds back. -/
def devWideRwl (t off : Nat) : Bool :=
  if t = 0x08 then decide (off ≠ 0x140 ∧ off ≠ 0x158 ∧ off ≠ 0x15C) else decide (t = 0x09 ∧ off ≠ 0x120) || t = 0x0A
/-- Bit 31 of KV_CFG and JN_CFG is CLR_CNT; a waiting write keeps it. -/
def devWideClr (t off : Nat) : Bool := (t = 0x08 || t = 0x0A) && off = 0x100

/-- A device-wide write arrives at ounce 0: judged, and where accepted it waits for its copies. -/
def State.wideArrive (s : State) (cust : Bool) (a : Nat) (v : Reg) : State :=
  let t := a / 0x100000
  let i := a / 0x1000 % 0x100
  let off := a % 0x1000
  let u := s.writeReg cust a v
  if s.writeRefused cust a v || (devWideRwl t off && s.lockInForce) then u
  else
    let w := u.rd (ra t i off) ||| (if devWideClr t off then v &&& 0x80000000 else 0)
    let u := { u with ctrs := s.ctrs }
    let u := (List.range 4).foldl (fun u k => u.wr (ra t k off) (s.rd (ra t k off))) u
    { u with pgs := { u.pgs with wide := u.pgs.wide ++ [(ra t 0 off, w, [0, 1, 2, 3])] } }
/-- The oldest write takes effect on the next ounce's copy, with the action it triggers there. -/
def State.wideApply (s : State) : State :=
  match s.pgs.wide with
  | [] => s
  | (a, w, os) :: rest =>
    match os with
    | [] => { s with pgs := { s.pgs with wide := rest } }
    | o :: more =>
      let t := a / 0x100000
      let off := a % 0x1000
      let s := { s with pgs := { s.pgs with wide := if more = [] then rest else (a, w, more) :: rest } }
      let clr (k n : Nat) (s : State) : State := (List.range n).foldl (fun s j => s.clrCtr (pageNo t o) (k + j) 0) s
      let s :=
        if devWideClr t off && bitAt w 31 then clr 0 (if t = 0x08 then 8 else 6) s
        else if t = 0x02 ∧ off = 0x800 ∧ bitAt w 0 ∧ s.vpOn o then clr 1 16 s else s
      s.wr (ra t o off) (if devWideClr t off then w &&& 0x7FFFFFFF else w)

/-! ### Reads (R13, R14, R480) -/

/-- A register of a page as it reads now, without the effect of a read; what the device measures and no rule states is a
free value (log entry 2). -/
def State.peekPage (s : State) (t i off : Nat) : Nat :=
  if pageCount t ≤ i then 0
  else if off < 0x100 then s.header (pageNo t i) off
  else if !s.pageLive (pageNo t i) then 0
  else match access t i off with
    | none => 0
    | some (.cmd, _) => 0
    | some (.wo, _) => 0
    | _ =>
      match s.view t i off with
      | some x => x
      | none =>
        match counterAt t i off with
        | some (k, u) => half (s.counterShown t i k u) off
        | none => (asRead t off (s.rd (ra t i off))).toNat
/-- A register of BAR2 and above as it reads now. -/
def State.peekHigh (s : State) (a : Nat) : Nat :=
  if a < bar4 then
    let x := a - bar2
    if x < 0x4000 then ofLe (s.mbLoad 256 x 4)
    else if x < 0x8000 ∧ x % 0x40 < 0x30 then (s.rd a).toNat else 0
  else if a < cfgSpace then (if a - bar4 < 0x8100 then (s.rd a).toNat else 0)
  else (s.rd a).toNat
/-- Any register as it reads now. -/
def State.peek (s : State) (a : Nat) : Nat :=
  if a < bar2 then s.peekPage (a / 0x100000) (a / 0x1000 % 0x100) (a % 0x1000) else s.peekHigh a
/-- Whether a BAR address is the LO half of a pair. -/
def loAddr (a : Nat) : Bool :=
  if a < bar2 then isLo (a / 0x100000) (a / 0x1000 % 0x100) (a % 0x1000)
  else
    let x := a - bar2
    if x < 0x4000 then decide (x % 0x100 < 0x80 ∧ x % 8 = 0)
    else decide (x < 0x8000 ∧ (x % 0x40 = 0 ∨ x % 0x40 = 0x18 ∨ x % 0x40 = 0x20 ∨ x % 0x40 = 0x28))
/-- The bits of a register that the device measures: LN_SKEW, the custody watchdog, and a bond width that its field cannot
hold. -/
def State.measured (s : State) (a : Nat) : Option (Nat × Nat) :=
  let t := a / 0x100000
  let off := a % 0x1000
  if bar2 ≤ a then none
  else if t = tLN ∧ 0x100 ≤ off ∧ off < 0xF00 ∧ (off - 0x100) % 0xE0 = 0x14 then some (15, 0)
  else if a = cdReg 0 0x104 then some (15, 0)
  else if a = twReg 0x104 ∧ s.jn.link.width = 8 then some (11, 9)
  else none
/-- The pages of BAR0 whose read is an action: what it returns is in `lastRead` of the state. -/
def State.readAct (s : State) (t i off : Nat) : Option State :=
  if !s.pageLive (pageNo t i) ∨ pageCount t ≤ i then none
  else if t = tSC ∧ off = 0xA48 then some (s.after (execScEventRead i s))
  else if t = tDQ ∧ off = 0x2C4 then some (s.after (execCvlRxstatRead i s))
  else if t = tCR ∧ off = 0x208 then some (s.after (execCrRxRead s))
  else if t = tOZ ∧ off = 0x824 then some (s.after (execDiaDataAccess i false 0 s))
  else none
/-- A 32-bit read of any register, past its fence: the value returned is in `lastRead`. -/
def State.readReg (s : State) (a : Nat) : State :=
  let put (v : Nat) (s : State) : State := { s with lastRead := BitVec.ofNat 64 (v % 2 ^ 32) }
  match s.latch with
  | some (h, v) =>
    if h = a then { put v.toNat s with latch := none } else plain put s
  | none => plain put s
where
  /-- A read that no latched half answers. -/
  plain (put : Nat → State → State) (s : State) : State :=
    match (if a < bar2 then s.readAct (a / 0x100000) (a / 0x1000 % 0x100) (a % 0x1000) else none) with
    | some t => t
    | none =>
      match s.measured a with
      | some (hi, lo) =>
        let (v, s) := s.free
        put (setField (BitVec.ofNat 32 (s.peek a)) hi lo v.toNat).toNat s
      | none =>
        let s := put (s.peek a) s
        if loAddr a then { s with latch := some (a + 4, BitVec.ofNat 32 (s.peek (a + 4))) } else s

end Sys2Proof.Machine
end

