-- ==== Sys2Proof/Machine/PageCmds.lean ====
section
/-!
DEFINITION. Commands of the register pages (R13, R14, R449, R453, R475–R491, R496, R554): writes and reads of registers by the
host and by custody, the page header, event counters and snapshots.
-/
namespace Sys2Proof.Machine

/-! ### The way of an access to its register -/

/-- The fence of a BAR0 access to an existing page (R549): the first byte that fails, as an offset within the pages of its type.
FN_CMD makes its own check. -/
def State.regFence (s : State) (cust : Bool) (acc a : Nat) : Option Nat :=
  let t := a / 0x100000
  if bar2 ≤ a ∨ pageCount t ≤ a / 0x1000 % 0x100 ∨ (acc = accW ∧ a = fnReg 0x120) then none
  else s.fenceFail (261 + t) (if cust then clsCust else clsHost) acc (a % 0x100000) 4
/-- The violation of an access that failed its fence (R553). -/
def State.regViolation (s : State) (cust : Bool) (acc a x : Nat) : State :=
  s.violation (261 + a / 0x100000) (if cust then clsCust else clsHost) acc x
/-- The host can reach the device: domain 72 is on, and no reset of the link lasts. -/
def State.hostUp (s : State) : Bool := s.domOn 72 && !s.st.pcieReset
/-- Until step 4 of a warm start ends, the host reaches no page but GLB, CD, PW and HI (R496). -/
def State.warmBlocked (s : State) (a : Nat) : Bool :=
  let t := a / 0x100000
  decide (a < bar2) && s.startRunning && s.warmKind && decide (s.startFld 3 0 ≤ 4) && t != tGLB && t != tCD && t != tPW && t != tHI
/-- The page of a BAR0 address counts a discarded write, where there is one. -/
def State.pageDiscard (s : State) (a : Nat) : State :=
  if a < bar2 ∧ a / 0x1000 % 0x100 < pageCount (a / 0x100000) then s.discard (a / 0x1000) else s
/-- A register write by the host, with the byte enables of its 32-bit register, or by custody firmware: `f` acts on one that
passes. Partial byte enables are discarded and counted in HI_BADACC (R449). -/
def State.arrive (s : State) (cust : Bool) (be : BitVec 4) (a : Nat) (f : State → State) : State :=
  if !cust && (!s.hostUp || be == 0) then s
  else if !cust && be != 15 && decide (a < bar4) then ((s.bump hiPage 4 0 1).irq hiPage 0).pageDiscard a
  else if !cust && s.warmBlocked a then s.pageDiscard a
  else match s.regFence cust accW a with
    | some x => (s.regViolation cust accW a x).pageDiscard a
    | none => f s

/-- A write to a register (R14): one with full byte enables takes effect by the access type of its fields. -/
def execRegisterWrite (cust : Bool) (be : BitVec 4) (a : Nat) (v : Reg) (s : State) : Outcome :=
  done (s.arrive cust be a fun s => s.writeReg cust a v)

/-- A read by the host or by custody firmware: 0 behind a fence that fails (R551) and while the host is kept away (R496). The
host reads nothing while it is not there. -/
def State.fencedRead (s : State) (cust : Bool) (a : Nat) : Option Nat × State :=
  if !cust && s.warmBlocked a then (none, { s with lastRead := 0 })
  else match s.regFence cust accR a with
    | some x => (some x, { s.regViolation cust accR a x with lastRead := 0 })
    | none => (none, s.readReg a)
/-- A read of a register; a read of the LO half of a 64-bit pair latches its HI half for the read that follows (R13). -/
def execLoReadLatch (cust : Bool) (a : Nat) (s : State) : Outcome :=
  done (if !cust && !s.hostUp then s else (s.fencedRead cust (a / 4 * 4)).2)

/-! ### Device-wide registers (R475) -/

/-- A write to any copy of a device-wide register reaches ounce 0, where it waits its turn. Those that act at once in every
ounce are written as they arrive. -/
def execDeviceWideWrite (cust : Bool) (a : Nat) (v : Reg) (s : State) : Outcome :=
  done (s.arrive cust 15 a fun s =>
    if devWide (a / 0x100000) (a % 0x1000) ∧ a < bar2 ∧ a / 0x1000 % 0x100 < 4 ∧ s.pageLive (a / 0x1000) then s.wideArrive cust a v
    else s.writeReg cust a v)
/-- The oldest write that waits is applied to the next copy. -/
def execDeviceWideApply (s : State) : Outcome := done s.wideApply

/-! ### The page header -/

/-- A page of the device. -/
def pageExists (p : Nat) : Bool := decide (p % 0x100 < pageCount (p / 0x100))
/-- PG_IRQ_RAW, W1C. -/
def execPgIrqRawWrite (p : Nat) (v : Reg) (s : State) : Outcome := done (if pageExists p then s.rawClear p v else s)
/-- PG_IRQ_EN. -/
def execPgIrqEnWrite (p : Nat) (v : Reg) (s : State) : Outcome := done (if pageExists p then s.enWrite p v else s)
/-- PG_IRQ_FORCE. -/
def execPgIrqForceWrite (p : Nat) (v : Reg) (s : State) : Outcome := done (if pageExists p then s.forceWrite p v else s)
/-- PG_ERR_INFO: VALID or MORE written as 1. -/
def execPgErrInfoClear (p : Nat) (v : Reg) (s : State) : Outcome := done (if pageExists p then s.errClear p v else s)
/-- SEL of event counter `n`: the counter starts again from 0. -/
def execEvcSelWrite (p n : Nat) (v : Reg) (s : State) : Outcome :=
  done (if pageExists p ∧ n < 4 then s.selWrite p n v else s)
/-- PG_CTRL.EVC_CLR. -/
def execEvcClr (p : Nat) (s : State) : Outcome := done (if pageExists p then s.evcClear p else s)
/-- GLB_EVC_SNAP.TAKE. -/
def execSnapshotTake (s : State) : Outcome := done s.snapTake
/-- A page captures its counters at the instant of the snapshot. -/
def execSnapshotCapture (p : Nat) (s : State) : Outcome := done (if pageExists p then s.snapPage p else s)

/-! ### Custody commands for registers (Table 16.12) -/

/-- REG_READ: the register at BAR0 offset w1. -/
def execCustodyRegRead (s : State) : Outcome :=
  done (s.custServe 0x01 fun _ w s =>
    let a := nth 0 w 1
    if 2 ^ 28 ≤ a ∨ a % 4 ≠ 0 then ((0x801, []), s)
    else match s.fencedRead true a with
      | (some _, s) => ((0x813, []), s)
      | (none, s) => ((0, [s.lastRead]), s))
/-- REG_WRITE: w2 into the register at BAR0 offset w1. A refusal by the block stands in the block's own status register, and the
command itself is carried out (log entry 33). -/
def execCustodyRegWrite (s : State) : Outcome :=
  done (s.custServe 0x02 fun _ w s => plainResult (
    let a := nth 0 w 1
    if 2 ^ 28 ≤ a ∨ a % 4 ≠ 0 ∨ 2 ^ 32 ≤ nth 0 w 2 then (0x801, s)
    else match s.regFence true accW a with
      | some x => (0x813, (s.regViolation true accW a x).pageDiscard a)
      | none => (0, s.writeReg true a (BitVec.ofNat 32 (nth 0 w 2)))))
/-- POWER: a power request for the domains of w1 and w2, with the OP w3 (R507). -/
def execCustodyPower (s : State) : Outcome :=
  done (s.custServe 0x03 fun _ w s => plainResult (
    let mask := nth 0 w 1 + nth 0 w 2 * 2 ^ 64
    if nth 0 w 3 = 1 then s.pwRequest mask true true
    else if nth 0 w 3 = 2 then s.pwRequest mask false true
    else (0x886, s.pwRefuse 0 0x886)))

end Sys2Proof.Machine
end

