-- ==== Sys2Proof/Machine/StartCmds.lean ====
section
/-!
DEFINITION. The ends of the start steps (Table 15.3, R498–R502).
-/
namespace Sys2Proof.Machine

/-- The next step of the start begins. Step 11 asks for the ring at once (R501). -/
def State.goStep (s : State) (k : Nat) : State :=
  let s := s.enterStep k
  if k = 11 then s.step11 State.writePreset else s
/-- A step ends: its time is recorded, and the next one begins. A warm start skips steps 3 and 5, which record 0. -/
def State.stepEnds (s : State) (k : Nat) : State :=
  let s := s.recordStep k
  if s.warmKind ∧ k = 2 then (s.step3).goStep 4
  else if s.warmKind ∧ k = 4 then s.goStep 6
  else s.goStep (k + 1)
/-- Sources that the start-up tests have marked SUSPECT. -/
def State.suspects (s : State) : Nat := sumNat ((List.range 4).map fun k => s.fld (rnReg 0x104) (4 + k) (4 + k))
/-- The start waits: for SYS_RESET_N (R654), for the root, or for the lock to be lifted (R499). -/
def State.startWaits (s : State) : Bool := !s.startRunning || s.st.sysReset || s.startHeld
/-- The machines of custody that the start needs (Table 16.2) hold no valid encoding. -/
def State.custodyBroken (s : State) : Bool := s.cus.invalid.contains 4 || s.cus.invalid.contains 5

/-- The work of the current step is done, well or not (`ok`; steps that no rule lets fail ignore it). Step 5 names in `bad` the
drams whose SRAM failed. Step 2 fails when two sources are SUSPECT or a KAT failed (R592); step 3 holds while the root is lost;
step 10 ends once the device is SYNCED or no active partner answers; step 11 at JOINED or at the end of the attempt, and then
holds under LOCK; step 12 opens the ports (R502). -/
def State.stepDone (s : State) (ok : Bool) (bad : List Nat) : State :=
  let k := s.startFld 3 0
  if s.custodyBroken then s.startFail 0x887
  else match k with
    | 1 => let (c, s) := s.step1; if c ≠ 0 then s.startFail c else s.stepEnds 1
    | 2 => if 2 ≤ s.suspects then s.startFail 0x843 else if !ok then s.startFail 0x844 else s.stepEnds 2
    | 3 =>
      if !ok then s.startFail 0x887
      else
        let s := s.step3
        if s.rootLost then s.setStart 12 12 1 else s.stepEnds 3
    | 4 => if !ok then s.startFail 0x887 else (if s.warmKind then s else s.step4).stepEnds 4
    | 5 => if !ok then s.startFail 0x887 else (s.step5 bad).stepEnds 5
    | 7 => s.step7.stepEnds 7
    | 8 => if !ok then s.startFail 0x887 else (s.step8 State.writePreset).stepEnds 8
    | 10 =>
      if s.twState = 10 then s.stepEnds 10
      else if s.twState = 0 ∧ s.jn.link.up ∧ s.jn.partRole = 1 then s.after (execTwStandby s)
      else s
    | 11 =>
      if s.ringState = 1 then s
      else if s.lockInForce then (s.recordStep 11).setStart 11 11 1
      else s.stepEnds 11
    | 12 => if !ok ∨ !s.step12Ok then s.startFail 0x887 else (s.recordStep 12).portOpen
    | _ => if !ok then s.startFail 0x887 else s.stepEnds k

/-- A start step ends, or fails, and the sequence goes on (R498). -/
def execStartStepDone (ok : Bool) (bad : List Nat) (s : State) : Outcome :=
  done (if s.startWaits then s else s.stepDone ok bad)
/-- A start step has not ended within its timeout: it fails with 0x0888, but steps 7, 10 and 11 never fail and go on. -/
def execStartStepTimeout (s : State) : Outcome :=
  done (
    if s.startWaits then s
    else
      let k := s.startFld 3 0
      if k = 7 then s.step7.stepEnds 7
      else if k = 10 then s.stepEnds 10
      else if k = 11 then (if s.lockInForce then (s.recordStep 11).setStart 11 11 1 else s.stepEnds 11)
      else s.startFail 0x888)
/-- Step 10 has run for 10 ms and no active partner has answered: it ends with the device DETACHED (R501). -/
def execTwinSyncTimeout (s : State) : Outcome :=
  done (
    if s.startWaits ∨ s.startFld 3 0 ≠ 10 ∨ s.twState ≠ 0 then s else s.stepEnds 10)

end Sys2Proof.Machine
end

