-- ==== Sys2Proof/Machine/Dispatch.lean ====
section
/-!
DEFINITION. The dispatcher: one arm per command, each a direct call of its meaning.
-/
namespace Sys2Proof.Machine

/-- The effect of a command on everything but the queue. -/
def exec (i : Instr) (s : State) : Host.Outcome State Fault Refusal :=
  match i with
  | .registerWrite cust be a v => Sys2Proof.Machine.execRegisterWrite cust be a v s
  | .loReadLatch cust a => Sys2Proof.Machine.execLoReadLatch cust a s
  | .rndVckPllLoss o vck => Sys2Proof.Machine.execRndVckPllLoss o vck s
  | .xozPllLoss o k => Sys2Proof.Machine.execXozPllLoss o k s
  | .fabPllLoss o => Sys2Proof.Machine.execFabPllLoss o s
  | .fabRelockTimeout o => Sys2Proof.Machine.execFabRelockTimeout o s
  | .timPllLoss => Sys2Proof.Machine.execTimPllLoss s
  | .lrxLossOfLock n => Sys2Proof.Machine.execLrxLossOfLock n s
  | .portmodeWrite d v => Sys2Proof.Machine.execPortmodeWrite d v s
  | .clause73PageRx n => Sys2Proof.Machine.execClause73PageRx n s
  | .rxFrameStart n d => Sys2Proof.Machine.execRxFrameStart n d s
  | .rxFrameEnd n rest err => Sys2Proof.Machine.execRxFrameEnd n rest err s
  | .rxOversizeDetect n => Sys2Proof.Machine.execRxOversizeDetect n s
  | .fecCodewordDecoded n bad bits syms => Sys2Proof.Machine.execFecCodewordDecoded n bad bits syms s
  | .controlSlotTx n => Sys2Proof.Machine.execControlSlotTx n s
  | .controlSlotRx n w => Sys2Proof.Machine.execControlSlotRx n w s
  | .signalLock n => Sys2Proof.Machine.execSignalLock n s
  | .trainDone n tx rx => Sys2Proof.Machine.execTrainDone n tx rx s
  | .trainTimeout n => Sys2Proof.Machine.execTrainTimeout n s
  | .eqCoeffUpdate n tx rx => Sys2Proof.Machine.execEqCoeffUpdate n tx rx s
  | .keepUpTimeout n => Sys2Proof.Machine.execKeepUpTimeout n s
  | .alignLocksReached n => Sys2Proof.Machine.execAlignLocksReached n s
  | .alignTimeout n => Sys2Proof.Machine.execAlignTimeout n s
  | .linkLoss n => Sys2Proof.Machine.execLinkLoss n s
  | .faultClearTimeout n => Sys2Proof.Machine.execFaultClearTimeout n s
  | .faultOrderedSetRx n remote => Sys2Proof.Machine.execFaultOrderedSetRx n remote s
  | .faultCeaseTimeout n => Sys2Proof.Machine.execFaultCeaseTimeout n s
  | .lnUp n v => Sys2Proof.Machine.execLnUp n v s
  | .lnDown n v => Sys2Proof.Machine.execLnDown n v s
  | .lnTest n v => Sys2Proof.Machine.execLnTest n v s
  | .lnRetrain n v => Sys2Proof.Machine.execLnRetrain n v s
  | .lnClrCnt n v => Sys2Proof.Machine.execLnClrCnt n v s
  | .lnCfgWrite n v => Sys2Proof.Machine.execLnCfgWrite n v s
  | .lnTxeqWrite n v => Sys2Proof.Machine.execLnTxeqWrite n v s
  | .lnMaxframeWrite n v => Sys2Proof.Machine.execLnMaxframeWrite n v s
  | .noriolysFrameRx n b => Sys2Proof.Machine.execNoriolysFrameRx n b s
  | .nakRx j => Sys2Proof.Machine.execNakRx j s
  | .bondRx => Sys2Proof.Machine.execBondRx s
  | .saInstall d r j => Sys2Proof.Machine.execSaInstall d r j s
  | .saDisable d r j => Sys2Proof.Machine.execSaDisable d r j s
  | .saRead d r j => Sys2Proof.Machine.execSaRead d r j s
  | .saCmdComplete d => Sys2Proof.Machine.execSaCmdComplete d s
  | .scEventRead d => Sys2Proof.Machine.execScEventRead d s
  | .grainDispatch n => Sys2Proof.Machine.execGrainDispatch n s
  | .icvResult n => Sys2Proof.Machine.execIcvResult n s
  | .commitCheck n => Sys2Proof.Machine.execCommitCheck n s
  | .trustOutcomeArrival n => Sys2Proof.Machine.execTrustOutcomeArrival n s
  | .egressIcvEmit l => Sys2Proof.Machine.execEgressIcvEmit l s
  | .txFrameStart l => Sys2Proof.Machine.execTxFrameStart l s
  | .katSlotExpiry k => Sys2Proof.Machine.execKatSlotExpiry k s
  | .katTestEnter k => Sys2Proof.Machine.execKatTestEnter k s
  | .grainKatVector k pass => Sys2Proof.Machine.execGrainKatVector k pass s
  | .scKatCtlWrite d v => Sys2Proof.Machine.execScKatCtlWrite d v s
  | .scPortWrite n v => Sys2Proof.Machine.execScPortWrite n v s
  | .firstBlocksClassify n => Sys2Proof.Machine.execFirstBlocksClassify n s
  | .ftAdd o => Sys2Proof.Machine.execFtAdd o s
  | .ftDelete o => Sys2Proof.Machine.execFtDelete o s
  | .ftLookup o => Sys2Proof.Machine.execFtLookup o s
  | .ftCmdComplete => Sys2Proof.Machine.execFtCmdComplete s
  | .congMapPropagate o b => Sys2Proof.Machine.execCongMapPropagate o b s
  | .dqQcfgWrite q v => Sys2Proof.Machine.execDqQcfgWrite q v s
  | .dqPortWrite n v => Sys2Proof.Machine.execDqPortWrite n v s
  | .enqueueNotice n => Sys2Proof.Machine.execEnqueueNotice n s
  | .queueHeadStamp q => Sys2Proof.Machine.execQueueHeadStamp q s
  | .endNotice n => Sys2Proof.Machine.execEndNotice n s
  | .level1Nominate l => Sys2Proof.Machine.execLevel1Nominate l s
  | .pullGrant d => Sys2Proof.Machine.execPullGrant d s
  | .inputDramGrant src => Sys2Proof.Machine.execInputDramGrant src s
  | .linkGrant a b => Sys2Proof.Machine.execLinkGrant a b s
  | .egressDramGrant d => Sys2Proof.Machine.execEgressDramGrant d s
  | .linkCellRx a b ch bad => Sys2Proof.Machine.execLinkCellRx a b ch bad s
  | .linkCreditReturn a b ch => Sys2Proof.Machine.execLinkCreditReturn a b ch s
  | .linkDeliveryTimeout a b => Sys2Proof.Machine.execLinkDeliveryTimeout a b s
  | .holdExpiry q => Sys2Proof.Machine.execHoldExpiry q s
  | .cvlCreditRx n ctr pay tag => Sys2Proof.Machine.execCvlCreditRx n ctr pay tag s
  | .cvlEchoReqRx n pay => Sys2Proof.Machine.execCvlEchoReqRx n pay s
  | .cvlEchoRspRx n pay => Sys2Proof.Machine.execCvlEchoRspRx n pay s
  | .cvlQuenchRx n ctr pay tag => Sys2Proof.Machine.execCvlQuenchRx n ctr pay tag s
  | .cvlResumeRx n ctr pay tag => Sys2Proof.Machine.execCvlResumeRx n ctr pay tag s
  | .cvlFirmwareRx n type ctr pay tag => Sys2Proof.Machine.execCvlFirmwareRx n type ctr pay tag s
  | .quenchExpiry j => Sys2Proof.Machine.execQuenchExpiry j s
  | .cvlTxMessage d v => Sys2Proof.Machine.execCvlTxMessage d v s
  | .cvlTxFrame d v => Sys2Proof.Machine.execCvlTxFrame d v s
  | .cvlKeyInstall n v => Sys2Proof.Machine.execCvlKeyInstall n v s
  | .cvlRxstatRead d => Sys2Proof.Machine.execCvlRxstatRead d s
  | .envelopeCheck n => Sys2Proof.Machine.execEnvelopeCheck n s
  | .diaDataAccess o write v => Sys2Proof.Machine.execDiaDataAccess o write v s
  | .diaEnWrite o h v => Sys2Proof.Machine.execDiaEnWrite o h v s
  | .recordComplete n => Sys2Proof.Machine.execRecordComplete n s
  | .slotFilled v => Sys2Proof.Machine.execSlotFilled v s
  | .heldAppendRoom v => Sys2Proof.Machine.execHeldAppendRoom v s
  | .respTmoExpiry v => Sys2Proof.Machine.execRespTmoExpiry v s
  | .verdictFwdRequestRx => Sys2Proof.Machine.execVerdictFwdRequestRx s
  | .verdictFwdResponseRx => Sys2Proof.Machine.execVerdictFwdResponseRx s
  | .fwdEntryTimeout j => Sys2Proof.Machine.execFwdEntryTimeout j s
  | .ozVpCfgWrite o v => Sys2Proof.Machine.execOzVpCfgWrite o v s
  | .vpServiceRegWrite o off v => Sys2Proof.Machine.execVpServiceRegWrite o off v s
  | .keyEngineTake o => Sys2Proof.Machine.execKeyEngineTake o s
  | .pinXlate o e => Sys2Proof.Machine.execPinXlate o e s
  | .macGen o e => Sys2Proof.Machine.execMacGen o e s
  | .macVer o e => Sys2Proof.Machine.execMacVer o e s
  | .dukptDerive o e => Sys2Proof.Machine.execDukptDerive o e s
  | .arqcVerify o e => Sys2Proof.Machine.execArqcVerify o e s
  | .ff1Enc o e => Sys2Proof.Machine.execFf1Enc o e s
  | .ff1Dec o e => Sys2Proof.Machine.execFf1Dec o e s
  | .kbImport o e => Sys2Proof.Machine.execKbImport o e s
  | .kbExport o e => Sys2Proof.Machine.execKbExport o e s
  | .keyOpComplete o e => Sys2Proof.Machine.execKeyOpComplete o e s
  | .keSelfTest o e pass => Sys2Proof.Machine.execKeSelfTest o e pass s
  | .kvPcfCfgWrite o v => Sys2Proof.Machine.execKvPcfCfgWrite o v s
  | .kvPcfClrCnt o => Sys2Proof.Machine.execKvPcfClrCnt o s
  | .add c rd ra rb w => Sys2Proof.Machine.execAdd c rd ra rb w s
  | .sub c rd ra rb w => Sys2Proof.Machine.execSub c rd ra rb w s
  | .addo c rd ra rb w => Sys2Proof.Machine.execAddo c rd ra rb w s
  | .subo c rd ra rb w => Sys2Proof.Machine.execSubo c rd ra rb w s
  | .neg c rd ra rb w => Sys2Proof.Machine.execNeg c rd ra rb w s
  | .abs c rd ra rb w => Sys2Proof.Machine.execAbs c rd ra rb w s
  | .and c rd ra rb => Sys2Proof.Machine.execAnd c rd ra rb s
  | .or c rd ra rb => Sys2Proof.Machine.execOr c rd ra rb s
  | .xor c rd ra rb => Sys2Proof.Machine.execXor c rd ra rb s
  | .sll c rd ra rb w => Sys2Proof.Machine.execSll c rd ra rb w s
  | .srl c rd ra rb w => Sys2Proof.Machine.execSrl c rd ra rb w s
  | .sra c rd ra rb w => Sys2Proof.Machine.execSra c rd ra rb w s
  | .ror c rd ra rb w => Sys2Proof.Machine.execRor c rd ra rb w s
  | .slt c rd ra rb => Sys2Proof.Machine.execSlt c rd ra rb s
  | .sltu c rd ra rb => Sys2Proof.Machine.execSltu c rd ra rb s
  | .seq c rd ra rb => Sys2Proof.Machine.execSeq c rd ra rb s
  | .min c rd ra rb => Sys2Proof.Machine.execMin c rd ra rb s
  | .max c rd ra rb => Sys2Proof.Machine.execMax c rd ra rb s
  | .mul c rd ra rb w => Sys2Proof.Machine.execMul c rd ra rb w s
  | .mulh c rd ra rb => Sys2Proof.Machine.execMulh c rd ra rb s
  | .mulhu c rd ra rb => Sys2Proof.Machine.execMulhu c rd ra rb s
  | .mulo c rd ra rb w => Sys2Proof.Machine.execMulo c rd ra rb w s
  | .div c rd ra rb w => Sys2Proof.Machine.execDiv c rd ra rb w s
  | .divu c rd ra rb w => Sys2Proof.Machine.execDivu c rd ra rb w s
  | .rem c rd ra rb w => Sys2Proof.Machine.execRem c rd ra rb w s
  | .remu c rd ra rb w => Sys2Proof.Machine.execRemu c rd ra rb w s
  | .clz c rd ra rb => Sys2Proof.Machine.execClz c rd ra rb s
  | .ctz c rd ra rb => Sys2Proof.Machine.execCtz c rd ra rb s
  | .popc c rd ra rb => Sys2Proof.Machine.execPopc c rd ra rb s
  | .bswap c rd ra rb => Sys2Proof.Machine.execBswap c rd ra rb s
  | .sextb c rd ra rb => Sys2Proof.Machine.execSextb c rd ra rb s
  | .sexth c rd ra rb => Sys2Proof.Machine.execSexth c rd ra rb s
  | .zextw c rd ra rb => Sys2Proof.Machine.execZextw c rd ra rb s
  | .cmovz c rd ra rb => Sys2Proof.Machine.execCmovz c rd ra rb s
  | .cmovn c rd ra rb => Sys2Proof.Machine.execCmovn c rd ra rb s
  | .addi c rd ra imm => Sys2Proof.Machine.execAddi c rd ra imm s
  | .addiw c rd ra imm => Sys2Proof.Machine.execAddiw c rd ra imm s
  | .andi c rd ra imm => Sys2Proof.Machine.execAndi c rd ra imm s
  | .ori c rd ra imm => Sys2Proof.Machine.execOri c rd ra imm s
  | .xori c rd ra imm => Sys2Proof.Machine.execXori c rd ra imm s
  | .slti c rd ra imm => Sys2Proof.Machine.execSlti c rd ra imm s
  | .sltiu c rd ra imm => Sys2Proof.Machine.execSltiu c rd ra imm s
  | .lui c rd ra imm => Sys2Proof.Machine.execLui c rd ra imm s
  | .slli c rd ra cnt w => Sys2Proof.Machine.execSlli c rd ra cnt w s
  | .srli c rd ra cnt w => Sys2Proof.Machine.execSrli c rd ra cnt w s
  | .srai c rd ra cnt w => Sys2Proof.Machine.execSrai c rd ra cnt w s
  | .rori c rd ra cnt w => Sys2Proof.Machine.execRori c rd ra cnt w s
  | .mfs c rd ra imm => Sys2Proof.Machine.execMfs c rd ra imm s
  | .mts c rd ra imm => Sys2Proof.Machine.execMts c rd ra imm s
  | .load c rd ra sub off => Sys2Proof.Machine.execLoad c rd ra sub off s
  | .store c rs ra sub off => Sys2Proof.Machine.execStore c rs ra sub off s
  | .storeBufferDrain c => Sys2Proof.Machine.execStoreBufferDrain c s
  | .lateStoreReport c => Sys2Proof.Machine.execLateStoreReport c s
  | .cas c rd ra rb => Sys2Proof.Machine.execCas c rd ra rb s
  | .amoadd c rd ra rb => Sys2Proof.Machine.execAmoadd c rd ra rb s
  | .amoswap c rd ra rb => Sys2Proof.Machine.execAmoswap c rd ra rb s
  | .fence c rd ra rb => Sys2Proof.Machine.execFence c rd ra rb s
  | .isync c rd ra rb => Sys2Proof.Machine.execIsync c rd ra rb s
  | .brk c rd ra rb => Sys2Proof.Machine.execBrk c rd ra rb s
  | .beqz c ra off => Sys2Proof.Machine.execBeqz c ra off s
  | .bnez c ra off => Sys2Proof.Machine.execBnez c ra off s
  | .bltz c ra off => Sys2Proof.Machine.execBltz c ra off s
  | .bgez c ra off => Sys2Proof.Machine.execBgez c ra off s
  | .bgtz c ra off => Sys2Proof.Machine.execBgtz c ra off s
  | .blez c ra off => Sys2Proof.Machine.execBlez c ra off s
  | .j c off => Sys2Proof.Machine.execJ c off s
  | .call c off => Sys2Proof.Machine.execCall c off s
  | .jr c rd ra rb => Sys2Proof.Machine.execJr c rd ra rb s
  | .jalr c rd ra rb => Sys2Proof.Machine.execJalr c rd ra rb s
  | .gate c rd ra imm => Sys2Proof.Machine.execGate c rd ra imm s
  | .retg c rd ra rb => Sys2Proof.Machine.execRetg c rd ra rb s
  | .eret c rd ra rb => Sys2Proof.Machine.execEret c rd ra rb s
  | .loop c n imm cnt len => Sys2Proof.Machine.execLoop c n imm cnt len s
  | .wait c rd ra rb => Sys2Proof.Machine.execWait c rd ra rb s
  | .poll c rd ra rb => Sys2Proof.Machine.execPoll c rd ra rb s
  | .wfe c rd ra rb => Sys2Proof.Machine.execWfe c rd ra rb s
  | .rdtim c rd ra rb => Sys2Proof.Machine.execRdtim c rd ra rb s
  | .japp c rd ra rb => Sys2Proof.Machine.execJapp c rd ra rb s
  | .lread c rd ra rb => Sys2Proof.Machine.execLread c rd ra rb s
  | .lwrite c rd ra rb => Sys2Proof.Machine.execLwrite c rd ra rb s
  | .respond c rd ra rb => Sys2Proof.Machine.execRespond c rd ra rb s
  | .ctxupd c rd ra rb => Sys2Proof.Machine.execCtxupd c rd ra rb s
  | .dma c rd ra rb => Sys2Proof.Machine.execDma c rd ra rb s
  | .slrel c rd ra rb => Sys2Proof.Machine.execSlrel c rd ra rb s
  | .kop c rd ra lo => Sys2Proof.Machine.execKop c rd ra lo s
  | .ticketComplete c t code => Sys2Proof.Machine.execTicketComplete c t code s
  | .dmaComplete o j => Sys2Proof.Machine.execDmaComplete o j s
  | .interruptEntry c => Sys2Proof.Machine.execInterruptEntry c s
  | .timerCompare c => Sys2Proof.Machine.execTimerCompare c s
  | .vbudgetExpiry c k => Sys2Proof.Machine.execVbudgetExpiry c k s
  | .wdogStage1 c => Sys2Proof.Machine.execWdogStage1 c s
  | .wdogStage2 c => Sys2Proof.Machine.execWdogStage2 c s
  | .vcRun c run => Sys2Proof.Machine.execVcRun c run s
  | .vcReset c run => Sys2Proof.Machine.execVcReset c run s
  | .vaultFill o h => Sys2Proof.Machine.execVaultFill o h s
  | .vaultFillDone o h => Sys2Proof.Machine.execVaultFillDone o h s
  | .readAttr o => Sys2Proof.Machine.execReadAttr o s
  | .retire o => Sys2Proof.Machine.execRetire o s
  | .delete o => Sys2Proof.Machine.execDelete o s
  | .evict o => Sys2Proof.Machine.execEvict o s
  | .keyCmdComplete o => Sys2Proof.Machine.execKeyCmdComplete o s
  | .zoneStart o => Sys2Proof.Machine.execZoneStart o s
  | .zoneStop o => Sys2Proof.Machine.execZoneStop o s
  | .zoneRekey o => Sys2Proof.Machine.execZoneRekey o s
  | .rekeyWalkEnd z => Sys2Proof.Machine.execRekeyWalkEnd z s
  | .zoneExport o => Sys2Proof.Machine.execZoneExport o s
  | .zoneLoad o => Sys2Proof.Machine.execZoneLoad o s
  | .zoneTransferDone z => Sys2Proof.Machine.execZoneTransferDone z s
  | .zoneRangeWrite o isCount v => Sys2Proof.Machine.execZoneRangeWrite o isCount v s
  | .kvBaseWrite o off v => Sys2Proof.Machine.execKvBaseWrite o off v s
  | .kvCfgWrite o v => Sys2Proof.Machine.execKvCfgWrite o v s
  | .create o j => Sys2Proof.Machine.execCreate o j s
  | .modify o j => Sys2Proof.Machine.execModify o j s
  | .ctxRead o j => Sys2Proof.Machine.execCtxRead o j s
  | .destroy o j => Sys2Proof.Machine.execDestroy o j s
  | .resetLimiter o j => Sys2Proof.Machine.execResetLimiter o j s
  | .ctxCmdComplete o => Sys2Proof.Machine.execCtxCmdComplete o s
  | .contextFillDone j => Sys2Proof.Machine.execContextFillDone j s
  | .contextWriteback j => Sys2Proof.Machine.execContextWriteback j s
  | .ctxupdStore c t => Sys2Proof.Machine.execCtxupdStore c t s
  | .ctxupdAdd c t => Sys2Proof.Machine.execCtxupdAdd c t s
  | .ctxupdRead c t => Sys2Proof.Machine.execCtxupdRead c t s
  | .pkQProdWrite o q v => Sys2Proof.Machine.execPkQProdWrite o q v s
  | .pkDoorbellStore c k v => Sys2Proof.Machine.execPkDoorbellStore c k v s
  | .pkDescriptorTake o => Sys2Proof.Machine.execPkDescriptorTake o s
  | .modexp o e => Sys2Proof.Machine.execModexp o e s
  | .rsaVerify o e => Sys2Proof.Machine.execRsaVerify o e s
  | .rsaSign o e => Sys2Proof.Machine.execRsaSign o e s
  | .rsaEncrypt o e => Sys2Proof.Machine.execRsaEncrypt o e s
  | .rsaDecrypt o e => Sys2Proof.Machine.execRsaDecrypt o e s
  | .ecdsaVerify o e => Sys2Proof.Machine.execEcdsaVerify o e s
  | .ecdsaSign o e => Sys2Proof.Machine.execEcdsaSign o e s
  | .ecdh o e => Sys2Proof.Machine.execEcdh o e s
  | .ed25519Verify o e => Sys2Proof.Machine.execEd25519Verify o e s
  | .ed25519Sign o e => Sys2Proof.Machine.execEd25519Sign o e s
  | .x25519 o e => Sys2Proof.Machine.execX25519 o e s
  | .pkgen o e => Sys2Proof.Machine.execPkgen o e s
  | .pkImport o e => Sys2Proof.Machine.execPkImport o e s
  | .pkRewrap o e => Sys2Proof.Machine.execPkRewrap o e s
  | .pkOperandsReady o e => Sys2Proof.Machine.execPkOperandsReady o e s
  | .pkResultIssue o e agree => Sys2Proof.Machine.execPkResultIssue o e agree s
  | .sealRequest o => Sys2Proof.Machine.execSealRequest o s
  | .sealComplete o fault => Sys2Proof.Machine.execSealComplete o fault s
  | .pkSelfTest o seals => Sys2Proof.Machine.execPkSelfTest o seals s
  | .pkSelfTestEnd o e pass => Sys2Proof.Machine.execPkSelfTestEnd o e pass s
  | .pkCfgWrite o v => Sys2Proof.Machine.execPkCfgWrite o v s
  | .pkQCfgWrite o q off v => Sys2Proof.Machine.execPkQCfgWrite o q off v s
  | .pkBfloorWrite o v => Sys2Proof.Machine.execPkBfloorWrite o v s
  | .strandAdmit k => Sys2Proof.Machine.execStrandAdmit k s
  | .journalExport o r => Sys2Proof.Machine.execJournalExport o r s
  | .jnXconsWrite o r v => Sys2Proof.Machine.execJnXconsWrite o r v s
  | .sealTrigger o => Sys2Proof.Machine.execSealTrigger o s
  | .genesis o => Sys2Proof.Machine.execGenesis o s
  | .sealNow o => Sys2Proof.Machine.execSealNow o s
  | .twinAckRx => Sys2Proof.Machine.execTwinAckRx s
  | .journalFrameRx => Sys2Proof.Machine.execJournalFrameRx s
  | .standbyChainVerify k => Sys2Proof.Machine.execStandbyChainVerify k s
  | .sealRecordRx => Sys2Proof.Machine.execSealRecordRx s
  | .deltaFrameRx => Sys2Proof.Machine.execDeltaFrameRx s
  | .checkpointTimer => Sys2Proof.Machine.execCheckpointTimer s
  | .checkpointSegmentRx => Sys2Proof.Machine.execCheckpointSegmentRx s
  | .checkpointEndRx => Sys2Proof.Machine.execCheckpointEndRx s
  | .heartbeatTx => Sys2Proof.Machine.execHeartbeatTx s
  | .heartbeatRx st ckpt => Sys2Proof.Machine.execHeartbeatRx st ckpt s
  | .heartbeatLoss => Sys2Proof.Machine.execHeartbeatLoss s
  | .probeTimeout => Sys2Proof.Machine.execProbeTimeout s
  | .probeRspRx => Sys2Proof.Machine.execProbeRspRx s
  | .twinLinkUp => Sys2Proof.Machine.execTwinLinkUp s
  | .swapStateRx p => Sys2Proof.Machine.execSwapStateRx p s
  | .swapReqRx => Sys2Proof.Machine.execSwapReqRx s
  | .swapAcceptRx => Sys2Proof.Machine.execSwapAcceptRx s
  | .swapCommitRx => Sys2Proof.Machine.execSwapCommitRx s
  | .swapDoneRx => Sys2Proof.Machine.execSwapDoneRx s
  | .swapRejectRx => Sys2Proof.Machine.execSwapRejectRx s
  | .swapDrainEnd => Sys2Proof.Machine.execSwapDrainEnd s
  | .twActivate => Sys2Proof.Machine.execTwActivate s
  | .twStandby => Sys2Proof.Machine.execTwStandby s
  | .twSwap => Sys2Proof.Machine.execTwSwap s
  | .twCheckpoint => Sys2Proof.Machine.execTwCheckpoint s
  | .twDetach => Sys2Proof.Machine.execTwDetach s
  | .twCfgWrite off v => Sys2Proof.Machine.execTwCfgWrite off v s
  | .twLinkKeyWrite v => Sys2Proof.Machine.execTwLinkKeyWrite v s
  | .join => Sys2Proof.Machine.execJoin s
  | .leave => Sys2Proof.Machine.execLeave s
  | .keyArm => Sys2Proof.Machine.execKeyArm s
  | .leaveTimeout => Sys2Proof.Machine.execLeaveTimeout s
  | .joinTimeout => Sys2Proof.Machine.execJoinTimeout s
  | .ringIsolateTimeout => Sys2Proof.Machine.execRingIsolateTimeout s
  | .ringHelloRx l => Sys2Proof.Machine.execRingHelloRx l s
  | .ringFrameRx l => Sys2Proof.Machine.execRingFrameRx l s
  | .presenceTx => Sys2Proof.Machine.execPresenceTx s
  | .presenceRx => Sys2Proof.Machine.execPresenceRx s
  | .presenceExpiry p => Sys2Proof.Machine.execPresenceExpiry p s
  | .segDownTimeout l => Sys2Proof.Machine.execSegDownTimeout l s
  | .timeSyncTx t0 t1 => Sys2Proof.Machine.execTimeSyncTx t0 t1 s
  | .timeSyncRx tin tout => Sys2Proof.Machine.execTimeSyncRx tin tout s
  | .pdelayReqTx l t1 => Sys2Proof.Machine.execPdelayReqTx l t1 s
  | .pdelayReqRx l t2 t3 => Sys2Proof.Machine.execPdelayReqRx l t2 t3 s
  | .pdelayRspRx l t4 => Sys2Proof.Machine.execPdelayRspRx l t4 s
  | .masterSelfElect => Sys2Proof.Machine.execMasterSelfElect s
  | .holdoverEntry => Sys2Proof.Machine.execHoldoverEntry s
  | .timeValidLoss => Sys2Proof.Machine.execTimeValidLoss s
  | .keySwitchTime => Sys2Proof.Machine.execKeySwitchTime s
  | .keySwitchCommit => Sys2Proof.Machine.execKeySwitchCommit s
  | .ringMgmtRx => Sys2Proof.Machine.execRingMgmtRx s
  | .crTxSend v => Sys2Proof.Machine.execCrTxSend v s
  | .crRxRead => Sys2Proof.Machine.execCrRxRead s
  | .ringProbeRx => Sys2Proof.Machine.execRingProbeRx s
  | .leaseReqReadRx => Sys2Proof.Machine.execLeaseReqReadRx s
  | .leaseReqSetRx => Sys2Proof.Machine.execLeaseReqSetRx s
  | .leaseReqAddRx => Sys2Proof.Machine.execLeaseReqAddRx s
  | .leaseRspRx => Sys2Proof.Machine.execLeaseRspRx s
  | .leaseMirrorRx => Sys2Proof.Machine.execLeaseMirrorRx s
  | .leaseMackRx => Sys2Proof.Machine.execLeaseMackRx s
  | .mirrorTmoExpiry n => Sys2Proof.Machine.execMirrorTmoExpiry n s
  | .ctrSyncRx => Sys2Proof.Machine.execCtrSyncRx s
  | .leaseRetry tag => Sys2Proof.Machine.execLeaseRetry tag s
  | .leaseReadDeadline tag => Sys2Proof.Machine.execLeaseReadDeadline tag s
  | .leaseWriteDeadline tag => Sys2Proof.Machine.execLeaseWriteDeadline tag s
  | .leaseExpiry e => Sys2Proof.Machine.execLeaseExpiry e s
  | .resultEntryExpiry req tag => Sys2Proof.Machine.execResultEntryExpiry req tag s
  | .ctrRead => Sys2Proof.Machine.execCtrRead s
  | .ctrSet => Sys2Proof.Machine.execCtrSet s
  | .clearAll => Sys2Proof.Machine.execClearAll s
  | .crCfgWrite off v => Sys2Proof.Machine.execCrCfgWrite off v s
  | .pcieReset down => Sys2Proof.Machine.execPcieReset down s
  | .msixUnmask v => Sys2Proof.Machine.execMsixUnmask v s
  | .rgProdWrite r v => Sys2Proof.Machine.execRgProdWrite r v s
  | .txDescriptorTake => Sys2Proof.Machine.execTxDescriptorTake s
  | .txFrameReadDone r err => Sys2Proof.Machine.execTxFrameReadDone r err s
  | .hostRxPull => Sys2Proof.Machine.execHostRxPull s
  | .hostRxComplete r => Sys2Proof.Machine.execHostRxComplete r s
  | .ringIrqModeration r => Sys2Proof.Machine.execRingIrqModeration r s
  | .rgCfgWrite r v => Sys2Proof.Machine.execRgCfgWrite r v s
  | .mbDataWrite cust ch k v => Sys2Proof.Machine.execMbDataWrite cust ch k v s
  | .mbSend cust ch v => Sys2Proof.Machine.execMbSend cust ch v s
  | .mbTake cust ch v => Sys2Proof.Machine.execMbTake cust ch v s
  | .mbAck cust ch v => Sys2Proof.Machine.execMbAck cust ch v s
  | .mbOvfClear ch => Sys2Proof.Machine.execMbOvfClear ch s
  | .mbChCfgWrite ch v => Sys2Proof.Machine.execMbChCfgWrite ch v s
  | .deviceWideWrite cust a v => Sys2Proof.Machine.execDeviceWideWrite cust a v s
  | .deviceWideApply => Sys2Proof.Machine.execDeviceWideApply s
  | .pgIrqRawWrite p v => Sys2Proof.Machine.execPgIrqRawWrite p v s
  | .pgIrqEnWrite p v => Sys2Proof.Machine.execPgIrqEnWrite p v s
  | .pgIrqForceWrite p v => Sys2Proof.Machine.execPgIrqForceWrite p v s
  | .pgErrInfoClear p v => Sys2Proof.Machine.execPgErrInfoClear p v s
  | .evcSelWrite p n v => Sys2Proof.Machine.execEvcSelWrite p n v s
  | .evcClr p => Sys2Proof.Machine.execEvcClr p s
  | .snapshotTake => Sys2Proof.Machine.execSnapshotTake s
  | .snapshotCapture p => Sys2Proof.Machine.execSnapshotCapture p s
  | .powerOn keep => Sys2Proof.Machine.execPowerOn keep s
  | .sysResetAssert => Sys2Proof.Machine.execSysResetAssert s
  | .startWarm => Sys2Proof.Machine.execStartWarm s
  | .startCold => Sys2Proof.Machine.execStartCold s
  | .fwLoad => Sys2Proof.Machine.execFwLoad s
  | .warmPrepDone => Sys2Proof.Machine.execWarmPrepDone s
  | .warmPrepTimeout => Sys2Proof.Machine.execWarmPrepTimeout s
  | .startStepDone ok bad => Sys2Proof.Machine.execStartStepDone ok bad s
  | .startStepTimeout => Sys2Proof.Machine.execStartStepTimeout s
  | .twinSyncTimeout => Sys2Proof.Machine.execTwinSyncTimeout s
  | .coldRetryTimer => Sys2Proof.Machine.execColdRetryTimer s
  | .custodyWdExpiry => Sys2Proof.Machine.execCustodyWdExpiry s
  | .deviceWdExpiry => Sys2Proof.Machine.execDeviceWdExpiry s
  | .glbWdKick v => Sys2Proof.Machine.execGlbWdKick v s
  | .wdKickStore c v => Sys2Proof.Machine.execWdKickStore c v s
  | .thermalSample temps => Sys2Proof.Machine.execThermalSample temps s
  | .thermalTrip => Sys2Proof.Machine.execThermalTrip s
  | .thermalRestartTimer => Sys2Proof.Machine.execThermalRestartTimer s
  | .undervoltageDetect rail => Sys2Proof.Machine.execUndervoltageDetect rail s
  | .pwOn cust => Sys2Proof.Machine.execPwOn cust s
  | .pwOff cust => Sys2Proof.Machine.execPwOff cust s
  | .domainTransitionDone d => Sys2Proof.Machine.execDomainTransitionDone d s
  | .wakeEvent d src => Sys2Proof.Machine.execWakeEvent d src s
  | .slowInputAccept j active => Sys2Proof.Machine.execSlowInputAccept j active s
  | .slowInputChatter j => Sys2Proof.Machine.execSlowInputChatter j s
  | .monitorArm m => Sys2Proof.Machine.execMonitorArm m s
  | .monitorDeparture m high => Sys2Proof.Machine.execMonitorDeparture m high s
  | .glitchAlarm m => Sys2Proof.Machine.execGlitchAlarm m s
  | .slowAlarm m high => Sys2Proof.Machine.execSlowAlarm m high s
  | .powerLossClassify m => Sys2Proof.Machine.execPowerLossClassify m s
  | .sequenceAlarm m => Sys2Proof.Machine.execSequenceAlarm m s
  | .stateAlarm m => Sys2Proof.Machine.execStateAlarm m s
  | .linkAlarm o => Sys2Proof.Machine.execLinkAlarm o s
  | .lkForce v => Sys2Proof.Machine.execLkForce v s
  | .aonAlarmLatch => Sys2Proof.Machine.execAonAlarmLatch s
  | .vbatMeasure mv => Sys2Proof.Machine.execVbatMeasure mv s
  | .custodyRegRead => Sys2Proof.Machine.execCustodyRegRead s
  | .custodyRegWrite => Sys2Proof.Machine.execCustodyRegWrite s
  | .custodyPower => Sys2Proof.Machine.execCustodyPower s
  | .fenceWrite => Sys2Proof.Machine.execFenceWrite s
  | .alarmRead => Sys2Proof.Machine.execAlarmRead s
  | .alarmClear => Sys2Proof.Machine.execAlarmClear s
  | .unlockBegin => Sys2Proof.Machine.execUnlockBegin s
  | .unlockEnd => Sys2Proof.Machine.execUnlockEnd s
  | .unlockSessionTimeout => Sys2Proof.Machine.execUnlockSessionTimeout s
  | .rootGenerate => Sys2Proof.Machine.execRootGenerate s
  | .lcAdvance => Sys2Proof.Machine.execLcAdvance s
  | .lcSetDigest => Sys2Proof.Machine.execLcSetDigest s
  | .zoneDigest => Sys2Proof.Machine.execZoneDigest s
  | .zoneLc => Sys2Proof.Machine.execZoneLc s
  | .zoneRecycle => Sys2Proof.Machine.execZoneRecycle s
  | .zoneSeedExport => Sys2Proof.Machine.execZoneSeedExport s
  | .zoneSeedImport => Sys2Proof.Machine.execZoneSeedImport s
  | .certRead => Sys2Proof.Machine.execCertRead s
  | .dbgChallenge => Sys2Proof.Machine.execDbgChallenge s
  | .dbgResponse => Sys2Proof.Machine.execDbgResponse s
  | .dbgClose => Sys2Proof.Machine.execDbgClose s
  | .writeRegion cust => Sys2Proof.Machine.execWriteRegion cust s
  | .readRegion cust => Sys2Proof.Machine.execReadRegion cust s
  | .writeDefault cust => Sys2Proof.Machine.execWriteDefault cust s
  | .readDefault cust => Sys2Proof.Machine.execReadDefault cust s
  | .logClear cust => Sys2Proof.Machine.execLogClear cust s
  | .flashRead => Sys2Proof.Machine.execFlashRead s
  | .flashProgram => Sys2Proof.Machine.execFlashProgram s
  | .flashErase => Sys2Proof.Machine.execFlashErase s
  | .flashProtect => Sys2Proof.Machine.execFlashProtect s
  | .flashUnprotect => Sys2Proof.Machine.execFlashUnprotect s
  | .flashUnlock => Sys2Proof.Machine.execFlashUnlock s
  | .flashRelock => Sys2Proof.Machine.execFlashRelock s
  | .flashSetPassword => Sys2Proof.Machine.execFlashSetPassword s
  | .flashOpDone corr uncorr fail => Sys2Proof.Machine.execFlashOpDone corr uncorr fail s
  | .gapMoveDone => Sys2Proof.Machine.execGapMoveDone s
  | .csWrite => Sys2Proof.Machine.execCsWrite s
  | .csRead => Sys2Proof.Machine.execCsRead s
  | .eraseBoth => Sys2Proof.Machine.execEraseBoth s
  | .csWriteDone ok => Sys2Proof.Machine.execCsWriteDone ok s
  | .seedBlockComplete => Sys2Proof.Machine.execSeedBlockComplete s
  | .healthRateWindow => Sys2Proof.Machine.execHealthRateWindow s
  | .drbgGenerate j => Sys2Proof.Machine.execDrbgGenerate j s
  | .drbgDraw j => Sys2Proof.Machine.execDrbgDraw j s
  | .drbgReseedDue j => Sys2Proof.Machine.execDrbgReseedDue j s
  | .drbgReseedDone fault => Sys2Proof.Machine.execDrbgReseedDone fault s
  | .reseed j => Sys2Proof.Machine.execReseed j s
  | .reinstantiate j => Sys2Proof.Machine.execReinstantiate j s
  | .tapStart k => Sys2Proof.Machine.execTapStart k s
  | .tapStop => Sys2Proof.Machine.execTapStop s
  | .tapFull => Sys2Proof.Machine.execTapFull s
  | .rngCfgWrite v => Sys2Proof.Machine.execRngCfgWrite v s
  | .rngTpCtlWrite v => Sys2Proof.Machine.execRngTpCtlWrite v s
  | .cardInsert => Sys2Proof.Machine.execCardInsert s
  | .cardPowerTimer => Sys2Proof.Machine.execCardPowerTimer s
  | .cardReset => Sys2Proof.Machine.execCardReset s
  | .identify => Sys2Proof.Machine.execIdentify s
  | .authInit => Sys2Proof.Machine.execAuthInit s
  | .authProof => Sys2Proof.Machine.execAuthProof s
  | .authFinish => Sys2Proof.Machine.execAuthFinish s
  | .readShare => Sys2Proof.Machine.execReadShare s
  | .begin => Sys2Proof.Machine.execBegin s
  | .enroll => Sys2Proof.Machine.execEnroll s
  | .writeShare => Sys2Proof.Machine.execWriteShare s
  | .commit => Sys2Proof.Machine.execCommit s
  | .abort => Sys2Proof.Machine.execAbort s
  | .cardResponseRx frame => Sys2Proof.Machine.execCardResponseRx frame s
  | .waitExtensionRx b => Sys2Proof.Machine.execWaitExtensionRx b s
  | .cardResponseDeadline => Sys2Proof.Machine.execCardResponseDeadline s
  | .cardDataBlock data crc => Sys2Proof.Machine.execCardDataBlock data crc s
  | .cardRawRemoval out => Sys2Proof.Machine.execCardRawRemoval out s
  | .cardRemoval => Sys2Proof.Machine.execCardRemoval s
  | .generationTimeout => Sys2Proof.Machine.execGenerationTimeout s
  | .eject => Sys2Proof.Machine.execEject s
  | .clearUnknown => Sys2Proof.Machine.execClearUnknown s
  | .revoke => Sys2Proof.Machine.execRevoke s
  | .clearLog => Sys2Proof.Machine.execClearLog s
  | .cbCfgWrite v => Sys2Proof.Machine.execCbCfgWrite v s
  | .badgePing amp => Sys2Proof.Machine.execBadgePing amp s
  | .fieldCycleTimeout => Sys2Proof.Machine.execFieldCycleTimeout s
  | .anticollRetryTimer => Sys2Proof.Machine.execAnticollRetryTimer s
  | .wupa => Sys2Proof.Machine.execWupa s
  | .hlta uid atqa sak => Sys2Proof.Machine.execHlta uid atqa sak s
  | .originRead => Sys2Proof.Machine.execOriginRead s
  | .originVerifyDone => Sys2Proof.Machine.execOriginVerifyDone s
  | .auth1 => Sys2Proof.Machine.execAuth1 s
  | .auth2 => Sys2Proof.Machine.execAuth2 s
  | .passAuth => Sys2Proof.Machine.execPassAuth s
  | .countRead => Sys2Proof.Machine.execCountRead s
  | .countStep => Sys2Proof.Machine.execCountStep s
  | .setKey => Sys2Proof.Machine.execSetKey s
  | .kill => Sys2Proof.Machine.execKill s
  | .badgeResponseRx data ok => Sys2Proof.Machine.execBadgeResponseRx data ok s
  | .badgeResponseTimeout left => Sys2Proof.Machine.execBadgeResponseTimeout left s
  | .lnTestCfgWrite n v => Sys2Proof.Machine.execLnTestCfgWrite n v s
  | .prbsInject n => Sys2Proof.Machine.execPrbsInject n s
  | .dramOut d => Sys2Proof.Machine.execDramOut d s
  | .dramIn d => Sys2Proof.Machine.execDramIn d s
  | .dramCycle d => Sys2Proof.Machine.execDramCycle d s
  | .dramDrainDone d => Sys2Proof.Machine.execDramDrainDone d s
  | .dramDrainTimeout d => Sys2Proof.Machine.execDramDrainTimeout d s
  | .dramCloseDone d => Sys2Proof.Machine.execDramCloseDone d s
  | .dramBistDone d sram => Sys2Proof.Machine.execDramBistDone d sram s
  | .coreBist o k => Sys2Proof.Machine.execCoreBist o k s
  | .reload o k => Sys2Proof.Machine.execReload o k s
  | .coreTestDone o pass => Sys2Proof.Machine.execCoreTestDone o pass s
  | .verdictDrainTimeout o => Sys2Proof.Machine.execVerdictDrainTimeout o s
  | .isolate o => Sys2Proof.Machine.execIsolate o s
  | .restore o => Sys2Proof.Machine.execRestore o s
  | .isolationStepDone o => Sys2Proof.Machine.execIsolationStepDone o s
  | .testLogicReset => Sys2Proof.Machine.execTestLogicReset s
  | .extest => Sys2Proof.Machine.execExtest s
  | .idcode => Sys2Proof.Machine.execIdcode s
  | .samplePreload => Sys2Proof.Machine.execSamplePreload s
  | .highz => Sys2Proof.Machine.execHighz s
  | .clamp => Sys2Proof.Machine.execClamp s
  | .extestPulse => Sys2Proof.Machine.execExtestPulse s
  | .extestTrain => Sys2Proof.Machine.execExtestTrain s
  | .coreSel c => Sys2Proof.Machine.execCoreSel c s
  | .coreAccessRead a => Sys2Proof.Machine.execCoreAccessRead a s
  | .coreAccessWrite a v => Sys2Proof.Machine.execCoreAccessWrite a v s
  | .coreAccessHalt => Sys2Proof.Machine.execCoreAccessHalt s
  | .coreAccessRun => Sys2Proof.Machine.execCoreAccessRun s
  | .custDbg => Sys2Proof.Machine.execCustDbg s
  | .bypass => Sys2Proof.Machine.execBypass s
  | .noriolysFrameTx j => Sys2Proof.Machine.execNoriolysFrameTx j s
  | .noiseSourceSample k raw => Sys2Proof.Machine.execNoiseSourceSample k raw s
  | .prbsLockChange n lock bits errs => Sys2Proof.Machine.execPrbsLockChange n lock bits errs s
  | .pllRelock o pll => Sys2Proof.Machine.execPllRelock o pll s
  | .crossOunceLinkRestored a b => Sys2Proof.Machine.execCrossOunceLinkRestored a b s
  | .hiBerWindow n bad => Sys2Proof.Machine.execHiBerWindow n bad s
  | .sysResetDeassert => Sys2Proof.Machine.execSysResetDeassert s
  | .pcieResetEnd width speed => Sys2Proof.Machine.execPcieResetEnd width speed s

end Sys2Proof.Machine
end

