-- ==== Sys2Proof/Machine/Idle.lean ====
section
/-!
DEFINITION. What the device does when no command waits: one nanosecond passes (log entry 1).
-/
namespace Sys2Proof.Machine

/-- The condition of an event holds on a page, for an event whose condition is a state (Table 14.8). -/
def State.evHolds (s : State) (p ev : Nat) : Bool :=
  if ev = 0x01 then true
  else if ev = 0x02 then s.irqOut p != 0
  else if 0x20 ≤ ev ∧ ev < 0x40 then (s.rd (pra p 0x010)).toNat.testBit (ev - 0x20)
  else false

/-- The event counter at a BAR address counts one time unit (R487): mode DURATION, a condition that holds, not frozen. -/
def evcTime (s : State) (a : Nat) : State :=
  let p := a / 0x1000
  let sel := s.rd a
  let unit := getField sel 24 16
  if (unit = 0x1FF ∨ unit = 0) ∧ s.evHolds p (getField sel 7 0) ∧ s.fld (pra p 0x008) 0 0 = 0 then
    let n := (s.rd (a + 4)).toNat + s.fld (a + 8) 15 0 * 2 ^ 32 + 1
    let s := if n > 2 ^ 48 - 1 then s.setFld a 31 31 1 else s
    s.wr64 (a + 4) (min n (2 ^ 48 - 1))
  else s

/-- The selectors that name DURATION and whose page counts in this nanosecond: an ounce page with every nanosecond of TIM, a
custody page with every tenth (R487). -/
def State.durations (s : State) : List Nat :=
  let due (p : Nat) : Bool := if pageDie p = 4 then decide (s.clk.ns % 10 = 0) else !s.clk.held
  (s.regs.filter fun e =>
    decide (e.1 < bar2) && decide (0x40 ≤ e.1 % 0x1000 ∧ e.1 % 0x1000 < 0x80) && decide (e.1 % 16 = 0) &&
      decide (getField e.2 9 8 = 2) && due (e.1 / 0x1000)).map (·.1)

/-- GLB_WD_CNT goes down by one with every millisecond of TIM while the device watchdog counts (R505). -/
def State.wdTick (s : State) : State :=
  if !s.clk.held && decide (s.clk.tim % 1000000 = 0) && s.deviceWdCounts then s.setFld (glReg 0x288) 15 0 (s.fld (glReg 0x288) 15 0 - 1) else s

/-- One nanosecond of the custody clock; the TIM counter follows unless it is held (R35). -/
def State.tick (s : State) : State :=
  let s : State :=
    { s with clk := { s.clk with ns := s.clk.ns + 1, tim := if s.clk.held then s.clk.tim else (s.clk.tim + 1) % 2 ^ 64 } }
  s.durations.foldl evcTime s.wdTick

end Sys2Proof.Machine
end

