-- ==== Sys2Proof/Safety.lean ====
section
/-!
DEFINITION. What counts as a safe step and a well-kept state. Every command the spec lists has an effect, so a safe step answers a
next state; a well-kept state holds its registers, counters, domains and memory in their canonical form, so that what was
written is read back.
-/
namespace Sys2Proof

/-- The outcome is a next state. -/
def Safe (o : Machine.Outcome) : Prop := ∃ t, o = .next t

namespace Machine

/-- The canonical form of the tables every command reads and writes: registers, counters, power domains and memory. -/
def State.canon (s : State) : Bool :=
  tblWf resetWord s.regs && tblWf (fun _ => (0 : Word)) s.ctrs && tblWf domDefault s.dom && Memory.wf s.mem

/-- Core `c` issues its next instruction: it runs, its boundary takes nothing first, and the instruction can be fetched. -/
def State.ready (s : State) (c : Nat) : Bool :=
  let x := s.core c
  s.coreRuns c && (s.boundary c).isNone && decide (x.pc.toNat < 2 ^ 17) && (s.fenceFail (128 + c) (clsRing x.ring) accX x.pc.toNat 4).isNone

/-- Core `c` completes the instruction at PC with `v` in rd, and goes on with the next word. -/
def State.writesBack (s : State) (c : Nat) (rd : BitVec 5) (v : Word) : State :=
  (s.setReg c rd.toNat v).complete c ((s.core c).pc + 4)

/-- Core `c` completes a transfer at PC: the next word is its delay slot, and `n` follows it (R243). -/
def State.transfers (s : State) (c : Nat) (pc n : Word) (link : Nat) (old : Word) : State :=
  (s.modCore c fun y => { y.tick with pc := pc + 4, ds := some { src := pc, target := n, link := link, old := old } }).coreCounts c (s.core c)

/-- An arithmetic flag that the executing ring does not trap on (R235). -/
def State.untrapped (s : State) (c : Nat) (v dz : Bool) : Bool :=
  let x := s.core c
  !(v && nth false x.tov x.ring) && !(dz && nth false x.tdz x.ring)

/-- What core `c` finds in its store buffer can drain without a LATE_STORE (R284). -/
def State.drains (s : State) (c : Nat) : Bool := ((s.drain c).core c).late.isNone

/-- The command custody serves next stands in channel `ch`: its words are `w`, its code `code` (R554). -/
def State.custodyServes (s : State) (code ch : Nat) (w : List Nat) : Bool :=
  !s.cus.invalid.contains 4 && decide (s.custHead = some ch) && decide ((s.mbox ch).data.map BitVec.toNat = w) && decide (nth 0 w 0 = code)

end Machine
end Sys2Proof
end

