-- ==== Sys2Proof/Certificates/Slice0/Obligations.lean ====
section
/-!
DEFINITION. The statements of this model. Each says, for the commands it names, under which conditions a command takes effect
and what the state after it holds; the frame, queue and invariant statements stand at the end.
-/
open Sys2Proof Sys2Proof.Machine

/-! ### Lanes and ports (chapter 2) -/

/-- Each event of the lane state machine, in the state its clause names, takes the lane where the clause says (R49, R56, R62, R64–R66).
Entering a state is the model's `acquire`, `train`, `toState` or a write to LN_STATE.STATE alone. -/
def Obligations.LaneEventsFollowTheLaneStates : Prop :=
  ∀ (s : State) (n : Nat), s.canon →
    (s.lnState n = 1 → exec (.clause73PageRx n) s = .next (s.setLnFlag n 11 true)) ∧
    (s.lnState n = 1 → s.lnCfg n 3 = false → ∃ t, exec (.signalLock n) s = .next t ∧ t.lnState n = 3) ∧
    (∀ tx rx, s.lnState n = 2 → ∃ t, exec (.trainDone n tx rx) s = .next t ∧ t.lnState n = 3 ∧
      t.rd (lnReg n 0x08) = tx &&& 0x3F3F3F) ∧
    (s.lnState n = 2 → exec (.trainTimeout n) s = .next ((((s.acquire n).setLnFlag n 13 true).lnStatus n 0x103).lnBump n 16 1)) ∧
    (∀ tx rx, s.lnState n = 4 → ∃ t, exec (.eqCoeffUpdate n tx rx) s = .next t ∧ t.lnState n = 4 ∧
      t.rd (lnReg n 0x08) = tx &&& 0x3F3F3F ∧ t.fld (lnReg n 0x0C) 31 31 = s.fld (lnReg n 0x0C) 31 31) ∧
    ((s.lane n).kept = true → s.lnState n = 3 → exec (.keepUpTimeout n) s = .next ((s.setFld (lnReg n 0x0C) 31 31 0).train n)) ∧
    (s.lnState n = 3 → exec (.alignTimeout n) s = .next (((s.acquire n).lnStatus n 0x106).lnBump n 15 1)) ∧
    (s.lnState n = 4 → exec (.linkLoss n) s = .next (((s.acquire n).linkEvent n true).lnBump n 14 1)) ∧
    (s.lnState n = 5 → s.lnFlag n 8 = false → ∃ t, exec (.faultClearTimeout n) s = .next t ∧ t.lnState n = 4) ∧
    (∀ remote : Bool, s.lnState n = 4 → s.lnFlag n (if remote then 10 else 9) = false →
      exec (.faultOrderedSetRx n remote) s =
        .next ((s.setLnFlag n (if remote then 10 else 9) true).lnBump n (if remote then 9 else 8) 1)) ∧
    (∃ t, exec (.faultCeaseTimeout n) s = .next t ∧ t.lnFlag n 9 = false ∧ t.lnFlag n 10 = false ∧ t.lnState n = s.lnState n) ∧
    (∀ bad, s.lnCfg n 2 = false → exec (.hiBerWindow n bad) s = .next (s.hiBer n bad)) ∧
    (s.portOf n = n → s.lnState n = 4 →
      exec (.lrxLossOfLock n) s = .next ((s.setLnFlag n 5 false).linkLoss n)) ∧
    (∀ bad bits syms, s.portOf n = n → s.lnCfg n 2 = true → exec (.fecCodewordDecoded n bad bits syms) s =
      .next ((s.fecCount n bad bits syms).hiBer n (decide (3 ≤ ((s.fecCount n bad bits syms).lane n).cwBad.length)))) ∧
    (s.lnState n = 3 → exec (.alignLocksReached n) s = .next (((s.laneLocked n).linkEvent n false).laneJoins n) ∧
      (s.laneLocked n).lnState n = 4)

/-- The register writes and commands of a lane whose page is on, and the slots of its control lane (R35, R52–R55, R59, R60,
R69–R71, R109): an accepted one completes with the effect of its clause. -/
def Obligations.LaneCommandsTakeEffect : Prop :=
  ∀ (s : State) (n : Nat) (v : Reg),
    (∃ t, exec .timPllLoss s = .next t ∧ t.clk.held = true ∧ t.clk.tim = s.clk.tim ∧ (s.ringState ≠ 2 → t.regs = s.regs ∧ t.mem = s.mem)) ∧
    (∀ d, s.pageLive (pageNo tLN d) = true → ∃ t, exec (.portmodeWrite d v) s = .next (t.took (pageNo tLN d)) ∧
      t = [0, 1, 2, 3].foldl (portmodeBit d v) s) ∧
    (∀ d k, s.canon → k < 4 → (∀ i < 4, s.lnState (16 * d + 4 * k + i) = 0) →
      (portmodeBit d v s k).fld (ra tLN d 0xF00) k k = getField v k k) ∧
    (s.pageLive (lanePage n) = true → s.portOf n = n → s.rd (lnReg n 0x00) = 0 → s.lnState n = 0 → v &&& 0x18 ≠ 0x18 →
      exec (.lnCfgWrite n v) s = .next ((s.wr (lnReg n 0x00) (v &&& 0xFD)).took (lanePage n))) ∧
    (s.pageLive (lanePage n) = true → getField v 5 0 + getField v 13 8 + getField v 21 16 ≤ 63 → 24 ≤ getField v 13 8 →
      exec (.lnTxeqWrite n v) s = .next ((s.wr (lnReg n 0x08) (v &&& 0x3F3F3F)).took (lanePage n))) ∧
    (s.pageLive (lanePage n) = true → s.portOf n = n → ∃ m, 64 ≤ m ∧ m ≤ 16128 ∧
      (64 ≤ getField v 13 0 → getField v 13 0 ≤ 16128 → m = getField v 13 0) ∧
      exec (.lnMaxframeWrite n v) s = .next ((s.wrn (lnReg n 0x10) m).took (lanePage n))) ∧
    (s.pageLive (lanePage n) = true → s.portOf n = n → s.lnState n = 0 → s.lnCfg n 0 = true → (n < 1024 → s.domOn (n / 16) = true) →
      exec (.lnUp n 0) s = .next (((s.acquire n).lnStatus n 0).took (lanePage n))) ∧
    (s.pageLive (lanePage n) = true → s.portOf n = n →
      exec (.lnDown n 0) s = .next (((s.portOff n).lnStatus n 0).took (lanePage n))) ∧
    (s.pageLive (lanePage n) = true → s.portOf n = n → s.lnState n ≠ 0 →
      exec (.lnTest n 0) s = .next (((s.laneTest n).lnStatus n 0).took (lanePage n))) ∧
    (s.pageLive (lanePage n) = true → s.portOf n = n → s.lnState n = 4 →
      exec (.lnRetrain n 0) s = .next (((s.train n).lnStatus n 0).took (lanePage n))) ∧
    (s.pageLive (lanePage n) = true → exec (.lnClrCnt n 0) s = .next ((s.clearLane n).took (lanePage n))) ∧
    (n < 1024 → s.lnCfg n 7 = true → s.portOf n = n → s.lnState n = 4 → ((s.lnBump n 17 1).lane n).txSlot = 1023 →
      exec (.controlSlotTx n) s = .next ((s.lnBump n 17 1).modLane n fun l => { l with txSlot := 0, cvlLast := cvlMarker })) ∧
    (∀ w, n < 1024 → s.lnCfg n 7 = true → s.portOf n = n → s.lnState n = 4 → s.lnFlag n 15 = true → (s.lane n).rxSlot < 1023 →
      exec (.controlSlotRx n w) s = .next ((s.lnBump n 18 1).setLane n { s.lane n with rxSlot := (s.lane n).rxSlot + 1 }))

/-! ### Line-rate authenticated encryption (chapter 3) -/

/-- A frame on its way through a protected or plain port (R81, R91, R92, R96, R99, R102, R105, R110, R138, R683): each of its
events, under the conditions of its clause, has the effect written there. -/
def Obligations.FrameEventsTakeEffect : Prop :=
  ∀ (s : State) (n k : Nat) (f : Frame) (d : List Byte),
    (n < 1024 → s.portOf n = n → s.lnState n = 4 → (s.lane n).rxCur = none → (s.lane n).rxDrop = 0 → (s.lane n).rxSkip = false →
      s.lockInForce = false → s.portsOpen = true → etherType d ≠ 0x8808 → s.fld (scPort n) 0 0 = 0 →
      exec (.rxFrameStart n d) s = .next (s.admitFrame n
        { src := n, data := d, rxTime := s.clk.tim, dmac := d.take 6, smac := sliceBytes d 6 6, place := .ingress })) ∧
    (∀ rest err, (s.lane n).rxCur = some k → s.frame k = some f → f.data.length + rest.length ≤ s.fld (lnReg n 0x10) 13 0 →
      exec (.rxFrameEnd n rest err) s =
        .next ((s.modLane n fun x => { x with rxCur := none, rxDrop := 0, rxDropData := [], rxSkip := false }).finishFrame n k f rest err)) ∧
    ((s.lane n).rxCur = some k →
      exec (.rxOversizeDetect n) s =
        .next ((s.modLane n fun x => { x with rxCur := none, rxDrop := 0, rxDropData := [], rxSkip := true }).oversize k)) ∧
    (s.frame n = some f → f.place = .waiting → s.lockInForce = false → s.firstWaiting n f = true →
      exec (.grainDispatch n) s = .next (s.dispatchIn n f)) ∧
    (∀ l, s.frame n = some f → f.place = .staged l → s.portProtect l = true → f.egGang = 0 → s.freeGrainsOf (grainDirKey l true) ≠ 0 →
      s.lockInForce = false →
      exec (.grainDispatch n) s = .next ((s.takeGrains (grainDirKey l true) (min (s.gangSize l) (s.freeGrainsOf (grainDirKey l true)))).modFrame n
        fun x => { x with egGang := min (s.gangSize l) (s.freeGrainsOf (grainDirKey l true)),
                          egPartial := decide (s.freeGrainsOf (grainDirKey l true) < s.gangSize l) })) ∧
    (s.frame n = some f → f.src < 1024 → f.prot = true → f.gang ≠ 0 → f.icv = 0 → f.ended = 1 → f.recvIcv = f.calcIcv →
      exec (.icvResult n) s =
        .next ((s.freeGrains (grainDirKey f.src false) f.gang).modFrame n fun x => { x with icv := 1 })) ∧
    (s.frame n = some f → f.src < 1024 → f.prot = true → f.trust = .pending → f.icv = 2 → f.ended = 1 → s.earlierUncommitted n f = false →
      exec (.commitCheck n) s = .next (s.resolveTrust n 1)) ∧
    (s.frame n = some f → f.src < 1024 → f.prot = true → f.trust = .pending → f.icv = 1 → f.ended = 1 → s.earlierUncommitted n f = false →
      ((s.ctx f.ctx).saOf f.recNo).keyHandle = f.saRec.keyHandle → ((s.ctx f.ctx).saOf f.recNo).suite = f.saRec.suite →
      (s.ctx f.ctx).rxSci = f.sci → replayFails ((s.ctx f.ctx).saOf f.recNo) (nth 0 (s.ctx f.ctx).bitmap f.recNo) f.pn = false →
      exec (.commitCheck n) s = .next ((s.markPn f.ctx f.recNo f.pn).resolveTrust n 0)) ∧
    (s.frame n = some f → f.trust = .pass → f.known = .pending → exec (.trustOutcomeArrival n) s = .next (s.applyOutcome n)) ∧
    (∀ l, (s.lane l).txCur = some n → s.frame n = some f → f.ended = 1 →
      (f.known = .pass → exec (.egressIcvEmit l) s = .next (s.endTx l 0)) ∧
      (f.known = .fail → exec (.egressIcvEmit l) s = .next (s.endTx l 1))) ∧
    (∀ l, l < 1024 → s.portOf l = l → s.lnState l = 4 → s.lnFlag l 9 = false → s.lnFlag l 10 = false → (s.lane l).txCur = none →
      s.lockInForce = false → s.lnCfg l 7 = true → (s.growCvl l).lnCfg l 7 = true → (s.growCvl l).nextStaged l = some (n, f) →
      (s.growCvl l).cutThrough n f = true → (s.growCvl l).portProtect l = false →
      exec (.txFrameStart l) s = .next (((s.growCvl l).setFrame n { f with place := .sending l }).modLane l
        fun y => { y with txCur := some n, vclk := f.tag.getD y.vclk }))

/-- The known-answer rotation of the grains and the commands of the protection page (R112–R120). -/
def Obligations.ProtectionCommandsTakeEffect : Prop :=
  ∀ (s : State) (k d r i : Nat),
    (s.katRuns k = true → ∃ t, exec (.katSlotExpiry k) s = .next t ∧
      t = s.setGrainDir k { s.grainDir k with turn := ((s.grainDir k).turn + 1) % 10, inTest := false, vec := 0 }) ∧
    (s.katRuns k = true → (s.grainDir k).inTest = false → exec (.katTestEnter k) s =
      .next ((s.setGrainDir k { s.grainDir k with inTest := true, vec := 0 }).katStat k (s.grainDir k).turn)) ∧
    (s.katRuns k = true → (s.grainDir k).inTest = true → (s.grainDir k).vec < 15 → exec (.grainKatVector k true) s =
      .next (s.setGrainDir k { s.grainDir k with vec := (s.grainDir k).vec + 1 })) ∧
    (∀ v, s.pageLive (pageNo tSC d) = true → s.lockInForce = false → s.rotating d = true → bitAt v 0 = true → getField v 15 8 ≠ 0 →
      exec (.scKatCtlWrite d v) s = .next ((s.wrn (ra tSC d 0x10C) (getField v 15 8 * 256 + 1)).took (pageNo tSC d))) ∧
    (∀ n v, s.pageLive (scPage n) = true → s.portOf n = n → s.lnState n = 0 →
      exec (.scPortWrite n v) s = .next ((s.wr (scPort n) (v &&& 5)).took (scPage n))) ∧
    (∀ key u, s.pageLive (pageNo tSC d) = true → s.fld (saStatus d) 31 31 = 0 → r ≤ 5 → (s.ctx i).valid = true →
      (s.ctx i).port < 1024 → (s.ctx i).port / 16 = d →
      (s.took (pageNo tSC d)).saCheck d i r (SaRec.decode ((s.took (pageNo tSC d)).saStage d)) = (.ok key, u) →
      ∃ w, exec (.saInstall d r i) s = .next (State.saDone w d 0)) ∧
    (s.pageLive (pageNo tSC d) = true → s.fld (saStatus d) 31 31 = 0 → r ≤ 5 → (s.ctx i).valid = true →
      (s.ctx i).port < 1024 → (s.ctx i).port / 16 = d →
      exec (.saDisable d r i) s = .next ((s.took (pageNo tSC d)).saDisable d i r) ∧
      exec (.saRead d r i) s = .next ((s.took (pageNo tSC d)).saRead d i r)) ∧
    (∃ t, exec (.saCmdComplete d) s = .next t ∧ t = s.setFld (saStatus d) 31 31 0) ∧
    (∀ e es lost, s.pageLive (pageNo tSC d) = true → cget {} s.fab.scEvents d = ⟨e :: es, lost⟩ →
      ∃ t, exec (.scEventRead d) s = .next t ∧ t.lastRead = BitVec.ofNat 64 (2 ^ 31 + e + (if lost then 2 ^ 30 else 0)) ∧
        t.fab.scEvents = cput {} ⟨es, false⟩ d s.fab.scEvents ∧ t.regs = s.regs)

/-! ### Queues, arbiters and the control virtual lane (chapter 4) -/

/-- Classification, the forwarding table, the congestion map and the queues (R122–R126, R130, R132, R134, R140, R141, R155, R158). -/
def Obligations.QueueCommandsTakeEffect : Prop :=
  ∀ (s : State) (n q o : Nat) (f : Frame) (v : Reg),
    (∀ p c, (s.refreshBody n).frame n = some f → f.place = .ingress → f.src < 1024 → f.prot = false →
      (s.refreshBody n).framePlynun f = false → (s.refreshBody n).toService f = false → (s.refreshBody n).route f = .ok (p, c) →
      exec (.firstBlocksClassify n) s = .next (((s.refreshBody n).modFrame n fun x => { x with
        fwd := true, limited := false, cls := c, place := .noticed (queueOf p c), endNoted := decide (f.ended ≠ 0) }).chargeFrame n)) ∧
    (s.fab.ftOp = none → (s.ftEntry o).port ≤ 1024 → s.ftCount 0 < 65536 →
      exec (.ftAdd o) s = .next (((({ s with fab := { s.fab with ftOp := some ⟨1, s.ftStaged o, s.ftEntry o⟩ } } : State).ftApply 0
        ⟨1, s.ftStaged o, s.ftEntry o⟩).ftStatus 0 1).took (ozPage o))) ∧
    (∀ x, s.fab.ftOp = none → oget s.fab.ft (ftKey 0 (s.ftStaged o)) = some x →
      exec (.ftDelete o) s = .next (((({ s with fab := { s.fab with ftOp := some ⟨2, s.ftStaged o, {}⟩ } } : State).ftApply 0
        ⟨2, s.ftStaged o, {}⟩).ftStatus 0 1).took (ozPage o))) ∧
    (∀ x, s.fab.ftOp = none → oget s.fab.ft (ftKey 0 (s.ftStaged o)) = some x → ∃ t u : State, exec (.ftLookup o) s = .next t ∧ t = State.took u (ozPage o) ∧
        u = ((({ s with fab := { s.fab with ftOp := some ⟨3, s.ftStaged o, {}⟩ } } : State).ftApply 0
          ⟨3, s.ftStaged o, {}⟩).ftStatus 0 1).wrn (ftReg o 0x10) (x.port + x.cls * 2 ^ 16 + b2n x.clsValid * 2 ^ 21)) ∧
    (∀ c, s.fab.ftOp = some c → ∃ u : State, u = [1, 2, 3].foldl (fun s o => s.ftApply o c) s ∧
      exec .ftCmdComplete s = .next (({ u with fab := { u.fab with ftOp := none } } : State).ftStatus 0 0)) ∧
    (∀ b, exec (.congMapPropagate o b) s =
      .next { s with fab := { s.fab with congCopy := cput false (s.congTruth b) (congKey o b) s.fab.congCopy } }) ∧
    (s.pageLive (queuePage q) = true → getField v 9 0 ≠ 0 →
      exec (.dqQcfgWrite q v) s = .next (((s.wr (queueCfg q) (v &&& 0xFFFF03FF)).updateCong q).took (queuePage q))) ∧
    (s.pageLive (dqPage n) = true → getField v 6 5 ≠ 3 → exec (.dqPortWrite n v) s = .next ((s.wr (dqPort n) (v &&& 0x3FF)).took (dqPage n))) ∧
    (s.frame n = some f → f.place = .noticed q → 1024 ≤ queueLane q → exec (.enqueueNotice n) s =
      .next ((((s.modFrame n fun x => { x with place := .queued q, enqT := s.clk.tim }).setQueue q (s.queue q ++ [n])).updateCong q).newHead q)) ∧
    (∀ ns, s.queue q = n :: ns → s.frame n = some f → f.tag = none → s.portProtect (queueLane q) = false →
      exec (.queueHeadStamp q) s = .next (s.stamp q n f)) ∧
    (s.frame n = some f → f.ended = 1 → f.endNoted = false → f.fwd = true → f.place = .noticed q →
      exec (.endNotice n) s = .next (s.modFrame n fun x => { x with endNoted := true })) ∧
    (∀ ns, s.queue q = n :: ns → s.frame n = some f → 32768 ≤ q → s.fld (ra tHI 0 0x108) 15 0 = 0 → 1000000 < s.clk.tim - f.enqT →
      exec (.holdExpiry q) s = .next (s.dropQueued q n 3))

/-- The five arbiter levels and the cross-ounce links (R135–R138, R142, R146, R147): each grant acts on the frame it picks. -/
def Obligations.ArbitersAndLinksTakeEffect : Prop :=
  ∀ (s : State) (l n a b ch : Nat) (f : Frame),
    (l < 1024 → (s.lane l).nominee = none → exec (.level1Nominate l) s =
      .next (s.modLane l fun x => { x with nominee := (leastTag Frame.pulledQueue (s.nominable l)).map (·.1) })) ∧
    (l < 1024 → (s.lane l).nominee = some n → s.nominable l = [(n, f)] → exec (.level1Nominate l) s = .next s) ∧
    (leastTag Frame.pulledQueue (s.pullable a) = some (n, f) → exec (.pullGrant a) s =
      .next ((((s.leaveQueue f.pulledQueue n).modFrame n fun x => { x with place := .pulled (queueLane f.pulledQueue) 3, stg := stgNeed f }).modLane
        (queueLane f.pulledQueue) fun x => { x with nominee := none, stgUsed := x.stgUsed + stgNeed f }).newHead f.pulledQueue)) ∧
    (leastTag Frame.pulledQueue (s.pulledAt 3 fun _ f => decide (f.source = a)) = some (n, f) → f.place = .pulled l 3 → 1024 ≤ f.src →
      f.ounce = portOunce l → exec (.inputDramGrant a) s =
        .next (s.modFrame n fun x => { x with cells := 0, place := .pulled l 5, linkLeft := 0, linkDue := 0 })) ∧
    (leastTag Frame.pulledQueue (s.pulledAt 5 fun l _ => decide (l / 16 = a)) = some (n, f) → f.place = .pulled l 5 →
      exec (.egressDramGrant a) s = .next (s.modFrame n fun x => { x with place := .staged l })) ∧
    (nth 0 (s.link a b).credits 2 ≠ 0 → s.linkIsDown a b = false → s.linkPick a b = some (n, f) → 1 < f.linkLeft →
      exec (.linkGrant a b) s = .next ((s.setLink a b { s.link a b with
          credits := stepAt (s.link a b).credits 2 false, flight := stepAt (s.link a b).flight 2 true,
          cells := (s.link a b).cells ++ [n], cur := some n }).modFrame n fun y => { y with linkLeft := y.linkLeft - 1 })) ∧
    (exec (.linkDeliveryTimeout a b) s = .next (s.linkFall a b)) ∧
    (nth 0 (s.link a b).flight ch ≠ 0 → ch ≠ 2 → exec (.linkCellRx a b ch false) s =
      .next (s.setLink a b { s.link a b with flight := stepAt (s.link a b).flight ch false, buffer := stepAt (s.link a b).buffer ch true })) ∧
    (nth 0 (s.link a b).buffer ch ≠ 0 → exec (.linkCreditReturn a b ch) s =
      .next (s.setLink a b { s.link a b with buffer := stepAt (s.link a b).buffer ch false, credits := stepAt (s.link a b).credits ch true }))

/-- The control virtual lane (R148–R153, R157): a message whose tag, counter and length hold is counted, owes its slots and acts. -/
def Obligations.ControlLaneMessagesTakeEffect : Prop :=
  ∀ (s : State) (n d ctr : Nat) (pay : List Word) (tag : Word) (v : Reg),
    (∀ (type lo hi : Nat) (k : State → State), n < 1024 → s.portOf n = n → s.lnCfg n 7 = true → s.lnState n = 4 → lo ≤ pay.length →
      pay.length ≤ hi → cvlUntagged type = false → (s.lane n).cvlKey ≠ [] →
      tag = cvlTag (s.lane n).cvlKey (cvlHeader type pay.length ctr :: pay) → (s.lane n).cvlRxCtr < ctr →
      s.cvlReceive n type lo hi ctr pay tag k = k ((((s.modLane n fun x => { x with cvlOwed := x.cvlOwed + (2 + pay.length) }).modLane n
        fun x => { x with cvlRxCtr := ctr }).dqBump n 7))) ∧
    (exec (.cvlCreditRx n ctr pay tag) s = .next (s.cvlReceive n 1 1 1 ctr pay tag
      fun s => s.modLane n fun x => { x with cvlCredits := x.cvlCredits + getField (nth 0 pay 0) 15 0 })) ∧
    (∀ w, n < 1024 → s.portOf n = n → s.lnCfg n 7 = true → s.lnState n = 4 →
      ∃ u : State, u = (s.dqBump n 7).modLane n (fun x => { x with cvlOwed := x.cvlOwed + (1 + 1) }) ∧
        ((u.lane n).cvlUsed + 2 ≤ 256 → exec (.cvlEchoReqRx n [w]) s = .next (u.cvlPush n [cvlHeader 3 1 0, w])) ∧
        exec (.cvlEchoRspRx n [w]) s = .next (u.cvlFirmware n 3 [w])) ∧
    (exec (.cvlQuenchRx n ctr pay tag) s = .next (s.cvlReceive n 4 2 2 ctr pay tag fun s => s.quenchAll n (nth 0 pay 0).toNat
      (some (getField (nth 0 pay 1) 31 0,
        if getField (nth 0 pay 1) 63 32 = 0 then 0 else s.clk.tim + getField (nth 0 pay 1) 63 32 * 1000)))) ∧
    (exec (.cvlResumeRx n ctr pay tag) s = .next (s.cvlReceive n 5 1 1 ctr pay tag fun s => s.quenchAll n (nth 0 pay 0).toNat none)) ∧
    (exec (.cvlFirmwareRx n 6 ctr pay tag) s = .next (s.cvlReceive n 6 1 6 ctr pay tag fun s => s.cvlFirmware n 6 pay)) ∧
    (∀ i, (s.ctx i).valid = true → (s.ctx i).quenched = true → (s.ctx i).fld 0x40 8 ≠ 0 → (s.ctx i).fld 0x40 8 ≤ s.clk.tim →
      exec (.quenchExpiry i) s = .next (s.quenchCtx i none)) ∧
    (s.pageLive (pageNo tDQ d) = true → getField v 10 8 = 0 → (s.lane (16 * d + getField v 3 0)).cvlUsed + 2 ≤ 256 →
      exec (.cvlTxMessage d v) s =
        .next ((s.cvlPush (16 * d + getField v 3 0) [cvlHeader (getField v 23 16) 0 0]).took (pageNo tDQ d))) ∧
    (∀ len, s.pageLive (pageNo tDQ d) = true → len = s.cvlTxData d 1 % 2 ^ 14 → 60 ≤ len → len ≤ 16124 →
      s.lnCfg (16 * d + getField v 3 0) 7 = false → s.busMaster = true → s.st.pcieReset = false →
      s.fenceFail 261 clsDma accR (s.cvlTxData d 0) len = none → (s.lane (16 * d + getField v 3 0)).cvlUsed < 256 →
      exec (.cvlTxFrame d v) s = .next ((s.modLane (16 * d + getField v 3 0)
        fun x => { x with cvlFrames := x.cvlFrames ++ [s.bytes (spHost + s.cvlTxData d 0) len] }).took (pageNo tDQ d))) ∧
    (s.pageLive (dqPage n) = true → s.lockInForce = false → exec (.cvlKeyInstall n 0) s =
      .next (((s.wr (dqReg n (0x280 + 4 * (n % 16))) 0).took (dqPage n)).modLane n
        fun x => { x with cvlKey := [], cvlTxCtr := 0, cvlRxCtr := 0 })) ∧
    (∀ e rest lost, s.pageLive (pageNo tDQ d) = true → cget {} s.fab.cvlRx d = ⟨e :: rest, lost⟩ →
      ∃ t, exec (.cvlRxstatRead d) s = .next t ∧ t.fab.cvlRx = cput {} ⟨rest, false⟩ d s.fab.cvlRx ∧
        t.lastRead = BitVec.ofNat 64 (2 ^ 31 + 2 ^ 30 * b2n lost + e.lane * 2 ^ 16 + e.type * 2 ^ 8 + e.npay))

/-! ### The verdict pipeline and the frames of the inter-device links (chapters 2 and 5) -/

/-- Envelopes, dialects, records, held effects, responses and forwarding (R162–R185). -/
def Obligations.VerdictPipelineTakesEffect : Prop :=
  ∀ (s : State) (n o v i : Nat) (f : Frame) (x : Verdict) (w : Reg),
    ((s.refreshBody n).frame n = some f → f.place = .parsing o → f.envOk = false → 14 ≤ f.body.length →
      (s.refreshBody n).envelopeBad o f = false →
      exec (.envelopeCheck n) s = .next ((((s.refreshBody n).modFrame n fun x => { x with
        envOk := true, dia := (s.refreshBody n).dialectOf o ((s.refreshBody n).ctx f.ctx).dialect }).txEnvelope n).tryForward n)) ∧
    (exec (.diaDataAccess o false w) s = .next { s.diaAdvance o with
      lastRead := (diaWord (cget [] s.vp.dialects (o * 64 + (s.diaSel o).1)) (s.diaSel o).2).setWidth 64 }) ∧
    ((s.rd64 (ozReg o 0x828)).testBit (s.diaSel o).1 = false →
      exec (.diaDataAccess o true w) s = .next (((s.diaAdvance o).diaWrite (s.diaSel o).1 (s.diaSel o).2 w).took (ozPage o))) ∧
    (∀ h, exec (.diaEnWrite o h 0) s = .next ((s.wrAll tOZ (0x828 + 4 * h) 0).took (ozPage o))) ∧
    (∀ m st u, (s.refreshBody n).frame n = some f → f.place = .parsing o → f.envOk = true → f.ended = 1 → f.trust = .pass →
      (s.refreshBody n).asStandby = false → (s.refreshBody n).envelopeBad o f = false → (s.refreshBody n).messageOf o n f = (m, st) →
      (s.refreshBody n).placeMessage m st = (true, u) → exec (.recordComplete n) s = .next ((u.parseUse o false).endFrame n)) ∧
    (s.verdict v = some x → x.filled = false → ∃ u : State,
      u = (s.setBytes (spData x.core + 0x2E000 + 0x2400 * x.slot) x.m.record).setBytes (spData x.core + 0x2E000 + 0x2400 * x.slot + 0x400) x.m.msg ∧
      exec (.slotFilled v) s = .next ((u.modVerdict v fun y => { y with
        filled := true, ready := (u.core x.core).cycle, budget := (u.core x.core).vbudget }).setEvent x.core x.slot)) ∧
    (s.verdict v = some x → x.trust = .pass → x.held ≠ [] →
      exec (.heldAppendRoom v) s = .next (((drainHeld v 16 s).tryRelease v).verdictEnd v)) ∧
    (∀ r, s.verdict v = some x → x.resp = some r → s.respTmo (coreOunce x.core) < s.clk.ns - r.at_ →
      exec (.respTmoExpiry v) s = .next ((((s.dropResp v).vmBump (coreOunce x.core) 11).errInfo (ozPage (coreOunce x.core)) (coreOunce x.core)
        0x317).verdictEnd v)) ∧
    (∀ e, oget s.vp.fwd i = some e → s.respTmo 2 < s.clk.ns - e.at_ →
      exec (.fwdEntryTimeout i) s = .next { s with vp := { s.vp with fwd := odel i s.vp.fwd } }) ∧
    (s.vpOn o = false → exec (.ozVpCfgWrite o w) s = .next ((s.wrAll tOZ 0x800 (w &&& 0xFFFF0007)).took (ozPage o)) ∧
      exec (.vpServiceRegWrite o 0x808 w) s = .next ((s.wrAll tOZ 0x808 (w &&& 0xFFFFFFFF)).took (ozPage o))) ∧
    (∀ piece u b u2, s.takeFwd 0 = some ((piece, true), u) → u.fwdJoin 0 piece true = (some b, u2) → u2.twActive = true → beAt b 1 1 = 1 →
      ∃ g : Frame, exec .verdictFwdRequestRx s = .next (((u2.vmBump 2 13).parseUse 2 true).newFrame g) ∧
        g.ctx = beAt b 4 4 % 2 ^ 17 ∧ g.place = .parsing 2 ∧ g.trust = .pass ∧ g.fwdId = beAt b 12 4 ∧ g.fwdPort = beAt b 8 2) ∧
    (∀ piece u b u2 e, s.takeFwd 1 = some ((piece, true), u) → u.fwdJoin 1 piece true = (some b, u2) →
      oget u2.vp.fwd (beAt b 12 4) = some e →
      ∃ q : State, q = { u2 with vp := { u2.vp with fwd := odel (beAt b 12 4) u2.vp.fwd } } ∧
        exec .verdictFwdResponseRx s = .next (q.buildResponse (natField (beAt b 24 8) 53 47 / 32) e.ctx e.port (beAt b 3 1 % 32) e.src
          (sliceBytes b 48 (beAt b 10 2)) (beAt b 41 1 % 2 = 1) (beAt b 24 8) (beAt b 32 8) (beAt b 40 1)))

/-- Frames of the twin link and the ring lanes (R73–R76): an accepted frame waits in its link's inbox, a NAK starts the
retransmission it names, a BOND tells the partner's lanes, and a transmitter sends what is due. -/
def Obligations.LinkFramesTakeEffect : Prop :=
  ∀ (s : State) (n i seq : Nat) (b pay : List Byte) (u : State),
    (s.lnState n = 4 → linkOfLane n ≠ 0 → beAt (b.take 8) 0 1 = 0x20 → b.length = 16 + beAt (b.take 8) 2 2 → beAt (b.take 8) 2 2 ≤ 4096 →
      beAt (b.take 8) 2 2 % 8 = 0 → exec (.noriolysFrameRx n b) s =
        .next (s.linkAccept (linkOfLane n) 0x20 (beAt (b.take 8) 1 1) (beAt (b.take 8) 4 4) b)) ∧
    (∀ ty fl, s.linkTake i [0x10] = some ((ty, fl, seq, pay), u) → seq ≠ (u.nlink i).txSeq → (u.nlink i).replay.any (·.1 = seq) = true →
      exec (.nakRx i) s = .next (u.setNlink i { u.nlink i with resend := some seq })) ∧
    (∀ ty fl, s.linkTake 0 [0x12] = some ((ty, fl, seq, pay), u) →
      exec .bondRx s = .next ({ u with jn := { u.jn with link := { u.jn.link with peer := seq % 256 } } } : State).rebond) ∧
    (s.twinUp ≠ 0 → (s.nlink 0).resend = some seq → exec (.noriolysFrameTx 0) s = .next (s.resendNext 0 seq)) ∧
    (s.twinUp ≠ 0 → (s.nlink 0).resend = none → exec (.noriolysFrameTx 0) s = .next s.twinNext)

/-! ### Payment cryptography (chapter 6) -/

/-- The operations of the payment-cryptography engines (R187, R195–R222): an operation in an engine that has not computed yet
computes the result its clause gives, its status and the key to store. -/
def Obligations.KeyEngineOperationsCompute : Prop :=
  ∀ (s : State) (o e : Nat) (x : KRun) (k1 k2 : KeyVal), s.engRun o e = some x → x.computed = false →
    nth {} x.keys 0 = k1 → nth {} x.keys 1 = k2 →
    (∀ pin, x.r.fn = 0x10 → x.r.f 0x21 1 = 0 → pinDecode (x.r.f 0x20 1) k1.key (x.r.b 0x30 16) x.r.pan = some pin →
      exec (.pinXlate o e) s =
        .next (s.setEngRun o e { x with computed := true, status := 0, result := pinEncode 0 k2.key x.r.pan pin [], out := none })) ∧
    (x.r.fn = 0x20 → exec (.macGen o e) s =
      .next (s.setEngRun o e { x with computed := true, status := 0, result := s.macOf x.r k1.key, out := none })) ∧
    (x.r.fn = 0x21 → exec (.macVer o e) s = .next (s.setEngRun o e { x with
      computed := true, status := (if s.macOf x.r k1.key = x.r.b 0x30 (x.r.f 0x20 1) then 0 else 0x343), result := [], out := none })) ∧
    (x.r.fn = 0x30 → ∃ (u : State) (res : List Byte) (key : KeyVal), exec (.dukptDerive o e) s =
        .next (u.setEngRun o e { x with computed := true, status := 0, result := res, out := some key }) ∧
      key.key = dukptDerive k1.key (x.r.flags.testBit 1) (x.r.b 0x20 12) (x.r.f 0x2C 1) (x.r.f 0x2D 1) ∧ key.zone = k1.zone) ∧
    (x.r.fn = 0x40 → ∃ y : KRun, exec (.arqcVerify o e) s = .next (s.setEngRun o e y) ∧ y.computed = true ∧ y.out = none ∧
      (y.status = 0 ∨ y.status = 0x344)) ∧
    (x.r.fn = 0x50 → exec (.ff1Enc o e) s = .next (s.setEngRun o e { x with
      computed := true, status := 0, out := none,
      result := (ff1Encrypt k1.key (x.r.b 0x30 (x.r.f 0x23 1)) (x.r.f 0x20 2) x.r.numerals).map (BitVec.ofNat 8) })) ∧
    (x.r.fn = 0x51 → exec (.ff1Dec o e) s = .next (s.setEngRun o e { x with
      computed := true, status := 0, out := none,
      result := (ff1Decrypt k1.key (x.r.b 0x30 (x.r.f 0x23 1)) (x.r.f 0x20 2) x.r.numerals).map (BitVec.ofNat 8) })) ∧
    (∀ h key, x.r.fn = 0x60 → kbHeader (if attrAlg k1.attr = 0x41 then 0x44 else 0x42) (x.r.f 0x20 2) (s.importText x.r) = some h →
      kbOpen k1.key (s.importText x.r) h = some key → (nth 0 h.attr 2).toNat ≠ 0x48 →
      exec (.kbImport o e) s = .next (s.setEngRun o e { x with
        computed := true, status := 0, result := checkValue (nth 0 h.attr 2).toNat key,
        out := some { key := key, attr := h.attr ++ [BitVec.ofNat 8 key.length, 0, 0, 0], zone := handleZone (x.r.handle 0x18) } })) ∧
    (∀ rnd u, x.r.fn = 0x61 → s.engRandom o 2 64 = some (rnd, u) → u.engRun o e = some x →
      ∃ (w : State) (res : List Byte), exec (.kbExport o e) s =
        .next (w.setEngRun o e { x with computed := true, status := 0, result := res, out := none }))

/-- Requests enter and leave the engines, engines are tested, and the registers of the key facilities are written (R187, R188, R195,
R219, R221). -/
def Obligations.KeyEngineCommandsTakeEffect : Prop :=
  ∀ (s : State) (o e : Nat) (v : Reg),
    (∀ r ks u, firstReady ((s.pay.run.filter fun e => e.1 / 16 = o).map (·.2.r)) [] (cget [] s.pay.queue o) = some r →
      s.keyHold = false → s.domOn (68 + o) = true → s.fld (kvReg o 0xC08) 15 0 ≠ 0xFFFF →
      (List.range 16).find? (fun e => s.engFree o e) = some e →
      ({ s with pay := { s.pay with queue := cput [] ((cget [] s.pay.queue o).filter (· != r)) o s.pay.queue } } : State).startChecks r = (.ok ks, u) →
      exec (.keyEngineTake o) s = .next (u.setEngRun o e { r := r, keys := ks })) ∧
    (∀ x, s.engRun o e = some x → x.computed = true → x.out = none → exec (.keyOpComplete o e) s = .next (s.keyOpEnds o e x)) ∧
    (s.engFree o e = true → s.domOn (68 + o) = true → exec (.keSelfTest o e true) s = .next (s.kvBump o 15) ∧
      exec (.keSelfTest o e false) s = .next (((s.setFld (kvReg o 0xC08) e e 1).status (kvReg o 0xC04) 0x350).irq (kvPage o) 8)) ∧
    (s.pageLive (kvPage o) = true → s.lockInForce = false → 4 ≤ getField v 15 12 →
      exec (.kvPcfCfgWrite o v) s = .next ((s.wrAll tKV 0xC00 (v &&& 0xF007)).took (kvPage o))) ∧
    (exec (.kvPcfClrCnt o) s = .next (((List.range 8).foldl (fun s k => s.clrCtr (kvPage o) (8 + k) 0) s).took (kvPage o)))

/-! ### The verdict core (chapters 7 and 8) -/

/-- Integer arithmetic of a core that issues it (R232–R235): the result in rd, V and DZ where the operation sets them, and ARITH in
place of the result where TRAPCTL asks for it. A W form computes on bits [31:0] and sign-extends. -/
def Obligations.IntegerArithmeticComputesItsResult : Prop :=
  ∀ (s : State) (c : Nat) (rd ra rb : BitVec 5) (w : Bool), s.ready c = true →
    let a := (s.core c).rv ra
    let b := (s.core c).rv rb
    let p := a.setWidth 32
    let q := b.setWidth 32
    let ends (v dz : Bool) (r : Word) (o : Outcome) : Prop :=
      (s.untrapped c v dz = true → o = .next ((s.intFlags c v dz).writesBack c rd r)) ∧
      (v = true → s.untrapped c v dz = false → o = .next ((s.intFlags c v dz).raise c 8 0 0 false)) ∧
      (v = false → s.untrapped c v dz = false → o = .next ((s.intFlags c v dz).raise c 8 1 0 false))
    let sel (x : Word) (y : BitVec 32) : Word := if w then y.signExtend 64 else x
    (exec (.add c rd ra rb w) s = .next (s.writesBack c rd (if w then sext32 (a + b) else a + b))) ∧
    (exec (.sub c rd ra rb w) s = .next (s.writesBack c rd (if w then sext32 (a - b) else a - b))) ∧
    (exec (.mul c rd ra rb w) s = .next (s.writesBack c rd (if w then sext32 (a * b) else a * b))) ∧
    ends (if w then p.saddOverflow q else a.saddOverflow b) false (sel (a + b) (p + q)) (exec (.addo c rd ra rb w) s) ∧
    ends (if w then p.ssubOverflow q else a.ssubOverflow b) false (sel (a - b) (p - q)) (exec (.subo c rd ra rb w) s) ∧
    ends (if w then p.smulOverflow q else a.smulOverflow b) false (sel (a * b) (p * q)) (exec (.mulo c rd ra rb w) s) ∧
    ends (if w then p.negOverflow else a.negOverflow) false (sel (-a) (-p)) (exec (.neg c rd ra 0 w) s) ∧
    ends (if w then p.negOverflow else a.negOverflow) false (sel a.abs p.abs) (exec (.abs c rd ra 0 w) s) ∧
    (b ≠ 0 → (w = true → q ≠ 0) → (if w then p.sdivOverflow q else a.sdivOverflow b) = false →
      ends false false (sel (a.sdiv b) (p.sdiv q)) (exec (.div c rd ra rb w) s) ∧
      ends false false (sel (a.srem b) (p.srem q)) (exec (.rem c rd ra rb w) s)) ∧
    ((if w then p.sdivOverflow q else a.sdivOverflow b) = true →
      ends true false (sel a p) (exec (.div c rd ra rb w) s) ∧ ends true false 0 (exec (.rem c rd ra rb w) s)) ∧
    (b ≠ 0 → (w = true → q ≠ 0) → ends false false (sel (a / b) (p / q)) (exec (.divu c rd ra rb w) s) ∧
      ends false false (sel (a % b) (p % q)) (exec (.remu c rd ra rb w) s)) ∧
    ((if w then q = 0 else b = 0) →
      ends false true (BitVec.allOnes 64) (exec (.div c rd ra rb w) s) ∧ ends false true (BitVec.allOnes 64) (exec (.divu c rd ra rb w) s) ∧
      ends false true (sel a p) (exec (.rem c rd ra rb w) s) ∧ ends false true (sel a p) (exec (.remu c rd ra rb w) s)) ∧
    (∃ v : Word, v.toInt = a.toInt * b.toInt / 2 ^ 64 ∧ exec (.mulh c rd ra rb) s = .next (s.writesBack c rd v)) ∧
    (∃ v : Word, v.toNat = a.toNat * b.toNat / 2 ^ 64 ∧ exec (.mulhu c rd ra rb) s = .next (s.writesBack c rd v))

/-- Logic, shifts, comparisons, moves and bit counts of a core that issues them (R232): each leaves its result in rd and sets no flag. -/
def Obligations.LogicShiftsAndBitCountsCompute : Prop :=
  ∀ (s : State) (c : Nat) (rd ra rb : BitVec 5) (w : Bool), s.ready c = true →
    let a := (s.core c).rv ra
    let b := (s.core c).rv rb
    let p := a.setWidth 32
    let n := b.toNat % 256
    let sel (x : Word) (y : BitVec 32) : Word := if w then y.signExtend 64 else x
    let truth (t : Prop) [Decidable t] : Word := if t then 1 else 0
    (exec (.and c rd ra rb) s = .next (s.writesBack c rd (a &&& b))) ∧
    (exec (.or c rd ra rb) s = .next (s.writesBack c rd (a ||| b))) ∧
    (exec (.xor c rd ra rb) s = .next (s.writesBack c rd (a ^^^ b))) ∧
    (exec (.sll c rd ra rb w) s = .next (s.writesBack c rd (sel (a <<< n) (p <<< n)))) ∧
    (exec (.srl c rd ra rb w) s = .next (s.writesBack c rd (sel (a >>> n) (p >>> n)))) ∧
    (exec (.sra c rd ra rb w) s = .next (s.writesBack c rd (sel (a.sshiftRight n) (p.sshiftRight n)))) ∧
    (exec (.ror c rd ra rb w) s = .next (s.writesBack c rd (sel (a.rotateRight n) (p.rotateRight n)))) ∧
    (exec (.slt c rd ra rb) s = .next (s.writesBack c rd (truth (a.toInt < b.toInt)))) ∧
    (exec (.sltu c rd ra rb) s = .next (s.writesBack c rd (truth (a.toNat < b.toNat)))) ∧
    (exec (.seq c rd ra rb) s = .next (s.writesBack c rd (truth (a = b)))) ∧
    (∃ v : Word, v.toInt = Min.min a.toInt b.toInt ∧ exec (.min c rd ra rb) s = .next (s.writesBack c rd v)) ∧
    (∃ v : Word, v.toInt = Max.max a.toInt b.toInt ∧ exec (.max c rd ra rb) s = .next (s.writesBack c rd v)) ∧
    (∃ k, k ≤ 64 ∧ (∀ i < k, a.getLsbD (63 - i) = false) ∧ (k < 64 → a.getLsbD (63 - k) = true) ∧
      exec (.clz c rd ra 0) s = .next (s.writesBack c rd (BitVec.ofNat 64 k))) ∧
    (∃ k, k ≤ 64 ∧ (∀ i < k, a.getLsbD i = false) ∧ (k < 64 → a.getLsbD k = true) ∧
      exec (.ctz c rd ra 0) s = .next (s.writesBack c rd (BitVec.ofNat 64 k))) ∧
    (exec (.popc c rd ra 0) s = .next (s.writesBack c rd (BitVec.ofNat 64 ((List.range 64).countP fun i => a.getLsbD i)))) ∧
    (∃ v : Word, (∀ i < 64, v.getLsbD i = a.getLsbD (8 * (7 - i / 8) + i % 8)) ∧
      exec (.bswap c rd ra 0) s = .next (s.writesBack c rd v)) ∧
    (exec (.sextb c rd ra 0) s = .next (s.writesBack c rd ((a.setWidth 8).signExtend 64))) ∧
    (exec (.sexth c rd ra 0) s = .next (s.writesBack c rd ((a.setWidth 16).signExtend 64))) ∧
    (exec (.zextw c rd ra 0) s = .next (s.writesBack c rd (a &&& 0xFFFFFFFF))) ∧
    (b = 0 → exec (.cmovz c rd ra rb) s = .next (s.writesBack c rd a) ∧
      exec (.cmovn c rd ra rb) s = .next (s.complete c ((s.core c).pc + 4))) ∧
    (b ≠ 0 → exec (.cmovn c rd ra rb) s = .next (s.writesBack c rd a) ∧
      exec (.cmovz c rd ra rb) s = .next (s.complete c ((s.core c).pc + 4)))

/-- The immediate operations of a core that issues them (R231, R233). -/
def Obligations.ImmediateOperationsCompute : Prop :=
  ∀ (s : State) (c : Nat) (rd ra : BitVec 5) (imm : BitVec 16) (cnt : BitVec 8) (w : Bool), s.ready c = true →
    let a := (s.core c).rv ra
    let p := a.setWidth 32
    let n := cnt.toNat
    let sel (x : Word) (y : BitVec 32) : Word := if w then y.signExtend 64 else x
    (exec (.addi c rd ra imm) s = .next (s.writesBack c rd (a + imm.signExtend 64))) ∧
    (exec (.addiw c rd ra imm) s = .next (s.writesBack c rd ((p + imm.signExtend 32).signExtend 64))) ∧
    (exec (.andi c rd ra imm) s = .next (s.writesBack c rd (a &&& imm.setWidth 64))) ∧
    (exec (.ori c rd ra imm) s = .next (s.writesBack c rd (a ||| imm.setWidth 64))) ∧
    (exec (.xori c rd ra imm) s = .next (s.writesBack c rd (a ^^^ imm.setWidth 64))) ∧
    (exec (.slti c rd ra imm) s = .next (s.writesBack c rd (if a.toInt < imm.toInt then 1 else 0))) ∧
    (exec (.sltiu c rd ra imm) s = .next (s.writesBack c rd (if a.toNat < (imm.signExtend 64).toNat then 1 else 0))) ∧
    (exec (.lui c rd 0 imm) s = .next (s.writesBack c rd ((imm ++ (0 : BitVec 16)).signExtend 64))) ∧
    (exec (.slli c rd ra cnt w) s = .next (s.writesBack c rd (sel (a <<< n) (p <<< n)))) ∧
    (exec (.srli c rd ra cnt w) s = .next (s.writesBack c rd (sel (a >>> n) (p >>> n)))) ∧
    (exec (.srai c rd ra cnt w) s = .next (s.writesBack c rd (sel (a.sshiftRight n) (p.sshiftRight n)))) ∧
    (exec (.rori c rd ra cnt w) s = .next (s.writesBack c rd (sel (a.rotateRight n) (p.rotateRight n))))

/-- Loads, stores, the store buffer, atomics and fences of a core (R237–R241, R284). -/
def Obligations.CoreMemoryOperationsTakeEffect : Prop :=
  ∀ (s : State) (c : Nat) (rd ra rb : BitVec 5) (sub : BitVec 4) (off : BitVec 12),
    let x := s.core c
    let size := [1, 1, 2, 2, 4, 4, 8].getD sub.toNat 8
    let a := (x.rv ra + off.signExtend 64).toNat
    let u := s.drain c
    let m := (x.rv ra).toNat
    let cell := spCluster (c / 32) + (m - 0x1000000)
    let old := BitVec.ofNat 64 (u.leAt cell 8)
    let atomic : Prop := s.ready c = true ∧ s.drains c = true ∧ m % 8 = 0 ∧ 0x1000000 ≤ m ∧ m + 8 ≤ 0x2000000 ∧ inMailbox (m - 0x1000000) = false ∧
      ∀ i < 8, u.fenceByte (256 + c / 32) (clsRing (u.core c).ring) accR (m - 0x1000000 + i) = true ∧
        u.fenceByte (256 + c / 32) (clsRing (u.core c).ring) accW (m - 0x1000000 + i) = true
    (s.ready c = true → sub.toNat ≤ 6 → a % size = 0 → areaOf a size ≠ .none → s.coreFence c (clsRing x.ring) accR a size = none →
      ∀ v, v = ofLe (s.coreBytes c a size) → exec (.load c rd ra sub off) s = .next (s.writesBack c rd
        (if sub = 0 then (BitVec.ofNat 8 v).signExtend 64 else if sub = 2 then (BitVec.ofNat 16 v).signExtend 64
          else if sub = 4 then (BitVec.ofNat 32 v).signExtend 64 else BitVec.ofNat 64 v))) ∧
    (s.ready c = true → sub.toNat ≤ 6 → sub.toNat % 2 = 0 → a % size = 0 → a + size ≤ 0x40000 → s.fenceFail c (clsRing x.ring) accW a size = none →
      exec (.store c rd ra sub off) s =
        .next ((s.setBytes (spData c + a) (leBytes size (x.rv rd).toNat)).complete c (x.pc + 4))) ∧
    (s.ready c = true → sub.toNat ≤ 6 → sub.toNat % 2 = 0 → a % size = 0 → 0x1000000 ≤ a → a + size ≤ 0x2000000 → x.sbuf.length < 8 →
      exec (.store c rd ra sub off) s =
        .next ((s.modCore c fun y => { y with sbuf := y.sbuf ++ [(a, leBytes size (x.rv rd).toNat, x.ring)] }).complete c (x.pc + 4))) ∧
    (s.ready c = true → sub.toNat ≤ 6 → a % size ≠ 0 → exec (.load c rd ra sub off) s = .next (s.raise c 4 0 (BitVec.ofNat 64 a) false)) ∧
    (∀ p bs r rest, s.lockInForce = false → x.sbuf = (p, bs, r) :: rest → inMailbox (p - 0x1000000) = false →
      (p - 0x1000000 < 0x97F000 ∨ 0x97F048 ≤ p - 0x1000000) → s.fenceFail (256 + c / 32) (clsRing r) accW (p - 0x1000000) bs.length = none →
      exec (.storeBufferDrain c) s =
        .next ((s.modCore c fun y => { y with sbuf := rest }).setBytes (spCluster (c / 32) + (p - 0x1000000)) bs)) ∧
    (∀ p k, s.coreRuns c = true → x.late = some (p, k) → x.ds = none → x.exl = false → x.dxl = false → x.sbuf = [] →
      ∃ t, exec (.lateStoreReport c) s = .next t ∧ (t.core c).epc = x.pc.toNat % 2 ^ 17 ∧ (t.core c).ecause = 0x0B + 256 * k + 131072 ∧
        (t.core c).eaddr = BitVec.ofNat 64 p ∧ (t.core c).late = none ∧ (t.core c).exl = true ∧ (t.core c).pring = x.ring) ∧
    (atomic → old = x.rv rd → exec (.cas c rd ra rb) s =
      .next (((u.setLe cell 8 (x.rv rb).toNat).setReg c rd.toNat old).complete c (x.pc + 4))) ∧
    (atomic → old ≠ x.rv rd → exec (.cas c rd ra rb) s = .next ((u.setReg c rd.toNat old).complete c (x.pc + 4))) ∧
    (atomic → exec (.amoadd c rd ra rb) s =
      .next (((u.setLe cell 8 (old + x.rv rb).toNat).setReg c rd.toNat old).complete c (x.pc + 4))) ∧
    (atomic → exec (.amoswap c rd ra rb) s =
      .next (((u.setLe cell 8 (x.rv rb).toNat).setReg c rd.toNat old).complete c (x.pc + 4))) ∧
    (s.ready c = true → s.drains c = true → exec (.fence c 0 0 0) s = .next (u.complete c (x.pc + 4)) ∧
      exec (.isync c 0 0 0) s = .next (u.complete c (x.pc + 4))) ∧
    (s.ready c = true → exec (.brk c 0 0 0) s = .next (s.raise c 0x0A 0 0 false))

/-- Transfers, gates, returns, loops and special registers of a core that issues them outside a delay slot (R242–R250, R268–R274,
R280). -/
def Obligations.ControlTransfersTakeEffect : Prop :=
  ∀ (s : State) (c : Nat) (rd ra : BitVec 5) (off : BitVec 21) (far : BitVec 26) (imm : BitVec 16),
    s.ready c = true → (s.core c).ds = none →
    let x := s.core c
    let a := x.rv ra
    let u := s.drain c
    let go (p : Prop) [Decidable p] : State := s.transfers c x.pc (if p then x.pc + 4 * off.signExtend 64 else x.pc + 8) 0 0
    (exec (.beqz c ra off) s = .next (go (a.toInt = 0))) ∧ (exec (.bnez c ra off) s = .next (go (a.toInt ≠ 0))) ∧
    (exec (.bltz c ra off) s = .next (go (a.toInt < 0))) ∧ (exec (.bgez c ra off) s = .next (go (0 ≤ a.toInt))) ∧
    (exec (.bgtz c ra off) s = .next (go (0 < a.toInt))) ∧ (exec (.blez c ra off) s = .next (go (a.toInt ≤ 0))) ∧
    (exec (.j c far) s = .next (s.transfers c x.pc (x.pc + 4 * far.signExtend 64) 0 0)) ∧
    (exec (.call c far) s = .next ((s.setReg c 31 (x.pc + 8)).transfers c x.pc (x.pc + 4 * far.signExtend 64) 31 (x.reg 31))) ∧
    (a.toNat % 4 = 0 → exec (.jr c 0 ra 0) s = .next (s.transfers c x.pc a 0 0) ∧
      exec (.jalr c rd ra 0) s = .next ((s.setReg c rd.toNat (x.pc + 8)).transfers c x.pc a rd.toNat (x.rv rd))) ∧
    (a.toNat % 4 ≠ 0 → exec (.jr c 0 ra 0) s = .next (s.raise c 4 3 a false) ∧ exec (.jalr c rd ra 0) s = .next (s.raise c 4 3 a false)) ∧
    (∀ w t f, s.drains c = true → imm.toNat < x.gatecount → x.gatebase + 32 * imm.toNat + 32 ≤ 0x40000 →
      w = u.gateWords c (x.gatebase + 32 * imm.toNat) → gateOk w = true → t = nth 0 w 0 % 4 → (nth 0 w 0).testBit (4 + x.ring) = true →
      t < x.ring → u.gateArgs c x w = none → f = (nth 0 x.sp t - 16).toNat → (nth 0 x.sp t).toNat % 16 = 0 → f + 16 ≤ 0x40000 →
      u.fenceFail c (clsRing t) accW f 16 = none → exec (.gate c 0 0 imm) s =
        .next (((u.setBytes (spData c + f) (gateFrame ((x.pc.toNat + 4) % 2 ^ 17) x.ring imm.toNat)).modCore c
          fun y => { y with sp := setNth y.sp t (BitVec.ofNat 64 f), ring := t }).complete c (BitVec.ofNat 64 (nth 0 w 1)))) ∧
    (s.drains c = true → x.gatecount ≤ imm.toNat → exec (.gate c 0 0 imm) s = .next (u.raise c 9 0 (imm.setWidth 64) false)) ∧
    (∀ p ret r n, s.drains c = true → p = (nth 0 x.sp x.ring).toNat → p % 16 = 0 → p + 16 ≤ 0x40000 →
      u.fenceFail c (clsRing x.ring) accR p 16 = none → ret < 2 ^ 17 → r < 4 → n < 2 ^ 16 → x.ring < r →
      u.bytes (spData c + p) 16 = gateFrame ret r n → exec (.retg c 0 0 0) s =
        .next ((u.modCore c fun y => { y with sp := setNth y.sp x.ring (BitVec.ofNat 64 (p + 16)), ring := r }).complete c
          (BitVec.ofNat 64 ret))) ∧
    (s.drains c = true → (x.ring = 0 ∨ x.ring = 1 ∧ x.pring ≠ 0) → exec (.eret c 0 0 0) s =
      .next ((u.setCore c { u.core c with loops := (u.core c).xloops, ring := (u.core c).pring, exl := false, dxl := false }).complete c
        (BitVec.ofNat 64 (u.core c).epc))) ∧
    ((1 < x.ring ∨ x.ring = 1 ∧ x.pring = 0) → exec (.eret c 0 0 0) s = .next (s.raise c 3 2 0 false)) ∧
    (∀ (cnt : BitVec 10) (len : BitVec 14) le, le = x.pc.toNat + 4 * len.toNat → len ≠ 0 → le < 2 ^ 17 → x.loops.lc1 = 0 →
      s.loopEndBad c le (decide (2 ≤ len.toNat)) = false → exec (.loop c false true cnt len) s =
        .next ((s.modCore c fun y => { y with loops := { x.loops with ls0 := x.pc.toNat + 4, le0 := le, lc0 := cnt.toNat } }).complete c
          (BitVec.ofNat 64 (if cnt.toNat = 0 then le + 4 else x.pc.toNat + 4)))) ∧
    (2 ≤ specialAccess imm.toNat x.ring → exec (.mfs c rd 0 imm) s = .next (s.writesBack c rd (s.specialValue c imm.toNat))) ∧
    (specialAccess imm.toNat x.ring = 3 → s.mtsLoopBad c x imm.toNat a.toNat = none → mtsSerial imm.toNat = false →
      exec (.mts c 0 ra imm) s = .next ((s.modCore c fun y => y.mts imm.toNat a).complete c (x.pc + 4))) ∧
    (specialAccess imm.toNat x.ring = 3 → s.mtsLoopBad c x imm.toNat a.toNat = none → mtsSerial imm.toNat = true → s.drains c = true →
      exec (.mts c 0 ra imm) s = .next ((u.modCore c fun y => y.mts imm.toNat a).complete c (x.pc + 4))) ∧
    (specialAccess imm.toNat x.ring = 1 → exec (.mfs c rd 0 imm) s = .next (s.raise c 3 0 (imm.setWidth 64) false) ∧
      exec (.mts c 0 ra imm) s = .next (s.raise c 3 1 (imm.setWidth 64) false))

/-- Tickets, events, time and the requests a core hands to the other blocks (R251–R261): the operation completes with its number or
status in rd, and the request is where its block takes it. -/
def Obligations.CoreRequestsTakeEffect : Prop :=
  ∀ (s : State) (c : Nat) (rd ra rb : BitVec 5), s.ready c = true →
    let x := s.core c
    let a := (x.rv ra).toNat
    let k := x.rv rb
    let ends (t : State) : Outcome := .next (t.complete c (x.pc + 4))
    let gives (t : State) (n : Nat) : Outcome := ends (t.setReg c rd.toNat (BitVec.ofNat 64 n))
    (a < 12 → (nth {} x.tickets a).taken = true → (nth {} x.tickets a).done = true → exec (.wait c rd ra 0) s =
      gives (s.modCore c fun y => { y with tickets := setNth y.tickets a { nth {} x.tickets a with waited := true } })
        (nth {} x.tickets a).status) ∧
    (a < 12 → (nth {} x.tickets a).taken = true → exec (.poll c rd ra 0) s = gives s (if (nth {} x.tickets a).done then 1 else 0)) ∧
    (s.drains c = true → ((s.drain c).core c).evpend &&& ((s.drain c).core c).evmask ≠ 0 → exec (.wfe c rd 0 0) s =
      gives (s.drain c) (((s.drain c).core c).evpend &&& ((s.drain c).core c).evmask)) ∧
    (exec (.rdtim c rd 0 0) s = gives s (s.clk.tim % 2 ^ 63 + if s.clk.held then 2 ^ 63 else 0)) ∧
    (x.ring ≤ 1 → k = 255 → s.dataArea c a 160 16 accR = true → s.jnEnabled (c / 32) = true → s.ringRoom (strandOf c) = true →
      (s.strand (strandOf c)).queue.length < 64 → exec (.japp c rd ra rb) s =
        gives (s.giveApp (strandOf c) { kind := 2, core := c, record := s.bytes (spData c + a) 160 }) 0) ∧
    (∀ t, x.ring ≤ 2 → s.dataArea c a 32 8 accR = true → s.leaseOk c (s.bytes (spData c + a) 32) false = true → x.freeTicket 2 4 = some t →
      exec (.lread c rd ra 0) s = ends ((s.takeTicket c t rd).leaseIssue c t (s.bytes (spData c + a) 32))) ∧
    (∀ t, x.ring ≤ 1 → k = 255 → s.dataArea c a 32 8 accR = true → s.leaseOk c (s.bytes (spData c + a) 32) true = true →
      x.freeTicket 2 4 = some t →
      exec (.lwrite c rd ra rb) s = ends ((s.takeTicket c t rd).leaseIssue c t (s.bytes (spData c + a) 32))) ∧
    (∀ v y n, x.ring ≤ 2 → n = getField k 13 0 → 1 ≤ n → n ≤ 8192 → k &&& 0xFFFFFFFFF8E0C000 = 0 →
      s.slotVerdictOf c (getField k 26 24) = some v → s.verdict v = some y → s.dataArea c a n 1 accR = true → y.trust ≠ .fail →
      y.responded = false → y.appends ≠ 0 → cget 0 s.vp.units (c / 32) + respUnits n ≤ 8192 →
      let u : State := { s with vp := { s.vp with units := cput 0 (cget 0 s.vp.units (c / 32) + respUnits n) (c / 32) s.vp.units } }
      let r : Resp := { data := s.bytes (spData c + a) n, cls := getField k 20 16, at_ := s.clk.ns }
      exec (.respond c rd ra rb) s = gives ((u.modVerdict v fun y => { y with resp := some r, responded := true }).tryRelease v) 0) ∧
    (∀ v y n, x.ring ≤ 2 → n = getField k 13 0 → 1 ≤ n → k &&& 0xFFFFFFFFF8E0C000 = 0 → s.slotVerdictOf c (getField k 26 24) = some v →
      s.verdict v = some y → s.dataArea c a n 1 accR = true → y.trust = .fail → exec (.respond c rd ra rb) s = gives s 0x316) ∧
    (∀ t b, x.ring ≤ 1 → k = 255 → b = s.bytes (spData c + a) 48 → s.dataArea c a 48 16 accR = true → ctxupdBad b true = false →
      ofLe (b.take 1) ≠ 3 → x.freeTicket 10 2 = some t →
      exec (.ctxupd c rd ra rb) s = ends ((s.takeTicket c t rd).ctxOp (ofLe (sliceBytes b 4 4)) c t b)) ∧
    (∀ t b u, x.ring ≤ 2 → b = s.bytes (spData c + a) 32 → s.dataArea c a 32 8 accR = true → dmaOk b = true → x.freeTicket 6 4 = some t →
      u = s.takeTicket c t rd →
      let d : DmaOp := { core := c, tkt := t, daddr := a, toHbm := ofLe (sliceBytes b 0 4) = 1, len := ofLe (sliceBytes b 4 4),
                         haddr := ofLe (sliceBytes b 8 8), laddr := ofLe (sliceBytes b 0x10 4) }
      exec (.dma c rd ra 0) s = ends { u with vc := { u.vc with dma := cput [] (cget [] u.vc.dma (c / 32) ++ [d]) (c / 32) u.vc.dma } }) ∧
    (x.ring ≤ 2 → exec (.slrel c 0 ra 0) s = ends (s.releaseSlot c (a % 8))) ∧
    (∀ t b, x.ring ≤ 1 → s.dataArea c a 16 16 accR = true → s.dataArea c a 64 16 accR = true → b = s.bytes (spData c + a) 64 →
      ofLe (sliceBytes (s.bytes (spData c + a) 16) 2 2) = 64 → ofLe (sliceBytes b 0 1) = 0x10 → ofLe (sliceBytes b 4 1) = 255 →
      x.freeTicket 0 2 = some t →
      exec (.kop c rd ra 0) s = ends ((s.takeTicket c t rd).keyEnqueue { core := c, tkt := t, ring := x.ring, block := b }))

/-- The events of a core and the writes to VC_CTL (R251, R256, R264, R287–R294). -/
def Obligations.CoreEventsTakeEffect : Prop :=
  ∀ (s : State) (c k n code : Nat),
    let x := s.core c
    ((nth {} x.tickets k).taken = true → (nth {} x.tickets k).done = false → exec (.ticketComplete c k code) s =
      .next ((s.modCore c fun y => { y with
        tickets := setNth y.tickets k { nth {} x.tickets k with done := true, waited := false, status := code % 65536 } }).setEvent c 16)) ∧
    ((nth {} x.tickets k).taken = false → exec (.ticketComplete c k code) s = .next s) ∧
    (∀ d, k < 8 → (cget [] s.vc.dma n)[k]? = some d → d.toHbm = true → d.laddr + d.len ≤ 0x40000 → d.len ≠ 0 →
      (∀ i < d.len, s.fenceByte d.core clsDma accR (d.laddr + i) = true ∧ s.fenceByte 260 clsDma accW (d.haddr + i) = true) →
      ∃ u : State, u = { s with vc := { s.vc with dma := cput [] ((cget [] s.vc.dma n).eraseIdx k) n s.vc.dma } } ∧
        exec (.dmaComplete n k) s = .next (((u.dmaCopy d.core (spData d.core) d.laddr 260 spHbm d.haddr d.len).setLe
          (spData d.core + d.daddr + 0x14) 2 0).completeTicket d.core d.tkt 0)) ∧
    (s.coreRuns c = true → x.interrupt = some k → x.ds = none → x.late = none → x.wdog = false →
      exec (.interruptEntry c) s = .next (s.raise c 0x10 k 0 true)) ∧
    (s.coreRuns c = true → x.tmcmp ≠ 0 → x.tmcmp < 2 ^ 64 → ∃ t, exec (.timerCompare c) s = .next t ∧ x.tmcmp ≤ (t.core c).cycle ∧
      (t.core c).ipend.testBit 4 = true) ∧
    (∀ v y, s.slotVerdictOf c k = some v → s.verdict v = some y → y.filled = true → y.budget ≠ 0 → y.budgetHit = false →
      exec (.vbudgetExpiry c k) s = .next (((s.modVerdict v fun y => { y with budgetHit := true }).modCore c fun z =>
        { z with cycle := Max.max z.cycle (y.ready + y.budget), vbstat := z.vbstat ||| 2 ^ k }).coreCounts c x)) ∧
    (s.wdCounts c = true → x.wdstage = false → exec (.wdogStage1 c) s =
      .next (s.setCore c { x with wdstage := true, wdcnt := x.wdload, wdog := true })) ∧
    (s.wdCounts c = true → x.wdstage = true → ∃ u : State,
      u = (((s.resetCore c).status (vcExc c 0x10) 0x329).setFld (vcReg (c / 32) 0xD08) (c % 32) (c % 32) 1).irq (vcPage (c / 32)) 1 ∧
      exec (.wdogStage2 c) s =
        .next (if u.fld (vcReg (c / 32) 0xD00) 0 0 = 1 then u.modCore c fun y => { y with st := 1 } else u.setFld (vcCore c 0) 0 0 0)) ∧
    (s.pageLive (vcPage (c / 32)) = true → x.st = 0 → ∃ t, exec (.vcRun c true) s = .next t ∧ (t.core c).st = 1) ∧
    (s.pageLive (vcPage (c / 32)) = true → 1 ≤ x.st → x.st ≤ 3 → x.ds = none → ∃ u : State,
      u = ((s.setFld (vcCore c 0) 0 0 0).took (vcPage (c / 32))).drain c ∧
      exec (.vcRun c false) s = .next (u.modCore c fun y => { y with st := 4 })) ∧
    (s.pageLive (vcPage (c / 32)) = true → (x.st = 0 ∨ 4 ≤ x.st) → exec (.vcReset c false) s =
      .next ((((s.resetCore c).setFld (vcCore c 0) 0 0 0).took (vcPage (c / 32))).endGrant)) ∧
    (s.pageLive (vcPage (c / 32)) = true → exec (.vcReset c true) s = .next (s.status (vcCore c 0x30) 0x327))

/-! ### The key vault and the endpoint contexts (chapter 9) -/

/-- Fills and key commands of a vault (R297–R310, R326, R328): a command of an ounce that is not busy, for a slot of a served zone,
acts and leaves its status in KV_KEY_STATUS. -/
def Obligations.KeyCommandsTakeEffect : Prop :=
  ∀ (s : State) (o h : Nat),
    let r := s.recBytes h
    let z := handleZone h
    let takes : Prop := h = (s.rd (kvReg o 0x204)).toNat ∧ s.fld (kvReg o 0x208) 31 31 = 0 ∧ s.zoneServed z = true ∧
      1 ≤ handleSlot h ∧ handleSlot h < (s.zone z).count
    let open_ : Prop := s.keyHold = false ∧ s.isStandby = false
    (s.zoneServed z = true → s.domOn (68 + o) = true → 1 ≤ handleSlot h → handleSlot h < (s.zone z).count → s.keyHold = false →
      oget s.vlt.resident (resKey o h) = none → s.vlt.fills = [] →
      exec (.vaultFill o h) s = .next { s with vlt := { s.vlt with fills := [(o, h, true)] } }) ∧
    (s.vlt.fills = [(o, h, true)] → s.domOn (68 + o) = true → s.keyHold = false →
      exec (.vaultFillDone o h) s = .next (({ s with vlt := { s.vlt with fills := [] } } : State).fill o h).2) ∧
    (takes → recState r = 0 → exec (.readAttr o) s = .next (s.keyStat o 0x403 false)) ∧
    (takes → recState r ≠ 0 → ∃ t, exec (.readAttr o) s = .next t ∧ (s.openRecord h r = none → t = s.keyStat o 0x404 false) ∧
      ∀ k, s.canon → s.openRecord h r = some k → t.fld (kvReg o 0x208) 31 31 = 1 ∧
        t.rd (kvReg o 0x220) = BitVec.ofNat 32 (s.refcnt h) ∧
        t.rd (kvReg o 0x210) = BitVec.ofNat 32 (recState r + 4 * z + 2 ^ 16 * recEpoch r)) ∧
    (takes → open_ → recState r ≠ 0 → s.genReady z = true → exec (.retire o) s = .next (
      match s.openRecord h r with
      | none => s.keyStat o 0x404 false
      | some k => if k.retired then s.keyStat o 0 true else (s.retireKey h k).keyStat o 0 true)) ∧
    (takes → open_ → recState r ≠ 0 → s.refcnt h ≠ 0 → exec (.delete o) s = .next (s.keyStat o 0x405 false)) ∧
    (takes → open_ → recState r ≠ 0 → s.refcnt h = 0 → exec (.delete o) s =
      .next (((s.putRecord h (emptyRecord h)).zeroiseKey h).keyStat o 0 true)) ∧
    (takes → exec (.evict o) s = .next ((s.zeroiseKey h).keyStat o 0 true)) ∧
    (oget s.vlt.retire o = none → exec (.keyCmdComplete o) s = .next (s.setFld (kvReg o 0x208) 31 31 0))

/-- Zone commands and the vault's configuration (R299, R302, R313–R315, R326–R328). -/
def Obligations.ZoneCommandsTakeEffect : Prop :=
  ∀ (s : State) (o z : Nat) (v : Reg),
    let x := s.zone z
    let ends (u : State) : Outcome := .next (u.zoneDone 0 u.zoneBusy)
    let open_ : Prop := z = s.fld (kvReg o 0x140) 5 0 ∧ s.keyHold = false ∧ s.isStandby = false
    let free : Prop := s.pageLive (kvPage o) = true ∧ s.lockInForce = false
    (open_ → (s.zoneLc z = 1 ∨ s.zoneLc z = 2) → x.count ≠ 0 → x.started = false → x.epoch < 0xFFFF → exec (.zoneStart o) s =
      ends ((s.setZone z { x with started := true, epoch := x.epoch + 1 }).zoneDelta z)) ∧
    (open_ → x.started = true → exec (.zoneStop o) s = ends (((s.setZone z { x with started := false }).zeroiseZone z).zoneDelta z)) ∧
    (open_ → s.zoneBusy = false → s.zoneServed z = true → x.epoch < 0xFFFF → exec (.zoneRekey o) s =
      ends ((s.setZone z { x with epoch := x.epoch + 1, rekey := true }).zoneDelta z)) ∧
    (open_ → s.zoneBusy = false → s.zoneServed z = true → ∃ t, exec (.zoneExport o) s = .next t ∧ (t.zone z).busy = 4 ∧
      t.vlt.haddr = s.rd64 (kvReg o 0x158) ∧ t.mem = s.mem) ∧
    (open_ → s.zoneBusy = false → x.started = false → ∃ t, exec (.zoneLoad o) s = .next t ∧ (t.zone z).busy = 5 ∧
      t.vlt.haddr = s.rd64 (kvReg o 0x158) ∧ t.mem = s.mem) ∧
    (x.rekey = true → x.started = true → s.keyHold = false → s.usedSlots (s.recAddr (handleOf z 0)) x.count = [] →
      ∃ u : State, u = (s.setZone z { x with floor := x.epoch, rekey := false }).zoneDelta z ∧
        exec (.rekeyWalkEnd z) s = .next ([0, 1, 2, 3].foldl (fun u p => u.irq (kvPage p) 1)
          ([0, 1, 2, 3].foldl (fun u p => u.setFld (kvReg p 0x154) 31 31 (b2n u.zoneBusy)) u))) ∧
    (x.busy = 4 → s.busMaster = true → s.keyHold = false → ∃ u : State,
      u = ((s.setZone z { x with busy := 0, seq := x.seq + 1 }).setBytes (spHost + s.vlt.haddr)
          ((s.setZone z { x with busy := 0, seq := x.seq + 1 }).imageHeader z (x.seq + 1))).copyRange
        (s.recAddr (handleOf z 0)) (spHost + s.vlt.haddr + 64) (128 * x.count) ∧
      (u.usedSlots (spHost + s.vlt.haddr + 64) x.count = [] → exec (.zoneTransferDone z) s =
        .next ([0, 1, 2, 3].foldl (fun u p => u.irq (kvPage p) 1) (u.zoneDone 0 u.zoneBusy)))) ∧
    (free → z = s.fld (kvReg o 0x140) 5 0 → s.rangeOk z (getField v 24 0) x.count = true →
      exec (.zoneRangeWrite o false v) s = .next ((s.setZone z { x with zbase := getField v 24 0 }).took (kvPage o))) ∧
    (free → z = s.fld (kvReg o 0x140) 5 0 → s.rangeOk z x.zbase (getField v 26 0) = true →
      exec (.zoneRangeWrite o true v) s = .next ((s.setZone z { x with count := getField v 26 0 }).took (kvPage o))) ∧
    (free → s.vlt.zones.any (fun e => e.2.started) = false → s.validCtxs = [] →
      (getField v 15 0 = 0 → exec (.kvBaseWrite o 0x108 v) s = .next ((s.wrAll tKV 0x108 v).took (kvPage o))) ∧
      (getField v 25 0 ≤ 2 ^ 25 → exec (.kvBaseWrite o 0x110 v) s =
        .next ((s.wrAll tKV 0x110 (BitVec.ofNat 32 (getField v 25 0))).took (kvPage o)))) ∧
    (s.lockInForce = false → 10 ≤ getField v 4 0 → getField v 4 0 ≤ 30 → bitAt v 31 = false → exec (.kvCfgWrite o v) s =
      .next ((s.wrAll tKV 0x100 (BitVec.ofNat 32 (getField v 4 0 + 2 ^ 8 * getField v 15 8))).took (kvPage o)))

/-- Commands on endpoint contexts, their fills and write-backs, and the updates of verdict programs (R316–R325). -/
def Obligations.ContextCommandsTakeEffect : Prop :=
  ∀ (s : State) (o i c t : Nat) (x : CtxOp),
    let y := s.ctx i
    let st := s.staged o
    let free : Prop := s.fld (kvReg o 0x304) 31 31 = 0
    let ends (u : State) : Outcome := .next (u.ctxStat o 0 true)
    let up (z : Ctx) : Ctx := z.put 12 4 ((z.fld 12 4 + 1) % 2 ^ 32)
    (free → y.valid = false → st.port = 1024 → s.isStandby = false → (createHeader y st false).port = 1024 →
      verdBad ((createHeader y st false).fld 4 4) = false → exec (.create o i) s =
      ends ((State.reachCtx { s with cxs := { s.cxs with cache := odel i s.cxs.cache,
                                                         hbm := cput {} (createHeader y st false) i s.cxs.hbm } } i).ctxDelta i)) ∧
    (free → y.valid = true → exec (.create o i) s = .next (s.ctxStat o 0x408 false)) ∧
    (free → y.valid = true → st.port = y.port → st.rxSci = y.rxSci → st.zone = y.zone → verdBad (st.fld 4 4) = false →
      s.bindClash i (modifyHeader y st) = false → s.isStandby = false → exec (.modify o i) s =
      ends (((s.reachCtx i).modCtx i fun z => modifyHeader z st).ctxDelta i)) ∧
    (free → y.valid = true → ∃ u : State, u = s.reachCtx i ∧ exec (.ctxRead o i) s = ends ((List.range 32).foldl
      (fun w k => w.wrn (kvReg o (0x380 + 4 * k)) (ofLe (sliceBytes (u.ctx i).hdr (4 * k) 4))) u)) ∧
    (free → y.valid = true → y.sa.any SaRec.inService = false → exec (.destroy o i) s =
      ends (((s.reachCtx i).modCached i fun e =>
        { e with c := { (e.c.setCtl 0 false) with sa := List.replicate 6 {}, bitmap := List.replicate 4 0 },
                 shadow := List.replicate 6 none }).ctxDelta i)) ∧
    (free → y.valid = true → y.sa.any SaRec.inService = true → exec (.destroy o i) s = .next (s.ctxStat o 0x40E false)) ∧
    (free → y.valid = true → exec (.resetLimiter o i) s = ends ((s.reachCtx i).modCtx i fun z => z.put 0x28 8 (z.fld 0x24 4))) ∧
    (exec (.ctxCmdComplete o) s = .next (s.setFld (kvReg o 0x304) 31 31 0)) ∧
    (∃ u, exec (.contextFillDone i) s = .next u ∧ u.cxs = (s.fillCtx i).cxs ∧ u.mem = (s.fillCtx i).mem) ∧
    (∀ e, s.ctxCached i = some e → e.changed = true → exec (.contextWriteback i) s = .next (s.writeBack i)) ∧
    (s.cxs.ops = [x] → x.core = c → x.tkt = t → s.isStandby = false → (s.ctx x.ctx).valid = true → ∃ u : State,
      u = (s.dropCtxOp x).reachCtx x.ctx ∧
      (ofLe (x.block.take 1) = 1 → exec (.ctxupdStore c t) s = .next ((((u.modCtx x.ctx fun z =>
          up { z with hdr := spliceBytes z.hdr (0x50 + ofLe (sliceBytes x.block 2 1)) (sliceBytes x.block 0x10 (ofLe (sliceBytes x.block 1 1))) }).ctxDelta
        x.ctx).kvBump (cacheOunce (s.ctx x.ctx).cacheOf) 6).completeTicket c t 0)) ∧
      (ofLe (x.block.take 1) = 3 → exec (.ctxupdRead c t) s = .next (((u.setBytes (spData c + ofLe (sliceBytes x.block 8 4))
        (u.ctx x.ctx).hdr).kvBump (cacheOunce (s.ctx x.ctx).cacheOf) 6).completeTicket c t 0)) ∧
      (∀ n, ofLe (x.block.take 1) = 2 → n = 0x50 + ofLe (sliceBytes x.block 2 1) →
        -(2 ^ 63 : Int) ≤ toSigned64 ((u.ctx x.ctx).fld n 8) + toSigned64 (ofLe (sliceBytes x.block 0x10 8)) →
        toSigned64 ((u.ctx x.ctx).fld n 8) + toSigned64 (ofLe (sliceBytes x.block 0x10 8)) < 2 ^ 63 →
        exec (.ctxupdAdd c t) s = .next ((((u.modCtx x.ctx fun z => up (z.put n 8 (ofSigned64
            (toSigned64 ((u.ctx x.ctx).fld n 8) + toSigned64 (ofLe (sliceBytes x.block 0x10 8)))))).ctxDelta
          x.ctx).kvBump (cacheOunce (s.ctx x.ctx).cacheOf) 6).completeTicket c t 0)))

/-! ### Public-key engines (chapter 10) -/

/-- A public-key operation whose engine holds its operands computes (R338–R342, R344, R346): its result with status 0, 0x0501 for an
input that its row does not allow, 0x0502 for a signature that does not verify. The values of keys wrapped in blobs are whatever the
blob opens to. -/
def Obligations.PublicKeyOperationsCompute : Prop :=
  ∀ (s : State) (o e : Nat) (x : PkRun),
    let k := x.nbits / 8
    let a (i : Nat) : List Byte := x.arg i
    let c := curveOf x.curve
    let runs (fn : Nat) : Prop := s.pkRun o e = some x ∧ x.fn = fn ∧ x.ready = true ∧ x.computed = false
    let fin (t : State) (code : Nat) (out pub : List Byte) : State :=
      t.setPkRun o e { x with computed := true, status := code, out := out, pub := pub }
    let refused (t : State) : State := t.setPkRun o e { x with computed := true, status := 0x501 }
    let bad : State := refused s
    let unv : State := s.setPkRun o e { x with computed := true, status := 0x502 }
    let blob (z n uses : Nat) (f : PkKey → State) : State := match s.blobOpen (a 0) x.zone z n uses with | none => bad | some key => f key
    let ec : Prop := 1 ≤ x.curve ∧ x.curve ≤ 3 ∧ x.nbits = 0
    (∀ n b y, runs 0x01 → x.curve = 0 → 256 ≤ x.nbits → x.nbits ≤ 8192 → x.nbits % 64 = 0 → x.l 0 = k → x.l 1 = k → 1 ≤ x.l 2 → x.l 2 ≤ k →
      k ≤ x.l 3 → n = ofBe (a 0) → b = ofBe (a 1) → y = ofBe (a 2) → n % 2 = 1 → n.testBit (x.nbits - 1) = true → 1 ≤ b → b < n → 1 ≤ y →
      exec (.modexp o e) s = .next (fin s 0 (beBytes k (b ^ y % n)) [])) ∧
    (∀ n y, runs 0x10 → rsaPublic x.nbits (a 0) = some (n, y) → x.curve = 0 → rsaSize x.nbits true = true → x.l 1 = x.hlen → x.l 2 = k →
      1 ≤ ofBe (a 2) → ofBe (a 2) < n →
      exec (.rsaVerify o e) s =
        .next (if x.pad = 0 ∧ beBytes k (ofBe (a 2) ^ y % n) = emsaPkcs1 k (a 1) ∨
          x.pad ≠ 0 ∧ pssVerify k (a 1) (beBytes k (ofBe (a 2) ^ y % n)) = true then fin s 0 [] [] else unv)) ∧
    (runs 0x11 → x.curve = 0 → rsaSize x.nbits false = true → x.l 1 = x.hlen → k ≤ x.l 3 → x.pad = 0 → exec (.rsaSign o e) s =
      .next (blob 0 x.nbits 1 fun key => fin s 0 (beBytes k (rsaPrivate key (ofBe (emsaPkcs1 k (a 1))))) [])) ∧
    (runs 0x11 → x.curve = 0 → rsaSize x.nbits false = true → x.l 1 = x.hlen → k ≤ x.l 3 → x.pad ≠ 0 → (s.draw o ((x.hlen + 15) / 16)).1 ≠ none →
      ∃ salt u, (salt, u) = (s.draw o ((x.hlen + 15) / 16)).2.freeBytes x.hlen ∧ exec (.rsaSign o e) s =
        .next (blob 0 x.nbits 1 fun key => match emsaPss k (a 1) salt with
          | none => refused u
          | some em => fin u 0 (beBytes k (rsaPrivate key (ofBe em))) [])) ∧
    (∀ n y, runs 0x12 → rsaPublic x.nbits (a 0) = some (n, y) → x.curve = 0 → rsaSize x.nbits false = true →
      x.l 1 + 2 * x.hlen + 2 ≤ k → k ≤ x.l 3 → (s.draw o ((x.hlen + 15) / 16)).1 ≠ none →
      ∃ seed u, (seed, u) = (s.draw o ((x.hlen + 15) / 16)).2.freeBytes x.hlen ∧ exec (.rsaEncrypt o e) s =
        .next (fin u 0 (beBytes k (modPow (ofBe (oaepEncode k x.hlen (a 1) seed)) y n)) [])) ∧
    (runs 0x13 → x.curve = 0 → rsaSize x.nbits false = true → x.l 1 = k → k ≤ x.l 3 + 2 * x.hlen + 2 → 1 ≤ ofBe (a 1) →
      exec (.rsaDecrypt o e) s = .next (blob 0 x.nbits 2 fun key => if nth 0 (rsaParts key) 5 ≤ ofBe (a 1) then bad else
        match oaepDecode k x.hlen (beBytes k (rsaPrivate key (ofBe (a 1)))) with | none => bad | some m => fin s 0 m [])) ∧
    (∀ q r t, runs 0x20 → ec → digestLen (x.l 1) = true → x.l 2 = 2 * c.fw → c.decode (a 0) = some q → r = ofBe ((a 2).take c.fw) →
      t = ofBe ((a 2).drop c.fw) → 1 ≤ r → r < c.n → 1 ≤ t → t < c.n →
      exec (.ecdsaVerify o e) s = .next (if c.verify q (a 1) r t = true then fin s 0 [] [] else unv)) ∧
    (runs 0x21 → ec → digestLen (x.l 1) = true → 2 * c.fw ≤ x.l 3 → (s.draw o 2).1 ≠ none → ∃ extra u,
      (extra, u) = (s.draw o 2).2.freeBytes 32 ∧ exec (.ecdsaSign o e) s = .next (blob x.curve 0 1 fun key =>
        match c.sign key.d (a 1) extra with | none => u | some (r, t) => fin u 0 (beBytes c.fw r ++ beBytes c.fw t) [])) ∧
    (runs 0x22 → ec → c.fw ≤ x.l 3 → exec (.ecdh o e) s = .next (blob x.curve 0 4 fun key =>
      match c.decode (a 1) with
      | none => bad
      | some q => match c.mul key.d (some q) with | none => bad | some (px, _) => fin s 0 (beBytes c.fw px) [])) ∧
    (∀ ok, runs 0x30 → x.curve = 4 → x.nbits = 0 → x.l 0 = 32 → x.l 1 ≤ 65536 → x.l 2 = 64 → edVerify (a 0) (a 1) (a 2) = some ok →
      exec (.ed25519Verify o e) s = .next (if ok = true then fin s 0 [] [] else unv)) ∧
    (runs 0x31 → x.curve = 4 → x.nbits = 0 → x.l 1 ≤ 65536 → 64 ≤ x.l 3 → exec (.ed25519Sign o e) s =
      .next (blob 4 0 1 fun key => fin s 0 (edSign (key.text.take 32) (a 1)) [])) ∧
    (runs 0x32 → x.curve = 5 → x.nbits = 0 → x.l 1 = 32 → 32 ≤ x.l 3 → exec (.x25519 o e) s =
      .next (blob 5 0 4 fun key => 
        if (x25519 (key.text.take 32) (a 1)).all (· = 0) = true then bad else fin s 0 (x25519 (key.text.take 32) (a 1)) [])) ∧
    (runs 0x40 → 1 ≤ x.curve → x.curve ≤ 5 → x.nbits = 0 → x.l 2 = (if x.curve ≤ 3 then 2 * c.fw + 1 else 32) →
      48 + blobText (curveKind x.curve) x.curve 0 ≤ x.l 3 → s.genReady x.zone = true → (s.draw o 5).1 ≠ none →
      ∃ (r priv pub : List Byte) (u w : State) (gen use d : Nat), (r, u) = (s.draw o 5).2.freeBytes 72 ∧ (gen, w) = u.nextGen x.zone ∧
        d = 1 + ofLe r % (c.n - 1) ∧ (x.curve ≤ 3 → priv = beBytes c.fw d ∧ pub = c.encode (c.mul d c.g) ∧ use = if x.pad = 1 then 1 else 4) ∧
        (x.curve = 4 → priv = r.take 32 ∧ pub = edPublic priv ∧ use = 1) ∧ (x.curve = 5 → priv = r.take 32 ∧ pub = x25519Public priv ∧ use = 4) ∧
        exec (.pkgen o e) s = .next (fin w 0 (w.blobSeal x.zone gen
          { kind := curveKind x.curve, curve := x.curve, use := use, text := priv ++ pub }) pub)) ∧
    (runs 0x41 → 16 ≤ x.l 1 → x.l 1 ≤ 4096 → s.genReady x.zone = true → exec (.pkImport o e) s =
      .next (match pkImportKey x with
        | none => bad
        | some key => if x.l 3 < 48 + key.text.length then bad else
          fin (s.nextGen x.zone).2 0 ((s.nextGen x.zone).2.blobSeal x.zone (s.nextGen x.zone).1 key) [])) ∧
    (runs 0x42 → x.curve ≤ 5 → (x.curve = 0 → rsaSize x.nbits false = true) → (x.curve ≠ 0 → x.nbits = 0) → s.genReady x.zone = true →
      exec (.pkRewrap o e) s = .next (blob x.curve x.nbits 7 fun key => if x.l 3 < 48 + key.text.length then bad else
        fin (s.nextGen x.zone).2 0 ((s.nextGen x.zone).2.blobSeal x.zone (s.nextGen x.zone).1 key) []))

/-- Queues, engines, results and configuration of the public-key engines (R331, R332, R335, R343, R345, R351, R357, R358, R361, R362). -/
def Obligations.PublicKeyEnginesTakeCommands : Prop :=
  ∀ (s : State) (o e q k n : Nat) (v : Reg) (w : Word) (x : PkRun),
    let b := pkQ o q 0
    let noRun : State := { s with pk := { s.pk with run := odel (o * 16 + e) s.pk.run } }
    ((n % 65536 + 65536 - s.fld (pkQ o q 0x14) 15 0) % 65536 ≤ 2 ^ s.fld b 7 4 →
      exec (.pkQProdWrite o q n) s = .next ((s.setFld (pkQ o q 0x10) 15 0 n).took (pkPage o))) ∧
    (k < 4 → s.coreRuns e = true → s.fenceFail (256 + e / 32) (clsRing (s.core e).ring) accW (0x97F000 + 8 * k) 8 = none →
      exec (.pkDoorbellStore e k w) s = .next (s.pkProd (e / 32) (4 + k) w.toNat)) ∧
    (∀ t key u, s.keyHold = false → s.domOn (68 + o) = true → s.pk.retry = [] → s.fld (pkReg o 0x100) 0 0 = 1 → s.pkNextQueue o = some q →
      x = s.pkHead o q → x.space ≠ 1 → s.pkChecks o x = (.ok key, t) → t.pkAssign o x = some (e, none) →
      u = t.setFld (pkQ o q 0x14) 15 0 (t.fld (pkQ o q 0x14) 15 0 + 1) → exec (.pkDescriptorTake o) s =
        .next ({ u with pk := { u.pk with lastQ := cput 7 q o t.pk.lastQ,
                                          run := oput { x with kbpk := key, e1 := e, e2 := none } (o * 16 + e) u.pk.run } })) ∧
    (∀ u, s.keyHold = false → s.domOn (68 + o) = true → s.pk.retry = [] → s.fld (pkReg o 0x100) 0 0 = 1 → s.pkNextQueue o = some q →
      x = s.pkHead o q → x.space ≠ 1 → pkShape x.fn = none → u = s.setFld (pkQ o q 0x14) 15 0 (s.fld (pkQ o q 0x14) 15 0 + 1) →
      exec (.pkDescriptorTake o) s =
        .next ((State.pkBump { u with pk := { u.pk with lastQ := cput 7 q o s.pk.lastQ } } o 4).pkFinish o x 0x507 0)) ∧
    (∀ arg : Nat → List Byte, s.pkRun o e = some x → x.ready = false → (s.busMaster = true ∨ ∀ i < 4, x.a i / 2 ^ 62 ≠ 1) →
      (∀ i, arg i = if (pkOutputs x.fn).contains i then [] else s.pkRead o (x.a i / 2 ^ 62) (x.a i % 2 ^ 62) (x.l i)) →
      exec (.pkOperandsReady o e) s = .next (s.setPkRun o e { x with ready := true, args := [arg 0, arg 1, arg 2] })) ∧
    (s.pkRun o e = some x → x.computed = true → exec (.pkResultIssue o e true) s = .next (noRun.pkIssue o x x.status)) ∧
    (s.pkRun o e = some x → x.computed = true → x.retried = true → x.e2 = none → s.pk.test = [] → ∃ u : State,
      u = (noRun.pkBump o 3).irq (pkPage o) 1 ∧ exec (.pkResultIssue o e false) s =
        .next (State.pkIssue { u with pk := { u.pk with test := [o * 16 + x.e1] } } o x 0x504)) ∧
    (s.domOn (68 + o) = true → s.sealEngine o = some e → s.pkTesting o e = false → exec (.pkSelfTest o true) s =
      .next { s with pk := { s.pk with test := s.pk.test ++ [o * 16 + e] } }) ∧
    (s.domOn (68 + o) = true → (s.pkEngines o).length < 3 → exec (.pkSelfTest o false) s = .next s) ∧
    (s.domOn (68 + o) = true → 3 ≤ (s.pkEngines o).length →
      (((List.range 15).map fun i => (cget 14 s.pk.lastTest o + 1 + i) % 15).find? fun e => s.pkInService o e) = some e →
      exec (.pkSelfTest o false) s =
        .next { s with pk := { s.pk with test := s.pk.test ++ [o * 16 + e], lastTest := cput 14 e o s.pk.lastTest } }) ∧
    (s.pkTesting o e = true → s.pkBusy o e = false → ∃ u : State, u = { s with pk := { s.pk with test := s.pk.test.filter (· != o * 16 + e) } } ∧
      exec (.pkSelfTestEnd o e true) s = .next (u.pkBump o 7) ∧
      exec (.pkSelfTestEnd o e false) s = .next (((u.setFld (pkReg o 0x108) e e 1).status (pkReg o 0x10C) 0x508).irq (pkPage o) 2)) ∧
    (s.lockInForce = false → bitAt v 31 = false → (bitAt v 1 = false ∨ s.silicon = 0 ∨ s.silicon = 1) → exec (.pkCfgWrite o v) s =
      .next (((s.setFld (pkReg o 0x100) 0 0 (getField v 0 0)).took (pkPage o)).setFld (pkReg o 0x100) 1 1 (getField v 1 1))) ∧
    (s.fld b 0 0 = 0 → 4 ≤ getField v 7 4 → getField v 7 4 ≤ 12 → getField v 9 8 ≤ 2 → exec (.pkQCfgWrite o q 0 v) s =
      .next ((s.wr b (v &&& 0x3F1)).took (pkPage o))) ∧
    (s.fld b 0 0 = 0 → exec (.pkQCfgWrite o q 8 v) s = .next ((s.wr (pkQ o q 8) (v &&& 0xFFFFFFC0)).took (pkPage o)) ∧
      exec (.pkQCfgWrite o q 12 v) s = .next ((s.wr (pkQ o q 12) v).took (pkPage o))) ∧
    (∀ z, s.pageLive (pkPage o) = true → s.lockInForce = false → z = s.fld (pkReg o 0x120) 5 0 → getField v 15 0 ≤ (s.zone z).epoch →
      exec (.pkBfloorWrite o v) s = .next ((State.zoneDelta
        { s with vlt := { s.vlt with bfloor := cput 0 (getField v 15 0) z s.vlt.bfloor } } z).took (pkPage o)))

/-! ### The journal (chapter 11) -/

/-- Admission, export and seals of the journal, and GENESIS (R364–R373, R401): each acts as written when the conditions of its clause hold. -/
def Obligations.JournalCommandsTakeEffect : Prop :=
  ∀ (s : State) (k o r : Nat) (v : Reg),
    let x := s.strand k
    let y := s.sealOf o
    (∀ a rest n, x.queue = a :: rest → n = (s.clk.ns - x.tokT) / 1000 → 1 ≤ x.tokens + n → exec (.strandAdmit k) s =
      .next (((((s.setStrand k { x with queue := rest, reserved := x.reserved - 1, tokens := Min.min 64 (x.tokens + n) - 1,
                                         tokT := x.tokT + 1000 * n }).chainEntry k a).commitFollow a.vid).refillStrand k))) ∧
    (∀ b p u, r < 4 → s.nextExport o r = some b → p = (s.rd (jnX o r 12)).toNat →
      (p + 2 ^ 32 - (s.rd (jnX o r 16)).toNat) % 2 ^ 32 < 2 ^ s.fld (jnX o r 8) 4 0 → s.fld (jnReg o 0x100) 1 1 = 1 → s.busMaster = true →
      u = (((s.setBytes (spHost + s.rd64 (jnX o r 0) + 256 * (p % 2 ^ s.fld (jnX o r 8) 4 0)) b).wrn (jnX o r 12) (p + 1)).jnBump o 4).irq
        (jnPage o) 0 → exec (.journalExport o r) s =
        .next ((u.setStrand (4 * o + r) { u.strand (4 * o + r) with exported := (u.strand (4 * o + r)).exported + 1 }).ringLeave (4 * o + r))) ∧
    (∀ b p u, 4 ≤ r → (cget {} s.jn.seals o).out.head? = some b → p = (s.rd (jnX o r 12)).toNat →
      (p + 2 ^ 32 - (s.rd (jnX o r 16)).toNat) % 2 ^ 32 < 2 ^ s.fld (jnX o r 8) 4 0 → s.fld (jnReg o 0x100) 1 1 = 1 → s.busMaster = true →
      u = (((s.setBytes (spHost + s.rd64 (jnX o r 0) + 256 * (p % 2 ^ s.fld (jnX o r 8) 4 0)) b).wrn (jnX o r 12) (p + 1)).jnBump o 4).irq
        (jnPage o) 0 → exec (.journalExport o r) s = .next (u.setSeal o { u.sealOf o with out := (u.sealOf o).out.drop 1 })) ∧
    ((v.toNat + 2 ^ 32 - (s.rd (jnX o r 16)).toNat) % 2 ^ 32 ≤ ((s.rd (jnX o r 12)).toNat + 2 ^ 32 - (s.rd (jnX o r 16)).toNat) % 2 ^ 32 →
      exec (.jnXconsWrite o r v) s = .next ((s.wr (jnX o r 16) v).took (jnPage o))) ∧
    ((s.rd (jnX o r 12)).toNat = (s.rd (jnX o r 16)).toNat → v ≠ s.rd (jnX o r 16) →
      exec (.jnXconsWrite o r v) s = .next (s.status (jnReg o 0x104) 0x608)) ∧
    (s.jnEnabled o = true → s.isStandby = false → y.cur = none → ∃ t, exec (.sealTrigger o) s = .next t ∧
      exec (.sealNow o) s = .next (t.took (jnPage o)) ∧ (t.sealOf o).asked = false ∧ (t.sealOf o).no = y.no ∧
      (t.sealOf o).cur = some (sealHead o (b2n (s.pkInv o)) (y.no + 1) s.clk.tim 0 s.roleGen
        ([0, 1, 2, 3].map fun i => (s.strand (4 * o + i)).seq) y.prev, sha384 (sealHead o (b2n (s.pkInv o)) (y.no + 1) s.clk.tim 0 s.roleGen
        ([0, 1, 2, 3].map fun i => (s.strand (4 * o + i)).seq) y.prev ++ [0, 1, 2, 3].flatMap fun i => s.headChain (4 * o + i)))) ∧
    (s.jnEnabled o = true → s.isStandby = false → y.cur ≠ none → exec (.sealTrigger o) s = .next (s.setSeal o { y with waiting := true })) ∧
    (y.cur ≠ none → s.lockInForce = false → s.sealAble o = true → exec (.sealRequest o) s = .next (s.setSeal o { y with asked := true })) ∧
    (∀ c, y.cur = some c → y.asked = true → y.retried = false → s.isoOunce o = false → exec (.sealComplete o true) s =
      .next ((s.sealSign o c.2).2.2.setSeal o { y with retried := true, asked := false })) ∧
    (∀ c, y.cur = some c → y.asked = true → s.isoOunce o = false → y.retried = false → exec (.sealComplete o false) s =
      .next (if (s.sealSign o c.2).1 = 0 then (s.sealSign o c.2).2.2.sealFinish o 0 c.1 c.2 (s.sealSign o c.2).2.1
        else (s.sealSign o c.2).2.2.setSeal o { y with retried := true, asked := false })) ∧
    ((∀ i < 4, s.vpOn i = false) → s.twState ≤ 1 → ∃ u : State, exec (.genesis o) s = .next ((u.markers 1 s.roleGen).took (jnPage o)) ∧
      u.mem = s.mem ∧ ∀ i < 16, (u.strand i).seq = 0 ∧ (u.strand i).uncommitted = [] ∧
        (u.strand i).chain = genesisChain (s.rd64 (jnReg 0 0x110)) i)

/-! ### The twin (chapter 11) -/

/-- The mirror stream and checkpoints at either partner (R374, R377, R379, R380, R384–R387): a frame at the head of the link's accepted
frames, `(t, q, u, b)` with payload `b`, acts as its clause says. -/
def Obligations.MirrorAndCheckpointsTakeEffect : Prop :=
  ∀ (s u : State) (k t q w : Nat) (b : List Byte) (m : Mirror) (ms : List Mirror),
    let c := u.jn.rx
    let seg := beAt b 4 4
    let d := sliceBytes b 32 (beAt b 12 4)
    (s.linkTake 0 [2] = some ((t, q, w, b), u) → u.jn.unacked = m :: ms → exec .twinAckRx s =
      .next (((State.twBump { u with jn := { u.jn with unacked := ms, sentT := u.jn.sentT.drop 1 } } 9).acked m).tryCommitSwap)) ∧
    (∀ x, s.linkTake 0 [1] = some ((t, q, w, b), u) → u.mirrorOpen = true → beAt b 1 1 ≠ 3 → beAt b 2 1 < 16 → x = u.strand (beAt b 2 1) →
      beAt b 4 8 = x.seq + 1 →
      let marks := x.genesisSeen || decide (beAt b 1 1 = 4) && decide (beAt b 0x30 1 = 1)
      exec .journalFrameRx s = .next ((u.setStrand (beAt b 2 1)
        { x with seq := x.seq + 1, toVerify := x.toVerify ++ [b], genesisSeen := marks }).linkSend 0 2 0 [])) ∧
    (s.linkTake 0 [1] = some ((t, q, w, b), u) → u.mirrorOpen = true → beAt b 1 1 ≠ 3 → beAt b 2 1 < 16 →
      beAt b 4 8 ≠ (u.strand (beAt b 2 1)).seq + 1 → exec .journalFrameRx s = .next u.mirrorFault) ∧
    (∀ e es x, s.asStandby = true → x = s.strand k → x.toVerify = e :: es → sha384 (s.chainAt k x.verified ++ e.take 0xD0) = e.drop 0xD0 →
      let y : Strand := { x with toVerify := es, chain := e.drop 0xD0, verified := beAt e 4 8,
                                 heads := ((beAt e 4 8, e.drop 0xD0) :: x.heads).take 64 }
      exec (.standbyChainVerify k) s = .next (((s.setBytes (s.entryAddr k (beAt e 4 8)) e).setStrand k y).ringLeave k)) ∧
    (∀ o x, s.linkTake 0 [1] = some ((t, q, w, b), u) → u.mirrorOpen = true → beAt b 1 1 = 3 → o = beAt b 2 1 % 4 → x = u.sealOf o →
      x.fresh = true → (∀ i < 4, beAt b (0x20 + 8 * i) 8 ≤ (u.strand (4 * o + i)).seq) → ∃ y : State, exec .sealRecordRx s = .next (y.linkSend 0 2 0 []) ∧
        exec .journalFrameRx s = .next (y.linkSend 0 2 0 []) ∧
        y.sealOf o = { x with no := beAt b 4 8, prev := u.sealDigest (b.take 0x70), out := x.out ++ [b], fresh := false }) ∧
    (∀ r, s.linkTake 0 [3] = some ((t, q, w, b), u) → u.mirrorOpen = true → deltaRecords 256 b = [r] → beAt r 8 1 ≠ 3 → u.jn.dseq < beAt r 0 8 →
      c.active = false → exec .deltaFrameRx s = .next (((State.wr64 { u with jn := { u.jn with dseq := beAt r 0 8 } } (twReg 0x120)
        (beAt r 0 8)).applyDelta r).linkSend 0 2 0 [])) ∧
    (s.twState = 2 → s.fld (twReg 0x144) 15 0 ≠ 0 → exec .checkpointTimer s = .next s.startCheckpoint) ∧
    (s.linkTake 0 [4] = some ((t, q, w, b), u) → beAt b 8 1 = 3 → u.mirrorOpen = true → c.active = true → 1 ≤ seg → c.seg = seg → c.epoch = beAt b 0 4 →
      exec .checkpointSegmentRx s = .next ((State.wrn { u with jn := { u.jn with rx := { c with seg := seg + 1, data := c.data ++ d } } }
        (twReg 0x14C) (seg + 1)).putShadow 3 (beAt b 16 8) 128 d)) ∧
    (s.linkTake 0 [4] = some ((t, q, w, b), u) → beAt b 8 1 ≠ 0xFF → u.mirrorOpen = true → c.active = true → 1 ≤ seg → c.seg ≠ seg →
      exec .checkpointSegmentRx s = .next (u.checkpointFail 0x60A)) ∧
    (∀ y : State, s.linkTake 0 [4] = some ((t, q, w, b), u) → beAt b 8 1 = 0xFF → u.mirrorOpen = true → c.active = true → c.epoch = beAt b 0 4 →
      c.seg = seg → beAt (b.drop 32) 0 4 = seg → sliceBytes (b.drop 32) 4 48 = sha384 c.data →
      y = (((u.shadowLive).wrn (twReg 0x14C) 0).twBump 6).irq twPage 2 → exec .checkpointEndRx s =
        .next (if y.twState = 9 ∨ y.twState = 11 then y.setTwState 10 else y))

/-- Heartbeats, loss, probes and the meeting of the partners (R389–R394): each changes what this device knows of its partner and what it
does about it. -/
def Obligations.PartnersMeetAndLoseEachOther : Prop :=
  ∀ (s u : State) (t q w st k : Nat) (b : List Byte) (p : TwinPos),
    let idle (x : State) : State := (State.setTwState { x with jn := { x.jn with rx := {}, shadow := [] } } 8)
    (s.jn.link.up = true → s.lockInForce = false → s.jn.cutOff = false → s.st.prep = none → exec .heartbeatTx s = .next (s.linkSend 0 5 0 [])) ∧
    (s.lockInForce = true → exec .heartbeatTx s = .next s) ∧
    (s.linkTake 0 [5] = some ((t, q, w, b), u) → u.jn.gone = false → u.jn.link.up = true → u.twActive = false →
      exec (.heartbeatRx st k) s = .next { u with jn := { u.jn with partState := st } }) ∧
    (s.linkTake 0 [5] = some ((t, q, w, b), u) → u.jn.gone = false → u.jn.link.up = true → 1 ≤ u.twState → u.twState ≤ 3 →
      9 ≤ u.jn.partState → u.jn.partState ≤ 11 → (st < 9 ∨ 11 < st) → exec (.heartbeatRx st k) s = .next u.standbyLost) ∧
    (s.jn.link.up = true → s.jn.gone = false → exec .heartbeatLoss s = .next ((s.bump twPage 0 0 8).declareLoss)) ∧
    (s.jn.probing = true → (s.twState = 10 ∨ s.twState = 11) →
      exec .probeTimeout s = .next (State.promote { s with jn := { s.jn with probing := false } })) ∧
    (s.jn.probing = true → (s.twState = 8 ∨ s.twState = 9) →
      exec .probeTimeout s = .next ((idle { s with jn := { s.jn with probing := false } }).twStatus 0x60B)) ∧
    (∀ (e g : Nat) (y : State) (r : List Byte), s.ringTake [0x26] = some ((e, g, r), u) → u.jn.probing = true → ringSrc r = u.partner →
      y = { u with jn := { u.jn with
              probing := false, partLocked := decide (beAt (ringBody r) 2 1 % 2 = 1), partRole := beAt (ringBody r) 0 1, partGen := beAt (ringBody r) 4 4 } } →
      (u.twState = 10 ∨ u.twState = 11) → beAt (ringBody r) 0 1 = 1 → beAt (ringBody r) 2 1 % 2 = 0 →
      exec .probeRspRx s = .next (idle y.verifyAll)) ∧
    (s.jn.link.up = false → 2 ≤ s.jn.link.width → s.jn.link.lost = false → s.jn.link.key ≠ [] →
      exec .twinLinkUp s = .next (State.sendState { s with jn := { s.jn with link := { s.jn.link with up := true } } })) ∧
    (∀ y : State, s.linkTake 0 [6] = some ((t, q, w, b), u) → beAt b 0 1 = 6 →
      y = { u with jn := { u.jn with partRole := beAt b 1 1, partGen := beAt b 4 4 } } → 1 ≤ y.twState → y.twState ≤ 3 →
      (beAt b 1 1 = 1 → y.roleGen ≤ beAt b 4 4 → exec (.swapStateRx p) s = .next (y.forked (beAt b 4 4) p)) ∧
      (beAt b 1 1 = 2 → beAt b 2 1 = 8 → exec (.swapStateRx p) s = .next (y.standbyJoins p)))

/-- Role swaps and the commands of TW_CMD and the TW registers (R381, R395–R399, R403): a swap step in the state its clause names, and a
command in the state that allows it, takes the device where the clause says. -/
def Obligations.SwapsAndTwinCommandsTakeEffect : Prop :=
  ∀ (s u : State) (g n : Nat) (v : Reg),
    (s.takeSwap 1 = some ((g, n), u) → g ≤ u.roleGen → exec .swapReqRx s = .next (((u.sendSwap 5 g 0x604).twBump 4).irq twPage 5)) ∧
    (s.takeSwap 1 = some ((g, n), u) → g = u.roleGen + 1 → u.twState = 2 → u.jn.partState = 10 → exec .swapReqRx s = .next (u.beginDrain g)) ∧
    (s.takeSwap 2 = some ((g, n), u) → u.twState = 2 → u.jn.swapSent = some g → exec .swapAcceptRx s = .next (u.beginDrain g)) ∧
    (s.takeSwap 2 = some ((g, n), u) → u.isStandby = true → exec .swapAcceptRx s = .next { u with jn := { u.jn with swapG := some g } }) ∧
    (∀ y z : State, s.takeSwap 3 = some ((g, n), u) → u.twState = 10 → y = u.verifyAll → y.twState = 10 →
      z = (State.takeCeilings (State.setRoleGen { y with jn := { y.jn with
        swapG := none, swapSent := none, accepting := false, partState := 10, solo := false, rx := {}, shadow := [] } } g)).setTwState 2 →
      exec .swapCommitRx s = .next ((((z.sendSwap 4 g 0).twBump 3).irq twPage 5).becomeActive 2)) ∧
    (s.takeSwap 4 = some ((g, n), u) → u.twState = 4 → u.jn.swapG = some g → ∃ y : State, exec .swapDoneRx s = .next y.forwardQueued ∧
      (u.canon → y.twState = 10) ∧ y.jn.swapG = none ∧ y.jn.accepting = true ∧ y.jn.partState = 2 ∧ y.mem = u.mem) ∧
    (s.takeSwap 5 = some ((g, n), u) → u.jn.swapSent = some g →
      exec .swapRejectRx s = .next ((State.twStatus { u with jn := { u.jn with swapSent := none } } n).irq twPage 5)) ∧
    (∀ y : State, s.twState = 3 → s.jn.drained = false → y = s.discardVerdicts.markers 4 s.roleGen →
      exec .swapDrainEnd s = .next (State.tryCommitSwap { y with jn := { y.jn with drained := true } })) ∧
    (∀ y : State, s.twState = 0 → s.jn.cutOff = false → y = State.setTwState (State.setRoleGen
        { s with jn := { s.jn with solo := s.onLossSolo, accepting := false } } ((s.roleGen + 1) % 2 ^ 32)) 1 →
      exec .twActivate s = .next ((((y.markers 2 s.roleGen).becomeActive 1).twStatus 0).took twPage)) ∧
    (s.twState ≠ 0 → exec .twActivate s = .next (s.twStatus 0x608)) ∧
    (∀ y : State, s.twState = 0 → s.jn.cutOff = false → s.jn.link.up = true → s.jn.partRole = 1 →
      y = { s with jn := { s.jn with accepting := true, gone := false } } → exec .twStandby s =
        .next (((((y.setRoleGen y.jn.partGen).setTwState 8).sendState).twStatus 0).took twPage)) ∧
    (s.jn.link.up = true → (s.twState = 1 ∨ s.twState = 2 ∨ s.isStandby = true) → exec .twSwap s =
      .next (((s.twStatus 0).requestSwap).took twPage)) ∧
    (s.jn.link.up = false → exec .twSwap s = .next (s.twStatus 0x603)) ∧
    ((s.twState = 1 ∨ s.twState = 2) → s.jn.link.up = true → 8 ≤ s.jn.partState → s.jn.partState ≤ 11 → exec .twCheckpoint s =
      .next (((s.twStatus 0).startCheckpoint).took twPage)) ∧
    (exec .twDetach s = .next ((s.detach.twStatus 0).took twPage)) ∧
    (s.pageLive twPage = true → s.lockInForce = false → getField v 1 0 < 2 → 2 ≤ getField v 15 8 → getField v 15 8 ≤ 11 → bitAt v 31 = false →
      exec (.twCfgWrite 0x100 v) s = .next ((s.wr (twReg 0x100) (v &&& 0x7FFFFF13)).took twPage)) ∧
    (s.pageLive twPage = true → s.lockInForce = false → s.twState = 0 → 20 ≤ getField v 4 0 → getField v 4 0 ≤ 30 →
      exec (.twCfgWrite 0x140 v) s = .next ((s.wr (twReg 0x140) (v &&& 0x1F)).took twPage)) ∧
    (∀ off, s.pageLive twPage = true → s.lockInForce = false → s.twState = 0 → 0x128 ≤ off → off < 0x140 → off % 4 = 0 →
      exec (.twCfgWrite off v) s = .next ((s.wr (twReg off) v).took twPage)) ∧
    (s.pageLive twPage = true → s.lockInForce = false → ∃ t, exec (.twLinkKeyWrite v) s = .next t ∧ t.jn.link.txSeq = 0 ∧ t.jn.link.rxSeq = 0 ∧
      (s.canon → t.rd (twReg 0x11C) = v) ∧
      ((s.mirrored (handleZone v.toNat)) = true → t.jn.link.key = [] ∧ t.jn.link.lost = true))

/-! ### The control ring (chapter 12) -/

/-- Ring states, presence and keys (R409, R416, R421–R424, R428, R430, Table 12.2): a command or event in the state its clause names takes the
ring where the clause says. -/
def Obligations.RingStatesFollowTheirTable : Prop :=
  ∀ (s u : State) (l p : Nat) (m : List Byte),
    let b := ringBody m
    let e : Present := { at_ := u.clk.ns, uid := b.take 16, roleGen := beAt b 16 4, twState := beAt b 20 1, flags := beAt b 21 1, prio := beAt b 22 1 }
    let down (i : Nat) : Prop := s.lnState (1032 + i) ≠ 4
    ((s.ringState = 0 ∨ 4 ≤ s.ringState) → s.rd (crReg 0x110) ≠ 0 → down 0 → down 1 → exec .join s =
      .next (((State.setRingState { s with cr := { s.cr with gotSync := false } } 1).crStatus 0).took crPage)) ∧
    ((s.ringState = 0 ∨ 4 ≤ s.ringState) → s.rd (crReg 0x110) = 0 → exec .join s = .next (s.crStatus 0x706)) ∧
    (s.ringState = 2 → exec .leave s = .next ((((s.setRingState 3).sendPresence).crStatus 0).took crPage)) ∧
    (s.ringState ≠ 2 → exec .leave s = .next (s.crStatus 0x705)) ∧
    (exec .keyArm s = .next ((State.crStatus { s with cr := { s.cr with armed := true, switched := false } } 0).took crPage)) ∧
    (s.ringState = 3 → exec .leaveTimeout s = .next (s.setRingState 0)) ∧
    (s.ringState = 1 → exec .joinTimeout s = .next ((s.setRingState 0).crStatus 0x707)) ∧
    (s.ringState = 2 → down 0 → down 1 → exec .ringIsolateTimeout s = .next ((s.setRingState 4).crStatus 0x708)) ∧
    (s.cr.armed = true → exec .keySwitchTime s = .next { s with cr := { s.cr with switched := true } }) ∧
    (s.cr.armed = true → s.cr.switched = true → ∃ t, exec .keySwitchCommit s = .next t ∧ t.cr.keyCur = s.cr.keyNext ∧ t.cr.keyNext = [] ∧
      t.cr.armed = false ∧ t.cr.switched = false ∧ (s.canon → t.rd (crReg 0x110) = s.rd (crReg 0x114) ∧ t.rd (crReg 0x114) = 0)) ∧
    (s.ringState = 1 → s.fld (crReg 0x100) 23 23 = 1 → s.cr.gotSync = false → (¬ down 0 ∨ ¬ down 1) → exec .masterSelfElect s =
      .next (((s.setCrStat 7 true).setMaster (s.fld (crReg 0x100) 27 24 * 1024 + s.position)).tryJoined)) ∧
    (s.cr.gotSync = true → s.crStat 9 = false → s.crStat 8 = false → exec .holdoverEntry s =
      .next (((s.setCrStat 8 true).crBump 8).irq crPage 4)) ∧
    (s.crStat 8 = true → exec .timeValidLoss s = .next ((s.setCrStat 7 false).electMaster)) ∧
    (s.ringState = 2 → down l → (s.ringLane l).segDown = false → exec (.segDownTimeout l) s =
      .next (((s.modRingLane l fun r => { r with segDown := true }).crBump 6).irq crPage 2)) ∧
    ((s.ringState = 2 ∨ s.ringState = 3) → exec .presenceTx s = .next s.sendPresence) ∧
    (s.ringTake [0x23] = some ((0x23, l, m), u) → ringSrc m ≠ u.position → (beAt b 21 1).testBit 6 = false →
      (oget u.cr.present (ringSrc m)).isSome = true → exec .presenceRx s =
        .next (State.electMaster { u with cr := { u.cr with present := oput e (ringSrc m) u.cr.present } })) ∧
    (s.ringTake [0x23] = some ((0x23, l, m), u) → ringSrc m ≠ u.position → (beAt b 21 1).testBit 6 = true → exec .presenceRx s =
      .next (State.electMaster { u with cr := { u.cr with present := odel (ringSrc m) u.cr.present } })) ∧
    (exec (.presenceExpiry p) s = .next (State.electMaster { s with cr := { s.cr with present := odel p s.cr.present } }))

/-- Frames, time and messages of the ring (R416–R419, R425–R427, R431, R432): what arrives, and what firmware sends or reads, acts as its
clause says. -/
def Obligations.RingFramesAndTimeTakeEffect : Prop :=
  ∀ (s u : State) (l t0 t1 a c d : Nat) (v : Reg) (p b : List Byte),
    let dst := beAt p 0 2
    let src := beAt p 2 2 % 1024
    let hops := beAt p 4 2 % 1024
    (∀ h key : List Byte, s.linkTake (l + 1) [0x20] = some ((a, c, d, h ++ p ++ helloTag key h p), u) → h.length = 8 → p.length = 32 →
      (helloTag key h p).length = 8 → key ∈ u.linkKeys (l + 1) → beAt p 16 8 = (u.ringLane l).nonce → beAt p 8 8 = (u.ringLane l).echo →
      (u.ringLane l).rsc ≠ 0 → ∃ t : State, exec (.ringHelloRx l) s = .next t.tryJoined ∧ (t.ringLane l).hello = true ∧
        (t.ringLane l).npos = beAt p 0 2 ∧ (t.ringLane l).nrsc = beAt p 4 4 ∧ (t.ringLane l).link.rxSeq = 0) ∧
    (s.linkTake (l + 1) [0x20] = some ((a, c, d, b), u) → b.length ≠ 48 → exec (.ringHelloRx l) s = .next (u.lnBump (1032 + l) 10 1)) ∧
    (∀ type w q, s.linkTake (l + 1) [0x23, 0x24, 0x25, 0x26, 0x27, 0x28, 0x29, 0x2A, 0x2B, 0x2C, 0x2D] = some ((type, c, d, p), u) → type ≠ 0x24 →
      u.onRing = true → natField dst 11 10 = 2 → 16 ≤ p.length → p.length ≤ (if ringUrgent type then 144 else 1040) → src ≠ u.position →
      2 ≤ hops → q = spliceBytes p 4 (beBytes 2 (hops - 1)) → (cget {} u.cr.wins src).accept (beAt q 8 8) = some w →
      (type = 0x27 → beAt (ringBody q) 0 1 ≤ 2) → ∃ t : State, exec (.ringFrameRx l) s = .next (t.ringQueue (1 - l) false type q) ∧
        t.cr = { u.cr with wins := cput {} w src u.cr.wins, inbox := u.cr.inbox ++ [(type, l, q)] } ∧ t.regs = u.regs ∧ t.mem = u.mem) ∧
    (∀ type, s.linkTake (l + 1) [0x23, 0x24, 0x25, 0x26, 0x27, 0x28, 0x29, 0x2A, 0x2B, 0x2C, 0x2D] = some ((type, c, d, p), u) → u.onRing = true →
      natField dst 11 10 = 3 → exec (.ringFrameRx l) s = .next (u.crBump 4)) ∧
    (∀ type, s.ringTake [0x2C, 0x2D] = some ((type, a, p), u) → u.cr.rxq.length < 64 → exec .ringMgmtRx s =
      .next (State.irq { u with cr := { u.cr with rxq := u.cr.rxq ++ [(type, ringSrc p, ringBody p)] } } crPage 1)) ∧
    (∀ type, s.ringTake [0x2C, 0x2D] = some ((type, a, p), u) → 64 ≤ u.cr.rxq.length → exec .ringMgmtRx s =
      .next (State.crBump { u with cr := { u.cr with rxLost := true } } 5)) ∧
    (s.ringState = 2 → (getField v 7 0 = 0x2C ∨ getField v 7 0 = 0x2D) → 1 ≤ getField v 18 8 → getField v 18 8 ≤ 1024 → s.crTxUsed < 16 →
      exec (.crTxSend v) s =
        .next (((s.ringSend (getField v 7 0) (s.fld (crReg 0x204) 11 0) (s.crTxData (getField v 18 8))).crStatus 0).took crPage)) ∧
    (s.ringState ≠ 2 → exec (.crTxSend v) s = .next (s.crStatus 0x701)) ∧
    (∀ type rest, s.cr.rxq = (type, a, b) :: rest → ∃ t, exec .crRxRead s = .next t ∧ t.cr.rxq = rest ∧ t.cr.rxLost = false ∧
      t.lastRead = BitVec.ofNat 64 (2 ^ 31 + 2 ^ 30 * b2n s.cr.rxLost + type * 2 ^ 16 + b.length)) ∧
    (s.ringTake [0x25] = some ((0x25, a, p), u) → u.onRing = true → u.laneJoined 0 = true → exec .ringProbeRx s =
      .next (u.ringSend 0x26 (dstPos (ringSrc p)) u.probeBody)) ∧
    (∀ n q (body : Nat → List Byte), s.onRing = true → s.crStat 9 = true → n = s.cr.msgid + 1 → q = (s.cr.txSeq + 1) % 2 ^ 32 →
      (∀ t, body t = beBytes 10 t ++ beBytes 8 0 ++ beBytes 4 q ++ beBytes 1 (s.fld (crReg 0x100) 27 24) ++ [0]) → exec (.timeSyncTx t0 t1) s =
        .next (((State.crBump { s with cr := { s.cr with msgid := n, txSeq := q } } 0).ringQueue 0 true 0x24
          (ringHeader dstAll s.position 1023 0 n ++ body t0)).ringQueue 1 true 0x24 (ringHeader dstAll s.position 1023 1 n ++ body t1))) ∧
    (∀ off : Int, s.ringTake [0x24] = some ((0x24, l, p), u) → u.crStat 9 = false → u.cr.gotSync = false → u.ringState = 2 →
      (u.ringLane l).delays = [] → (u.ringLane (1 - l)).hello = false →
      off = ((t0 : Int) - ((beAt (ringBody p) 0 10 : Int) + toSigned64 (beAt (ringBody p) 10 8))) / 65536 →
      ∃ t : State, exec (.timeSyncRx t0 t1) s = .next (t.useOffset off false) ∧ t.cr.syncSeq = beAt (ringBody p) 18 4 ∧
        t.cr.syncHops = 1023 - hops ∧ t.clk = u.clk) ∧
    (s.laneJoined l = true → exec (.pdelayReqTx l t1) s =
      .next ((s.modRingLane l fun r => { r with t1 := some t1 }).linkSend (l + 1) 0x21 0 (beBytes 8 t1))) ∧
    (s.linkTake (l + 1) [0x21] = some ((a, c, d, b), u) → exec (.pdelayReqRx l t0 t1) s =
      .next (u.linkSend (l + 1) 0x22 0 (beBytes 8 t0 ++ beBytes 8 t1))) ∧
    (∀ n, s.linkTake (l + 1) [0x22] = some ((a, c, d, b), u) → (u.ringLane l).t1 = some n → ∃ t, exec (.pdelayRspRx l t1) s = .next t ∧
      (t.ringLane l).t1 = none ∧
        (t.ringLane l).delays = ((((t1 : Int) - n) - ((beAt b 8 8 : Int) - beAt b 0 8)) / 2 :: (u.ringLane l).delays).take 16)

/-- Leases at the home, their mirror, and leases at the requester (R434–R442): a request, an answer or a deadline acts as its clause says. -/
def Obligations.LeaseCommandsTakeEffect : Prop :=
  ∀ (s u : State) (l a n e tag : Nat) (p : List Byte) (q : LeaseReq) (m : LeaseMirror),
    let b := ringBody p
    let req := ringSrc p
    let t := beAt b 8 4
    let asks (wop : Nat) : Prop := s.ringTake [0x27] = some ((0x27, l, p), u) ∧ beAt b 0 1 = wop ∧ u.servesLeases = true ∧ u.cr.answers = [] ∧
      u.cr.mirrors = [] ∧ u.leaseCounter (beAt b 4 4) = .ok n
    let x := u.lease (beAt b 16 8 % 65536)
    let v := beAt b 24 8
    let owns : Prop := x.used = true ∧ x.gen = natField (beAt b 16 8) 31 16 ∧ x.idx = n ∧ x.req = req ∧ u.clk.tim < x.expiry
    let gives (k : Int) : Outcome :=
      let w := (u.ctrVersion n + 1) % 2 ^ 64
      let ans : LeaseAns := { req := req, tag := t, body := leaseBody 0 t (ofSigned64 k) w 0 0 }
      .next (u.leaseCommit { idx := n, write := true, value := ofSigned64 k, version := w, entry := beAt b 16 8 % 65536,
                             lease := { x with used := false }, ans := ans })
    (asks 0 → u.crStat 7 = true → u.freeLease = some e → exec .leaseReqReadRx s =
      let g := ((u.lease e).gen + 1) % 65536
      let until_ := u.clk.tim + 2000000
      let lease : Lease := { used := true, idx := n, req := req, tag := t, gen := g, version := u.ctrVersion n, expiry := until_ }
      let value := u.leAt (u.ctrAddr n) 8
      let body := leaseBody 0 t value (u.ctrVersion n) (e + g * 2 ^ 16 + (u.position / 2) * 2 ^ 32) until_
      .next (u.leaseCommit { idx := n, write := false, value := value, version := u.ctrVersion n, entry := e, lease := lease,
                             ans := { req := req, tag := t, body := body } })) ∧
    (asks 0 → u.crStat 7 = false → exec .leaseReqReadRx s = .next (u.leaseRefuse req t 0x709)) ∧
    (asks 1 → owns → u.ctrVersion n = x.version → v < 2 ^ 64 → exec .leaseReqSetRx s = gives (toSigned64 v)) ∧
    (asks 1 → owns → u.ctrVersion n ≠ x.version → exec .leaseReqSetRx s = .next (u.leaseRefuse req t 0x722)) ∧
    (asks 2 → owns → -(2 ^ 63 : Int) ≤ u.ctrValue n + toSigned64 v → u.ctrValue n + toSigned64 v < 2 ^ 63 →
      exec .leaseReqAddRx s = gives (u.ctrValue n + toSigned64 v)) ∧
    (asks 2 → owns → 2 ^ 63 ≤ u.ctrValue n + toSigned64 v → exec .leaseReqAddRx s = .next (u.leaseRefuse req t 0x723)) ∧
    ((s.lease e).used = true → (s.lease e).expiry ≤ s.clk.tim → exec (.leaseExpiry e) s = .next (s.setLease e { s.lease e with used := false })) ∧
    (∃ w, exec (.resultEntryExpiry a tag) s = .next w ∧ (∀ z ∈ w.cr.answers, ¬ (z.req = a ∧ z.tag = tag)) ∧
      (∀ z ∈ s.cr.answers, ¬ (z.req = a ∧ z.tag = tag) → z ∈ w.cr.answers) ∧ w.mem = s.mem ∧ w.regs = s.regs) ∧
    (s.ringTake [0x29] = some ((0x29, l, p), u) → req = u.partner → u.asStandby = true → u.crStat 20 = true → (mirrorOf b).mseq = u.cr.mseqRx + 1 →
      (mirrorOf b).write = false → ∃ w : State, exec .leaseMirrorRx s = .next (w.sendMack (mirrorOf b).mseq) ∧ w.cr.mseqRx = u.cr.mseqRx + 1 ∧
        w.cr.leases = cput {} (mirrorOf b).lease (mirrorOf b).entry u.cr.leases ∧ { (mirrorOf b).ans with at_ := u.clk.ns } ∈ w.cr.answers) ∧
    (s.ringTake [0x29] = some ((0x29, l, p), u) → req = u.partner → u.asStandby = true → u.crStat 20 = true → (mirrorOf b).mseq ≠ u.cr.mseqRx + 1 →
      exec .leaseMirrorRx s = .next ((u.setCrStat 20 false).irq crPage 5)) ∧
    (s.ringTake [0x2A] = some ((0x2A, l, p), u) → req = u.partner → u.cr.mirrors = [m] → m.mseq = beAt b 0 8 → m.desync = false →
      m.mseq < 2 ^ 64 - 2 → exec .leaseMackRx s = .next (State.leaseApply { u with cr := { u.cr with mirrors := [] } } m)) ∧
    (s.cr.mirrors = [m] → m.desync = false → s.hasStandby = true → ∃ w : State,
      w = State.crBump (State.irq (State.setCrStat { s with cr := { s.cr with mirrors := [{ m with desync := true }], syncing := false } } 20 false)
        crPage 5) 13 ∧ (w.hasStandby = true → exec (.mirrorTmoExpiry m.mseq) s =
          .next (w.ringSend 0x2B (dstPos w.partner) (beBytes 8 (3 * 2 ^ 56))))) ∧
    (s.ringTake [0x2B] = some ((0x2B, l, p), u) → req = u.partner → u.asStandby = true → beAt b 0 1 = 2 → u.cr.syncRx = beAt b 4 4 →
      exec .ctrSyncRx s =
        .next ((((State.setCrStat { u with cr := { u.cr with syncRx := 0 } } 20 true).ctrUnknown).sendMack ackSynced))) ∧
    (s.ringTake [0x28] = some ((0x28, l, p), u) → oget u.cr.reqs (beAt b 4 4) = some q → q.wop ≠ 0 → exec .leaseRspRx s =
      .next (State.leaseResult { u with cr := { u.cr with reqs := odel q.tag u.cr.reqs } } q (beAt b 0 2) (beAt b 8 8) (beAt b 16 8)
        (beAt b 24 8) (beAt b 32 8))) ∧
    (oget s.cr.reqs tag = some q → s.clk.tim < q.deadline → exec (.leaseRetry tag) s = .next (s.leaseSendReq q)) ∧
    (oget s.cr.reqs tag = some q → q.wop = 0 → exec (.leaseReadDeadline tag) s =
      .next (State.leaseResult { s with cr := { s.cr with reqs := odel tag s.cr.reqs } } q 0x727 0 0 0 0)) ∧
    (oget s.cr.reqs tag = some q → q.wop ≠ 0 → ∃ w : State, w = s.crBump 11 ∧ exec (.leaseWriteDeadline tag) s =
      .next (State.leaseResult { w with cr := { w.cr with reqs := odel tag w.cr.reqs } } q 0x721 0 0 0 0))

/-- The counters of a stone through CR_CTR_CMD, and the ring's configuration (R433, R444, R445). -/
def Obligations.CounterCommandsTakeEffect : Prop :=
  ∀ (s : State) (off : Nat) (v : Reg),
    let i := s.ctrSel
    let free : Prop := s.fld (crReg 0x170) 31 31 = 0
    (free → i < s.ctrCount → ∃ t, exec .ctrRead s = .next t ∧ t.mem = s.mem ∧ (s.canon →
      t.rd64 (crReg 0x160) = s.leAt (s.ctrAddr i) 8 ∧ t.rd64 (crReg 0x168) = s.ctrVersion i ∧
      t.fld (crReg 0x170) 16 16 = b2n (s.ctrKnown i))) ∧
    (free → s.ctrCount ≤ i → exec .ctrRead s = .next ((s.ctrStatus 0x702 false).took crPage) ∧
      exec .ctrSet s = .next ((s.ctrStatus 0x702 false).took crPage)) ∧
    (free → i < s.ctrCount → exec .ctrSet s = .next ((((s.setCounter i (s.rd64 (crReg 0x160)) ((s.ctrVersion i + 1) % 2 ^ 64) true).ctrStatus 0
      true).ctrUnknown).took crPage)) ∧
    (free → exec .clearAll s = .next (((((List.range s.ctrCount).foldl (fun w j => w.setCounter j 0 (w.ctrVersion j) true) s).ctrStatus 0
      true).setCrStat 21 false).took crPage)) ∧
    (s.fld (crReg 0x170) 31 31 = 1 → exec .ctrRead s = .next (s.crStatus 0x704) ∧ exec .ctrSet s = .next (s.crStatus 0x704) ∧
      exec .clearAll s = .next (s.crStatus 0x704)) ∧
    (s.pageLive crPage = true → s.lockInForce = false → bitAt v 31 = false → (getField v 9 0 = s.position ∨ s.ringState = 0) →
      exec (.crCfgWrite 0x100 v) s = .next ((s.wr (crReg 0x100) (v &&& 0x0F9F03FF)).took crPage)) ∧
    (100 ≤ getField v 15 0 → getField v 15 0 ≤ 4000 → 10 ≤ getField v 23 16 → 1 ≤ getField v 31 24 → getField v 31 24 ≤ 100 →
      exec (.crCfgWrite 0x140 v) s = .next ((s.wr (crReg 0x140) v).took crPage)) ∧
    (s.pageLive crPage = true → s.lockInForce = false → s.ringState = 0 → 0x148 ≤ off → off ≤ 0x154 → off % 4 = 0 →
      exec (.crCfgWrite off v) s = .next ((s.wr (crReg off) v).took crPage)) ∧
    (s.pageLive crPage = true → s.lockInForce = false → s.ringState = 0 → v.toNat ≤ 2 ^ 20 →
      exec (.crCfgWrite 0x144 v) s = .next ((s.wr (crReg 0x144) v).took crPage))

/-! ### The host interface and the mailboxes (chapter 13) -/

/-- Resets and vectors of the host interface, its DMA rings and the frames that cross them (R450–R460, R469). -/
def Obligations.HostInterfaceCommandsTakeEffect : Prop :=
  ∀ (s : State) (r n width speed : Nat) (v : Reg) (f : Frame) (t : TxPull) (x : RxPull) (rest : List RxPull),
    let d := s.bytes (s.rgDesc r (s.rgCons r + (s.hi.tx.filter (·.ring = r)).length)) 32
    let len := ofLe (sliceBytes t.desc 8 2)
    let frame := s.bytes (spHost + ofLe (sliceBytes t.desc 0 8)) len
    (∀ down, ∃ u, exec (.pcieReset down) s = .next u ∧ u.hi.rx = [] ∧ u.hi.tx = [] ∧ (down = true → u.st.pcieReset = true) ∧
      u.cus.grant = none) ∧
    (s.st.pcieReset = true → exec (.pcieResetEnd width speed) s = .next (State.setFld { s with st := { s.st with pcieReset := false } }
      (ra tHI 0 0x100) 8 0 (width % 32 + 32 * (speed % 8) + 256))) ∧
    (n < 2048 → exec (.msixUnmask n) s = .next ((s.setFld (bar4 + 16 * n + 12) 0 0 0).flushVector n)) ∧
    ((getField v 15 0 + 65536 - s.rgCons r) % 65536 ≤ s.rgSize r → exec (.rgProdWrite r v) s = .next (s.wrn (rgReg r 0xC) (getField v 15 0))) ∧
    (s.rgSize r < (getField v 15 0 + 65536 - s.rgCons r) % 65536 →
      exec (.rgProdWrite r v) s = .next ((s.status (rgReg r 0x14) 0xA16).irq hiPage 1)) ∧
    (s.rgCfgBad r v = false → bitAt v 31 = false → exec (.rgCfgWrite r v) s = .next (s.wr (rgReg r 8) (v &&& 0x00FFFFF1))) ∧
    (s.hi.modWait.contains r = true → exec (.ringIrqModeration r) s = .next (s.rgVector r)) ∧
    (s.hostDma = true → s.portsOpen = true → r < 128 → s.hi.txTurn = (r + 127) % 128 → s.txReady r = true →
      s.txRoomUsed + ofLe (sliceBytes d 8 2) ≤ 2 ^ 19 → exec .txDescriptorTake s =
        .next { s with hi := { s.hi with tx := s.hi.tx ++ [{ ring := r, desc := d }], txTurn := r } }) ∧
    (s.hi.tx = [t] → t.ring = r → t.frame = none → txMalformed t.desc = true → exec (.txFrameReadDone r false) s = .next (s.txComplete r 0xA10)) ∧
    (s.hi.tx = [t] → t.ring = r → t.frame = none → txMalformed t.desc = false → exec (.txFrameReadDone r true) s = .next (s.txComplete r 0xA15)) ∧
    (s.hi.tx = [t] → t.ring = r → t.frame = none → txMalformed t.desc = false → ofBe (frame.take 6) ≠ s.svcMac 1 →
      (descField t.desc 0xB 1).testBit 0 = true → s.portConfigured (descField t.desc 0xC 2) = true →
      s.congested 1 (descField t.desc 0xC 2) (descField t.desc 0xA 1 % 32) = false → ∃ g : Frame, exec (.txFrameReadDone r false) s =
        .next ((s.newFrame g).txComplete r 0) ∧ g.dmac = frame.take 6 ∧ g.smac = sliceBytes frame 6 6 ∧ g.body = frame.drop 12 ∧
        g.place = .noticed (queueOf (descField t.desc 0xC 2) (descField t.desc 0xA 1 % 32)) ∧ g.src = 1024) ∧
    (s.hostDma = true → leastTag (fun f => f.cls) ((List.range 32).filterMap s.hostPullable) = some (n, f) → ∃ u : State,
      u = s.setPulls (s.hostRing f.cls) (s.rgPulls (s.hostRing f.cls) ++ [{ frame := n, count := s.hostNeed (s.hostRing f.cls) f }]) ∧
      exec .hostRxPull s = .next (((((u.modFrame n fun x => { x with place := .hostWrite (s.hostRing f.cls) }).modLane 1024
        fun x => { x with vclk := f.tag.getD x.vclk }).leaveQueue (queueOf 1024 f.cls) n).newHead (queueOf 1024 f.cls)))) ∧
    (∀ u g, s.rgPulls r = x :: rest → s.frame x.frame = some f → u = s.refreshBody x.frame → u.frame x.frame = some g → u.hostDma = true → g.ended ≠ 0 →
      g.known ≠ .pending → exec (.hostRxComplete r) s = .next ((((((fillBuffers r (hostBytes g).length (u.rgBuf r) g x.count (hostBytes g) true u).rgCount
        r 0x18 1).rgCount r 0x20 (hostBytes g).length).setPulls r rest).qBump (queueOf 1024 g.cls) 0 1).endFrame x.frame |>.rgVector r)) ∧
    (s.rgPulls r = x :: rest → s.frame x.frame = none → exec (.hostRxComplete r) s = .next (s.setPulls r rest))

/-- The mailbox channels (R461–R467): an access by the endpoint that may make it acts; another is refused as its clause says. -/
def Obligations.MailboxCommandsTakeEffect : Prop :=
  ∀ (s : State) (ch k : Nat) (v : Reg),
    let x := s.mbox ch
    let host : Prop := s.domOn 72 = true ∧ s.st.pcieReset = false ∧ s.mbEn ch = true
    let bs := leBytes 4 v.toNat
    let w := ofLe bs % 32
    (host → s.mbSend ch = 256 → x.full = false → x.ovf = false → k < 32 → exec (.mbDataWrite false ch k v) s = .next (s.mbData ch (4 * k) bs)) ∧
    (s.mbEn ch = true → 56 ≤ ch → x.full = false → k < 32 → exec (.mbDataWrite true ch k v) s = .next (s.mbData ch (4 * k) bs)) ∧
    (host → s.mbSend ch = 256 → x.full = false → x.ovf = false → 1 ≤ w → w ≤ 16 → exec (.mbSend false ch v) s = .next (s.mbDoSend ch w)) ∧
    (s.mbEn ch = true → 56 ≤ ch → x.full = false → 1 ≤ w → w ≤ 16 → exec (.mbSend true ch v) s = .next (s.mbDoSend ch w)) ∧
    (host → s.mbSend ch = 256 → x.full = true → x.ovf = false → ∃ u : State, exec (.mbSend false ch v) s = .next (u.completerAbort ch 0x80) ∧
      u = (s.setMbox ch { x with ovf := true, code := 0xA01 }).bump mbPage 0 0 1) ∧
    (host → s.mbRecv ch = 256 → (ch < 48 ∨ 56 ≤ ch) → exec (.mbTake false ch v) s = .next (s.mbDoTake ch)) ∧
    (s.mbEn ch = true → 48 ≤ ch → ch < 56 → x.full = true → exec (.mbAck true ch v) s =
      .next (s.setMbox ch { x with ack := ofLe bs % 2 ^ 16, ackValid := true, full := false })) ∧
    (host → exec (.mbAck false ch v) s = .next (((s.mbCode ch 0xA02).bump mbPage 1 0 1).completerAbort ch 0x8C)) ∧
    (host → s.mbSend ch = 256 → exec (.mbOvfClear ch) s = .next (s.setMbox ch { x with ovf := false })) ∧
    (x.full = false → ch < 48 → endpointsOk ch (getField v 9 0) (getField v 25 16) = true →
      exec (.mbChCfgWrite ch v) s = .next ((s.wr (mbCfg ch) (v &&& 0x83FF03FF)).took mbPage)) ∧
    ((x.full = true ∨ endpointsOk ch (getField v 9 0) (getField v 25 16) = false) →
      exec (.mbChCfgWrite ch v) s = .next (s.status (ra tMB 0 0x200) 0xA04))

/-! ### The register pages (chapter 14) -/

/-- Accesses to registers by the host and by custody, device-wide writes, the page header, event counters and snapshots (R13, R14, R449, R475–R491,
R496, R507, R549–R554). -/
def Obligations.PageCommandsTakeEffect : Prop :=
  ∀ (s : State) (cust : Bool) (a p n ch : Nat) (w : List Nat) (v : Reg),
    let passes : Prop := (cust = true ∨ s.hostUp = true ∧ s.warmBlocked a = false) ∧ s.regFence cust accW a = none
    (passes → exec (.registerWrite cust 15 a v) s = .next (s.writeReg cust a v)) ∧
    (∀ be : BitVec 4, s.hostUp = true → be ≠ 0 → be ≠ 15 → a < bar4 → exec (.registerWrite false be a v) s =
      .next (((s.bump hiPage 4 0 1).irq hiPage 0).pageDiscard a)) ∧
    (∀ b, cust = true → s.regFence cust accW a = some b → exec (.registerWrite cust 15 a v) s =
      .next ((s.regViolation cust accW a b).pageDiscard a)) ∧
    (∀ m, a % 4 = 0 → a < bar2 → passes → a / 0x1000 % 0x100 < pageCount (a / 0x100000) → 0x100 ≤ a % 0x1000 →
      s.pageLive (pageNo (a / 0x100000) (a / 0x1000 % 0x100)) = true → access (a / 0x100000) (a / 0x1000 % 0x100) (a % 0x1000) = some (.rw, m) →
      exec (.registerWrite cust 15 a v) s = .next ((s.wr a ((s.rd a &&& ~~~m) ||| (v &&& m))).took (pageNo (a / 0x100000) (a / 0x1000 % 0x100)))) ∧
    (s.hostUp = true → s.warmBlocked (a / 4 * 4) = false → s.regFence false accR (a / 4 * 4) = none →
      exec (.loReadLatch false a) s = .next (s.readReg (a / 4 * 4))) ∧
    (s.regFence true accR (a / 4 * 4) = none → exec (.loReadLatch true a) s = .next (s.readReg (a / 4 * 4))) ∧
    (passes → devWide (a / 0x100000) (a % 0x1000) = true → a < bar2 → a / 0x1000 % 0x100 < 4 → s.pageLive (a / 0x1000) = true →
      exec (.deviceWideWrite cust a v) s = .next (s.wideArrive cust a v)) ∧
    (exec .deviceWideApply s = .next s.wideApply) ∧
    (pageExists p = true → exec (.pgIrqRawWrite p v) s = .next (s.rawClear p v) ∧ exec (.pgIrqEnWrite p v) s = .next (s.enWrite p v) ∧
      exec (.pgIrqForceWrite p v) s = .next (s.forceWrite p v) ∧ exec (.pgErrInfoClear p v) s = .next (s.errClear p v) ∧
      exec (.evcClr p) s = .next (s.evcClear p) ∧ exec (.snapshotCapture p) s = .next (s.snapPage p)) ∧
    (pageExists p = true → n < 4 → exec (.evcSelWrite p n v) s = .next (s.selWrite p n v)) ∧
    (exec .snapshotTake s = .next s.snapTake) ∧
    (s.custodyServes 0x01 ch w = true → nth 0 w 1 < 2 ^ 28 → nth 0 w 1 % 4 = 0 → s.regFence true accR (nth 0 w 1) = none →
      exec .custodyRegRead s = .next ((s.readReg (nth 0 w 1)).custAck ch 0x01 0 [(s.readReg (nth 0 w 1)).lastRead])) ∧
    (s.custodyServes 0x02 ch w = true → nth 0 w 1 < 2 ^ 28 → nth 0 w 1 % 4 = 0 → nth 0 w 2 < 2 ^ 32 → s.regFence true accW (nth 0 w 1) = none →
      exec .custodyRegWrite s = .next ((s.writeReg true (nth 0 w 1) (BitVec.ofNat 32 (nth 0 w 2))).custAck ch 0x02 0 [])) ∧
    (s.custodyServes 0x03 ch w = true → (nth 0 w 3 = 1 ∨ nth 0 w 3 = 2) → exec .custodyPower s =
      .next ((s.pwRequest (nth 0 w 1 + nth 0 w 2 * 2 ^ 64) (decide (nth 0 w 3 = 1)) true).2.custAck ch 0x03
        (s.pwRequest (nth 0 w 1 + nth 0 w 2 * 2 ^ 64) (decide (nth 0 w 3 = 1)) true).1 []))

/-! ### Starts and power (chapter 15) -/

/-- The steps of a start (R498–R502): a step that ends well leads to the next, one that fails ends the start, and steps 7, 10 and 11 go on at
their timeout. -/
def Obligations.StartStepsFollowTheirTable : Prop :=
  ∀ (s : State) (bad : List Nat),
    let k := s.startFld 3 0
    let runs : Prop := s.startWaits = false ∧ s.custodyBroken = false
    (runs → (k = 6 ∨ k = 9) → exec (.startStepDone true bad) s = .next (s.stepEnds k) ∧ exec (.startStepDone false bad) s = .next (s.startFail 0x887)) ∧
    (runs → k = 2 → s.suspects < 2 → exec (.startStepDone true bad) s = .next (s.stepEnds 2)) ∧
    (runs → k = 2 → 2 ≤ s.suspects → exec (.startStepDone true bad) s = .next (s.startFail 0x843)) ∧
    (runs → k = 5 → exec (.startStepDone true bad) s = .next ((s.step5 bad).stepEnds 5)) ∧
    (runs → k = 11 → s.ringState ≠ 1 → s.lockInForce = false → exec (.startStepDone true bad) s = .next (s.stepEnds 11)) ∧
    (runs → k = 12 → s.step12Ok = true → exec (.startStepDone true bad) s = .next ((s.recordStep 12).portOpen)) ∧
    (s.startWaits = true → exec (.startStepDone true bad) s = .next s ∧ exec .startStepTimeout s = .next s) ∧
    (s.startWaits = false → k ≠ 7 → k ≠ 10 → k ≠ 11 → exec .startStepTimeout s = .next (s.startFail 0x888)) ∧
    (s.startWaits = false → k = 10 → exec .startStepTimeout s = .next (s.stepEnds 10)) ∧
    (s.startWaits = false → k = 10 → s.twState = 0 → exec .twinSyncTimeout s = .next (s.stepEnds 10))

/-- The sources of cold and warm starts, the preparation of a warm start and the watchdogs (R494–R497, R500, R505, R654). -/
def Obligations.StartSourcesTakeEffect : Prop :=
  ∀ (s : State) (c cause : Nat) (v : Reg) (w : Word),
    let taken := s.took glPage
    (exec (.powerOn false) s = .next (s.coldStart 1)) ∧
    (s.fl.opRec = none → ∃ t : State, exec (.powerOn true) s = .next t ∧ t.cb = {} ∧ t.pending = s.pending ∧ t.fl.op = none ∧ t.fl.csOp = none ∧
      t.cus.keepOff = false ∧ t.cus.retLost = false ∧ t.startRunning = true) ∧
    (∃ t : State, exec .sysResetAssert s = .next t ∧ t.st.sysReset = true ∧ t.startRunning = true ∧ t.startFld 3 0 = 1 ∧ t.startFld 31 28 = 2 ∧
      t.startFld 7 6 = 1) ∧
    (s.st.sysReset = true → exec .sysResetDeassert s = .next { s with st := { s.st with sysReset := false, stepT := s.clk.ns } }) ∧
    (exec .startCold s = .next ({ taken with st := { s.st with fails := [] } }.coldStart 3)) ∧
    (taken.warmRefusal = 0 → exec .startWarm s = .next (taken.warmPrep 8)) ∧
    (taken.warmRefusal ≠ 0 → exec .startWarm s = .next (taken.startStatus (taken.startFld 3 0) taken.warmRefusal)) ∧
    (taken.warmRefusal = 0 → ∃ t : State,
      t = { taken with st := { taken.st with staged := taken.bytes (spHost + taken.rd64 (glReg 0x260)) (taken.fld (glReg 0x268) 23 0) } } ∧ exec .fwLoad s = .next (t.warmPrep 9)) ∧
    (s.st.prep = some cause → exec .warmPrepDone s = .next (s.warmBegin cause)) ∧
    (s.st.prep = some cause → exec .warmPrepTimeout s = .next ((s.startStatus 0 0x88B).coldStart 6)) ∧
    (s.st.retryDue = true → exec .coldRetryTimer s = .next (s.coldStart 7)) ∧
    (exec .custodyWdExpiry s = .next (s.coldStart 5)) ∧
    (s.deviceWdCounts = true → s.st.prep = none → exec .deviceWdExpiry s = .next ((s.setFld (glReg 0x288) 15 0 0).warmPrep 0xA)) ∧
    (getField v 15 0 = 0xA55A → exec (.glbWdKick v) s = .next taken.kickWatchdog) ∧
    (getField v 15 0 ≠ 0xA55A → exec (.glbWdKick v) s = .next taken) ∧
    (s.coreRuns c = true → exec (.wdKickStore c w) s = .next (s.storeArrives c 0x197F040 (leBytes 8 w.toNat) (s.core c).ring))

/-- Heat, supply, power requests, domains, wakes and the slow control inputs (R506–R513, R657). -/
def Obligations.PowerEventsTakeEffect : Prop :=
  ∀ (s : State) (d src i : Nat) (temps : List Nat) (cust : Bool) (rail : Nat),
    let taken := s.took (pageNo tPW 0)
    let hot := ((List.range 5).map fun k => nth 0 temps k % 256).foldl max 0
    (∃ t : State, exec (.thermalSample temps) s = .next t ∧ t.st.temp = (List.range 5).map (fun k => nth 0 temps k % 256) ∧ t.mem = s.mem ∧ t.dom = s.dom ∧
      (s.canon = true → t.fld (glReg 0x2A0) 7 0 = hot) ∧ (t.st.throttle.testBit 2 = true ↔ 105 ≤ nth 0 temps 2 % 256 ∨
        (s.st.throttle.testBit 2 = true ∧ 100 ≤ nth 0 temps 2 % 256))) ∧
    ((∃ x ∈ s.st.temp, 115 ≤ x) → ∃ t : State, t = (s.goOff.startCause 4).startStatus 0 0x88C ∧
      exec .thermalTrip s = .next { t with st := { t.st with tripped := true } }) ∧
    (s.st.tripped = true → s.fld (glReg 0x2A4) 0 0 = 1 → (∀ x ∈ s.st.temp, x < 95) →
      exec .thermalRestartTimer s = .next ((s.coldStart 4).setStart 27 24 (s.startFld 27 24))) ∧
    ((∀ m < 4, (s.monitor m).below = false) → s.st.tripped = false → s.st.rails.contains rail = false →
      ∃ t : State, t = { s with st := { s.st with rails := s.st.rails ++ [rail] } } ∧ exec (.undervoltageDetect rail) s =
        .next (t.goOff.startStatus 0 0x887)) ∧
    (exec (.pwOn cust) s = .next (taken.pwRequest taken.pwMask true cust).2) ∧
    (exec (.pwOff cust) s = .next (taken.pwRequest taken.pwMask false cust).2) ∧
    (s.domain d = 1 → exec (.domainTransitionDone d) s = .next (s.domainUp d).powerFollow) ∧
    (s.domain d = 3 → 68 ≤ d → exec (.domainTransitionDone d) s = .next (s.domTo d 4)) ∧
    (s.domain d = 3 → 64 ≤ d → d < 68 → s.clusterVerdicts (d - 64) = [] → exec (.domainTransitionDone d) s = .next (s.domTo d 4)) ∧
    (s.domain d = 4 → 64 ≤ d → exec (.domainTransitionDone d) s = .next (s.domainLost d).powerFollow) ∧
    (((64 ≤ d ∧ d < 68 ∧ src = 1) ∨ (d = 72 ∧ src = 2) ∨ (d = 79 ∧ (src = 3 ∨ src = 4))) → (∀ w ∈ s.st.wakes ++ s.st.held, w.1 ≠ d) →
      exec (.wakeEvent d src) s = .next (s.wake d src).serveWake) ∧
    (i < 4 → ∃ t : State, exec (.slowInputAccept i false) s = .next t ∧ (tblWf (fun _ => ({} : SlowIn)) s.st.slow = true → (t.slow i).raw = false) ∧ (t.slow i).filt = false ∧ (t.slow i).seenInactive = true ∧
      (t.slow i).acted = false ∧ t.regs = s.regs ∧ t.dom = s.dom) ∧
    (i < 4 → (s.slow i).filt = true → ∃ t : State, exec (.slowInputAccept i true) s = .next t ∧ (t.slow i).raw = true ∧ t.regs = s.regs) ∧
    ((s.slow 2).filt = false → (s.slow 2).armed 2 s.clk.ns = true → ∃ t : State, exec (.slowInputAccept 2 true) s = .next t ∧ (t.slow 2).filt = true ∧
      (t.slow 2).acted = true ∧ t.regs = s.regs) ∧
    ((s.slow 1).filt = false → (s.slow 1).armed 1 s.clk.ns = true → s.domOn 79 = false → ∃ t u : State, exec (.slowInputAccept 1 true) s = .next u ∧
      u = (t.wake 79 4).serveWake ∧ (t.slow 1).filt = true ∧ t.dom = s.dom) ∧
    (i < 4 → 0 < s.clk.ns → ∃ t : State, exec (.slowInputChatter i) s = .next (t.bump (cdPage 0) i 0 1) ∧ (t.slow i).raw = !(s.slow i).raw ∧
      (t.slow i).changed = s.clk.ns ∧ t.regs = s.regs)

/-! ### Custody (chapter 16) -/

/-- Monitors, alarms and the latch (R29, R518–R526, R532): a departure is held, its classification raises the alarm, and an alarm brings LOCK at
once and reaches the latch. -/
def Obligations.AlarmsBringLockAndReachTheLatch : Prop :=
  ∀ (s : State) (m mv : Nat) (high : Bool) (v : Reg),
    let x := s.monitor m
    (m ≠ 4 → exec (.monitorArm m) s = .next ((s.setMonitor m { armed := true }).sessionCheck)) ∧
    (x.armed = true → s.cus.keepOff = false → m ≠ 5 → exec (.monitorDeparture m high) s =
      .next (s.setMonitor m { x with dep := if high then 1 else 2, outGlitch := true, outSlow := true })) ∧
    (s.cus.keepOff = false → exec (.monitorDeparture 5 false) s = .next s) ∧
    (x.dep ≠ 0 → s.cus.keepOff = false → ∃ t : State, exec (.glitchAlarm m) s = .next t ∧ t.lockInForce = true ∧ t.cus.sticky = true) ∧
    (x.armed = true → s.cus.keepOff = false → m ≠ 5 → ∃ t : State, exec (.slowAlarm m high) s = .next t ∧ t.lockInForce = true ∧ t.cus.sticky = true) ∧
    (m < 4 → ∃ t : State, exec (.powerLossClassify m) s = .next t ∧ t.dom = [] ∧ t.cus.latch = s.cus.latch ∧ t.cus.sticky = s.cus.sticky ∧ t.mem = s.mem ∧
      (t.monitor 0).below = true ∧ (t.monitor 3).below = true) ∧
    (x.armed = true → m < 4 → s.cus.keepOff = false → ∃ t : State, exec (.sequenceAlarm m) s = .next t ∧ t.lockInForce = true ∧ t.cus.sticky = true) ∧
    (s.cus.keepOff = false → ∃ t : State, exec (.stateAlarm m) s = .next t ∧ t.lockInForce = true ∧ t.cus.sticky = true ∧ m ∈ t.cus.invalid) ∧
    (s.cus.keepOff = false → ∃ t : State, exec (.linkAlarm m) s = .next t ∧ t.lockInForce = true ∧ t.cus.sticky = true) ∧
    (s.cus.keepOff = false → getField v 31 16 = 0x464F → s.silicon ≤ 1 → ∃ t : State, exec (.lkForce v) s = .next t ∧ t.lockInForce = true ∧
      t.cus.sticky = true) ∧
    (getField v 31 16 ≠ 0x464F ∨ 1 < s.silicon → exec (.lkForce v) s = .next (s.discard (cdPage 1))) ∧
    (s.cus.sticky = true → ∃ t : State, exec .aonAlarmLatch s = .next t ∧ t.cus.latch = 0xC3A5 ∧ t.cus.sticky = false ∧ t.cus.alarmWait = [] ∧
      t.lockInForce = true) ∧
    (s.cus.keepOff = false → mv < 2600 → ∃ t : State, t = ((s.setFld (cdReg 0 0x100) 10 10 1).setFld (cdReg 1 0x104) 2 2 1).irq (cdPage 1) 3 ∧
      exec (.vbatMeasure mv) s = .next t) ∧
    (s.cus.keepOff = false → 2600 ≤ mv → exec (.vbatMeasure mv) s = .next (s.setFld (cdReg 0 0x100) 10 10 0))

/-- Alarm records, the unlock session, generation of the root and the silicon life cycle (R524, R525, R533–R540). -/
def Obligations.CustodySessionsAndLifeCycle : Prop :=
  ∀ (s : State) (ch k t : Nat) (w : List Nat) (r : List Byte) (u : State),
    let shares := fun (m n : Nat) => (List.range n).map fun i => shareAt (r.take 32) ((List.range (m - 1)).map fun j => sliceBytes r (32 * (j + 1)) 32) (i + 1)
    (s.custodyServes 0x20 ch w = true → nth 0 w 1 = k → k < 16 → exec .alarmRead s = .next (s.custAck ch 0x20 0
      ((List.range 4).map fun i => BitVec.ofNat 64 (ofLe (sliceBytes (padTo 32 (nth [] s.cus.records k)) (8 * i) 8))))) ∧
    (s.custodyServes 0x21 ch w = true → s.cus.latch = 0x3C5A →
      exec .alarmClear s = .next ((s.modCus fun c => { c with records := [], overflow := 0 }).custAck ch 0x21 0 [])) ∧
    (s.custodyServes 0x21 ch w = true → s.cus.latch ≠ 0x3C5A → exec .alarmClear s = .next (s.custAck ch 0x21 0x803 [])) ∧
    (s.custodyServes 0x30 ch w = true → s.cus.session.open_ = false → exec .unlockBegin s =
      .next (((s.modCus fun c => { c with session := { open_ := true, begun := s.clk.ns } }).cardStart).custAck ch 0x30 0 [])) ∧
    (s.custodyServes 0x31 ch w = true → exec .unlockEnd s = .next (s.failSession.custAck ch 0x31 0 [])) ∧
    (exec .unlockSessionTimeout s = .next s.failSession) ∧
    (∀ m n, s.custodyServes 0x32 ch w = true → nth 0 w 1 = m + 16 * n → 2 ≤ m → m ≤ 8 → m ≤ n → n ≤ 16 → s.silicon = 1 →
      s.draw 4 (2 * m + 1) = (some r, u) → ∃ g : Generation, exec .rootGenerate s =
        .next (((u.modCus fun c => { c with root := none, gen := some g }).cardStart).custAck ch 0x32 0 []) ∧
        g = { root := r.take 32, genId := sliceBytes r (32 * m) 8, m := m, n := n, begun := u.clk.ns, shares := shares m n }) ∧
    (s.custodyServes 0x40 ch w = true → nth 0 w 1 = t → t < 8 → t = s.silicon + 1 → t < 5 → t ≠ 2 → t ≠ 3 → s.lockInForce = false → s.cus.tokenFails < 8 →
      ∃ x : State, x = (s.endGrant.modCus fun c => { c with otp := lcWord t, coldDue := true }).lockFlush ∧ exec .lcAdvance s = .next (
        if sha384 (wordBytes w 2 4) = s.lcDigest t then (x.irq (cdPage 2) 0).custAck ch 0x40 0 [] else s.tokenFail.custAck ch 0x40 0x804 [])) ∧
    (s.custodyServes 0x40 ch w = true → nth 0 w 1 = 2 → s.silicon = 1 → s.lockInForce = false → s.cus.tokenFails < 8 → s.cus.digest1 ≠ [] →
      s.cus.digest2 ≠ [] → sha384 (wordBytes w 2 4) = s.cus.digest1 → ∃ x : State, exec .lcAdvance s = .next ((x.irq (cdPage 2) 0).custAck ch 0x40 0 []) ∧
        x.silicon = 2 ∧ x.lockInForce = true) ∧
    (s.custodyServes 0x40 ch w = true → nth 0 w 1 = 2 → s.silicon = 1 → s.lockInForce = false → s.cus.tokenFails < 8 → s.cus.digest1 ≠ [] →
      s.cus.digest2 ≠ [] → sha384 (wordBytes w 2 4) ≠ s.cus.digest1 → exec .lcAdvance s = .next (s.tokenFail.custAck ch 0x40 0x804 [])) ∧
    (s.custodyServes 0x41 ch w = true → nth 0 w 1 = 1 → s.silicon = 1 → s.cus.digest1 = [] →
      exec .lcSetDigest s = .next ((s.modCus fun c => { c with digest1 := wordBytes w 2 6 }).custAck ch 0x41 0 [])) ∧
    (s.custodyServes 0x41 ch w = true → nth 0 w 1 = 2 → s.silicon = 1 → s.cus.digest2 = [] →
      exec .lcSetDigest s = .next ((s.modCus fun c => { c with digest2 := wordBytes w 2 6 }).custAck ch 0x41 0 []))

/-- The life cycle of a zone, its certificate and seeds, and debug grants (R541–R548). -/
def Obligations.ZoneLifeAndDebugGrants : Prop :=
  ∀ (s : State) (ch z t scope at_ : Nat) (w : List Nat) (r nonce : List Byte) (u : State),
    let x := s.zone z
    let may : Prop := (s.silicon = 1 ∨ s.silicon = 2) ∧ s.lockInForce = false
    let token := sha384 (wordBytes w 2 4) = nth [] x.digests (t - 1)
    (s.custodyServes 0x50 ch w = true → may → z < 64 → 1 ≤ t → t ≤ 3 → nth 0 w 1 = z + 256 * t → x.started = false → s.zoneLc z = 0 →
      nth [] x.digests (t - 1) = [] → exec .zoneDigest s =
        .next ((s.setZone z { x with digests := setNth x.digests (t - 1) (wordBytes w 2 6) }).custAck ch 0x50 0 [])) ∧
    (s.custodyServes 0x51 ch w = true → may → z < 64 → t = 1 → nth 0 w 1 = z + 256 → x.started = false → s.zoneLc z = 0 → (∀ d ∈ x.digests, d ≠ []) →
      x.fails < 8 → token → s.draw 4 2 = (some r, u) → exec .zoneLc s =
        .next (((u.setZone z { x with lc := 1, seed := r, epoch := 1, floor := 1 }).zoneDelta z).custAck ch 0x51 0 [])) ∧
    (s.custodyServes 0x51 ch w = true → may → z < 64 → t = 2 → nth 0 w 1 = z + 512 → x.started = false → s.zoneLc z = 1 → x.fails < 8 → token →
      exec .zoneLc s = .next (((s.setZone z { x with lc := 2, epoch := x.epoch + 1, floor := x.epoch + 1 }).zoneDelta z).custAck ch 0x51 0 [])) ∧
    (s.custodyServes 0x51 ch w = true → may → z < 64 → t = 3 → nth 0 w 1 = z + 768 → x.started = false → s.zoneLc z = 2 → x.fails < 8 → token →
      exec .zoneLc s = .next ((s.setZone z { x with lc := 3, seed := List.replicate 32 0 }).custAck ch 0x51 0 [])) ∧
    (s.custodyServes 0x52 ch w = true → may → z < 64 → nth 0 w 1 = z → x.started = false → s.zoneLc z = 3 → s.cus.quorum = true → exec .zoneRecycle s =
      .next ((s.setZone z { x with lc := 0, digests := [[], [], []], inc := x.inc + 1 }).custAck ch 0x52 0 [])) ∧
    (s.custodyServes 0x53 ch w = true → may → z < 64 → nth 0 w 1 = z → nth 0 w 2 % 8 = 0 → nth 0 w 3 % 8 = 0 → s.zoneLc z = 1 → s.busMaster = true →
      s.draw 4 1 = (some r, u) → ∃ (a : State) (b : List Byte), exec .zoneSeedExport s = .next (match certOpen (s.bytes (spHost + nth 0 w 2) 256) with
        | none => s.custAck ch 0x53 0x80F []
        | some _ => (a.setBytes (spHost + nth 0 w 3) b).custAck ch 0x53 0 []) ∧
        b.take 8 = leBytes 4 0x5A534431 ++ [1] ++ beBytes 1 z ++ beBytes 1 1 ++ beBytes 1 s.silicon ∧ a.regs = u.regs ∧ a.vlt = u.vlt ∧ a.mem = u.mem) ∧
    (s.custodyServes 0x54 ch w = true → may → z < 64 → nth 0 w 1 = z → nth 0 w 2 % 8 = 0 → nth 0 w 3 % 8 = 0 → s.cus.quorum = false →
      exec .zoneSeedImport s = .next (s.custAck ch 0x54 0x80F [])) ∧
    (s.custodyServes 0x54 ch w = true → may → z < 64 → nth 0 w 1 = z → nth 0 w 2 % 8 = 0 → nth 0 w 3 % 8 = 0 → s.cus.quorum = true → s.zoneLc z = 0 →
      x.started = false → ∃ y : Option Zone, exec .zoneSeedImport s = .next (match y with
        | none => s.custAck ch 0x54 0x80F []
        | some y => ((s.setZone z y).zoneDelta z).custAck ch 0x54 0 []) ∧ ∀ q, y = some q → (q.lc = 1 ∨ q.lc = 2) ∧ q.zbase = x.zbase) ∧
    (s.custodyServes 0x55 ch w = true → nth 0 w 1 % 8 = 0 → s.busMaster = true →
      exec .certRead s = .next ((s.setBytes (spHost + nth 0 w 1) (padTo 256 Config.custodyCert)).custAck ch 0x55 0 [])) ∧
    (s.custodyServes 0x60 ch w = true → nth 0 w 1 = scope → scope < 256 → s.silicon = 2 → s.draw 4 2 = (some r, u) → exec .dbgChallenge s =
      .next ((u.modCus fun c => { c with challenge := some (r, scope, u.clk.ns) }).custAck ch 0x60 0
        ((List.range 4).map fun i => BitVec.ofNat 64 (ofLe (sliceBytes r (8 * i) 8))))) ∧
    (s.custodyServes 0x61 ch w = true → s.silicon = 2 → s.cus.challenge = some (nonce, scope, at_) → scope < 4 → s.lockInForce = false →
      s.clk.ns ≤ at_ + 600000000000 → exec .dbgResponse s = .next (
        if p384Verify Config.octuxPub (nonce ++ ownUid ++ beBytes 1 scope ++ leBytes 4 s.lcStat) (wordBytes w 1 12) then
          (((s.modCus fun c => { c with challenge := none, grant := some scope }).bump (cdPage 2) 0 0 1).irq (cdPage 2) 1).custAck ch 0x61 0 []
        else s.custAck ch 0x61 0x810 [])) ∧
    (s.custodyServes 0x62 ch w = true → exec .dbgClose s = .next (s.endGrant.custAck ch 0x62 0 []))

/-- Commands on the fences and the log of violations (R549–R553): a region is written as a whole, and read back as it stands. -/
def Obligations.FenceCommandsTakeEffect : Prop :=
  ∀ (s : State) (cust : Bool) (ch f r start last perm : Nat) (en : Bool) (w : List Nat),
    let passes : Prop := s.fenceFail (261 + tCD) (if cust then clsCust else clsHost) accW 0x3120 4 = none
    let ends := fun (t : State) => (t.wrn (fnReg 0x124) 0).took (cdPage 3)
    let g := s.region f r
    (s.custodyServes 0x10 ch w = true → ch < 52 → f ≤ 278 → r ≤ 15 → start ≤ last → last + 16 ≤ fenceSize f → start % 16 = 0 → last % 16 = 0 → perm < 2 ^ 24 →
      nth 0 w 1 = f + 2 ^ 16 * r + 2 ^ 24 * b2n en → nth 0 w 2 = start → nth 0 w 3 = last → nth 0 w 4 = perm → exec .fenceWrite s =
        .next ((s.modCus fun c => { c with regions := cput {} ⟨start, last, en, perm⟩ (f * 16 + r) c.regions }).custAck ch 0x10 0 [])) ∧
    (s.custodyServes 0x10 ch w = true → ch < 52 → f ≤ 278 → perm < 2 ^ 24 → nth 0 w 1 = f + 2 ^ 25 → nth 0 w 4 = perm → exec .fenceWrite s =
      .next ((s.modCus fun c => { c with defaults := tput fenceDefault perm f c.defaults }).custAck ch 0x10 0 [])) ∧
    (passes → s.fnSel = (f, r) → f ≤ 278 → s.rd64 (fnReg 0x108) / 16 * 16 = start → s.rd64 (fnReg 0x110) / 16 * 16 = last → start ≤ last →
      last + 16 ≤ fenceSize f → ∃ q : Region, q = ⟨start, last, s.fld (fnReg 0x11C) 0 0 == 1, s.fld (fnReg 0x118) 23 0⟩ ∧
        exec (.writeRegion cust) s = .next (ends (s.modCus fun c => { c with regions := cput {} q (f * 16 + r) c.regions }))) ∧
    (passes → s.fnSel = (f, r) → f ≤ 278 → exec (.readRegion cust) s =
      .next (ends ((((s.wr64 (fnReg 0x108) g.start).wr64 (fnReg 0x110) g.last).wrn (fnReg 0x118) g.perm).wrn (fnReg 0x11C) (b2n g.en)))) ∧
    (passes → s.fnSel = (f, r) → f ≤ 278 → exec (.writeDefault cust) s =
      .next (ends (s.modCus fun c => { c with defaults := tput fenceDefault (s.fld (fnReg 0x118) 23 0) f c.defaults }))) ∧
    (passes → s.fnSel = (f, r) → f ≤ 278 → exec (.readDefault cust) s = .next (ends (s.wrn (fnReg 0x118) (tget fenceDefault s.cus.defaults f)))) ∧
    (passes → exec (.logClear cust) s = .next (ends (s.modCus fun c => { c with log := [] }))) ∧
    (∀ a, s.fenceFail (261 + tCD) clsHost accW 0x3120 4 = some a →
      exec (.writeRegion false) s = .next ((s.violation (261 + tCD) clsHost accW a).discard (cdPage 3)))

/-! ### The flash and the configuration store (chapter 17) -/

/-- The page port: a command that nothing refuses is taken, and what it was to do is done when it ends (R560–R571). -/
def Obligations.FlashCommandsTakeEffect : Prop :=
  ∀ (s : State) (x : FlashOp) (corr uncorr : List Nat) (k : Nat),
    let w := s.flAddr
    let n := s.flCount
    let idle : Prop := s.fl.op = none ∧ s.startRuns = false
    let inRange : Prop := 1 ≤ n ∧ n ≤ 64 ∧ w + n ≤ 2 ^ 21
    let region : Prop := 1 ≤ s.fld (flReg 0x110) 16 8 ∧ s.fld (flReg 0x110) 7 0 + s.fld (flReg 0x110) 16 8 ≤ 256
    let prot : FlashOp := { pass := BitVec.ofNat 64 (s.rd64 (flReg 0x118)), first := s.fld (flReg 0x110) 7 0, regions := s.fld (flReg 0x110) 16 8 }
    let recorded := fun (q : Nat) (t : State) => ({ t with fl := { t.fl with opRec := some (q, w / 512) } } : State)
    let fin := fun (t : State) => t.flEnd 0
    let runs : Prop := s.fl.op = some x ∧ s.fl.move = none
    (s.fl.op = none → inRange → (∀ r ∈ flRegions w n, flPrivate r = false) →
      exec .flashRead s = .next ((s.flTake { op := 1, word := w, count := n }).took flPage)) ∧
    (idle → inRange → s.flWriteRefusal (flRegions w n) = 0 → (∀ i < n, s.flWord (w + i) = erasedWord) → ∃ d : List Word,
      d = (List.range n).map (fun i => BitVec.ofNat 64 (s.rd64 (flReg (0x200 + 8 * i)))) ∧
      exec .flashProgram s = .next (((recorded 1 s).flTake { op := 2, word := w, count := n, data := d }).took flPage)) ∧
    (idle → inRange → s.flWriteRefusal (flRegions w n) = 0 → (∃ i < n, s.flWord (w + i) ≠ erasedWord) →
      exec .flashProgram s = .next ((s.flRefuse 0x822).took flPage)) ∧
    (idle → s.flWriteRefusal [w / 8192] = 0 → exec .flashErase s = .next (((recorded 2 s).flTake { op := 3, word := w }).took flPage)) ∧
    (idle → region → exec .flashProtect s = .next ((s.flTake { prot with op := 4 }).took flPage)) ∧
    (idle → region → s.flUnlocked = true → exec .flashUnprotect s = .next ((s.flTake { prot with op := 5 }).took flPage)) ∧
    (idle → s.fld (flReg 0x104) 23 16 < 8 → exec .flashUnlock s = .next ((s.flTake { prot with op := 6 }).took flPage)) ∧
    (idle → exec .flashRelock s = .next ((s.flTake { prot with op := 7 }).took flPage)) ∧
    (idle → s.flUnlocked = true → exec .flashSetPassword s = .next ((s.flTake { prot with op := 8 }).took flPage)) ∧
    (runs → x.op = 1 → exec (.flashOpDone corr uncorr none) s = .next (s.flReadEnd x corr uncorr)) ∧
    (runs → x.op = 2 → exec (.flashOpDone corr uncorr none) s = .next (((flProgram x.word x.data s).flBump 0 1).flEnd 0)) ∧
    (runs → x.op = 3 → (s.wear (x.word / 512 / 256)).erases ≠ 63 →
      exec (.flashOpDone corr uncorr none) s = .next (fin ((s.eraseSector (x.word / 512)).2.flBump 1 1))) ∧
    (runs → x.op = 4 → exec (.flashOpDone corr uncorr none) s =
      .next (fin { s with fl := { s.fl with prot := s.fl.prot ||| regionBits x.first x.regions } })) ∧
    (runs → x.op = 6 → x.pass = s.fl.pass → exec (.flashOpDone corr uncorr none) s = .next (fin (s.setFld (flReg 0x104) 30 30 1))) ∧
    (runs → x.op = 7 → exec (.flashOpDone corr uncorr none) s = .next (fin (s.setFld (flReg 0x104) 30 30 0))) ∧
    (runs → x.op = 8 → exec (.flashOpDone corr uncorr none) s = .next (fin { s with fl := { s.fl with pass := x.pass } })) ∧
    (s.fl.move = some k → s.fl.op = some x → x.count = 0 → exec .gapMoveDone s = .next (fin (s.gapMove k)))

/-- The configuration store (R573–R576): a body is written into the bank that is not the winner, read back, and both banks are erased. -/
def Obligations.ConfigurationStoreTakesEffect : Prop :=
  ∀ (s : State) (b len : Nat) (body : List Byte) (ok : Bool),
    let idle : Prop := s.fl.csOp = none ∧ s.startRuns = false
    let read := s.bytes (spHost + s.rd64 (csReg 0x108)) len
    let takes := fun (target : Nat) => ({ s with fl := { s.fl with csOp := some (read, target) } }.setFld (csReg 0x104) 31 31 1).took csPage
    (idle → s.fld (csReg 0x110) 16 0 = len → len ≤ 65464 → s.csWinner = none → exec .csWrite s = .next (takes 0)) ∧
    (idle → s.fld (csReg 0x110) 16 0 = len → len ≤ 65464 → s.csWinner = some b → s.bankSeq b ≠ 2 ^ 64 - 2 → exec .csWrite s = .next (takes (1 - b))) ∧
    (idle → s.fld (csReg 0x110) 16 0 = len → 65464 < len → exec .csWrite s = .next ((s.csStatus 0x82A).took csPage)) ∧
    (s.fl.csOp = some (body, b) → exec (.csWriteDone false) s = .next ((s.bump csPage 1 0 1).csEnd 0x82C)) ∧
    (s.fl.csOp = some (body, b) → ∃ t : State, exec (.csWriteDone ok) s = .next t ∧ t.fl.csOp = none ∧ t.pending = s.pending) ∧
    (s.fl.csOp = none → s.csWinner = none → exec .csRead s = .next (((s.wrn (csReg 0x110) 0).csEnd 0).took csPage)) ∧
    (s.fl.csOp = none → s.csWinner = some b → s.bankBody b = body → exec .csRead s =
      .next ((((s.setBytes (spHost + s.rd64 (csReg 0x108)) body).wrn (csReg 0x110) body.length).csEnd 0).took csPage)) ∧
    (s.fl.csOp = none → exec .eraseBoth s = .next ((((s.eraseBank 1).eraseBank 0).csEnd 0).took csPage))

/-! ### The random number service (chapter 18) -/

/-- Noise sources, seed blocks, the DRBG instances and the raw capture (R585–R600). -/
def Obligations.RandomNumberServiceTakesEffect : Prop :=
  ∀ (s : State) (k i : Nat) (raw taint : Bool) (v : Reg) (block : List Byte) (rest : List (List Byte × Bool)),
    let x := s.noise k
    let d := s.drbg i
    let served : State := { s with rng := { s.rng with pool := rest, want := s.rng.want.filter (· != i) } }
    (k < 4 → s.domOn 76 = true → s.tpOn k = false → s.feeding.contains k = true → x.bits.length < 3072 → ∃ t : State,
      exec (.noiseSourceSample k raw) s = .next t ∧ (t.noise k).bits = x.bits ++ [raw] ∧ (t.noise k).taint = x.taint ∧ t.rng.pool = s.rng.pool) ∧
    (k < 4 → s.domOn 76 = true → s.tpOn k = true → lfsrStep x.lfsr ≠ 1 → ∃ t : State,
      exec (.noiseSourceSample k raw) s = .next t ∧ (t.noise k).lfsr = lfsrStep x.lfsr ∧ t.rng.pool = s.rng.pool) ∧
    (∃ t : State, exec .healthRateWindow s = .next t ∧ t.rng.pool = s.rng.pool ∧ t.mem = s.mem ∧
      (tblWf (fun _ => ({} : Noise)) s.rng.src = true → t.noise 2 = { s.noise 2 with winFails := 0, reported := false })) ∧
    (s.domOn 76 = true → 2 ≤ s.feeding.length → (∀ j ∈ s.feeding, 3072 / s.feeding.length ≤ (s.noise j).bits.length) → s.rng.pool.length < 16 →
      ∃ (t : State) (b : List Byte), exec .seedBlockComplete s = .next t ∧ t.rng.pool = s.rng.pool ++ [(b, s.feeding.any fun j => (s.noise j).taint)] ∧
        b = sha384 (interleave (3072 / s.feeding.length / 8)
          (s.feeding.map fun j => packBits ((s.noise j).bits.take (3072 / s.feeding.length))))) ∧
    (i < 4 → d.ready = true → d.buf = [] → d.gen < 2 ^ 32 → s.domOn (drbgDomain i) = true → exec (.drbgGenerate i) s = .next (s.setDrbg i (d.fill 4096))) ∧
    (i < 5 → d.ready = true → 1 ≤ d.buf.length → d.gen ≤ 2 ^ 32 → exec (.drbgDraw i) s = .next (s.setDrbg i { d with buf := d.buf.drop 1 })) ∧
    (i < 5 → d.ready = true → exec (.drbgReseedDue i) s = .next ((s.setDrbg i { d with reseedDue := true }).seedRequest i)) ∧
    (s.seedNext = some i → s.rng.pool = (block, taint) :: rest → d.instWait = false → ∃ e : Drbg, e = { d with
        k := (drbgReseed ⟨d.k, d.v⟩ block).key, v := (drbgReseed ⟨d.k, d.v⟩ block).v, gen := 0, buf := [], reseedDue := false,
        taint := d.taint || taint } ∧
      exec (.drbgReseedDone false) s = .next (((served.setDrbg i e).rnBump 4 0).rnEnd i 0)) ∧
    (s.seedNext = some i → s.rng.pool = (block, taint) :: rest → d.instWait = true → i ≠ 2 → ∃ e : Drbg, e = {
        ready := true, k := (drbgInstantiate block s.persString).key, v := (drbgInstantiate block s.persString).v, taint := taint } ∧
      exec (.drbgReseedDone false) s = .next (((served.setDrbg i e).rnBump 5 0).rnEnd i 0)) ∧
    (s.rnRefusal i = 0 → d.ready = true → exec (.reseed i) s =
      .next ((((s.rnBusy i).setDrbg i { d with reseedDue := true }).seedRequest i).took rnPage)) ∧
    (s.rnRefusal i = 0 → exec (.reinstantiate i) s = .next (((s.rnBusy i).drbgInstantiateDue i).took rnPage)) ∧
    (s.silicon ≤ 1 → k < 4 → 2 ≤ ((List.range 4).filter fun j => j ≠ k ∧ s.fld (rnReg 0x100) j j = 1).length → s.rng.tap = false →
      exec (.tapStart k) s = .next (({ s with rng := { s.rng with tap := true, tapSrc := k, tapBits := [] } }.rnStatus 0).took rnPage)) ∧
    (exec .tapStop s = .next (({ s with rng := { s.rng with tap := false } }.rnStatus 0).took rnPage)) ∧
    (s.rng.tap = true → s.rng.tapBits.length = 8192 → exec .tapFull s = .next ({ s with rng := { s.rng with tap := false } }.irq rnPage 3)) ∧
    (s.lockInForce = false → bitAt v 31 = false → 2 ≤ ((List.range 4).filter fun j => bitAt v j).length →
      exec (.rngCfgWrite v) s = .next ((s.wr (rnReg 0x100) (v &&& 0xF)).took rnPage)) ∧
    (s.lockInForce = false → s.pageLive rnPage = true → getField v 3 0 = 0 → exec (.rngTpCtlWrite v) s = .next ((s.wr (rnReg 0x180) (v &&& 0xF)).took rnPage)) ∧
    (s.lockInForce = false → s.pageLive rnPage = true → s.silicon ≠ 0 → getField v 3 0 ≠ 0 → exec (.rngTpCtlWrite v) s = .next (s.rnStatus 0x841))

/-! ### The custodian card and the badge reader (chapter 19) -/

/-- The commands that go to the card (R607, Table 19.3): each goes when it is due, as the 48-bit frame of its index and argument. -/
def Obligations.CardCommandsAreSent : Prop :=
  ∀ (s : State) (r : List Byte) (u : State),
    let c := s.cb.card
    let due := fun (i : Nat) => c.phase = 4 ∧ c.next = i ∧ c.await = 0 ∧ c.rawOut = false
    let frame := fun (i arg : Nat) => (3 * 2 ^ 38 + arg * 2 ^ 6 + i) * 2 ^ 7 + crc7 (3 * 2 ^ 38 + arg * 2 ^ 6 + i)
    let sent := fun (t : State) (i arg : Nat) => t.cb.card.sent = i ∧ t.cb.card.await = 1 ∧ t.cb.card.next = 0 ∧ t.cb.card.tx = ⟨frame i arg, []⟩ ∧
      t.cb.rdr = s.cb.rdr ∧ t.cus = s.cus ∧ t.pending = s.pending
    let plain := fun (t : State) (i arg : Nat) => sent t i arg ∧ t.cb.card.nd = c.nd ∧ t.cb.card.key = c.key ∧ t.rng = s.rng
    let txn := c.txn % 2 ^ 32
    (due 21 → ∃ t : State, exec .cardReset s = .next t ∧ t.cb.card.sent = 21 ∧ t.cb.card.await = 0 ∧ t.cb.card.next = 22 ∧
      t.cb.card.tx = ⟨frame 21 0, []⟩) ∧
    (due 22 → ∃ t : State, exec .identify s = .next t ∧ plain t 22 0) ∧
    (due 24 → s.draw 4 2 = (some r, u) → ∃ t : State, exec .authInit s = .next t ∧ sent t 24 0 ∧ t.cb.card.nd = r ∧ t.rng = u.rng) ∧
    (due 25 → ∃ t : State, exec .authProof s = .next t ∧ plain t 25 0) ∧
    (due 26 → ∃ t : State, exec .authFinish s = .next t ∧ plain t 26 0) ∧
    (due 28 → ∃ t : State, exec .readShare s = .next t ∧ plain t 28 0) ∧
    (due 40 → ∃ t : State, exec .begin s = .next t ∧ plain t 40 txn ∧ t.cb.card.open_ = true) ∧
    (due 41 → c.tries = 0 → s.draw 4 2 = (some r, u) → ∃ t : State, exec .enroll s = .next t ∧ sent t 41 0 ∧ t.cb.card.key = r ∧ t.rng = u.rng) ∧
    (due 41 → c.tries ≠ 0 → ∃ t : State, exec .enroll s = .next t ∧ plain t 41 0) ∧
    (due 42 → ∃ t : State, exec .writeShare s = .next t ∧ plain t 42 0) ∧
    (due 43 → ∃ t : State, exec .commit s = .next t ∧ plain t 43 txn ∧ t.cb.card.commit = true) ∧
    (due 44 → ∃ t : State, exec .abort s = .next t ∧ plain t 44 txn)

/-- What happens in the card slot, and the commands on it (R606–R618, R624, R625). -/
def Obligations.CardSlotEventsTakeEffect : Prop :=
  ∀ (s : State) (frame : BitVec 48) (b : Byte) (data : List Byte) (crc : List Nat) (out : Bool) (g : Generation) (v : Reg),
    let c := s.cb.card
    let waits : Prop := c.phase = 4 ∧ (c.await = 1 ∨ c.await = 4)
    let good : Prop := getField frame 47 45 = 1 ∧ getField frame 6 0 = crc7 (frame.toNat / 2 ^ 7) ∧ getField frame 12 7 = c.sent ∧
      bitAt frame 43 = false ∧ bitAt frame 44 = false
    let lives : Prop := s.pageLive cbPage = true ∧ s.cbBusy = false
    let uid := s.rd64 (cbReg 0x140) % 2 ^ 56
    ((s.slow 1).filt = true → (s.slow 1).acted = true → c.inserted = false → ∃ t : State, exec .cardInsert s = .next t.cardStart ∧
      t = ((s.modCard fun x => { x with inserted := true, rawOut := false }).cbBump 0).irq cbPage 0) ∧
    ((c.phase = 1 ∨ c.phase = 2) → exec .cardPowerTimer s = .next (s.modCard fun x => { x with phase := x.phase + 1 })) ∧
    (c.phase = 3 → exec .cardPowerTimer s = .next (s.modCard fun x => { x with phase := 4, next := 21 })) ∧
    (c.phase = 4 → c.await = 1 → good → (c.sent = 22 ∨ c.sent = 25 ∨ c.sent = 28) →
      exec (.cardResponseRx frame) s = .next (s.modCard fun x => { x with await := 2 })) ∧
    (c.phase = 4 → c.await = 1 → good → c.sent = 40 → exec (.cardResponseRx frame) s = .next (s.cardGo 41)) ∧
    (c.phase = 4 → c.await = 1 → good → c.sent = 24 → exec (.cardResponseRx frame) s = .next
      (s.modCard fun x => { x with await := 3, tx := { x.tx with block := padTo 512 c.nd } })) ∧
    (waits → getField frame 47 45 ≠ 1 → exec (.cardResponseRx frame) s = .next (s.cardFail 0x909 true)) ∧
    (waits → b = 0x5A → c.ext < 2000 → exec (.waitExtensionRx b) s = .next ((s.modCard fun x => { x with ext := c.ext + 1 }).cbBump 3)) ∧
    (waits → b = 0x5A → 2000 ≤ c.ext → exec (.waitExtensionRx b) s = .next (s.cardFail 0x905 false)) ∧
    (waits → exec .cardResponseDeadline s = .next (s.cardFail 0x902 true)) ∧
    (c.phase = 4 → c.await = 2 → crc = (List.range 4).map (lineCrc data) → exec (.cardDataBlock data crc) s = .next (s.cardBlock (padTo 512 data))) ∧
    (c.phase = 4 → c.await = 2 → crc ≠ (List.range 4).map (lineCrc data) → exec (.cardDataBlock data crc) s = .next s.cardCrc) ∧
    (c.phase = 4 → c.await = 3 → exec (.cardDataBlock data crc) s = .next (s.modCard fun x => { x with await := 4, ext := 0 })) ∧
    (out = true ∨ c.waiting = none → exec (.cardRawRemoval out) s =
      .next (s.modCard fun x => { x with rawOut := out && x.inserted, waiting := if out then x.waiting else none })) ∧
    ((s.slow 1).filt = false → c.inserted = true → ∃ t : State, exec .cardRemoval s = .next t ∧ t.cb.card.inserted = false ∧ t.cb.card.phase = 0) ∧
    (s.cus.gen = some g → g.badgePhase = false → exec .generationTimeout s = .next (s.modCus fun x => { x with gen := none })) ∧
    (s.pageLive cbPage = true → c.busy = false → exec .eject s = .next (((s.cbStatus 0).modCard fun x => { x.idle with phase := 0 }).took cbPage)) ∧
    (s.pageLive cbPage = true → c.busy = true → exec .eject s = .next (((s.cardGone 0x901).modCard fun x => { x.idle with phase := 0 }).took cbPage)) ∧
    (lives → exec .clearUnknown s = .next (((s.modCard fun x => { x with unk := none, unkLost := false }).cbStatus 0).took cbPage)) ∧
    (lives → s.lockInForce = false → 2 ≤ (s.cus.badges.filter fun x => x.uid != uid).length → ∃ t : State,
      exec .revoke s = .next ((t.cbStatus 0).took cbPage) ∧ t.cus.badges = s.cus.badges.filter (fun x => x.uid != uid) ∧
      (t.revokedBadge uid).isSome = true ∧ t.regs = s.regs ∧ t.mem = s.mem) ∧
    (lives → exec .clearLog s = .next (({ s with cb := { s.cb with log := [], logOvf := 0 } }.cbStatus 0).took cbPage)) ∧
    (s.pageLive cbPage = true → s.lockInForce = false → bitAt v 31 = false → getField v 23 16 ≠ 0 → 2 ≤ getField v 7 0 → getField v 7 0 ≤ 200 →
      bitAt v 24 = true → bitAt v 25 = true → s.cb.rdr.st ≠ 0 → exec (.cbCfgWrite v) s = .next
        ((s.wrn (cbReg 0x100) (getField v 25 24 * 2 ^ 24 + getField v 23 16 * 2 ^ 16 + getField v 8 8 * 2 ^ 8 + getField v 7 0)).took cbPage))

/-- The badge reader: pings, anticollision, and the commands and answers of a presentation (R619–R624). -/
def Obligations.BadgeReaderTakesEffect : Prop :=
  ∀ (s : State) (amp uid atqa sak n : Nat) (data r : List Byte) (ok left : Bool) (t : State),
    let x := s.cb.rdr
    let k := s.fld (cbReg 0x100) 23 16
    let mean := sumNat x.base / x.base.length
    let diff := if amp < mean then mean - amp else amp - mean
    let due := fun (code : Nat) => x.st = 4 ∧ x.cur.isSome = true ∧ x.next = code ∧ x.sent = 0
    let sends := fun (o : Outcome) (q : State) (m : List Byte) => o = .next (q.modRdr fun y => { y with next := 0, sent := (nth 0 m 0).toNat, tx := m ++ crcA m })
    let awaits := fun (code : Nat) => x.st = 4 ∧ x.cur.isSome = true ∧ x.sent = code
    (x.st = 1 → s.readerOn = true → x.base ≠ [] → diff * 256 ≤ k * mean → exec (.badgePing amp) s =
      .next (s.modRdr fun y => { y with blocked := false, base := (y.base ++ [amp]).drop (y.base.length - 7) })) ∧
    (x.st = 1 → s.readerOn = true → x.base ≠ [] → k * mean < diff * 256 → x.blocked = false → exec (.badgePing amp) s =
      .next (s.modRdr fun y => { y with st := 2, found := [], shown := [], retries := 0 })) ∧
    ((x.st = 2 ∨ x.st = 3) → x.found = [] → exec .fieldCycleTimeout s = .next (s.cbBump 9).fieldEnd) ∧
    (x.st = 3 → x.retries < 3 → exec .anticollRetryTimer s =
      .next (s.modRdr fun y => { y with st := 2, retries := y.retries + 1, found := [] })) ∧
    (x.st = 2 → exec .wupa s = .next (s.modRdr fun y => { y with st := 3, tx := [0x52] })) ∧
    (x.st = 4 → x.cur = none → s.nextBadge = some n → exec .wupa s =
      .next (s.modRdr fun y => { y with st := 4, cur := some n, next := 0x60, sent := 0, tx := [0x52] })) ∧
    (x.st = 3 → atqa = 0x48 → sak = 2 → x.found.length < 4 → uid ∉ x.found → exec (.hlta uid atqa sak) s =
      .next (s.modRdr fun y => { y with tx := [0x50, 0] ++ crcA [0x50, 0], found := y.found ++ [uid] })) ∧
    (x.st = 3 → (atqa ≠ 0x48 ∨ sak ≠ 2) → exec (.hlta uid atqa sak) s =
      .next ((s.modRdr fun y => { y with tx := [0x50, 0] ++ crcA [0x50, 0] }).cbBump 7)) ∧
    (due 0x60 → sends (exec .originRead s) s [0x60]) ∧
    (x.next = 0xF0 → exec .originVerifyDone s = .next (
      let a := ofBe (x.sig.take 32)
      let b := ofBe (sliceBytes x.sig 32 32)
      if 1 ≤ a ∧ a < p256.n ∧ 1 ≤ b ∧ b < p256.n ∧ p256.verify Config.badgeIssuerPub (sha256 (uidBytes (x.cur.getD 0))) a b = true then
        s.badgeChecked else s.badgeEnd 0x90A false)) ∧
    (due 0x70 → s.draw 4 1 = (some r, t) → sends (exec .auth1 s) (t.modRdr fun y => { y with nr := r }) ([0x70] ++ r)) ∧
    (due 0x71 → sends (exec .auth2 s) s ([0x71] ++ aesCmac s.badgeKb ([2] ++ x.nb ++ x.nr))) ∧
    (due 0x72 → sends (exec .passAuth s) s ([0x72] ++ leBytes 4 (((s.badge (x.cur.getD 0)).map (·.pw)).getD 0))) ∧
    (due 0x80 → sends (exec .countRead s) s [0x80]) ∧
    (due 0x81 → sends (exec .countStep s) s [0x81]) ∧
    (due 0x90 → sends (exec .setKey s) s ([0x90] ++ (x.kb ++ leBytes 4 x.pw))) ∧
    (due 0x9F → sends (exec .kill s) s [0x9F]) ∧
    (awaits 0x60 → exec (.badgeResponseRx data ok) s = .next ((s.modRdr fun y => { y with sig := data.take 64 }).badgeGo 0xF0)) ∧
    (awaits 0x71 → exec (.badgeResponseRx data true) s = .next s.badgeAuthed ∧ exec (.badgeResponseRx data false) s = .next s.badgeAuthFail) ∧
    (awaits 0x80 → exec (.badgeResponseRx data ok) s = .next (s.badgeCount (ofLe (data.take 4)))) ∧
    (awaits 0x90 → exec (.badgeResponseRx data true) s = .next (s.badgeGo 0x70)) ∧
    ((∃ q, x.sent = q + 1) → x.st = 4 → x.cur.isSome = true → left = true → exec (.badgeResponseTimeout left) s = .next (s.badgeEnd 0x90E false)) ∧
    (awaits 0x70 → exec (.badgeResponseTimeout false) s = .next (s.badgeEnd 0x90C false))

/-! ### Tests, service and isolation (chapter 20) -/

/-- Lane tests, the service of a dram and the tests of a core (R628–R636, R649). -/
def Obligations.TestAndServiceCommandsTakeEffect : Prop :=
  ∀ (s : State) (n d o k bits errs sram v : Nat) (r : Reg) (lock pass : Bool),
    let lives : Prop := s.pageLive (lanePage n) = true
    let free : Prop := s.fld (ra tPW 0 0x110) 31 31 = 0 ∧ s.isoDomain d = false
    let ok := s.drStatus d 0
    let c := 32 * o + k
    let idle : Prop := s.domOn (64 + o) = true ∧ ((s.core c).st = 0 ∨ (s.core c).st = 4) ∧ (s.took (pageNo tTS o)).fld (ozReg o 0x818) k k = 0 ∧
      (s.took (pageNo tTS o)).fld (tsReg o 0x104) 31 31 = 0
    (lives → s.lnState n = 0 → getField r 1 0 ≠ 3 → exec (.lnTestCfgWrite n r) s = .next ((s.wrn (lnReg n 0x24) (getField r 1 0)).took (lanePage n))) ∧
    (lives → s.lnState n ≠ 0 → s.lnState n ≠ 6 → exec (.lnTestCfgWrite n r) s = .next (s.lnStatus n 0x120)) ∧
    (lives → s.lnState n = 6 → s.testMode n = 1 → s.fld (lnReg n 0x34) 0 0 = 1 → (s.rd (lnReg n 0x30)).toNat < 0xFFFFFFFF →
      exec (.prbsInject n) s = .next ((s.wrn (lnReg n 0x30) ((s.rd (lnReg n 0x30)).toNat + 1)).took (lanePage n))) ∧
    (lives → s.lnState n ≠ 6 → exec (.prbsInject n) s = .next (s.lnStatus n 0x120)) ∧
    (s.lnState n = 6 → s.testMode n ≠ 2 → s.fld (lnReg n 0x34) 0 0 = 0 →
      exec (.prbsLockChange n lock bits errs) s = .next (s.setFld (lnReg n 0x34) 0 0 (b2n lock))) ∧
    (free → s.drState d = 0 → exec (.dramOut d) s = .next ((ok.drainDram d).took (drPage d))) ∧
    (free → (s.drState d = 3 ∨ s.drState d = 5) → (∀ e ∈ domDeps d, s.domOn e = true) →
      exec (.dramIn d) s = .next ((ok.wantAll [d] true).powerStep.took (drPage d))) ∧
    (free → s.drState d = 0 → ∃ t : State, t = { ok with svc := { ok.svc with cycling := ok.svc.cycling ++ [d] } } ∧
      exec (.dramCycle d) s = .next (((t.drainDram d).bump (drPage d) 0 0 1).took (drPage d))) ∧
    (s.fld (ra tPW 0 0x110) 31 31 = 0 → s.drState d = 4 → exec (.dramOut d) s = .next ((s.drStatus d 0x20B).took (drPage d))) ∧
    (s.drState d = 1 → s.dramCells d = 0 → exec (.dramDrainDone d) s = .next (s.closeDram d)) ∧
    (s.drState d = 1 → exec (.dramDrainTimeout d) s = .next (s.dropDram d)) ∧
    (s.drState d = 2 → exec (.dramCloseDone d) s = .next (s.dramClosed d)) ∧
    (s.drState d = 4 → s.domOn d = true → s.startRunning = false → exec (.dramBistDone d 0) s =
      .next (((s.wrn (drReg d 0x110) 0).dramIn d).powerFollow)) ∧
    (s.drState d = 4 → s.domOn d = true → s.startRunning = false → 1 ≤ sram → sram ≤ 4 → exec (.dramBistDone d sram) s =
      .next ((s.dramFailed d sram).powerFollow)) ∧
    (k < 32 → o < 4 → idle → ∃ t : State, t = s.took (pageNo tTS o) ∧
      exec (.coreBist o k) s = .next ({ t with svc := { t.svc with test := oput (c * 4 + 1) o t.svc.test } }.wrn (tsReg o 0x104) (2 ^ 31)) ∧
      exec (.reload o k) s = .next ({ t with svc := { t.svc with test := oput (c * 4 + 2) o t.svc.test } }.wrn (tsReg o 0x104) (2 ^ 31))) ∧
    (oget s.svc.test o = some v → v % 4 = 2 → ∃ t : State, t = { s with svc := { s.svc with test := odel o s.svc.test } } ∧
      exec (.coreTestDone o pass) s = .next (((t.loadFirmware (v / 4)).wrn (tsReg o 0x104) 0).irq (pageNo tTS o) 0)) ∧
    (s.domain (64 + o) = 3 → exec (.verdictDrainTimeout o) s = .next (s.discardCluster o))

/-- Isolation of an ounce and the losses of clocks and links (R35, R147, R638–R643). -/
def Obligations.IsolationAndClockLossesTakeEffect : Prop :=
  ∀ (s : State) (o a b k pll : Nat) (vck : Bool),
    let soft := ((List.range 4).filter fun p => s.isoState p != 0 && s.fld (ozReg p 0x104) 2 2 == 0).length
    (s.startRunning = false → s.isHeld = false → soft < 2 → s.isoState o = 0 → exec (.isolate o) s = .next ((s.isoStatus o 0).isoBegin o false)) ∧
    (s.startRunning = true → exec (.isolate o) s = .next (s.isoStatus o 0x890)) ∧
    (s.startRunning = false → s.isHeld = false → 2 ≤ soft → exec (.isolate o) s = .next (s.isoStatus o 0x891)) ∧
    (s.startRunning = false → s.isHeld = false → soft < 2 → s.isoState o ≠ 0 → exec (.isolate o) s = .next (s.isoStatus o 0x893)) ∧
    (s.isoState o = 2 → s.fld (ozReg o 0x104) 3 3 = 0 → s.fld (ozReg o 0x104) 2 2 = 0 → ∃ t : State, t = (s.isoStatus o 0).setFld (ozReg o 0x104) 3 3 1 ∧
      exec (.restore o) s = .next ((t.wantAll (s.isoPrev o) true).powerFollow)) ∧
    (s.isoState o ≠ 2 → exec (.restore o) s = .next (s.isoStatus o 0x893)) ∧
    (exec (.isolationStepDone o) s = .next ((s.isoStep o).powerFollow)) ∧
    (a < 4 → b < 4 → a ≠ b → ∃ t : State, exec (.crossOunceLinkRestored a b) s = .next t ∧ t.regs = s.regs ∧ t.mem = s.mem ∧ t.dom = s.dom ∧
      (tblWf (fun _ => false) s.fab.linkDown = true → t.linkIsDown a b = false)) ∧
    (o < 4 → exec (.rndVckPllLoss o vck) s =
      .next (((s.pllLoss o (1 + b2n vck)).errInfo (ozPage o) (1 + b2n vck) 0x892).forceIso o (1 + b2n vck))) ∧
    (exec (.xozPllLoss 0 k) s = .next (if 3 ≤ k then s else (s.pllLoss 0 (3 + k)).linkFall 0 (k + 1))) ∧
    (exec (.xozPllLoss 3 0) s = .next ((s.pllLoss 3 3).linkFall 3 0)) ∧
    (o < 4 → o ∉ s.svc.fabLost → ∃ t : State, t = s.pllLoss o 0 ∧ exec (.fabPllLoss o) s =
      .next { t with svc := { t.svc with fabLost := s.svc.fabLost ++ [o] } }) ∧
    (o ∈ s.svc.fabLost → exec (.fabRelockTimeout o) s = .next (({ s with st := { s.st with fails := [] } }.coldStart 3).startStatus 0 0x892)) ∧
    (exec (.pllRelock o 6) s = .next { s with clk := { s.clk with held := false } }) ∧
    (o < 4 → 3 ≤ pll → pll < 6 → exec (.pllRelock o pll) s = .next (s.setFld (ozReg o 0x114) pll pll 1)) ∧
    (o < 4 → (pll = 1 ∨ pll = 2) → exec (.pllRelock o pll) s = .next ((s.setFld (ozReg o 0x114) pll pll 1).causeEnds o pll))

/-- The test access port (R546, R644–R646): an instruction of a closed class selects BYPASS, and CORE_ACCESS acts on a core that does not run. -/
def Obligations.TestAccessPortTakesEffect : Prop :=
  ∀ (s : State) (c a : Nat) (v : Word),
    let open_ := fun (cls : Nat) => s.jtagClasses.testBit cls = true
    let shut := fun (cls : Nat) => s.jtagClasses.testBit cls = false
    let early : Prop := s.portsOpen = false ∨ s.isHeld = true
    let bypass := s.tap 0xFF 0
    let q := s.jtag.sel
    let access : Prop := open_ 2 ∧ ((s.core q).st = 0 ∨ (s.core q).st = 4) ∧ s.domOn (64 + coreOunce q) = true ∧
      s.fld (ozReg (coreOunce q) 0x818) (q % 32) (q % 32) = 0
    (exec .testLogicReset s = .next (s.tap 0x01 0x11024A4B)) ∧
    (exec .idcode s = .next (s.tap 0x01 0x11024A4B)) ∧
    (exec .bypass s = .next bypass) ∧
    (open_ 1 → ∃ t : State, exec .samplePreload s = .next t ∧ t.jtag.ir = 0x02 ∧ t.jtag.boundary = s.jtag.boundary ∧ t.regs = s.regs ∧ t.mem = s.mem) ∧
    (open_ 1 → early → ∃ t : State, exec .extest s = .next t ∧ t.jtag.ir = 0x00 ∧ t.jtag.boundary = true ∧ t.regs = s.regs) ∧
    (open_ 1 → early → ∃ t : State, exec .extestPulse s = .next t ∧ t.jtag.ir = 0x0A ∧ t.jtag.boundary = true ∧ t.regs = s.regs) ∧
    (open_ 1 → early → ∃ t : State, exec .extestTrain s = .next t ∧ t.jtag.ir = 0x0B ∧ t.jtag.boundary = true ∧ t.regs = s.regs) ∧
    (open_ 1 → early → ∃ t : State, t = s.tap 0x08 0 ∧ exec .highz s = .next { t with jtag := { t.jtag with boundary := true } }) ∧
    (open_ 1 → early → ∃ t : State, t = s.tap 0x09 0 ∧ exec .clamp s = .next { t with jtag := { t.jtag with boundary := true } }) ∧
    (shut 1 → exec .extest s = .next bypass ∧ exec .extestPulse s = .next bypass ∧ exec .extestTrain s = .next bypass ∧ exec .highz s = .next bypass ∧
      exec .clamp s = .next bypass ∧ exec .samplePreload s = .next bypass) ∧
    (open_ 1 → s.portsOpen = true → s.isHeld = false → ∃ t : State, exec .extest s = .next t ∧ t.jtag = bypass.jtag ∧ t.fld (tsReg 2 0x108) 0 0 = 1) ∧
    (open_ 3 → ∃ t : State, exec .custDbg s = .next t ∧ t.jtag.ir = 0x30 ∧ t.jtag.cust = true ∧ t.regs = s.regs) ∧
    (shut 3 → exec .custDbg s = .next bypass) ∧
    (open_ 2 → c < 128 → ∃ t : State, exec (.coreSel c) s = .next t ∧ t.jtag.ir = 0x20 ∧ t.jtag.dr = c ∧ t.jtag.sel = c ∧ t.regs = s.regs) ∧
    (shut 2 → exec (.coreSel c) s = .next bypass ∧ exec (.coreAccessRead a) s = .next bypass ∧ exec (.coreAccessWrite a v) s = .next bypass ∧
      exec .coreAccessHalt s = .next bypass ∧ exec .coreAccessRun s = .next bypass) ∧
    (access → a < 32 → exec (.coreAccessRead (0x3FFF0000 + a)) s = .next (s.tap 0x21 (accessWord 0 (0x3FFF0000 + a) ((s.core q).reg a).toNat))) ∧
    (access → 0x3FFE0000 ≤ a → a < 0x3FFF0000 → exec (.coreAccessRead a) s =
      .next (s.tap 0x21 (accessWord 0 a (s.specialValue q (a % 2 ^ 16)).toNat))) ∧
    (access → a < 32 → exec (.coreAccessWrite (0x3FFF0000 + a) v) s =
      .next ((s.setReg q a v).tap 0x21 (accessWord 1 (0x3FFF0000 + a) v.toNat))) ∧
    (open_ 2 → (s.core q).st = 1 → exec (.coreAccessRead a) s = .next (s.tap 0x21 (accessWord 3 a 0)) ∧
      exec (.coreAccessWrite a v) s = .next (s.tap 0x21 (accessWord 3 a 0))) ∧
    (open_ 2 → ∃ t : State, exec (.vcRun q false) s = .next t ∧ exec .coreAccessHalt s = .next (t.tap 0x21 (accessWord 2 0 0))) ∧
    (open_ 2 → ∃ t : State, exec (.vcRun q true) s = .next t ∧ exec .coreAccessRun s = .next (t.tap 0x21 (accessWord 3 0 0)))

/-! ### Rules stated as the spec words them -/

/-- R70 and R630: a value of LN_TXEQ out of range and a write to LN_TEST_CFG outside OFF, or with MODE = 3, change nothing and report
0x0105 and 0x0120; INJECT is accepted in TEST. -/
def Obligations.LaneSettingsOutOfRangeAreRefused : Prop :=
  ∀ (s : State) (n : Nat) (v : Reg), s.canon = true → s.pageLive (lanePage n) = true →
    let sum := getField v 5 0 + getField v 13 8 + getField v 21 16
    let kept := fun (t : State) (off code : Nat) => t.rd (lnReg n off) = s.rd (lnReg n off) ∧ t.fld (lnReg n 0x20) 15 0 = code
    ((63 < sum ∨ getField v 13 8 < 24) → ∃ t, exec (.lnTxeqWrite n v) s = .next t ∧ kept t 0x08 0x105) ∧
    (sum ≤ 63 → 24 ≤ getField v 13 8 → ∃ t, exec (.lnTxeqWrite n v) s = .next t ∧ t.rd (lnReg n 0x08) = v &&& 0x3F3F3F) ∧
    (s.lnState n ≠ 0 → (s.lnState n = 6 → bitAt v 8 = false) → ∃ t, exec (.lnTestCfgWrite n v) s = .next t ∧ kept t 0x24 0x120) ∧
    (s.lnState n = 0 → getField v 1 0 = 3 → ∃ t, exec (.lnTestCfgWrite n v) s = .next t ∧ kept t 0x24 0x120) ∧
    (s.lnState n = 0 → getField v 1 0 ≠ 3 → ∃ t, exec (.lnTestCfgWrite n v) s = .next t ∧ t.fld (lnReg n 0x24) 1 0 = getField v 1 0) ∧
    (s.lnState n = 6 → bitAt v 8 = true → ∃ t, exec (.lnTestCfgWrite n v) s = .next t ∧ kept t 0x24 (s.fld (lnReg n 0x20) 15 0))

/-- R469: what a ring refuses with 0x0A16, and that a refused write leaves the register unchanged. -/
def Obligations.RingSettingsAreRefusedWhileEnabled : Prop :=
  ∀ (s : State) (r h : Nat) (v : Reg), s.canon = true → r < 256 → h < 2 →
    let size := getField v 7 4
    let buf := getField v 23 16
    let on : Prop := s.fld (rgReg r 8) 0 0 = 1
    let refused := fun (o : Outcome) (off : Nat) => ∃ t, o = .next t ∧ t.rd (rgReg r off) = s.rd (rgReg r off) ∧ t.fld (rgReg r 0x14) 15 0 = 0xA16
    (on → (size ≠ s.fld (rgReg r 8) 7 4 ∨ buf ≠ s.fld (rgReg r 8) 23 16) → refused (exec (.rgCfgWrite r v) s) 8) ∧
    ((size < 4 ∨ (128 ≤ r ∧ buf = 0) ∨ (r < 128 ∧ buf ≠ 0)) → refused (exec (.rgCfgWrite r v) s) 8) ∧
    (s.hostUp = true → on → (if h = 0 then v &&& 0xFFFFF000 else v) ≠ s.rd (rgReg r (4 * h)) →
      refused (exec (.registerWrite false 15 (rgReg r (4 * h)) v) s) (4 * h))

/-- R553: a violation enters a log of 16, or is counted once the log is full; the first one since VALID was cleared goes to PG_ERR_INFO. -/
def Obligations.ViolationsAreLogged : Prop :=
  ∀ (s : State) (f c k a : Nat), s.canon = true → f < 512 →
    let t := s.violation f c k a
    let info := pra (pageNo tCD 3) 0x20
    (s.cus.log.length < 16 → t.cus.log.length = s.cus.log.length + 1 ∧ (∃ e, t.cus.log = s.cus.log ++ [e] ∧ e.fence = f ∧ e.addr = a) ∧
      t.rd (ra tCD 3 0x304) = s.rd (ra tCD 3 0x304)) ∧
    (16 ≤ s.cus.log.length → t.cus.log = s.cus.log ∧ ((s.rd (ra tCD 3 0x304)).toNat < 0xFFFFFFFF →
      (t.rd (ra tCD 3 0x304)).toNat = (s.rd (ra tCD 3 0x304)).toNat + 1)) ∧
    (s.fld info 31 31 = 0 → t.fld info 31 31 = 1 ∧ t.fld info 15 0 = 0x813 ∧ t.fld info 29 16 = f)

/-! ### Exceptions, and what instructions leave alone -/

/-- Entry of an exception of a running core whose store buffer is empty (R276–R279, R281, R282): the saved registers, the ring, the loop counts and the
vector; in a delay slot EPC names the transfer; with EXL the double exception; with DXL the core halts. -/
def Obligations.ExceptionEntrySavesAndRedirects : Prop :=
  ∀ (s : State) (c cause sub : Nat) (addr : Word) (async : Bool) (d : Slot),
    let x := s.core c
    let y := (s.raise c cause sub addr async).core c
    let quiet : Prop := 1 ≤ x.st ∧ x.sbuf = [] ∧ x.late = none
    let h := handlerRing x cause sub
    (quiet → x.ds = none → x.exl = false → x.dxl = false → y.epc = x.pc.toNat % 2 ^ 17 ∧ y.ecause = causeCode cause sub false async ∧
      y.eaddr = addr ∧ y.pring = x.ring ∧ y.xloops = x.loops ∧ y.loops = { x.loops with lc0 := 0, lc1 := 0 } ∧ y.exl = true ∧ y.ring = h ∧
      y.pc = BitVec.ofNat 64 ((if h = 0 then x.evec0 else x.evec1) + (if cause = cINTR ∨ cause = cWDOG then 0x40 else if cause = cLATE then 0x80 else 0)) ∧
      y.g = x.g ∧ y.sp = x.sp ∧ y.tickets = x.tickets) ∧
    (quiet → x.ds = some d → d.link = 0 → x.exl = false → x.dxl = false → y.epc = d.src.toNat % 2 ^ 17 ∧ y.ecause = causeCode cause sub true async ∧
      y.ds = none ∧ y.exl = true) ∧
    (quiet → x.ds = none → x.exl = true → x.dxl = false → y.depc = x.pc.toNat % 2 ^ 17 ∧ y.dcause = causeCode cause sub false async ∧
      y.daddr = addr ∧ y.dxl = true ∧ y.ring = 0 ∧ y.pc = BitVec.ofNat 64 (x.evec0 + 0xC0) ∧ y.loops = x.loops ∧ y.epc = x.epc) ∧
    (quiet → x.ds = none → x.dxl = true → y.st = 4 ∧ y.g = x.g ∧ y.pc = x.pc)

/-- What an integer, logic or immediate operation of a ready core leaves alone: every other register of the core, its flags and its exception
registers, every other core, memory, the queue and the other blocks. -/
def Obligations.IntegerOperationsChangeOnlyTheirRegister : Prop :=
  ∀ (s t : State) (c : Nat) (rd ra rb : BitVec 5) (imm : BitVec 16) (cnt : BitVec 8) (w : Bool) (i : Instr),
    s.ready c = true → (s.core c).stopping = false →
    i ∈ ([.add c rd ra rb w, .sub c rd ra rb w, .mul c rd ra rb w, .mulh c rd ra rb, .mulhu c rd ra rb, .and c rd ra rb, .or c rd ra rb,
      .xor c rd ra rb, .sll c rd ra rb w, .srl c rd ra rb w, .sra c rd ra rb w, .ror c rd ra rb w, .slt c rd ra rb, .sltu c rd ra rb,
      .seq c rd ra rb, .min c rd ra rb, .max c rd ra rb, .clz c rd ra 0, .ctz c rd ra 0, .popc c rd ra 0, .bswap c rd ra 0, .sextb c rd ra 0,
      .sexth c rd ra 0, .zextw c rd ra 0, .cmovz c rd ra rb, .cmovn c rd ra rb, .addi c rd ra imm, .addiw c rd ra imm, .andi c rd ra imm,
      .ori c rd ra imm, .xori c rd ra imm, .slti c rd ra imm, .sltiu c rd ra imm, .lui c rd 0 imm, .slli c rd ra cnt w, .srli c rd ra cnt w,
      .srai c rd ra cnt w, .rori c rd ra cnt w] : List Instr) → exec i s = .next t →
    let x := s.core c
    let y := t.core c
    (∀ r : BitVec 5, r ≠ rd → y.rv r = x.rv r) ∧ y.rv 0 = 0 ∧
    y.v = x.v ∧ y.dz = x.dz ∧ y.tov = x.tov ∧ y.tdz = x.tdz ∧ y.ring = x.ring ∧ y.epc = x.epc ∧ y.ecause = x.ecause ∧ y.exl = x.exl ∧
    y.tickets = x.tickets ∧ y.sbuf = x.sbuf ∧ y.evpend = x.evpend ∧
    (∀ d, d ≠ c → t.core d = s.core d) ∧ (∀ a, t.byte a = s.byte a) ∧
    t.fab = s.fab ∧ t.cxs = s.cxs ∧ t.vp = s.vp ∧ t.vlt = s.vlt ∧ t.pk = s.pk ∧ t.jn = s.jn ∧ t.cr = s.cr ∧ t.cus = s.cus ∧ t.dom = s.dom ∧
    t.pending = s.pending

/-- A store of a ready core into its data SRAM changes the bytes it stores, at the address its base and offset give, and no other byte, and no
register of the core. -/
def Obligations.StoresChangeOnlyTheirBytes : Prop :=
  ∀ (s t : State) (c : Nat) (rs ra : BitVec 5) (sub : BitVec 4) (off : BitVec 12),
    let x := s.core c
    let size := [1, 1, 2, 2, 4, 4, 8].getD sub.toNat 8
    let a := (x.rv ra + off.signExtend 64).toNat
    s.ready c = true → x.stopping = false → sub.toNat ≤ 6 → sub.toNat % 2 = 0 → a % size = 0 → a + size ≤ 0x40000 →
      s.fenceFail c (clsRing x.ring) accW a size = none → exec (.store c rs ra sub off) s = .next t →
      (∀ k < size, t.byte (spData c + a + k) = BitVec.ofNat 8 ((x.rv rs).toNat / 2 ^ (8 * k))) ∧
      (∀ p, p < spData c + a ∨ spData c + a + size ≤ p → t.byte p = s.byte p) ∧
      (∀ r : BitVec 5, (t.core c).rv r = x.rv r) ∧ (∀ d, d ≠ c → t.core d = s.core d) ∧ t.fab = s.fab ∧ t.cus = s.cus ∧ t.pending = s.pending

/-! ### The queue, reset, and what every step keeps -/

/-- A step runs the command at the front of the queue on the state with the queue's rest; with none waiting, one nanosecond passes (log entry 1).
Every command completes in every state, and so does every step. -/
def Obligations.StepRunsTheFrontCommand : Prop :=
  (∀ (c : Instr) (s : State), ∃ t, exec c s = .next t) ∧ (∀ s : State, Sys2Proof.Safe (step s)) ∧
  (∀ (s : State) (c : Instr) (rest : List Instr), step { s with pending := c :: rest } = exec c { s with pending := rest }) ∧
  (∀ s : State, s.pending = [] → step s = .next s.tick ∧ s.tick.clk.ns = s.clk.ns + 1 ∧ s.tick.pending = [] ∧ s.tick.mem = s.mem) ∧
  (∀ nbits w, Sys2Proof.decodeTableWord nbits w = none)

/-- Right after reset nothing waits, memory lists nothing, every register reads its reset value, the start runs at its first step with the ports shut,
the switched domains are off, and the tables are in their canonical form. -/
def Obligations.ResetHoldsTheSpecValues : Prop :=
  State.reset.pending = [] ∧ State.reset.mem = [] ∧ (∀ a, State.reset.rd a = resetWord a) ∧ (∀ a, State.reset.byte a = 0) ∧
  State.reset.startRunning = true ∧ State.reset.startFld 3 0 = 1 ∧ State.reset.portsOpen = false ∧ State.reset.domOn 64 = false ∧ State.reset.domOn 77 = true ∧ State.reset.domOn 78 = true ∧
  (∀ c < 128, (State.reset.core c).pc = 0 ∧ (State.reset.core c).ring = 0 ∧ (State.reset.core c).st = 0 ∧ ∀ r : BitVec 5, (State.reset.core c).rv r = 0) ∧
  State.reset.canon = true

/-- Every step keeps the canonical form of the registers, the counters, the domains and the memory, so that what is written is read back and equal
contents are equal data. -/
def Obligations.StepKeepsTheCanonicalForm : Prop := ∀ s t : State, s.canon = true → step s = .next t → t.canon = true

/-- No command touches the queue: what waits behind a command waits, unchanged and in order, after it. -/
def Obligations.CommandsLeaveTheQueueAlone : Prop :=
  (∀ (c : Instr) (s t : State), exec c s = .next t → t.pending = s.pending) ∧
  ∀ (s t : State) (c : Instr) (rest : List Instr), s.pending = c :: rest → step s = .next t → t.pending = rest
end

