-- ==== Sys2Proof/Laws/Bits.lean ====
section
/-!
SUPPORT. Fields of bit vectors: a field reads back as it was written, and a write leaves every other field alone.
-/
namespace Sys2Proof.Machine

theorem natField_testBit (n hi lo i : Nat) : (natField n hi lo).testBit i = (decide (i < hi + 1 - lo) && n.testBit (lo + i)) := by
  simp [natField, Nat.testBit_mod_two_pow, Nat.testBit_shiftRight]

theorem natField_lt (n hi lo : Nat) : natField n hi lo < 2 ^ (hi + 1 - lo) := Nat.mod_lt _ (by positivity)

theorem getField_testBit {w : Nat} (v : BitVec w) (hi lo i : Nat) :
    (getField v hi lo).testBit i = (decide (i < hi + 1 - lo) && v.getLsbD (lo + i)) := by
  simp [getField, natField_testBit, BitVec.getLsbD]

theorem setField_getLsbD {w : Nat} (v : BitVec w) (hi lo x i : Nat) :
    (setField v hi lo x).getLsbD i =
      if lo ≤ i ∧ i ≤ hi then decide (i < w) && x.testBit (i - lo) else v.getLsbD i := by
  have hv : w ≤ i → v.getLsbD i = false := fun h => BitVec.getLsbD_of_ge v i h
  simp only [setField, BitVec.getLsbD_or, BitVec.getLsbD_and, BitVec.getLsbD_not, BitVec.getLsbD_shiftLeft, BitVec.getLsbD_ofNat,
    Nat.testBit_two_pow_sub_one, Nat.testBit_mod_two_pow]
  by_cases h : i < w
  · have h3 : i - lo < w := by omega
    by_cases h1 : lo ≤ i
    · by_cases h2 : i ≤ hi
      · have h4 : i - lo < hi + 1 - lo := by omega
        have h5 : ¬ i < lo := by omega
        simp [h, h1, h2, h3, h4, h5]
      · have h4 : ¬ i - lo < hi + 1 - lo := by omega
        simp [h, h1, h2, h4]
    · have h5 : i < lo := by omega
      simp [h, h1, h5]
  · simp [h, hv (by omega)]

/-- A field reads back as it was written. -/
theorem getField_setField {w : Nat} (v : BitVec w) (hi lo x : Nat) (h : hi < w) :
    getField (setField v hi lo x) hi lo = x % 2 ^ (hi + 1 - lo) := by
  apply Nat.eq_of_testBit_eq
  intro i
  rw [getField_testBit, setField_getLsbD, Nat.testBit_mod_two_pow]
  by_cases h1 : i < hi + 1 - lo
  · have h2 : lo ≤ lo + i ∧ lo + i ≤ hi := by omega
    have h3 : lo + i < w := by omega
    simp [h1, h2, h3]
  · simp [h1]

/-- A write to a field leaves a field apart from it alone. -/
theorem getField_setField_ne {w : Nat} (v : BitVec w) (hi lo x hi' lo' : Nat) (h : hi < lo' ∨ hi' < lo) :
    getField (setField v hi lo x) hi' lo' = getField v hi' lo' := by
  apply Nat.eq_of_testBit_eq
  intro i
  rw [getField_testBit, getField_testBit, setField_getLsbD]
  by_cases h1 : i < hi' + 1 - lo'
  · have h2 : ¬ (lo ≤ lo' + i ∧ lo' + i ≤ hi) := by omega
    simp [h1, h2]
  · simp [h1]

/-- One bit of a field. -/
theorem getField_bit {w : Nat} (v : BitVec w) (i : Nat) : getField v i i = b2n (bitAt v i) := by
  apply Nat.eq_of_testBit_eq
  intro k
  rw [getField_testBit]
  have h : i + 1 - i = 1 := by omega
  rcases k with _ | k
  · cases hb : bitAt v i <;> simp_all [b2n, bitAt]
  · cases hb : bitAt v i <;> simp [b2n, h, Nat.testBit_succ]

@[simp] theorem leBytes_length (n v : Nat) : (leBytes n v).length = n := by
  induction n generalizing v with
  | zero => rfl
  | succ n ih => simp [leBytes, ih]

/-- The bytes of a number spell it again (R11). -/
theorem ofLe_leBytes (n v : Nat) : ofLe (leBytes n v) = v % 256 ^ n := by
  induction n generalizing v with
  | zero => simp [leBytes, ofLe, Nat.mod_one]
  | succ n ih =>
    simp only [leBytes, ofLe, ih, BitVec.toNat_ofNat, Nat.shiftRight_eq_div_pow]
    have e : 256 ^ (n + 1) = 256 * 256 ^ n := Nat.pow_succ'
    rw [e, Nat.mod_mul]

end Sys2Proof.Machine
end

