-- ==== Sys2Proof/Laws/Table.lean ====
section
/-!
SUPPORT. Sparse tables: what a write changes and leaves alone, and that every table operation keeps the canonical form.
-/
namespace Sys2Proof.Machine

variable {α : Type}

/-- A key below every listed key holds its default. -/
theorem tget_of_lt (d : Nat → α) (t : Tbl α) (k : Nat) (h : ∀ p ∈ t, k < p.1) : tget d t k = d k := by
  induction t with
  | nil => rfl
  | cons p t ih =>
    have h1 := h p (by simp)
    simp only [tget]
    rw [if_neg (by omega), ih (fun q hq => h q (by simp [hq]))]

variable [DecidableEq α]

/-- The canonical form in words: keys rise strictly, and no entry holds its default. -/
theorem tblWf_iff (d : Nat → α) (t : Tbl α) :
    tblWf d t = true ↔ t.Pairwise (fun a b => a.1 < b.1) ∧ ∀ p ∈ t, p.2 ≠ d p.1 := by
  simp [tblWf]

/-- What a write does to every key, in a table whose keys rise. -/
theorem tget_tput' (d : Nat → α) (v : α) (k : Nat) (t : Tbl α) (h : t.Pairwise (fun a b => a.1 < b.1)) (j : Nat) :
    tget d (tput d v k t) j = if j = k then v else tget d t j := by
  induction t with
  | nil =>
    by_cases hv : v = d k <;> by_cases hj : j = k <;> simp [tput, tget, hv, hj]
    · intro h'; exact absurd h'.symm hj
  | cons p t ih =>
    obtain ⟨k', v'⟩ := p
    obtain ⟨h1, h2⟩ := List.pairwise_cons.1 h
    have hlow : ∀ i, i ≤ k' → tget d t i = d i := fun i hi => tget_of_lt d t i (fun q hq => lt_of_le_of_lt hi (h1 q hq))
    simp only [tput]
    split
    · split <;> by_cases hj : j = k
      · subst hj; simp [tget, hlow j (by omega), *]; omega
      · simp [hj]
      · subst hj; simp [tget]
      · have : ¬ k = j := fun e => hj e.symm
        simp [tget, hj, this]
    · split
      · rename_i hkk
        subst hkk
        split <;> by_cases hj : j = k
        · subst hj; simp [hlow j (by omega), *]
        · have : ¬ k = j := fun e => hj e.symm
          simp [tget, hj, this]
        · subst hj; simp [tget]
        · have : ¬ k = j := fun e => hj e.symm
          simp [tget, hj, this]
      · simp only [tget, ih h2]
        by_cases hj : j = k
        · subst hj; have : ¬ k' = j := by omega
          simp [this]
        · simp [hj]

theorem tget_tput (d : Nat → α) (v : α) (k : Nat) (t : Tbl α) (h : tblWf d t) (j : Nat) :
    tget d (tput d v k t) j = if j = k then v else tget d t j := tget_tput' d v k t ((tblWf_iff d t).1 h).1 j

/-- A write leaves every other key alone, whatever the table. -/
theorem tget_tput_ne (d : Nat → α) (v : α) (k : Nat) (t : Tbl α) (j : Nat) (hj : j ≠ k) : tget d (tput d v k t) j = tget d t j := by
  have hj' : ¬ k = j := fun e => hj e.symm
  induction t with
  | nil => simp only [tput]; split <;> simp [tget, hj']
  | cons p t ih =>
    obtain ⟨k', v'⟩ := p
    simp only [tput]
    split
    · split <;> simp [tget, hj']
    · split
      · rename_i e
        subst e
        split <;> simp [tget, hj']
      · simp [tget, ih]

/-- A write of a value that is no default is read back, whatever the table. -/
theorem tget_tput_new (d : Nat → α) (v : α) (k : Nat) (t : Tbl α) (hv : v ≠ d k) : tget d (tput d v k t) k = v := by
  induction t with
  | nil => simp [tput, tget, hv]
  | cons p t ih =>
    obtain ⟨k', v'⟩ := p
    simp only [tput]
    split
    · simp [tget, hv]
    · split
      · simp [tget, hv]
      · have : ¬ k' = k := by omega
        simp [tget, ih, this]

/-- The keys a write lists are the old ones and its own. -/
theorem tput_keys (d : Nat → α) (v : α) (k : Nat) (t : Tbl α) : ∀ p ∈ tput d v k t, p = (k, v) ∧ v ≠ d k ∨ p ∈ t := by
  induction t with
  | nil => intro p; simp only [tput]; split <;> simp_all
  | cons q t ih =>
    obtain ⟨k', v'⟩ := q
    intro p hp
    simp only [tput] at hp
    split at hp
    · split at hp <;> simp_all
    · split at hp
      · split at hp <;> simp_all
        rcases hp with h | h <;> simp_all
      · rcases List.mem_cons.1 hp with h | h
        · simp [h]
        · rcases ih p h with h | h <;> simp [h]

/-- A write keeps the canonical form. -/
theorem tput_wf (d : Nat → α) (v : α) (k : Nat) (t : Tbl α) (h : tblWf d t) : tblWf d (tput d v k t) := by
  rw [tblWf_iff] at h ⊢
  constructor
  · replace h := h.1
    induction t with
    | nil => simp only [tput]; split <;> simp
    | cons q t ih =>
      obtain ⟨k', v'⟩ := q
      obtain ⟨h1, h2⟩ := List.pairwise_cons.1 h
      simp only [tput]
      split
      · split
        · exact h
        · refine List.pairwise_cons.2 ⟨?_, h⟩
          intro p hp
          rcases List.mem_cons.1 hp with e | e
          · subst e; assumption
          · exact lt_trans ‹k < k'› (h1 p e)
      · split
        · rename_i e; subst e
          split
          · exact h2
          · exact List.pairwise_cons.2 ⟨fun p hp => h1 p hp, h2⟩
        · refine List.pairwise_cons.2 ⟨?_, ih h2⟩
          intro p hp
          rcases tput_keys d v k t p hp with e | e
          · obtain ⟨e, -⟩ := e; subst e; simp; omega
          · exact h1 p e
  · intro p hp
    rcases tput_keys d v k t p hp with ⟨e, hv⟩ | e
    · subst e; exact hv
    · exact h.2 p e

/-- Taking entries out keeps the canonical form. -/
theorem filter_wf (d : Nat → α) (q : Nat × α → Bool) (t : Tbl α) (h : tblWf d t) : tblWf d (t.filter q) := by
  rw [tblWf_iff] at h ⊢
  exact ⟨h.1.filter _, fun p hp => h.2 p (List.mem_filter.1 hp).1⟩

/-- Taking keys out keeps the canonical form. -/
theorem tdrop_wf (d : Nat → α) (q : Nat → Bool) (t : Tbl α) (h : tblWf d t) : tblWf d (tdrop q t) := filter_wf d _ t h

@[simp] theorem tblWf_nil (d : Nat → α) : tblWf d ([] : Tbl α) := by simp [tblWf]

omit [DecidableEq α] in
/-- What a table holds after keys were taken out. -/
theorem tget_tdrop (d : Nat → α) (q : Nat → Bool) (t : Tbl α) (k : Nat) :
    tget d (tdrop q t) k = if q k then d k else tget d t k := by
  induction t with
  | nil => simp [tdrop, tget]
  | cons p t ih =>
    obtain ⟨k', v'⟩ := p
    simp only [tdrop] at ih
    simp only [tdrop, List.filter_cons]
    by_cases hq : q k'
    · simp only [hq, Bool.not_true, Bool.false_eq_true, if_false, ih, tget]
      by_cases hk : q k
      · simp [hk]
      · have : ¬ k' = k := fun e => hk (e ▸ hq)
        simp [hk, this]
    · simp only [hq, Bool.not_false, if_true, tget, ih]
      by_cases hk : k' = k
      · subst hk; simp [hq]
      · simp [hk]

end Sys2Proof.Machine
end

