-- ==== Sys2Proof/Laws/State.lean ====
section
/-!
SUPPORT. What each named operation over State leaves alone, one field at a time: the operations that write one field, and those that
report (events, counters, interrupts, error information), which write registers, counters and memory only.
-/
namespace Sys2Proof.Machine

section
variable (s : State) (a n m k : Nat) (v : Reg) (b : Byte) (bs : List Byte) (x : Core) (f : Core → Core) (g : Custody → Custody) (l : Lane)
  (h : Lane → Lane)

@[simp] theorem State.wr_ctrs : (s.wr a v).ctrs = s.ctrs := rfl
@[simp] theorem State.wr_mem : (s.wr a v).mem = s.mem := rfl
@[simp] theorem State.wr_latch : (s.wr a v).latch = s.latch := rfl
@[simp] theorem State.wr_lastRead : (s.wr a v).lastRead = s.lastRead := rfl
@[simp] theorem State.wr_clk : (s.wr a v).clk = s.clk := rfl
@[simp] theorem State.wr_dom : (s.wr a v).dom = s.dom := rfl
@[simp] theorem State.wr_pgs : (s.wr a v).pgs = s.pgs := rfl
@[simp] theorem State.wr_fab : (s.wr a v).fab = s.fab := rfl
@[simp] theorem State.wr_cxs : (s.wr a v).cxs = s.cxs := rfl
@[simp] theorem State.wr_vp : (s.wr a v).vp = s.vp := rfl
@[simp] theorem State.wr_pay : (s.wr a v).pay = s.pay := rfl
@[simp] theorem State.wr_vc : (s.wr a v).vc = s.vc := rfl
@[simp] theorem State.wr_vlt : (s.wr a v).vlt = s.vlt := rfl
@[simp] theorem State.wr_pk : (s.wr a v).pk = s.pk := rfl
@[simp] theorem State.wr_jn : (s.wr a v).jn = s.jn := rfl
@[simp] theorem State.wr_cr : (s.wr a v).cr = s.cr := rfl
@[simp] theorem State.wr_hi : (s.wr a v).hi = s.hi := rfl
@[simp] theorem State.wr_st : (s.wr a v).st = s.st := rfl
@[simp] theorem State.wr_fl : (s.wr a v).fl = s.fl := rfl
@[simp] theorem State.wr_rng : (s.wr a v).rng = s.rng := rfl
@[simp] theorem State.wr_cus : (s.wr a v).cus = s.cus := rfl
@[simp] theorem State.wr_cb : (s.wr a v).cb = s.cb := rfl
@[simp] theorem State.wr_svc : (s.wr a v).svc = s.svc := rfl
@[simp] theorem State.wr_jtag : (s.wr a v).jtag = s.jtag := rfl
@[simp] theorem State.wr_fresh : (s.wr a v).fresh = s.fresh := rfl
@[simp] theorem State.wr_pending : (s.wr a v).pending = s.pending := rfl

@[simp] theorem State.wrn_ctrs : (s.wrn a n).ctrs = s.ctrs := rfl
@[simp] theorem State.wrn_mem : (s.wrn a n).mem = s.mem := rfl
@[simp] theorem State.wrn_latch : (s.wrn a n).latch = s.latch := rfl
@[simp] theorem State.wrn_lastRead : (s.wrn a n).lastRead = s.lastRead := rfl
@[simp] theorem State.wrn_clk : (s.wrn a n).clk = s.clk := rfl
@[simp] theorem State.wrn_dom : (s.wrn a n).dom = s.dom := rfl
@[simp] theorem State.wrn_pgs : (s.wrn a n).pgs = s.pgs := rfl
@[simp] theorem State.wrn_fab : (s.wrn a n).fab = s.fab := rfl
@[simp] theorem State.wrn_cxs : (s.wrn a n).cxs = s.cxs := rfl
@[simp] theorem State.wrn_vp : (s.wrn a n).vp = s.vp := rfl
@[simp] theorem State.wrn_pay : (s.wrn a n).pay = s.pay := rfl
@[simp] theorem State.wrn_vc : (s.wrn a n).vc = s.vc := rfl
@[simp] theorem State.wrn_vlt : (s.wrn a n).vlt = s.vlt := rfl
@[simp] theorem State.wrn_pk : (s.wrn a n).pk = s.pk := rfl
@[simp] theorem State.wrn_jn : (s.wrn a n).jn = s.jn := rfl
@[simp] theorem State.wrn_cr : (s.wrn a n).cr = s.cr := rfl
@[simp] theorem State.wrn_hi : (s.wrn a n).hi = s.hi := rfl
@[simp] theorem State.wrn_st : (s.wrn a n).st = s.st := rfl
@[simp] theorem State.wrn_fl : (s.wrn a n).fl = s.fl := rfl
@[simp] theorem State.wrn_rng : (s.wrn a n).rng = s.rng := rfl
@[simp] theorem State.wrn_cus : (s.wrn a n).cus = s.cus := rfl
@[simp] theorem State.wrn_cb : (s.wrn a n).cb = s.cb := rfl
@[simp] theorem State.wrn_svc : (s.wrn a n).svc = s.svc := rfl
@[simp] theorem State.wrn_jtag : (s.wrn a n).jtag = s.jtag := rfl
@[simp] theorem State.wrn_fresh : (s.wrn a n).fresh = s.fresh := rfl
@[simp] theorem State.wrn_pending : (s.wrn a n).pending = s.pending := rfl

@[simp] theorem State.setFld_ctrs : (s.setFld a n k m).ctrs = s.ctrs := rfl
@[simp] theorem State.setFld_mem : (s.setFld a n k m).mem = s.mem := rfl
@[simp] theorem State.setFld_latch : (s.setFld a n k m).latch = s.latch := rfl
@[simp] theorem State.setFld_lastRead : (s.setFld a n k m).lastRead = s.lastRead := rfl
@[simp] theorem State.setFld_clk : (s.setFld a n k m).clk = s.clk := rfl
@[simp] theorem State.setFld_dom : (s.setFld a n k m).dom = s.dom := rfl
@[simp] theorem State.setFld_pgs : (s.setFld a n k m).pgs = s.pgs := rfl
@[simp] theorem State.setFld_fab : (s.setFld a n k m).fab = s.fab := rfl
@[simp] theorem State.setFld_cxs : (s.setFld a n k m).cxs = s.cxs := rfl
@[simp] theorem State.setFld_vp : (s.setFld a n k m).vp = s.vp := rfl
@[simp] theorem State.setFld_pay : (s.setFld a n k m).pay = s.pay := rfl
@[simp] theorem State.setFld_vc : (s.setFld a n k m).vc = s.vc := rfl
@[simp] theorem State.setFld_vlt : (s.setFld a n k m).vlt = s.vlt := rfl
@[simp] theorem State.setFld_pk : (s.setFld a n k m).pk = s.pk := rfl
@[simp] theorem State.setFld_jn : (s.setFld a n k m).jn = s.jn := rfl
@[simp] theorem State.setFld_cr : (s.setFld a n k m).cr = s.cr := rfl
@[simp] theorem State.setFld_hi : (s.setFld a n k m).hi = s.hi := rfl
@[simp] theorem State.setFld_st : (s.setFld a n k m).st = s.st := rfl
@[simp] theorem State.setFld_fl : (s.setFld a n k m).fl = s.fl := rfl
@[simp] theorem State.setFld_rng : (s.setFld a n k m).rng = s.rng := rfl
@[simp] theorem State.setFld_cus : (s.setFld a n k m).cus = s.cus := rfl
@[simp] theorem State.setFld_cb : (s.setFld a n k m).cb = s.cb := rfl
@[simp] theorem State.setFld_svc : (s.setFld a n k m).svc = s.svc := rfl
@[simp] theorem State.setFld_jtag : (s.setFld a n k m).jtag = s.jtag := rfl
@[simp] theorem State.setFld_fresh : (s.setFld a n k m).fresh = s.fresh := rfl
@[simp] theorem State.setFld_pending : (s.setFld a n k m).pending = s.pending := rfl

@[simp] theorem State.wr64_ctrs : (s.wr64 a n).ctrs = s.ctrs := rfl
@[simp] theorem State.wr64_mem : (s.wr64 a n).mem = s.mem := rfl
@[simp] theorem State.wr64_latch : (s.wr64 a n).latch = s.latch := rfl
@[simp] theorem State.wr64_lastRead : (s.wr64 a n).lastRead = s.lastRead := rfl
@[simp] theorem State.wr64_clk : (s.wr64 a n).clk = s.clk := rfl
@[simp] theorem State.wr64_dom : (s.wr64 a n).dom = s.dom := rfl
@[simp] theorem State.wr64_pgs : (s.wr64 a n).pgs = s.pgs := rfl
@[simp] theorem State.wr64_fab : (s.wr64 a n).fab = s.fab := rfl
@[simp] theorem State.wr64_cxs : (s.wr64 a n).cxs = s.cxs := rfl
@[simp] theorem State.wr64_vp : (s.wr64 a n).vp = s.vp := rfl
@[simp] theorem State.wr64_pay : (s.wr64 a n).pay = s.pay := rfl
@[simp] theorem State.wr64_vc : (s.wr64 a n).vc = s.vc := rfl
@[simp] theorem State.wr64_vlt : (s.wr64 a n).vlt = s.vlt := rfl
@[simp] theorem State.wr64_pk : (s.wr64 a n).pk = s.pk := rfl
@[simp] theorem State.wr64_jn : (s.wr64 a n).jn = s.jn := rfl
@[simp] theorem State.wr64_cr : (s.wr64 a n).cr = s.cr := rfl
@[simp] theorem State.wr64_hi : (s.wr64 a n).hi = s.hi := rfl
@[simp] theorem State.wr64_st : (s.wr64 a n).st = s.st := rfl
@[simp] theorem State.wr64_fl : (s.wr64 a n).fl = s.fl := rfl
@[simp] theorem State.wr64_rng : (s.wr64 a n).rng = s.rng := rfl
@[simp] theorem State.wr64_cus : (s.wr64 a n).cus = s.cus := rfl
@[simp] theorem State.wr64_cb : (s.wr64 a n).cb = s.cb := rfl
@[simp] theorem State.wr64_svc : (s.wr64 a n).svc = s.svc := rfl
@[simp] theorem State.wr64_jtag : (s.wr64 a n).jtag = s.jtag := rfl
@[simp] theorem State.wr64_fresh : (s.wr64 a n).fresh = s.fresh := rfl
@[simp] theorem State.wr64_pending : (s.wr64 a n).pending = s.pending := rfl

@[simp] theorem State.status_ctrs : (s.status a n).ctrs = s.ctrs := rfl
@[simp] theorem State.status_mem : (s.status a n).mem = s.mem := rfl
@[simp] theorem State.status_latch : (s.status a n).latch = s.latch := rfl
@[simp] theorem State.status_lastRead : (s.status a n).lastRead = s.lastRead := rfl
@[simp] theorem State.status_clk : (s.status a n).clk = s.clk := rfl
@[simp] theorem State.status_dom : (s.status a n).dom = s.dom := rfl
@[simp] theorem State.status_pgs : (s.status a n).pgs = s.pgs := rfl
@[simp] theorem State.status_fab : (s.status a n).fab = s.fab := rfl
@[simp] theorem State.status_cxs : (s.status a n).cxs = s.cxs := rfl
@[simp] theorem State.status_vp : (s.status a n).vp = s.vp := rfl
@[simp] theorem State.status_pay : (s.status a n).pay = s.pay := rfl
@[simp] theorem State.status_vc : (s.status a n).vc = s.vc := rfl
@[simp] theorem State.status_vlt : (s.status a n).vlt = s.vlt := rfl
@[simp] theorem State.status_pk : (s.status a n).pk = s.pk := rfl
@[simp] theorem State.status_jn : (s.status a n).jn = s.jn := rfl
@[simp] theorem State.status_cr : (s.status a n).cr = s.cr := rfl
@[simp] theorem State.status_hi : (s.status a n).hi = s.hi := rfl
@[simp] theorem State.status_st : (s.status a n).st = s.st := rfl
@[simp] theorem State.status_fl : (s.status a n).fl = s.fl := rfl
@[simp] theorem State.status_rng : (s.status a n).rng = s.rng := rfl
@[simp] theorem State.status_cus : (s.status a n).cus = s.cus := rfl
@[simp] theorem State.status_cb : (s.status a n).cb = s.cb := rfl
@[simp] theorem State.status_svc : (s.status a n).svc = s.svc := rfl
@[simp] theorem State.status_jtag : (s.status a n).jtag = s.jtag := rfl
@[simp] theorem State.status_fresh : (s.status a n).fresh = s.fresh := rfl
@[simp] theorem State.status_pending : (s.status a n).pending = s.pending := rfl

@[simp] theorem State.setPending_ctrs : (s.setPending n m).ctrs = s.ctrs := rfl
@[simp] theorem State.setPending_mem : (s.setPending n m).mem = s.mem := rfl
@[simp] theorem State.setPending_latch : (s.setPending n m).latch = s.latch := rfl
@[simp] theorem State.setPending_lastRead : (s.setPending n m).lastRead = s.lastRead := rfl
@[simp] theorem State.setPending_clk : (s.setPending n m).clk = s.clk := rfl
@[simp] theorem State.setPending_dom : (s.setPending n m).dom = s.dom := rfl
@[simp] theorem State.setPending_pgs : (s.setPending n m).pgs = s.pgs := rfl
@[simp] theorem State.setPending_fab : (s.setPending n m).fab = s.fab := rfl
@[simp] theorem State.setPending_cxs : (s.setPending n m).cxs = s.cxs := rfl
@[simp] theorem State.setPending_vp : (s.setPending n m).vp = s.vp := rfl
@[simp] theorem State.setPending_pay : (s.setPending n m).pay = s.pay := rfl
@[simp] theorem State.setPending_vc : (s.setPending n m).vc = s.vc := rfl
@[simp] theorem State.setPending_vlt : (s.setPending n m).vlt = s.vlt := rfl
@[simp] theorem State.setPending_pk : (s.setPending n m).pk = s.pk := rfl
@[simp] theorem State.setPending_jn : (s.setPending n m).jn = s.jn := rfl
@[simp] theorem State.setPending_cr : (s.setPending n m).cr = s.cr := rfl
@[simp] theorem State.setPending_hi : (s.setPending n m).hi = s.hi := rfl
@[simp] theorem State.setPending_st : (s.setPending n m).st = s.st := rfl
@[simp] theorem State.setPending_fl : (s.setPending n m).fl = s.fl := rfl
@[simp] theorem State.setPending_rng : (s.setPending n m).rng = s.rng := rfl
@[simp] theorem State.setPending_cus : (s.setPending n m).cus = s.cus := rfl
@[simp] theorem State.setPending_cb : (s.setPending n m).cb = s.cb := rfl
@[simp] theorem State.setPending_svc : (s.setPending n m).svc = s.svc := rfl
@[simp] theorem State.setPending_jtag : (s.setPending n m).jtag = s.jtag := rfl
@[simp] theorem State.setPending_fresh : (s.setPending n m).fresh = s.fresh := rfl
@[simp] theorem State.setPending_pending : (s.setPending n m).pending = s.pending := rfl

@[simp] theorem State.addCtr_regs : (s.addCtr n m k a).regs = s.regs := rfl
@[simp] theorem State.addCtr_mem : (s.addCtr n m k a).mem = s.mem := rfl
@[simp] theorem State.addCtr_latch : (s.addCtr n m k a).latch = s.latch := rfl
@[simp] theorem State.addCtr_lastRead : (s.addCtr n m k a).lastRead = s.lastRead := rfl
@[simp] theorem State.addCtr_clk : (s.addCtr n m k a).clk = s.clk := rfl
@[simp] theorem State.addCtr_dom : (s.addCtr n m k a).dom = s.dom := rfl
@[simp] theorem State.addCtr_pgs : (s.addCtr n m k a).pgs = s.pgs := rfl
@[simp] theorem State.addCtr_fab : (s.addCtr n m k a).fab = s.fab := rfl
@[simp] theorem State.addCtr_cxs : (s.addCtr n m k a).cxs = s.cxs := rfl
@[simp] theorem State.addCtr_vp : (s.addCtr n m k a).vp = s.vp := rfl
@[simp] theorem State.addCtr_pay : (s.addCtr n m k a).pay = s.pay := rfl
@[simp] theorem State.addCtr_vc : (s.addCtr n m k a).vc = s.vc := rfl
@[simp] theorem State.addCtr_vlt : (s.addCtr n m k a).vlt = s.vlt := rfl
@[simp] theorem State.addCtr_pk : (s.addCtr n m k a).pk = s.pk := rfl
@[simp] theorem State.addCtr_jn : (s.addCtr n m k a).jn = s.jn := rfl
@[simp] theorem State.addCtr_cr : (s.addCtr n m k a).cr = s.cr := rfl
@[simp] theorem State.addCtr_hi : (s.addCtr n m k a).hi = s.hi := rfl
@[simp] theorem State.addCtr_st : (s.addCtr n m k a).st = s.st := rfl
@[simp] theorem State.addCtr_fl : (s.addCtr n m k a).fl = s.fl := rfl
@[simp] theorem State.addCtr_rng : (s.addCtr n m k a).rng = s.rng := rfl
@[simp] theorem State.addCtr_cus : (s.addCtr n m k a).cus = s.cus := rfl
@[simp] theorem State.addCtr_cb : (s.addCtr n m k a).cb = s.cb := rfl
@[simp] theorem State.addCtr_svc : (s.addCtr n m k a).svc = s.svc := rfl
@[simp] theorem State.addCtr_jtag : (s.addCtr n m k a).jtag = s.jtag := rfl
@[simp] theorem State.addCtr_fresh : (s.addCtr n m k a).fresh = s.fresh := rfl
@[simp] theorem State.addCtr_pending : (s.addCtr n m k a).pending = s.pending := rfl

@[simp] theorem State.clrCtr_regs : (s.clrCtr n m k).regs = s.regs := rfl
@[simp] theorem State.clrCtr_mem : (s.clrCtr n m k).mem = s.mem := rfl
@[simp] theorem State.clrCtr_latch : (s.clrCtr n m k).latch = s.latch := rfl
@[simp] theorem State.clrCtr_lastRead : (s.clrCtr n m k).lastRead = s.lastRead := rfl
@[simp] theorem State.clrCtr_clk : (s.clrCtr n m k).clk = s.clk := rfl
@[simp] theorem State.clrCtr_dom : (s.clrCtr n m k).dom = s.dom := rfl
@[simp] theorem State.clrCtr_pgs : (s.clrCtr n m k).pgs = s.pgs := rfl
@[simp] theorem State.clrCtr_fab : (s.clrCtr n m k).fab = s.fab := rfl
@[simp] theorem State.clrCtr_cxs : (s.clrCtr n m k).cxs = s.cxs := rfl
@[simp] theorem State.clrCtr_vp : (s.clrCtr n m k).vp = s.vp := rfl
@[simp] theorem State.clrCtr_pay : (s.clrCtr n m k).pay = s.pay := rfl
@[simp] theorem State.clrCtr_vc : (s.clrCtr n m k).vc = s.vc := rfl
@[simp] theorem State.clrCtr_vlt : (s.clrCtr n m k).vlt = s.vlt := rfl
@[simp] theorem State.clrCtr_pk : (s.clrCtr n m k).pk = s.pk := rfl
@[simp] theorem State.clrCtr_jn : (s.clrCtr n m k).jn = s.jn := rfl
@[simp] theorem State.clrCtr_cr : (s.clrCtr n m k).cr = s.cr := rfl
@[simp] theorem State.clrCtr_hi : (s.clrCtr n m k).hi = s.hi := rfl
@[simp] theorem State.clrCtr_st : (s.clrCtr n m k).st = s.st := rfl
@[simp] theorem State.clrCtr_fl : (s.clrCtr n m k).fl = s.fl := rfl
@[simp] theorem State.clrCtr_rng : (s.clrCtr n m k).rng = s.rng := rfl
@[simp] theorem State.clrCtr_cus : (s.clrCtr n m k).cus = s.cus := rfl
@[simp] theorem State.clrCtr_cb : (s.clrCtr n m k).cb = s.cb := rfl
@[simp] theorem State.clrCtr_svc : (s.clrCtr n m k).svc = s.svc := rfl
@[simp] theorem State.clrCtr_jtag : (s.clrCtr n m k).jtag = s.jtag := rfl
@[simp] theorem State.clrCtr_fresh : (s.clrCtr n m k).fresh = s.fresh := rfl
@[simp] theorem State.clrCtr_pending : (s.clrCtr n m k).pending = s.pending := rfl

@[simp] theorem State.setByte_regs : (s.setByte a b).regs = s.regs := rfl
@[simp] theorem State.setByte_ctrs : (s.setByte a b).ctrs = s.ctrs := rfl
@[simp] theorem State.setByte_latch : (s.setByte a b).latch = s.latch := rfl
@[simp] theorem State.setByte_lastRead : (s.setByte a b).lastRead = s.lastRead := rfl
@[simp] theorem State.setByte_clk : (s.setByte a b).clk = s.clk := rfl
@[simp] theorem State.setByte_dom : (s.setByte a b).dom = s.dom := rfl
@[simp] theorem State.setByte_pgs : (s.setByte a b).pgs = s.pgs := rfl
@[simp] theorem State.setByte_fab : (s.setByte a b).fab = s.fab := rfl
@[simp] theorem State.setByte_cxs : (s.setByte a b).cxs = s.cxs := rfl
@[simp] theorem State.setByte_vp : (s.setByte a b).vp = s.vp := rfl
@[simp] theorem State.setByte_pay : (s.setByte a b).pay = s.pay := rfl
@[simp] theorem State.setByte_vc : (s.setByte a b).vc = s.vc := rfl
@[simp] theorem State.setByte_vlt : (s.setByte a b).vlt = s.vlt := rfl
@[simp] theorem State.setByte_pk : (s.setByte a b).pk = s.pk := rfl
@[simp] theorem State.setByte_jn : (s.setByte a b).jn = s.jn := rfl
@[simp] theorem State.setByte_cr : (s.setByte a b).cr = s.cr := rfl
@[simp] theorem State.setByte_hi : (s.setByte a b).hi = s.hi := rfl
@[simp] theorem State.setByte_st : (s.setByte a b).st = s.st := rfl
@[simp] theorem State.setByte_fl : (s.setByte a b).fl = s.fl := rfl
@[simp] theorem State.setByte_rng : (s.setByte a b).rng = s.rng := rfl
@[simp] theorem State.setByte_cus : (s.setByte a b).cus = s.cus := rfl
@[simp] theorem State.setByte_cb : (s.setByte a b).cb = s.cb := rfl
@[simp] theorem State.setByte_svc : (s.setByte a b).svc = s.svc := rfl
@[simp] theorem State.setByte_jtag : (s.setByte a b).jtag = s.jtag := rfl
@[simp] theorem State.setByte_fresh : (s.setByte a b).fresh = s.fresh := rfl
@[simp] theorem State.setByte_pending : (s.setByte a b).pending = s.pending := rfl

@[simp] theorem State.setBytes_regs : (s.setBytes a bs).regs = s.regs := rfl
@[simp] theorem State.setBytes_ctrs : (s.setBytes a bs).ctrs = s.ctrs := rfl
@[simp] theorem State.setBytes_latch : (s.setBytes a bs).latch = s.latch := rfl
@[simp] theorem State.setBytes_lastRead : (s.setBytes a bs).lastRead = s.lastRead := rfl
@[simp] theorem State.setBytes_clk : (s.setBytes a bs).clk = s.clk := rfl
@[simp] theorem State.setBytes_dom : (s.setBytes a bs).dom = s.dom := rfl
@[simp] theorem State.setBytes_pgs : (s.setBytes a bs).pgs = s.pgs := rfl
@[simp] theorem State.setBytes_fab : (s.setBytes a bs).fab = s.fab := rfl
@[simp] theorem State.setBytes_cxs : (s.setBytes a bs).cxs = s.cxs := rfl
@[simp] theorem State.setBytes_vp : (s.setBytes a bs).vp = s.vp := rfl
@[simp] theorem State.setBytes_pay : (s.setBytes a bs).pay = s.pay := rfl
@[simp] theorem State.setBytes_vc : (s.setBytes a bs).vc = s.vc := rfl
@[simp] theorem State.setBytes_vlt : (s.setBytes a bs).vlt = s.vlt := rfl
@[simp] theorem State.setBytes_pk : (s.setBytes a bs).pk = s.pk := rfl
@[simp] theorem State.setBytes_jn : (s.setBytes a bs).jn = s.jn := rfl
@[simp] theorem State.setBytes_cr : (s.setBytes a bs).cr = s.cr := rfl
@[simp] theorem State.setBytes_hi : (s.setBytes a bs).hi = s.hi := rfl
@[simp] theorem State.setBytes_st : (s.setBytes a bs).st = s.st := rfl
@[simp] theorem State.setBytes_fl : (s.setBytes a bs).fl = s.fl := rfl
@[simp] theorem State.setBytes_rng : (s.setBytes a bs).rng = s.rng := rfl
@[simp] theorem State.setBytes_cus : (s.setBytes a bs).cus = s.cus := rfl
@[simp] theorem State.setBytes_cb : (s.setBytes a bs).cb = s.cb := rfl
@[simp] theorem State.setBytes_svc : (s.setBytes a bs).svc = s.svc := rfl
@[simp] theorem State.setBytes_jtag : (s.setBytes a bs).jtag = s.jtag := rfl
@[simp] theorem State.setBytes_fresh : (s.setBytes a bs).fresh = s.fresh := rfl
@[simp] theorem State.setBytes_pending : (s.setBytes a bs).pending = s.pending := rfl

@[simp] theorem State.zeroBytes_regs : (s.zeroBytes a n).regs = s.regs := rfl
@[simp] theorem State.zeroBytes_ctrs : (s.zeroBytes a n).ctrs = s.ctrs := rfl
@[simp] theorem State.zeroBytes_latch : (s.zeroBytes a n).latch = s.latch := rfl
@[simp] theorem State.zeroBytes_lastRead : (s.zeroBytes a n).lastRead = s.lastRead := rfl
@[simp] theorem State.zeroBytes_clk : (s.zeroBytes a n).clk = s.clk := rfl
@[simp] theorem State.zeroBytes_dom : (s.zeroBytes a n).dom = s.dom := rfl
@[simp] theorem State.zeroBytes_pgs : (s.zeroBytes a n).pgs = s.pgs := rfl
@[simp] theorem State.zeroBytes_fab : (s.zeroBytes a n).fab = s.fab := rfl
@[simp] theorem State.zeroBytes_cxs : (s.zeroBytes a n).cxs = s.cxs := rfl
@[simp] theorem State.zeroBytes_vp : (s.zeroBytes a n).vp = s.vp := rfl
@[simp] theorem State.zeroBytes_pay : (s.zeroBytes a n).pay = s.pay := rfl
@[simp] theorem State.zeroBytes_vc : (s.zeroBytes a n).vc = s.vc := rfl
@[simp] theorem State.zeroBytes_vlt : (s.zeroBytes a n).vlt = s.vlt := rfl
@[simp] theorem State.zeroBytes_pk : (s.zeroBytes a n).pk = s.pk := rfl
@[simp] theorem State.zeroBytes_jn : (s.zeroBytes a n).jn = s.jn := rfl
@[simp] theorem State.zeroBytes_cr : (s.zeroBytes a n).cr = s.cr := rfl
@[simp] theorem State.zeroBytes_hi : (s.zeroBytes a n).hi = s.hi := rfl
@[simp] theorem State.zeroBytes_st : (s.zeroBytes a n).st = s.st := rfl
@[simp] theorem State.zeroBytes_fl : (s.zeroBytes a n).fl = s.fl := rfl
@[simp] theorem State.zeroBytes_rng : (s.zeroBytes a n).rng = s.rng := rfl
@[simp] theorem State.zeroBytes_cus : (s.zeroBytes a n).cus = s.cus := rfl
@[simp] theorem State.zeroBytes_cb : (s.zeroBytes a n).cb = s.cb := rfl
@[simp] theorem State.zeroBytes_svc : (s.zeroBytes a n).svc = s.svc := rfl
@[simp] theorem State.zeroBytes_jtag : (s.zeroBytes a n).jtag = s.jtag := rfl
@[simp] theorem State.zeroBytes_fresh : (s.zeroBytes a n).fresh = s.fresh := rfl
@[simp] theorem State.zeroBytes_pending : (s.zeroBytes a n).pending = s.pending := rfl

@[simp] theorem State.setLe_regs : (s.setLe a n m).regs = s.regs := rfl
@[simp] theorem State.setLe_ctrs : (s.setLe a n m).ctrs = s.ctrs := rfl
@[simp] theorem State.setLe_latch : (s.setLe a n m).latch = s.latch := rfl
@[simp] theorem State.setLe_lastRead : (s.setLe a n m).lastRead = s.lastRead := rfl
@[simp] theorem State.setLe_clk : (s.setLe a n m).clk = s.clk := rfl
@[simp] theorem State.setLe_dom : (s.setLe a n m).dom = s.dom := rfl
@[simp] theorem State.setLe_pgs : (s.setLe a n m).pgs = s.pgs := rfl
@[simp] theorem State.setLe_fab : (s.setLe a n m).fab = s.fab := rfl
@[simp] theorem State.setLe_cxs : (s.setLe a n m).cxs = s.cxs := rfl
@[simp] theorem State.setLe_vp : (s.setLe a n m).vp = s.vp := rfl
@[simp] theorem State.setLe_pay : (s.setLe a n m).pay = s.pay := rfl
@[simp] theorem State.setLe_vc : (s.setLe a n m).vc = s.vc := rfl
@[simp] theorem State.setLe_vlt : (s.setLe a n m).vlt = s.vlt := rfl
@[simp] theorem State.setLe_pk : (s.setLe a n m).pk = s.pk := rfl
@[simp] theorem State.setLe_jn : (s.setLe a n m).jn = s.jn := rfl
@[simp] theorem State.setLe_cr : (s.setLe a n m).cr = s.cr := rfl
@[simp] theorem State.setLe_hi : (s.setLe a n m).hi = s.hi := rfl
@[simp] theorem State.setLe_st : (s.setLe a n m).st = s.st := rfl
@[simp] theorem State.setLe_fl : (s.setLe a n m).fl = s.fl := rfl
@[simp] theorem State.setLe_rng : (s.setLe a n m).rng = s.rng := rfl
@[simp] theorem State.setLe_cus : (s.setLe a n m).cus = s.cus := rfl
@[simp] theorem State.setLe_cb : (s.setLe a n m).cb = s.cb := rfl
@[simp] theorem State.setLe_svc : (s.setLe a n m).svc = s.svc := rfl
@[simp] theorem State.setLe_jtag : (s.setLe a n m).jtag = s.jtag := rfl
@[simp] theorem State.setLe_fresh : (s.setLe a n m).fresh = s.fresh := rfl
@[simp] theorem State.setLe_pending : (s.setLe a n m).pending = s.pending := rfl

@[simp] theorem State.setDomain_regs : (s.setDomain n m).regs = s.regs := rfl
@[simp] theorem State.setDomain_ctrs : (s.setDomain n m).ctrs = s.ctrs := rfl
@[simp] theorem State.setDomain_mem : (s.setDomain n m).mem = s.mem := rfl
@[simp] theorem State.setDomain_latch : (s.setDomain n m).latch = s.latch := rfl
@[simp] theorem State.setDomain_lastRead : (s.setDomain n m).lastRead = s.lastRead := rfl
@[simp] theorem State.setDomain_clk : (s.setDomain n m).clk = s.clk := rfl
@[simp] theorem State.setDomain_pgs : (s.setDomain n m).pgs = s.pgs := rfl
@[simp] theorem State.setDomain_fab : (s.setDomain n m).fab = s.fab := rfl
@[simp] theorem State.setDomain_cxs : (s.setDomain n m).cxs = s.cxs := rfl
@[simp] theorem State.setDomain_vp : (s.setDomain n m).vp = s.vp := rfl
@[simp] theorem State.setDomain_pay : (s.setDomain n m).pay = s.pay := rfl
@[simp] theorem State.setDomain_vc : (s.setDomain n m).vc = s.vc := rfl
@[simp] theorem State.setDomain_vlt : (s.setDomain n m).vlt = s.vlt := rfl
@[simp] theorem State.setDomain_pk : (s.setDomain n m).pk = s.pk := rfl
@[simp] theorem State.setDomain_jn : (s.setDomain n m).jn = s.jn := rfl
@[simp] theorem State.setDomain_cr : (s.setDomain n m).cr = s.cr := rfl
@[simp] theorem State.setDomain_hi : (s.setDomain n m).hi = s.hi := rfl
@[simp] theorem State.setDomain_st : (s.setDomain n m).st = s.st := rfl
@[simp] theorem State.setDomain_fl : (s.setDomain n m).fl = s.fl := rfl
@[simp] theorem State.setDomain_rng : (s.setDomain n m).rng = s.rng := rfl
@[simp] theorem State.setDomain_cus : (s.setDomain n m).cus = s.cus := rfl
@[simp] theorem State.setDomain_cb : (s.setDomain n m).cb = s.cb := rfl
@[simp] theorem State.setDomain_svc : (s.setDomain n m).svc = s.svc := rfl
@[simp] theorem State.setDomain_jtag : (s.setDomain n m).jtag = s.jtag := rfl
@[simp] theorem State.setDomain_fresh : (s.setDomain n m).fresh = s.fresh := rfl
@[simp] theorem State.setDomain_pending : (s.setDomain n m).pending = s.pending := rfl

@[simp] theorem State.setCore_regs : (s.setCore n x).regs = s.regs := rfl
@[simp] theorem State.setCore_ctrs : (s.setCore n x).ctrs = s.ctrs := rfl
@[simp] theorem State.setCore_mem : (s.setCore n x).mem = s.mem := rfl
@[simp] theorem State.setCore_latch : (s.setCore n x).latch = s.latch := rfl
@[simp] theorem State.setCore_lastRead : (s.setCore n x).lastRead = s.lastRead := rfl
@[simp] theorem State.setCore_clk : (s.setCore n x).clk = s.clk := rfl
@[simp] theorem State.setCore_dom : (s.setCore n x).dom = s.dom := rfl
@[simp] theorem State.setCore_pgs : (s.setCore n x).pgs = s.pgs := rfl
@[simp] theorem State.setCore_fab : (s.setCore n x).fab = s.fab := rfl
@[simp] theorem State.setCore_cxs : (s.setCore n x).cxs = s.cxs := rfl
@[simp] theorem State.setCore_vp : (s.setCore n x).vp = s.vp := rfl
@[simp] theorem State.setCore_pay : (s.setCore n x).pay = s.pay := rfl
@[simp] theorem State.setCore_vlt : (s.setCore n x).vlt = s.vlt := rfl
@[simp] theorem State.setCore_pk : (s.setCore n x).pk = s.pk := rfl
@[simp] theorem State.setCore_jn : (s.setCore n x).jn = s.jn := rfl
@[simp] theorem State.setCore_cr : (s.setCore n x).cr = s.cr := rfl
@[simp] theorem State.setCore_hi : (s.setCore n x).hi = s.hi := rfl
@[simp] theorem State.setCore_st : (s.setCore n x).st = s.st := rfl
@[simp] theorem State.setCore_fl : (s.setCore n x).fl = s.fl := rfl
@[simp] theorem State.setCore_rng : (s.setCore n x).rng = s.rng := rfl
@[simp] theorem State.setCore_cus : (s.setCore n x).cus = s.cus := rfl
@[simp] theorem State.setCore_cb : (s.setCore n x).cb = s.cb := rfl
@[simp] theorem State.setCore_svc : (s.setCore n x).svc = s.svc := rfl
@[simp] theorem State.setCore_jtag : (s.setCore n x).jtag = s.jtag := rfl
@[simp] theorem State.setCore_fresh : (s.setCore n x).fresh = s.fresh := rfl
@[simp] theorem State.setCore_pending : (s.setCore n x).pending = s.pending := rfl

@[simp] theorem State.modCore_regs : (s.modCore n f).regs = s.regs := rfl
@[simp] theorem State.modCore_ctrs : (s.modCore n f).ctrs = s.ctrs := rfl
@[simp] theorem State.modCore_mem : (s.modCore n f).mem = s.mem := rfl
@[simp] theorem State.modCore_latch : (s.modCore n f).latch = s.latch := rfl
@[simp] theorem State.modCore_lastRead : (s.modCore n f).lastRead = s.lastRead := rfl
@[simp] theorem State.modCore_clk : (s.modCore n f).clk = s.clk := rfl
@[simp] theorem State.modCore_dom : (s.modCore n f).dom = s.dom := rfl
@[simp] theorem State.modCore_pgs : (s.modCore n f).pgs = s.pgs := rfl
@[simp] theorem State.modCore_fab : (s.modCore n f).fab = s.fab := rfl
@[simp] theorem State.modCore_cxs : (s.modCore n f).cxs = s.cxs := rfl
@[simp] theorem State.modCore_vp : (s.modCore n f).vp = s.vp := rfl
@[simp] theorem State.modCore_pay : (s.modCore n f).pay = s.pay := rfl
@[simp] theorem State.modCore_vlt : (s.modCore n f).vlt = s.vlt := rfl
@[simp] theorem State.modCore_pk : (s.modCore n f).pk = s.pk := rfl
@[simp] theorem State.modCore_jn : (s.modCore n f).jn = s.jn := rfl
@[simp] theorem State.modCore_cr : (s.modCore n f).cr = s.cr := rfl
@[simp] theorem State.modCore_hi : (s.modCore n f).hi = s.hi := rfl
@[simp] theorem State.modCore_st : (s.modCore n f).st = s.st := rfl
@[simp] theorem State.modCore_fl : (s.modCore n f).fl = s.fl := rfl
@[simp] theorem State.modCore_rng : (s.modCore n f).rng = s.rng := rfl
@[simp] theorem State.modCore_cus : (s.modCore n f).cus = s.cus := rfl
@[simp] theorem State.modCore_cb : (s.modCore n f).cb = s.cb := rfl
@[simp] theorem State.modCore_svc : (s.modCore n f).svc = s.svc := rfl
@[simp] theorem State.modCore_jtag : (s.modCore n f).jtag = s.jtag := rfl
@[simp] theorem State.modCore_fresh : (s.modCore n f).fresh = s.fresh := rfl
@[simp] theorem State.modCore_pending : (s.modCore n f).pending = s.pending := rfl

@[simp] theorem State.modCus_regs : (s.modCus g).regs = s.regs := rfl
@[simp] theorem State.modCus_ctrs : (s.modCus g).ctrs = s.ctrs := rfl
@[simp] theorem State.modCus_mem : (s.modCus g).mem = s.mem := rfl
@[simp] theorem State.modCus_latch : (s.modCus g).latch = s.latch := rfl
@[simp] theorem State.modCus_lastRead : (s.modCus g).lastRead = s.lastRead := rfl
@[simp] theorem State.modCus_clk : (s.modCus g).clk = s.clk := rfl
@[simp] theorem State.modCus_dom : (s.modCus g).dom = s.dom := rfl
@[simp] theorem State.modCus_pgs : (s.modCus g).pgs = s.pgs := rfl
@[simp] theorem State.modCus_fab : (s.modCus g).fab = s.fab := rfl
@[simp] theorem State.modCus_cxs : (s.modCus g).cxs = s.cxs := rfl
@[simp] theorem State.modCus_vp : (s.modCus g).vp = s.vp := rfl
@[simp] theorem State.modCus_pay : (s.modCus g).pay = s.pay := rfl
@[simp] theorem State.modCus_vc : (s.modCus g).vc = s.vc := rfl
@[simp] theorem State.modCus_vlt : (s.modCus g).vlt = s.vlt := rfl
@[simp] theorem State.modCus_pk : (s.modCus g).pk = s.pk := rfl
@[simp] theorem State.modCus_jn : (s.modCus g).jn = s.jn := rfl
@[simp] theorem State.modCus_cr : (s.modCus g).cr = s.cr := rfl
@[simp] theorem State.modCus_hi : (s.modCus g).hi = s.hi := rfl
@[simp] theorem State.modCus_st : (s.modCus g).st = s.st := rfl
@[simp] theorem State.modCus_fl : (s.modCus g).fl = s.fl := rfl
@[simp] theorem State.modCus_rng : (s.modCus g).rng = s.rng := rfl
@[simp] theorem State.modCus_cb : (s.modCus g).cb = s.cb := rfl
@[simp] theorem State.modCus_svc : (s.modCus g).svc = s.svc := rfl
@[simp] theorem State.modCus_jtag : (s.modCus g).jtag = s.jtag := rfl
@[simp] theorem State.modCus_fresh : (s.modCus g).fresh = s.fresh := rfl
@[simp] theorem State.modCus_pending : (s.modCus g).pending = s.pending := rfl

@[simp] theorem State.setLane_regs : (s.setLane n l).regs = s.regs := rfl
@[simp] theorem State.setLane_ctrs : (s.setLane n l).ctrs = s.ctrs := rfl
@[simp] theorem State.setLane_mem : (s.setLane n l).mem = s.mem := rfl
@[simp] theorem State.setLane_latch : (s.setLane n l).latch = s.latch := rfl
@[simp] theorem State.setLane_lastRead : (s.setLane n l).lastRead = s.lastRead := rfl
@[simp] theorem State.setLane_clk : (s.setLane n l).clk = s.clk := rfl
@[simp] theorem State.setLane_dom : (s.setLane n l).dom = s.dom := rfl
@[simp] theorem State.setLane_pgs : (s.setLane n l).pgs = s.pgs := rfl
@[simp] theorem State.setLane_cxs : (s.setLane n l).cxs = s.cxs := rfl
@[simp] theorem State.setLane_vp : (s.setLane n l).vp = s.vp := rfl
@[simp] theorem State.setLane_pay : (s.setLane n l).pay = s.pay := rfl
@[simp] theorem State.setLane_vc : (s.setLane n l).vc = s.vc := rfl
@[simp] theorem State.setLane_vlt : (s.setLane n l).vlt = s.vlt := rfl
@[simp] theorem State.setLane_pk : (s.setLane n l).pk = s.pk := rfl
@[simp] theorem State.setLane_jn : (s.setLane n l).jn = s.jn := rfl
@[simp] theorem State.setLane_cr : (s.setLane n l).cr = s.cr := rfl
@[simp] theorem State.setLane_hi : (s.setLane n l).hi = s.hi := rfl
@[simp] theorem State.setLane_st : (s.setLane n l).st = s.st := rfl
@[simp] theorem State.setLane_fl : (s.setLane n l).fl = s.fl := rfl
@[simp] theorem State.setLane_rng : (s.setLane n l).rng = s.rng := rfl
@[simp] theorem State.setLane_cus : (s.setLane n l).cus = s.cus := rfl
@[simp] theorem State.setLane_cb : (s.setLane n l).cb = s.cb := rfl
@[simp] theorem State.setLane_svc : (s.setLane n l).svc = s.svc := rfl
@[simp] theorem State.setLane_jtag : (s.setLane n l).jtag = s.jtag := rfl
@[simp] theorem State.setLane_fresh : (s.setLane n l).fresh = s.fresh := rfl
@[simp] theorem State.setLane_pending : (s.setLane n l).pending = s.pending := rfl

@[simp] theorem State.modLane_regs : (s.modLane n h).regs = s.regs := rfl
@[simp] theorem State.modLane_ctrs : (s.modLane n h).ctrs = s.ctrs := rfl
@[simp] theorem State.modLane_mem : (s.modLane n h).mem = s.mem := rfl
@[simp] theorem State.modLane_latch : (s.modLane n h).latch = s.latch := rfl
@[simp] theorem State.modLane_lastRead : (s.modLane n h).lastRead = s.lastRead := rfl
@[simp] theorem State.modLane_clk : (s.modLane n h).clk = s.clk := rfl
@[simp] theorem State.modLane_dom : (s.modLane n h).dom = s.dom := rfl
@[simp] theorem State.modLane_pgs : (s.modLane n h).pgs = s.pgs := rfl
@[simp] theorem State.modLane_cxs : (s.modLane n h).cxs = s.cxs := rfl
@[simp] theorem State.modLane_vp : (s.modLane n h).vp = s.vp := rfl
@[simp] theorem State.modLane_pay : (s.modLane n h).pay = s.pay := rfl
@[simp] theorem State.modLane_vc : (s.modLane n h).vc = s.vc := rfl
@[simp] theorem State.modLane_vlt : (s.modLane n h).vlt = s.vlt := rfl
@[simp] theorem State.modLane_pk : (s.modLane n h).pk = s.pk := rfl
@[simp] theorem State.modLane_jn : (s.modLane n h).jn = s.jn := rfl
@[simp] theorem State.modLane_cr : (s.modLane n h).cr = s.cr := rfl
@[simp] theorem State.modLane_hi : (s.modLane n h).hi = s.hi := rfl
@[simp] theorem State.modLane_st : (s.modLane n h).st = s.st := rfl
@[simp] theorem State.modLane_fl : (s.modLane n h).fl = s.fl := rfl
@[simp] theorem State.modLane_rng : (s.modLane n h).rng = s.rng := rfl
@[simp] theorem State.modLane_cus : (s.modLane n h).cus = s.cus := rfl
@[simp] theorem State.modLane_cb : (s.modLane n h).cb = s.cb := rfl
@[simp] theorem State.modLane_svc : (s.modLane n h).svc = s.svc := rfl
@[simp] theorem State.modLane_jtag : (s.modLane n h).jtag = s.jtag := rfl
@[simp] theorem State.modLane_fresh : (s.modLane n h).fresh = s.fresh := rfl
@[simp] theorem State.modLane_pending : (s.modLane n h).pending = s.pending := rfl

@[simp] theorem State.free_regs : s.free.2.regs = s.regs := rfl
@[simp] theorem State.free_mem : s.free.2.mem = s.mem := rfl
@[simp] theorem State.free_pending : s.free.2.pending = s.pending := rfl
@[simp] theorem State.free_fresh : s.free.2.fresh = s.fresh + 1 := rfl
@[simp] theorem State.freeBytes_regs : (s.freeBytes n).2.regs = s.regs := rfl
@[simp] theorem State.freeBytes_mem : (s.freeBytes n).2.mem = s.mem := rfl
@[simp] theorem State.freeBytes_pending : (s.freeBytes n).2.pending = s.pending := rfl
@[simp] theorem State.freeBytes_fresh : (s.freeBytes n).2.fresh = s.fresh + n := rfl
@[simp] theorem State.modCus_cus : (s.modCus g).cus = g s.cus := rfl
end

/-- `t` differs from `s` in its registers, its counters and its memory only. -/
def State.Reports (s t : State) : Prop := t = { s with regs := t.regs, ctrs := t.ctrs, mem := t.mem }

section
variable {s t u : State}

theorem reports_refl (s : State) : s.Reports s := rfl
theorem State.Reports.trans (h1 : s.Reports t) (h2 : t.Reports u) : s.Reports u := by
  unfold State.Reports at *
  rw [h2, h1]
theorem State.Reports.latch_eq (h : s.Reports t) : t.latch = s.latch := by rw [h]
theorem State.Reports.lastRead_eq (h : s.Reports t) : t.lastRead = s.lastRead := by rw [h]
theorem State.Reports.clk_eq (h : s.Reports t) : t.clk = s.clk := by rw [h]
theorem State.Reports.dom_eq (h : s.Reports t) : t.dom = s.dom := by rw [h]
theorem State.Reports.pgs_eq (h : s.Reports t) : t.pgs = s.pgs := by rw [h]
theorem State.Reports.fab_eq (h : s.Reports t) : t.fab = s.fab := by rw [h]
theorem State.Reports.cxs_eq (h : s.Reports t) : t.cxs = s.cxs := by rw [h]
theorem State.Reports.vp_eq (h : s.Reports t) : t.vp = s.vp := by rw [h]
theorem State.Reports.pay_eq (h : s.Reports t) : t.pay = s.pay := by rw [h]
theorem State.Reports.vc_eq (h : s.Reports t) : t.vc = s.vc := by rw [h]
theorem State.Reports.vlt_eq (h : s.Reports t) : t.vlt = s.vlt := by rw [h]
theorem State.Reports.pk_eq (h : s.Reports t) : t.pk = s.pk := by rw [h]
theorem State.Reports.jn_eq (h : s.Reports t) : t.jn = s.jn := by rw [h]
theorem State.Reports.cr_eq (h : s.Reports t) : t.cr = s.cr := by rw [h]
theorem State.Reports.hi_eq (h : s.Reports t) : t.hi = s.hi := by rw [h]
theorem State.Reports.st_eq (h : s.Reports t) : t.st = s.st := by rw [h]
theorem State.Reports.fl_eq (h : s.Reports t) : t.fl = s.fl := by rw [h]
theorem State.Reports.rng_eq (h : s.Reports t) : t.rng = s.rng := by rw [h]
theorem State.Reports.cus_eq (h : s.Reports t) : t.cus = s.cus := by rw [h]
theorem State.Reports.cb_eq (h : s.Reports t) : t.cb = s.cb := by rw [h]
theorem State.Reports.svc_eq (h : s.Reports t) : t.svc = s.svc := by rw [h]
theorem State.Reports.jtag_eq (h : s.Reports t) : t.jtag = s.jtag := by rw [h]
theorem State.Reports.fresh_eq (h : s.Reports t) : t.fresh = s.fresh := by rw [h]
theorem State.Reports.pending_eq (h : s.Reports t) : t.pending = s.pending := by rw [h]

theorem State.Reports.wr (h : s.Reports t) (a : Nat) (v : Reg) : s.Reports (t.wr a v) := h.trans rfl
theorem State.Reports.wrn (h : s.Reports t) (a n : Nat) : s.Reports (t.wrn a n) := h.trans rfl
theorem State.Reports.setFld (h : s.Reports t) (a hi lo x : Nat) : s.Reports (t.setFld a hi lo x) := h.trans rfl
theorem State.Reports.wr64 (h : s.Reports t) (a n : Nat) : s.Reports (t.wr64 a n) := h.trans rfl
theorem State.Reports.setLe (h : s.Reports t) (a n v : Nat) : s.Reports (t.setLe a n v) := h.trans rfl
theorem State.Reports.addCtr (h : s.Reports t) (p k u n : Nat) : s.Reports (t.addCtr p k u n) := h.trans rfl

theorem State.Reports.ite {c : Prop} [Decidable c] (h : s.Reports t) (h' : s.Reports u) : s.Reports (if c then t else u) := by
  split <;> assumption

theorem evcStep_reports (p ev unit amt edge : Nat) (s : State) (e : Nat) : s.Reports (evcStep p ev unit amt edge s e) := by
  unfold evcStep
  exact .ite (.wr64 (.ite ((reports_refl s).setFld ..) (reports_refl s)) ..) (reports_refl s)

theorem event_reports (s : State) (p ev unit amt edge : Nat) : s.Reports (s.event p ev unit amt edge) := by
  unfold State.event
  exact (((evcStep_reports ..).trans (evcStep_reports ..)).trans (evcStep_reports ..)).trans (evcStep_reports ..)

theorem bump_reports (s : State) (p k u n : Nat) : s.Reports (s.bump p k u n) := by
  unfold State.bump
  split
  · exact reports_refl s
  · exact ((reports_refl s).addCtr p k u n).trans (event_reports ..)

theorem sendVector_reports (s : State) (v : Nat) : s.Reports (s.sendVector v) := by
  unfold State.sendVector
  split
  · split
    · exact (reports_refl s).setLe ..
    · exact (reports_refl s).setFld ..
  · exact reports_refl s

theorem irqFollow_reports (s : State) (p old : Nat) : s.Reports (s.irqFollow p old) := by
  unfold State.irqFollow
  split
  · exact (event_reports ..).trans (sendVector_reports ..)
  · exact reports_refl s

theorem rawSet_reports (s : State) (p b : Nat) : s.Reports (s.rawSet p b) :=
  (((reports_refl s).setFld _ _ _ _).trans (event_reports ..)).trans (irqFollow_reports ..)

theorem irq_reports (s : State) (p b : Nat) : s.Reports (s.irq p b) := by
  unfold State.irq
  split
  · exact rawSet_reports ..
  · exact reports_refl s

theorem errInfo_reports (s : State) (p src code : Nat) : s.Reports (s.errInfo p src code) := by
  unfold State.errInfo
  dsimp only
  split
  · exact (event_reports ..).setFld _ _ _ _
  · exact ((event_reports ..).wrn _ _).trans (rawSet_reports ..)

theorem took_reports (s : State) (p : Nat) : s.Reports (s.took p) := event_reports ..
theorem discard_reports (s : State) (p : Nat) : s.Reports (s.discard p) := event_reports ..
theorem lockDrop_reports (s : State) (p : Nat) : s.Reports (s.lockDrop p) :=
  ((((reports_refl s).setFld _ _ _ _).trans (bump_reports ..)).trans (irq_reports ..)).trans (discard_reports ..)
end

section
variable (s : State) (p a b c d : Nat)

@[simp] theorem State.event_latch : (s.event p a b c d).latch = s.latch := (event_reports ..).latch_eq
@[simp] theorem State.event_lastRead : (s.event p a b c d).lastRead = s.lastRead := (event_reports ..).lastRead_eq
@[simp] theorem State.event_clk : (s.event p a b c d).clk = s.clk := (event_reports ..).clk_eq
@[simp] theorem State.event_dom : (s.event p a b c d).dom = s.dom := (event_reports ..).dom_eq
@[simp] theorem State.event_pgs : (s.event p a b c d).pgs = s.pgs := (event_reports ..).pgs_eq
@[simp] theorem State.event_fab : (s.event p a b c d).fab = s.fab := (event_reports ..).fab_eq
@[simp] theorem State.event_cxs : (s.event p a b c d).cxs = s.cxs := (event_reports ..).cxs_eq
@[simp] theorem State.event_vp : (s.event p a b c d).vp = s.vp := (event_reports ..).vp_eq
@[simp] theorem State.event_pay : (s.event p a b c d).pay = s.pay := (event_reports ..).pay_eq
@[simp] theorem State.event_vc : (s.event p a b c d).vc = s.vc := (event_reports ..).vc_eq
@[simp] theorem State.event_vlt : (s.event p a b c d).vlt = s.vlt := (event_reports ..).vlt_eq
@[simp] theorem State.event_pk : (s.event p a b c d).pk = s.pk := (event_reports ..).pk_eq
@[simp] theorem State.event_jn : (s.event p a b c d).jn = s.jn := (event_reports ..).jn_eq
@[simp] theorem State.event_cr : (s.event p a b c d).cr = s.cr := (event_reports ..).cr_eq
@[simp] theorem State.event_hi : (s.event p a b c d).hi = s.hi := (event_reports ..).hi_eq
@[simp] theorem State.event_st : (s.event p a b c d).st = s.st := (event_reports ..).st_eq
@[simp] theorem State.event_fl : (s.event p a b c d).fl = s.fl := (event_reports ..).fl_eq
@[simp] theorem State.event_rng : (s.event p a b c d).rng = s.rng := (event_reports ..).rng_eq
@[simp] theorem State.event_cus : (s.event p a b c d).cus = s.cus := (event_reports ..).cus_eq
@[simp] theorem State.event_cb : (s.event p a b c d).cb = s.cb := (event_reports ..).cb_eq
@[simp] theorem State.event_svc : (s.event p a b c d).svc = s.svc := (event_reports ..).svc_eq
@[simp] theorem State.event_jtag : (s.event p a b c d).jtag = s.jtag := (event_reports ..).jtag_eq
@[simp] theorem State.event_fresh : (s.event p a b c d).fresh = s.fresh := (event_reports ..).fresh_eq
@[simp] theorem State.event_pending : (s.event p a b c d).pending = s.pending := (event_reports ..).pending_eq

@[simp] theorem State.bump_latch : (s.bump p a b c).latch = s.latch := (bump_reports ..).latch_eq
@[simp] theorem State.bump_lastRead : (s.bump p a b c).lastRead = s.lastRead := (bump_reports ..).lastRead_eq
@[simp] theorem State.bump_clk : (s.bump p a b c).clk = s.clk := (bump_reports ..).clk_eq
@[simp] theorem State.bump_dom : (s.bump p a b c).dom = s.dom := (bump_reports ..).dom_eq
@[simp] theorem State.bump_pgs : (s.bump p a b c).pgs = s.pgs := (bump_reports ..).pgs_eq
@[simp] theorem State.bump_fab : (s.bump p a b c).fab = s.fab := (bump_reports ..).fab_eq
@[simp] theorem State.bump_cxs : (s.bump p a b c).cxs = s.cxs := (bump_reports ..).cxs_eq
@[simp] theorem State.bump_vp : (s.bump p a b c).vp = s.vp := (bump_reports ..).vp_eq
@[simp] theorem State.bump_pay : (s.bump p a b c).pay = s.pay := (bump_reports ..).pay_eq
@[simp] theorem State.bump_vc : (s.bump p a b c).vc = s.vc := (bump_reports ..).vc_eq
@[simp] theorem State.bump_vlt : (s.bump p a b c).vlt = s.vlt := (bump_reports ..).vlt_eq
@[simp] theorem State.bump_pk : (s.bump p a b c).pk = s.pk := (bump_reports ..).pk_eq
@[simp] theorem State.bump_jn : (s.bump p a b c).jn = s.jn := (bump_reports ..).jn_eq
@[simp] theorem State.bump_cr : (s.bump p a b c).cr = s.cr := (bump_reports ..).cr_eq
@[simp] theorem State.bump_hi : (s.bump p a b c).hi = s.hi := (bump_reports ..).hi_eq
@[simp] theorem State.bump_st : (s.bump p a b c).st = s.st := (bump_reports ..).st_eq
@[simp] theorem State.bump_fl : (s.bump p a b c).fl = s.fl := (bump_reports ..).fl_eq
@[simp] theorem State.bump_rng : (s.bump p a b c).rng = s.rng := (bump_reports ..).rng_eq
@[simp] theorem State.bump_cus : (s.bump p a b c).cus = s.cus := (bump_reports ..).cus_eq
@[simp] theorem State.bump_cb : (s.bump p a b c).cb = s.cb := (bump_reports ..).cb_eq
@[simp] theorem State.bump_svc : (s.bump p a b c).svc = s.svc := (bump_reports ..).svc_eq
@[simp] theorem State.bump_jtag : (s.bump p a b c).jtag = s.jtag := (bump_reports ..).jtag_eq
@[simp] theorem State.bump_fresh : (s.bump p a b c).fresh = s.fresh := (bump_reports ..).fresh_eq
@[simp] theorem State.bump_pending : (s.bump p a b c).pending = s.pending := (bump_reports ..).pending_eq

@[simp] theorem State.sendVector_latch : (s.sendVector a).latch = s.latch := (sendVector_reports ..).latch_eq
@[simp] theorem State.sendVector_lastRead : (s.sendVector a).lastRead = s.lastRead := (sendVector_reports ..).lastRead_eq
@[simp] theorem State.sendVector_clk : (s.sendVector a).clk = s.clk := (sendVector_reports ..).clk_eq
@[simp] theorem State.sendVector_dom : (s.sendVector a).dom = s.dom := (sendVector_reports ..).dom_eq
@[simp] theorem State.sendVector_pgs : (s.sendVector a).pgs = s.pgs := (sendVector_reports ..).pgs_eq
@[simp] theorem State.sendVector_fab : (s.sendVector a).fab = s.fab := (sendVector_reports ..).fab_eq
@[simp] theorem State.sendVector_cxs : (s.sendVector a).cxs = s.cxs := (sendVector_reports ..).cxs_eq
@[simp] theorem State.sendVector_vp : (s.sendVector a).vp = s.vp := (sendVector_reports ..).vp_eq
@[simp] theorem State.sendVector_pay : (s.sendVector a).pay = s.pay := (sendVector_reports ..).pay_eq
@[simp] theorem State.sendVector_vc : (s.sendVector a).vc = s.vc := (sendVector_reports ..).vc_eq
@[simp] theorem State.sendVector_vlt : (s.sendVector a).vlt = s.vlt := (sendVector_reports ..).vlt_eq
@[simp] theorem State.sendVector_pk : (s.sendVector a).pk = s.pk := (sendVector_reports ..).pk_eq
@[simp] theorem State.sendVector_jn : (s.sendVector a).jn = s.jn := (sendVector_reports ..).jn_eq
@[simp] theorem State.sendVector_cr : (s.sendVector a).cr = s.cr := (sendVector_reports ..).cr_eq
@[simp] theorem State.sendVector_hi : (s.sendVector a).hi = s.hi := (sendVector_reports ..).hi_eq
@[simp] theorem State.sendVector_st : (s.sendVector a).st = s.st := (sendVector_reports ..).st_eq
@[simp] theorem State.sendVector_fl : (s.sendVector a).fl = s.fl := (sendVector_reports ..).fl_eq
@[simp] theorem State.sendVector_rng : (s.sendVector a).rng = s.rng := (sendVector_reports ..).rng_eq
@[simp] theorem State.sendVector_cus : (s.sendVector a).cus = s.cus := (sendVector_reports ..).cus_eq
@[simp] theorem State.sendVector_cb : (s.sendVector a).cb = s.cb := (sendVector_reports ..).cb_eq
@[simp] theorem State.sendVector_svc : (s.sendVector a).svc = s.svc := (sendVector_reports ..).svc_eq
@[simp] theorem State.sendVector_jtag : (s.sendVector a).jtag = s.jtag := (sendVector_reports ..).jtag_eq
@[simp] theorem State.sendVector_fresh : (s.sendVector a).fresh = s.fresh := (sendVector_reports ..).fresh_eq
@[simp] theorem State.sendVector_pending : (s.sendVector a).pending = s.pending := (sendVector_reports ..).pending_eq

@[simp] theorem State.irq_latch : (s.irq p a).latch = s.latch := (irq_reports ..).latch_eq
@[simp] theorem State.irq_lastRead : (s.irq p a).lastRead = s.lastRead := (irq_reports ..).lastRead_eq
@[simp] theorem State.irq_clk : (s.irq p a).clk = s.clk := (irq_reports ..).clk_eq
@[simp] theorem State.irq_dom : (s.irq p a).dom = s.dom := (irq_reports ..).dom_eq
@[simp] theorem State.irq_pgs : (s.irq p a).pgs = s.pgs := (irq_reports ..).pgs_eq
@[simp] theorem State.irq_fab : (s.irq p a).fab = s.fab := (irq_reports ..).fab_eq
@[simp] theorem State.irq_cxs : (s.irq p a).cxs = s.cxs := (irq_reports ..).cxs_eq
@[simp] theorem State.irq_vp : (s.irq p a).vp = s.vp := (irq_reports ..).vp_eq
@[simp] theorem State.irq_pay : (s.irq p a).pay = s.pay := (irq_reports ..).pay_eq
@[simp] theorem State.irq_vc : (s.irq p a).vc = s.vc := (irq_reports ..).vc_eq
@[simp] theorem State.irq_vlt : (s.irq p a).vlt = s.vlt := (irq_reports ..).vlt_eq
@[simp] theorem State.irq_pk : (s.irq p a).pk = s.pk := (irq_reports ..).pk_eq
@[simp] theorem State.irq_jn : (s.irq p a).jn = s.jn := (irq_reports ..).jn_eq
@[simp] theorem State.irq_cr : (s.irq p a).cr = s.cr := (irq_reports ..).cr_eq
@[simp] theorem State.irq_hi : (s.irq p a).hi = s.hi := (irq_reports ..).hi_eq
@[simp] theorem State.irq_st : (s.irq p a).st = s.st := (irq_reports ..).st_eq
@[simp] theorem State.irq_fl : (s.irq p a).fl = s.fl := (irq_reports ..).fl_eq
@[simp] theorem State.irq_rng : (s.irq p a).rng = s.rng := (irq_reports ..).rng_eq
@[simp] theorem State.irq_cus : (s.irq p a).cus = s.cus := (irq_reports ..).cus_eq
@[simp] theorem State.irq_cb : (s.irq p a).cb = s.cb := (irq_reports ..).cb_eq
@[simp] theorem State.irq_svc : (s.irq p a).svc = s.svc := (irq_reports ..).svc_eq
@[simp] theorem State.irq_jtag : (s.irq p a).jtag = s.jtag := (irq_reports ..).jtag_eq
@[simp] theorem State.irq_fresh : (s.irq p a).fresh = s.fresh := (irq_reports ..).fresh_eq
@[simp] theorem State.irq_pending : (s.irq p a).pending = s.pending := (irq_reports ..).pending_eq

@[simp] theorem State.errInfo_latch : (s.errInfo p a b).latch = s.latch := (errInfo_reports ..).latch_eq
@[simp] theorem State.errInfo_lastRead : (s.errInfo p a b).lastRead = s.lastRead := (errInfo_reports ..).lastRead_eq
@[simp] theorem State.errInfo_clk : (s.errInfo p a b).clk = s.clk := (errInfo_reports ..).clk_eq
@[simp] theorem State.errInfo_dom : (s.errInfo p a b).dom = s.dom := (errInfo_reports ..).dom_eq
@[simp] theorem State.errInfo_pgs : (s.errInfo p a b).pgs = s.pgs := (errInfo_reports ..).pgs_eq
@[simp] theorem State.errInfo_fab : (s.errInfo p a b).fab = s.fab := (errInfo_reports ..).fab_eq
@[simp] theorem State.errInfo_cxs : (s.errInfo p a b).cxs = s.cxs := (errInfo_reports ..).cxs_eq
@[simp] theorem State.errInfo_vp : (s.errInfo p a b).vp = s.vp := (errInfo_reports ..).vp_eq
@[simp] theorem State.errInfo_pay : (s.errInfo p a b).pay = s.pay := (errInfo_reports ..).pay_eq
@[simp] theorem State.errInfo_vc : (s.errInfo p a b).vc = s.vc := (errInfo_reports ..).vc_eq
@[simp] theorem State.errInfo_vlt : (s.errInfo p a b).vlt = s.vlt := (errInfo_reports ..).vlt_eq
@[simp] theorem State.errInfo_pk : (s.errInfo p a b).pk = s.pk := (errInfo_reports ..).pk_eq
@[simp] theorem State.errInfo_jn : (s.errInfo p a b).jn = s.jn := (errInfo_reports ..).jn_eq
@[simp] theorem State.errInfo_cr : (s.errInfo p a b).cr = s.cr := (errInfo_reports ..).cr_eq
@[simp] theorem State.errInfo_hi : (s.errInfo p a b).hi = s.hi := (errInfo_reports ..).hi_eq
@[simp] theorem State.errInfo_st : (s.errInfo p a b).st = s.st := (errInfo_reports ..).st_eq
@[simp] theorem State.errInfo_fl : (s.errInfo p a b).fl = s.fl := (errInfo_reports ..).fl_eq
@[simp] theorem State.errInfo_rng : (s.errInfo p a b).rng = s.rng := (errInfo_reports ..).rng_eq
@[simp] theorem State.errInfo_cus : (s.errInfo p a b).cus = s.cus := (errInfo_reports ..).cus_eq
@[simp] theorem State.errInfo_cb : (s.errInfo p a b).cb = s.cb := (errInfo_reports ..).cb_eq
@[simp] theorem State.errInfo_svc : (s.errInfo p a b).svc = s.svc := (errInfo_reports ..).svc_eq
@[simp] theorem State.errInfo_jtag : (s.errInfo p a b).jtag = s.jtag := (errInfo_reports ..).jtag_eq
@[simp] theorem State.errInfo_fresh : (s.errInfo p a b).fresh = s.fresh := (errInfo_reports ..).fresh_eq
@[simp] theorem State.errInfo_pending : (s.errInfo p a b).pending = s.pending := (errInfo_reports ..).pending_eq

@[simp] theorem State.took_latch : (s.took p).latch = s.latch := (took_reports ..).latch_eq
@[simp] theorem State.took_lastRead : (s.took p).lastRead = s.lastRead := (took_reports ..).lastRead_eq
@[simp] theorem State.took_clk : (s.took p).clk = s.clk := (took_reports ..).clk_eq
@[simp] theorem State.took_dom : (s.took p).dom = s.dom := (took_reports ..).dom_eq
@[simp] theorem State.took_pgs : (s.took p).pgs = s.pgs := (took_reports ..).pgs_eq
@[simp] theorem State.took_fab : (s.took p).fab = s.fab := (took_reports ..).fab_eq
@[simp] theorem State.took_cxs : (s.took p).cxs = s.cxs := (took_reports ..).cxs_eq
@[simp] theorem State.took_vp : (s.took p).vp = s.vp := (took_reports ..).vp_eq
@[simp] theorem State.took_pay : (s.took p).pay = s.pay := (took_reports ..).pay_eq
@[simp] theorem State.took_vc : (s.took p).vc = s.vc := (took_reports ..).vc_eq
@[simp] theorem State.took_vlt : (s.took p).vlt = s.vlt := (took_reports ..).vlt_eq
@[simp] theorem State.took_pk : (s.took p).pk = s.pk := (took_reports ..).pk_eq
@[simp] theorem State.took_jn : (s.took p).jn = s.jn := (took_reports ..).jn_eq
@[simp] theorem State.took_cr : (s.took p).cr = s.cr := (took_reports ..).cr_eq
@[simp] theorem State.took_hi : (s.took p).hi = s.hi := (took_reports ..).hi_eq
@[simp] theorem State.took_st : (s.took p).st = s.st := (took_reports ..).st_eq
@[simp] theorem State.took_fl : (s.took p).fl = s.fl := (took_reports ..).fl_eq
@[simp] theorem State.took_rng : (s.took p).rng = s.rng := (took_reports ..).rng_eq
@[simp] theorem State.took_cus : (s.took p).cus = s.cus := (took_reports ..).cus_eq
@[simp] theorem State.took_cb : (s.took p).cb = s.cb := (took_reports ..).cb_eq
@[simp] theorem State.took_svc : (s.took p).svc = s.svc := (took_reports ..).svc_eq
@[simp] theorem State.took_jtag : (s.took p).jtag = s.jtag := (took_reports ..).jtag_eq
@[simp] theorem State.took_fresh : (s.took p).fresh = s.fresh := (took_reports ..).fresh_eq
@[simp] theorem State.took_pending : (s.took p).pending = s.pending := (took_reports ..).pending_eq

@[simp] theorem State.discard_latch : (s.discard p).latch = s.latch := (discard_reports ..).latch_eq
@[simp] theorem State.discard_lastRead : (s.discard p).lastRead = s.lastRead := (discard_reports ..).lastRead_eq
@[simp] theorem State.discard_clk : (s.discard p).clk = s.clk := (discard_reports ..).clk_eq
@[simp] theorem State.discard_dom : (s.discard p).dom = s.dom := (discard_reports ..).dom_eq
@[simp] theorem State.discard_pgs : (s.discard p).pgs = s.pgs := (discard_reports ..).pgs_eq
@[simp] theorem State.discard_fab : (s.discard p).fab = s.fab := (discard_reports ..).fab_eq
@[simp] theorem State.discard_cxs : (s.discard p).cxs = s.cxs := (discard_reports ..).cxs_eq
@[simp] theorem State.discard_vp : (s.discard p).vp = s.vp := (discard_reports ..).vp_eq
@[simp] theorem State.discard_pay : (s.discard p).pay = s.pay := (discard_reports ..).pay_eq
@[simp] theorem State.discard_vc : (s.discard p).vc = s.vc := (discard_reports ..).vc_eq
@[simp] theorem State.discard_vlt : (s.discard p).vlt = s.vlt := (discard_reports ..).vlt_eq
@[simp] theorem State.discard_pk : (s.discard p).pk = s.pk := (discard_reports ..).pk_eq
@[simp] theorem State.discard_jn : (s.discard p).jn = s.jn := (discard_reports ..).jn_eq
@[simp] theorem State.discard_cr : (s.discard p).cr = s.cr := (discard_reports ..).cr_eq
@[simp] theorem State.discard_hi : (s.discard p).hi = s.hi := (discard_reports ..).hi_eq
@[simp] theorem State.discard_st : (s.discard p).st = s.st := (discard_reports ..).st_eq
@[simp] theorem State.discard_fl : (s.discard p).fl = s.fl := (discard_reports ..).fl_eq
@[simp] theorem State.discard_rng : (s.discard p).rng = s.rng := (discard_reports ..).rng_eq
@[simp] theorem State.discard_cus : (s.discard p).cus = s.cus := (discard_reports ..).cus_eq
@[simp] theorem State.discard_cb : (s.discard p).cb = s.cb := (discard_reports ..).cb_eq
@[simp] theorem State.discard_svc : (s.discard p).svc = s.svc := (discard_reports ..).svc_eq
@[simp] theorem State.discard_jtag : (s.discard p).jtag = s.jtag := (discard_reports ..).jtag_eq
@[simp] theorem State.discard_fresh : (s.discard p).fresh = s.fresh := (discard_reports ..).fresh_eq
@[simp] theorem State.discard_pending : (s.discard p).pending = s.pending := (discard_reports ..).pending_eq

@[simp] theorem State.lockDrop_latch : (s.lockDrop p).latch = s.latch := (lockDrop_reports ..).latch_eq
@[simp] theorem State.lockDrop_lastRead : (s.lockDrop p).lastRead = s.lastRead := (lockDrop_reports ..).lastRead_eq
@[simp] theorem State.lockDrop_clk : (s.lockDrop p).clk = s.clk := (lockDrop_reports ..).clk_eq
@[simp] theorem State.lockDrop_dom : (s.lockDrop p).dom = s.dom := (lockDrop_reports ..).dom_eq
@[simp] theorem State.lockDrop_pgs : (s.lockDrop p).pgs = s.pgs := (lockDrop_reports ..).pgs_eq
@[simp] theorem State.lockDrop_fab : (s.lockDrop p).fab = s.fab := (lockDrop_reports ..).fab_eq
@[simp] theorem State.lockDrop_cxs : (s.lockDrop p).cxs = s.cxs := (lockDrop_reports ..).cxs_eq
@[simp] theorem State.lockDrop_vp : (s.lockDrop p).vp = s.vp := (lockDrop_reports ..).vp_eq
@[simp] theorem State.lockDrop_pay : (s.lockDrop p).pay = s.pay := (lockDrop_reports ..).pay_eq
@[simp] theorem State.lockDrop_vc : (s.lockDrop p).vc = s.vc := (lockDrop_reports ..).vc_eq
@[simp] theorem State.lockDrop_vlt : (s.lockDrop p).vlt = s.vlt := (lockDrop_reports ..).vlt_eq
@[simp] theorem State.lockDrop_pk : (s.lockDrop p).pk = s.pk := (lockDrop_reports ..).pk_eq
@[simp] theorem State.lockDrop_jn : (s.lockDrop p).jn = s.jn := (lockDrop_reports ..).jn_eq
@[simp] theorem State.lockDrop_cr : (s.lockDrop p).cr = s.cr := (lockDrop_reports ..).cr_eq
@[simp] theorem State.lockDrop_hi : (s.lockDrop p).hi = s.hi := (lockDrop_reports ..).hi_eq
@[simp] theorem State.lockDrop_st : (s.lockDrop p).st = s.st := (lockDrop_reports ..).st_eq
@[simp] theorem State.lockDrop_fl : (s.lockDrop p).fl = s.fl := (lockDrop_reports ..).fl_eq
@[simp] theorem State.lockDrop_rng : (s.lockDrop p).rng = s.rng := (lockDrop_reports ..).rng_eq
@[simp] theorem State.lockDrop_cus : (s.lockDrop p).cus = s.cus := (lockDrop_reports ..).cus_eq
@[simp] theorem State.lockDrop_cb : (s.lockDrop p).cb = s.cb := (lockDrop_reports ..).cb_eq
@[simp] theorem State.lockDrop_svc : (s.lockDrop p).svc = s.svc := (lockDrop_reports ..).svc_eq
@[simp] theorem State.lockDrop_jtag : (s.lockDrop p).jtag = s.jtag := (lockDrop_reports ..).jtag_eq
@[simp] theorem State.lockDrop_fresh : (s.lockDrop p).fresh = s.fresh := (lockDrop_reports ..).fresh_eq
@[simp] theorem State.lockDrop_pending : (s.lockDrop p).pending = s.pending := (lockDrop_reports ..).pending_eq

end

end Sys2Proof.Machine
end

