-- ==== Sys2Proof/Laws/Canon.lean ====
section
/-!
SUPPORT. The canonical form of a state: its parts, the operations that keep it, and that memory reads back what was written.
-/
namespace Sys2Proof.Machine

theorem canon_iff (s : State) : s.canon = true ↔
    tblWf resetWord s.regs = true ∧ tblWf (fun _ => (0 : Word)) s.ctrs = true ∧ tblWf domDefault s.dom = true ∧ Memory.wf s.mem = true := by
  simp [State.canon, and_assoc]

theorem canon_regs {s : State} (h : s.canon) : tblWf resetWord s.regs := ((canon_iff s).1 h).1
theorem canon_ctrs {s : State} (h : s.canon) : tblWf (fun _ => (0 : Word)) s.ctrs := ((canon_iff s).1 h).2.1
theorem canon_dom {s : State} (h : s.canon) : tblWf domDefault s.dom := ((canon_iff s).1 h).2.2.1
theorem canon_mem {s : State} (h : s.canon) : Memory.wf s.mem := ((canon_iff s).1 h).2.2.2

/-- The canonical form speaks of four tables only. -/
theorem canon_congr {s t : State} (h1 : t.regs = s.regs) (h2 : t.ctrs = s.ctrs) (h3 : t.dom = s.dom) (h4 : t.mem = s.mem) :
    t.canon = s.canon := by simp [State.canon, h1, h2, h3, h4]

/-! ### Memory -/

/-- Writing a list of bytes keeps the canonical form of memory. -/
theorem memPut_wf (bs : List Byte) : ∀ (m : Memory) (a : Nat), Memory.wf m → Memory.wf (memPut m a bs) := by
  induction bs with
  | nil => exact fun _ _ h => h
  | cons b bs ih => exact fun m a h => ih _ _ (tput_wf _ b a m h)

theorem setByte_wf (s : State) (a : Nat) (b : Byte) (h : Memory.wf s.mem) : Memory.wf (s.setByte a b).mem := tput_wf _ _ _ _ h
theorem setBytes_wf (s : State) (a : Nat) (bs : List Byte) (h : Memory.wf s.mem) : Memory.wf (s.setBytes a bs).mem := memPut_wf _ _ _ h
theorem setLe_wf (s : State) (a n v : Nat) (h : Memory.wf s.mem) : Memory.wf (s.setLe a n v).mem := memPut_wf _ _ _ h
theorem zeroBytes_wf (s : State) (a n : Nat) (h : Memory.wf s.mem) : Memory.wf (s.zeroBytes a n).mem :=
  tdrop_wf _ (fun k => a ≤ k ∧ k < a + n) s.mem h
theorem reset_mem_wf : Memory.wf State.reset.mem := rfl
theorem reset_canon : State.reset.canon := rfl

/-- A byte of a list that was put reads back; every other address reads as before. -/
theorem memPut_get (bs : List Byte) : ∀ (m : Memory) (a p : Nat), Memory.wf m →
    cget 0 (memPut m a bs) p = if a ≤ p ∧ p < a + bs.length then bs.getD (p - a) 0 else cget 0 m p := by
  induction bs with
  | nil =>
    intro m a p _
    have : ¬ (a ≤ p ∧ p < a + ([] : List Byte).length) := by simp
    rw [if_neg this]; rfl
  | cons b bs ih =>
    intro m a p h
    have hw : Memory.wf (cput 0 b a m) := tput_wf _ b a m h
    rw [memPut, ih _ _ _ hw]
    have hg : cget (0 : Byte) (cput 0 b a m) p = if p = a then b else cget 0 m p := tget_tput _ b a m h p
    by_cases h1 : a + 1 ≤ p ∧ p < a + 1 + bs.length
    · have h2 : a ≤ p ∧ p < a + (b :: bs).length := by simp; omega
      obtain ⟨k, rfl⟩ : ∃ k, p = a + 1 + k := ⟨p - (a + 1), by omega⟩
      have e1 : a + 1 + k - (a + 1) = k := by omega
      have e2 : a + 1 + k - a = k + 1 := by omega
      rw [if_pos h1, if_pos h2, e1, e2, List.getD_cons_succ]
    · rw [if_neg h1, hg]
      by_cases hp : p = a
      · subst hp
        simp
      · have h2 : ¬ (a ≤ p ∧ p < a + (b :: bs).length) := by simp; omega
        rw [if_neg hp, if_neg h2]

theorem byte_setBytes (s : State) (a : Nat) (bs : List Byte) (p : Nat) (h : Memory.wf s.mem) :
    (s.setBytes a bs).byte p = if a ≤ p ∧ p < a + bs.length then bs.getD (p - a) 0 else s.byte p := memPut_get bs s.mem a p h
theorem byte_setByte (s : State) (a : Nat) (b : Byte) (p : Nat) (h : Memory.wf s.mem) :
    (s.setByte a b).byte p = if p = a then b else s.byte p := tget_tput _ b a s.mem h p
/-- A byte outside the range written stays, whatever the memory. -/
theorem byte_setBytes_out (bs : List Byte) : ∀ (s : State) (a p : Nat), p < a ∨ a + bs.length ≤ p → (s.setBytes a bs).byte p = s.byte p := by
  induction bs with
  | nil => intros; rfl
  | cons b bs ih =>
    intro s a p hp
    simp only [List.length_cons] at hp
    have := ih (s.setByte a b) (a + 1) p (by omega)
    exact this.trans (tget_tput_ne _ b a s.mem p (by omega))
theorem byte_setLe_out (s : State) (a n v p : Nat) (h : p < a ∨ a + n ≤ p) : (s.setLe a n v).byte p = s.byte p := by
  refine byte_setBytes_out _ _ _ _ ?_
  have : (leBytes n v).length = n := by simp
  omega
theorem byte_zeroBytes (s : State) (a n p : Nat) : (s.zeroBytes a n).byte p = if a ≤ p ∧ p < a + n then 0 else s.byte p := by
  simp [State.byte, State.zeroBytes, cget, tget_tdrop]

/-! ### The canonical form is kept -/

section
variable {s : State}

theorem State.canon_wr (h : s.canon) (a : Nat) (v : Reg) : (s.wr a v).canon :=
  (canon_iff _).2 ⟨tput_wf _ _ _ _ (((canon_iff s).1 h).1), ((canon_iff s).1 h).2.1, ((canon_iff s).1 h).2.2.1, ((canon_iff s).1 h).2.2.2⟩
theorem State.canon_wrn (h : s.canon) (a n : Nat) : (s.wrn a n).canon := State.canon_wr h a _
theorem State.canon_setFld (h : s.canon) (a hi lo x : Nat) : (s.setFld a hi lo x).canon := State.canon_wr h a _
theorem State.canon_wr64 (h : s.canon) (a n : Nat) : (s.wr64 a n).canon := State.canon_wrn (State.canon_wrn h _ _) _ _
theorem State.canon_status (h : s.canon) (a n : Nat) : (s.status a n).canon := State.canon_setFld h _ _ _ _
theorem State.canon_wrAll (h : s.canon) (t off : Nat) (v : Reg) : (s.wrAll t off v).canon :=
  State.canon_wr (State.canon_wr (State.canon_wr (State.canon_wr h _ _) _ _) _ _) _ _
theorem State.canon_addCtr (h : s.canon) (p k u n : Nat) : (s.addCtr p k u n).canon :=
  (canon_iff _).2 ⟨((canon_iff s).1 h).1, tput_wf _ _ _ _ (((canon_iff s).1 h).2.1), ((canon_iff s).1 h).2.2.1, ((canon_iff s).1 h).2.2.2⟩
theorem State.canon_clrCtr (h : s.canon) (p k u : Nat) : (s.clrCtr p k u).canon :=
  (canon_iff _).2 ⟨((canon_iff s).1 h).1, tput_wf _ _ _ _ (((canon_iff s).1 h).2.1), ((canon_iff s).1 h).2.2.1, ((canon_iff s).1 h).2.2.2⟩
theorem State.canon_setDomain (h : s.canon) (d v : Nat) : (s.setDomain d v).canon :=
  (canon_iff _).2 ⟨((canon_iff s).1 h).1, ((canon_iff s).1 h).2.1, tput_wf _ _ _ _ (((canon_iff s).1 h).2.2.1), ((canon_iff s).1 h).2.2.2⟩
theorem State.canon_setByte (h : s.canon) (a : Nat) (b : Byte) : (s.setByte a b).canon :=
  (canon_iff _).2 ⟨((canon_iff s).1 h).1, ((canon_iff s).1 h).2.1, ((canon_iff s).1 h).2.2.1, setByte_wf _ _ _ (((canon_iff s).1 h).2.2.2)⟩
theorem State.canon_setBytes (h : s.canon) (a : Nat) (bs : List Byte) : (s.setBytes a bs).canon :=
  (canon_iff _).2 ⟨((canon_iff s).1 h).1, ((canon_iff s).1 h).2.1, ((canon_iff s).1 h).2.2.1, setBytes_wf _ _ _ (((canon_iff s).1 h).2.2.2)⟩
theorem State.canon_setLe (h : s.canon) (a n v : Nat) : (s.setLe a n v).canon := State.canon_setBytes h _ _
theorem State.canon_zeroBytes (h : s.canon) (a n : Nat) : (s.zeroBytes a n).canon :=
  (canon_iff _).2 ⟨((canon_iff s).1 h).1, ((canon_iff s).1 h).2.1, ((canon_iff s).1 h).2.2.1, zeroBytes_wf _ _ _ (((canon_iff s).1 h).2.2.2)⟩
theorem State.canon_ite {c : Prop} [Decidable c] {t u : State} (h : t.canon) (h' : u.canon) : (if c then t else u).canon := by
  split <;> assumption
theorem State.canon_evcStep (h : s.canon) (p ev unit amt edge e : Nat) : (evcStep p ev unit amt edge s e).canon := by
  unfold evcStep
  exact State.canon_ite (State.canon_wr64 (State.canon_ite (State.canon_setFld h _ _ _ _) h) _ _) h
theorem State.canon_event (h : s.canon) (p ev unit amt edge : Nat) : (s.event p ev unit amt edge).canon :=
  State.canon_evcStep (State.canon_evcStep (State.canon_evcStep (State.canon_evcStep h ..) ..) ..) ..
theorem State.canon_bump (h : s.canon) (p k u n : Nat) : (s.bump p k u n).canon := by
  unfold State.bump
  exact State.canon_ite h (State.canon_event (State.canon_addCtr h ..) ..)
theorem State.canon_sendVector (h : s.canon) (v : Nat) : (s.sendVector v).canon := by
  unfold State.sendVector
  exact State.canon_ite (State.canon_ite (State.canon_setLe h ..) (State.canon_setFld h ..)) h
theorem State.canon_rawSet (h : s.canon) (p b : Nat) : (s.rawSet p b).canon := by
  unfold State.rawSet State.irqFollow
  exact State.canon_ite (State.canon_sendVector (State.canon_event (State.canon_event (State.canon_setFld h ..) ..) ..) _)
    (State.canon_event (State.canon_setFld h ..) ..)
theorem State.canon_irq (h : s.canon) (p b : Nat) : (s.irq p b).canon := by
  unfold State.irq
  exact State.canon_ite (State.canon_rawSet h ..) h
theorem State.canon_errInfo (h : s.canon) (p src code : Nat) : (s.errInfo p src code).canon := by
  unfold State.errInfo
  exact State.canon_ite (State.canon_setFld (State.canon_event h ..) ..) (State.canon_rawSet (State.canon_wrn (State.canon_event h ..) ..) ..)
theorem State.canon_took (h : s.canon) (p : Nat) : (s.took p).canon := State.canon_event h ..
theorem State.canon_discard (h : s.canon) (p : Nat) : (s.discard p).canon := State.canon_event h ..
theorem State.canon_lockDrop (h : s.canon) (p : Nat) : (s.lockDrop p).canon :=
  State.canon_discard (State.canon_irq (State.canon_bump (State.canon_setFld h ..) ..) ..) _
theorem State.canon_setCore (h : s.canon) (c : Nat) (x : Core) : (s.setCore c x).canon := h
theorem State.canon_modCore (h : s.canon) (c : Nat) (f : Core → Core) : (s.modCore c f).canon := h
theorem State.canon_setLane (h : s.canon) (n : Nat) (l : Lane) : (s.setLane n l).canon := h
theorem State.canon_modCus (h : s.canon) (f : Custody → Custody) : (s.modCus f).canon := h
end

end Sys2Proof.Machine
end

