-- ==== Sys2Proof/Laws/Custody.lean ====
section
/-!
SUPPORT. What custody does with the message it serves.
-/
namespace Sys2Proof.Machine

theorem custodyServes_iff {s : State} {code ch : Nat} {w : List Nat} : s.custodyServes code ch w = true ↔
    s.cus.invalid.contains 4 = false ∧ s.custHead = some ch ∧ (s.mbox ch).data.map BitVec.toNat = w ∧ nth 0 w 0 = code := by
  simp [State.custodyServes, and_assoc]

/-- Custody serves a command of its code: it does what the command asks and answers its status and result. -/
theorem custServe_serves {s : State} {code ch : Nat} {w : List Nat} (f : Nat → List Nat → State → (Nat × List Word) × State)
    (h : s.custodyServes code ch w = true) (hc : custCodes.contains code = true) :
    s.custServe code f = (f ch w s).2.custAck ch code (f ch w s).1.1 (f ch w s).1.2 := by
  obtain ⟨h1, h2, h3, h4⟩ := custodyServes_iff.mp h
  subst h3
  unfold State.custServe
  simp only [h1, h2, h4, hc, Bool.false_eq_true, Bool.not_true, ↓reduceIte, ne_eq, not_true_eq_false]

/-- Custody answers an unknown command in kind. -/
theorem custServe_unknown {s : State} {code c ch : Nat} {w : List Nat} (f : Nat → List Nat → State → (Nat × List Word) × State)
    (h : s.custodyServes c ch w = true) (hc : custCodes.contains c = false) :
    s.custServe code f = s.custAck ch (c % 2 ^ 16) 0x801 [] := by
  obtain ⟨h1, h2, h3, h4⟩ := custodyServes_iff.mp h
  subst h3
  unfold State.custServe
  simp only [h1, h2, h4, hc, Bool.false_eq_true, Bool.not_false, ↓reduceIte]

/-- Custody leaves a message alone that asks for another command it knows. -/
theorem custServe_other {s : State} {code c ch : Nat} {w : List Nat} (f : Nat → List Nat → State → (Nat × List Word) × State)
    (h : s.custodyServes c ch w = true) (hc : custCodes.contains c = true) (hn : c ≠ code) : s.custServe code f = s := by
  obtain ⟨h1, h2, h3, h4⟩ := custodyServes_iff.mp h
  subst h3
  unfold State.custServe
  simp only [h1, h2, h4, hc, Bool.false_eq_true, Bool.not_true, ↓reduceIte, ne_eq, hn, not_false_eq_true]

end Sys2Proof.Machine
end

