-- ==== Sys2Proof/Laws/Issue.lean ====
section
/-!
SUPPORT. What issuing an instruction comes to when the core is ready for it: one lemma per way an instruction can end.
-/
namespace Sys2Proof.Machine

/-- A ready core runs, takes nothing at its boundary and fetches its instruction. -/
theorem ready_iff {s : State} {c : Nat} : s.ready c = true ↔
    s.coreRuns c = true ∧ s.boundary c = none ∧ (s.core c).pc.toNat < 2 ^ 17 ∧
      s.fenceFail (128 + c) (clsRing (s.core c).ring) accX (s.core c).pc.toNat 4 = none := by
  simp [State.ready, and_assoc]

/-- Everything the issue of an instruction does on a ready core. -/
theorem issue_ready {s : State} {c word : Nat} {legal ctl : Bool} {body : Core → State → CoreRes} (h : s.ready c = true) :
    s.issue c word legal ctl body =
      if legal = false then s.raise c 2 0 (BitVec.ofNat 64 word) false
      else if ctl = true ∧ (s.core c).ds.isSome = true then s.raise c 2 1 (BitVec.ofNat 64 word) false
      else match body (s.core c) s with
        | .ok t => t.complete c ((s.core c).pc + 4)
        | .goto t n => t.complete c n
        | .xfer t n l old =>
          (t.modCore c fun y => { y.tick with
            pc := (s.core c).pc + 4, ds := some { src := (s.core c).pc, target := n, link := l, old := old } }).coreCounts c (t.core c)
        | .trap t cause sub a => t.raise c cause sub a false
        | .stall t why =>
          (t.modCore c fun y => { y with
            st := if why = 2 then 2 else 3, cycle := (y.cycle + 1) % 2 ^ 64,
            stallMem := if why = 0 then y.stallMem + 1 else y.stallMem,
            stallTkt := if why = 1 then y.stallTkt + 1 else y.stallTkt }).coreCounts c (t.core c)
        | .late t => t.lateAtDrain c := by
  obtain ⟨h1, h2, h3, h4⟩ := ready_iff.mp h
  have h5 : ¬ (2 ^ 17 ≤ (s.core c).pc.toNat) := by omega
  unfold State.issue
  simp only [h1, h2, h4, h5, Bool.not_true, Bool.false_eq_true, ↓reduceIte, Bool.and_eq_true, Bool.not_eq_true']
  all_goals (cases body (s.core c) s <;> rfl)

section
variable {s t : State} {c word : Nat} {body : Core → State → CoreRes}

/-- An instruction that completes. -/
theorem issue_ok (h : s.ready c = true) (hb : body (s.core c) s = .ok t) :
    s.issue c word true false body = t.complete c ((s.core c).pc + 4) := by
  rw [issue_ready h, if_neg (by decide), if_neg (by simp), hb]

/-- An instruction that raises an exception. -/
theorem issue_trap {cause sub : Nat} {a : Word} (h : s.ready c = true) (hb : body (s.core c) s = .trap t cause sub a) :
    s.issue c word true false body = t.raise c cause sub a false := by
  rw [issue_ready h, if_neg (by decide), if_neg (by simp), hb]

/-- An encoding that is not listed, or whose unused fields are not 0. -/
theorem issue_illegal {ctl : Bool} (h : s.ready c = true) :
    s.issue c word false ctl body = s.raise c 2 0 (BitVec.ofNat 64 word) false := by
  rw [issue_ready h, if_pos rfl]

/-- A transfer or LOOP in a delay slot. -/
theorem issue_slot (h : s.ready c = true) (hd : (s.core c).ds.isSome = true) :
    s.issue c word true true body = s.raise c 2 1 (BitVec.ofNat 64 word) false := by
  rw [issue_ready h, if_neg (by decide), if_pos ⟨rfl, hd⟩]

/-- A transfer, gate or return that goes on with no delay slot. -/
theorem issue_goto {n : Word} (h : s.ready c = true) (hd : (s.core c).ds = none) (hb : body (s.core c) s = .goto t n) :
    s.issue c word true true body = t.complete c n := by
  rw [issue_ready h, if_neg (by decide), if_neg (by simp [hd]), hb]

/-- A transfer with its delay slot. -/
theorem issue_xfer {n : Word} {l : Nat} {old : Word} (h : s.ready c = true) (hd : (s.core c).ds = none)
    (hb : body (s.core c) s = .xfer t n l old) :
    s.issue c word true true body =
      t.transfers c (s.core c).pc n l old := by
  rw [issue_ready h, if_neg (by decide), if_neg (by simp [hd]), hb]; rfl

end

end Sys2Proof.Machine
end

