-- ==== Sys2Proof/Laws/Regs.lean ====
section
/-!
SUPPORT. Registers and their fields: what a write to one does to it and to the others, and what the shared operations of
events, counters, interrupts and error information leave alone.
-/
namespace Sys2Proof.Machine

/-- A register reads back as it was written. -/
theorem rd_wr (s : State) (a : Nat) (v : Reg) (h : tblWf resetWord s.regs) : (s.wr a v).rd a = v := by
  simp [State.rd, State.wr, tget_tput _ _ _ _ h]

/-- A register other than the one written stays. -/
theorem rd_wr_ne (s : State) (a b : Nat) (v : Reg) (h : b ≠ a) : (s.wr a v).rd b = s.rd b := by
  simp [State.rd, State.wr, tget_tput_ne _ _ _ _ _ h]

theorem rd_setFld_ne (s : State) (a b hi lo x : Nat) (h : b ≠ a) : (s.setFld a hi lo x).rd b = s.rd b := rd_wr_ne _ _ _ _ h
theorem rd_wrn_ne (s : State) (a b n : Nat) (h : b ≠ a) : (s.wrn a n).rd b = s.rd b := rd_wr_ne _ _ _ _ h

/-- A field reads back as it was written. -/
theorem fld_setFld (s : State) (a hi lo x : Nat) (h : tblWf resetWord s.regs) (hw : hi < 32) :
    (s.setFld a hi lo x).fld a hi lo = x % 2 ^ (hi + 1 - lo) := by
  simp [State.fld, State.setFld, rd_wr _ _ _ h, getField_setField _ _ _ _ hw]

/-- A field apart from the one written stays. -/
theorem fld_setFld_ne (s : State) (a hi lo x hi' lo' : Nat) (h : tblWf resetWord s.regs) (hd : hi < lo' ∨ hi' < lo) :
    (s.setFld a hi lo x).fld a hi' lo' = s.fld a hi' lo' := by
  simp [State.fld, State.setFld, rd_wr _ _ _ h, getField_setField_ne _ _ _ _ _ _ hd]

/-- A field of another register stays. -/
theorem fld_setFld_other (s : State) (a b hi lo x hi' lo' : Nat) (h : b ≠ a) :
    (s.setFld a hi lo x).fld b hi' lo' = s.fld b hi' lo' := by
  simp [State.fld, rd_setFld_ne _ _ _ _ _ _ h]

theorem fld_wr (s : State) (a hi lo : Nat) (v : Reg) (h : tblWf resetWord s.regs) : (s.wr a v).fld a hi lo = getField v hi lo := by
  simp [State.fld, rd_wr _ _ _ h]

theorem fld_wr_ne (s : State) (a b hi lo : Nat) (v : Reg) (h : b ≠ a) : (s.wr a v).fld b hi lo = s.fld b hi lo := by
  simp [State.fld, rd_wr_ne _ _ _ _ h]

/-- Every write keeps the canonical form of the register table. -/
theorem wr_wf (s : State) (a : Nat) (v : Reg) (h : tblWf resetWord s.regs) : tblWf resetWord (s.wr a v).regs := tput_wf _ _ _ _ h
theorem wrn_wf (s : State) (a n : Nat) (h : tblWf resetWord s.regs) : tblWf resetWord (s.wrn a n).regs := wr_wf _ _ _ h
theorem setFld_wf (s : State) (a hi lo x : Nat) (h : tblWf resetWord s.regs) : tblWf resetWord (s.setFld a hi lo x).regs := wr_wf _ _ _ h

end Sys2Proof.Machine
end

