-- ==== Sys2Proof/Laws/Lanes.lean ====
section
/-!
SUPPORT. The registers of a lane: their addresses differ, and a flag, a state or a configuration bit reads back as written.
-/
namespace Sys2Proof.Machine

@[simp] theorem lnReg_inj (n a b : Nat) : lnReg n a = lnReg n b ↔ a = b := by simp [lnReg, ra]

theorem setLnFlag_wf (s : State) (n b : Nat) (x : Bool) (h : tblWf resetWord s.regs) : tblWf resetWord (s.setLnFlag n b x).regs :=
  setFld_wf _ _ _ _ _ h

theorem lnState_setLnState (s : State) (n v : Nat) (h : tblWf resetWord s.regs) (hv : v < 16) : (s.setLnState n v).lnState n = v := by
  have e := fld_setFld s (lnReg n 4) 3 0 v h (by omega)
  rw [Nat.mod_eq_of_lt (by simpa using hv)] at e
  exact e

theorem lnState_setLnFlag (s : State) (n b : Nat) (x : Bool) (h : tblWf resetWord s.regs) (hb : 4 ≤ b) :
    (s.setLnFlag n b x).lnState n = s.lnState n :=
  fld_setFld_ne _ _ _ _ _ _ _ h (Or.inr (by omega))

theorem lnFlag_setLnFlag (s : State) (n b : Nat) (x : Bool) (h : tblWf resetWord s.regs) (hb : b < 32) :
    (s.setLnFlag n b x).lnFlag n b = x := by
  have e := fld_setFld s (lnReg n 4) b b (b2n x) h hb
  have e1 : b + 1 - b = 1 := by omega
  rw [e1] at e
  unfold State.lnFlag State.setLnFlag
  rw [e]
  cases x <;> rfl

theorem lnFlag_setLnFlag_ne (s : State) (n b k : Nat) (x : Bool) (h : tblWf resetWord s.regs) (hb : b ≠ k) :
    (s.setLnFlag n b x).lnFlag n k = s.lnFlag n k := by
  unfold State.lnFlag State.setLnFlag
  rw [fld_setFld_ne s (lnReg n 4) b b (b2n x) k k h (by omega)]

theorem lnFlag_setLnState (s : State) (n v k : Nat) (h : tblWf resetWord s.regs) (hk : 4 ≤ k) :
    (s.setLnState n v).lnFlag n k = s.lnFlag n k := by
  unfold State.lnFlag State.setLnState
  rw [fld_setFld_ne s (lnReg n 4) 3 0 v k k h (by omega)]

theorem lnCfg_setLnFlag (s : State) (n b k : Nat) (x : Bool) : (s.setLnFlag n b x).lnCfg n k = s.lnCfg n k := by
  unfold State.lnCfg State.setLnFlag
  rw [fld_setFld_other _ _ _ _ _ _ _ _ (by simp)]

end Sys2Proof.Machine
end

