-- ==== Sys2Proof/WellFormed.lean ====
section
/-!
DEFINITION. Which commands the device can be given: the operands of each within the numbers the device has (Tables 0.3, 1.1, 1.6, 9.1,
13.7, 13.8, 14.6). An event names a unit that exists; a register write names an existing register of its page. Operands that are bit
vectors are in range by their type, and an operand that only ends a run of events (a count, a time, a frame number) has no bound.
-/
namespace Sys2Proof

/-- The operands of a command are in range. -/
def Instr.wf : Instr → Bool
  | .registerWrite _ _ a _ => decide (a % 4 = 0) && decide (a < 0x20000000)
  | .loReadLatch _ a => decide (a < 0x20000000)
  | .rndVckPllLoss o _ => decide (o < 4)
  | .xozPllLoss o k => decide (o < 4) && decide (k < 3)
  | .fabPllLoss o => decide (o < 4)
  | .fabRelockTimeout o => decide (o < 4)
  | .timPllLoss => true
  | .lrxLossOfLock n => decide (n < 0x40C)
  | .portmodeWrite d _ => decide (d < 64)
  | .clause73PageRx n => decide (n < 0x40C)
  | .rxFrameStart n _ => decide (n < 0x400)
  | .rxFrameEnd n _ _ => decide (n < 0x400)
  | .rxOversizeDetect n => decide (n < 0x400)
  | .fecCodewordDecoded n _ _ _ => decide (n < 0x40C)
  | .controlSlotTx n => decide (n < 0x40C)
  | .controlSlotRx n _ => decide (n < 0x40C)
  | .signalLock n => decide (n < 0x40C)
  | .trainDone n _ _ => decide (n < 0x40C)
  | .trainTimeout n => decide (n < 0x40C)
  | .eqCoeffUpdate n _ _ => decide (n < 0x40C)
  | .keepUpTimeout n => decide (n < 0x40C)
  | .alignLocksReached n => decide (n < 0x40C)
  | .alignTimeout n => decide (n < 0x40C)
  | .linkLoss n => decide (n < 0x40C)
  | .faultClearTimeout n => decide (n < 0x40C)
  | .faultOrderedSetRx n _ => decide (n < 0x40C)
  | .faultCeaseTimeout n => decide (n < 0x40C)
  | .lnUp n _ => decide (n < 0x40C)
  | .lnDown n _ => decide (n < 0x40C)
  | .lnTest n _ => decide (n < 0x40C)
  | .lnRetrain n _ => decide (n < 0x40C)
  | .lnClrCnt n _ => decide (n < 0x40C)
  | .lnCfgWrite n _ => decide (n < 0x40C)
  | .lnTxeqWrite n _ => decide (n < 0x40C)
  | .lnMaxframeWrite n _ => decide (n < 0x40C)
  | .noriolysFrameRx n _ => decide (n < 3)
  | .nakRx i => decide (i < 3)
  | .bondRx => true
  | .saInstall d r i => decide (d < 64) && decide (r < 8) && decide (i < 0x100000)
  | .saDisable d r i => decide (d < 64) && decide (r < 8) && decide (i < 0x100000)
  | .saRead d r i => decide (d < 64) && decide (r < 8) && decide (i < 0x100000)
  | .saCmdComplete d => decide (d < 64)
  | .scEventRead d => decide (d < 64)
  | .grainDispatch _ => true
  | .icvResult _ => true
  | .commitCheck _ => true
  | .trustOutcomeArrival _ => true
  | .egressIcvEmit l => decide (l < 0x400)
  | .txFrameStart l => decide (l < 0x400)
  | .katSlotExpiry k => decide (k < 512)
  | .katTestEnter k => decide (k < 512)
  | .grainKatVector k _ => decide (k < 512)
  | .scKatCtlWrite d _ => decide (d < 64)
  | .scPortWrite n _ => decide (n < 0x400)
  | .firstBlocksClassify _ => true
  | .ftAdd o => decide (o < 4)
  | .ftDelete o => decide (o < 4)
  | .ftLookup o => decide (o < 4)
  | .ftCmdComplete => true
  | .congMapPropagate o _ => decide (o < 4)
  | .dqQcfgWrite q _ => decide (q < 0x8020)
  | .dqPortWrite n _ => decide (n < 0x401)
  | .enqueueNotice _ => true
  | .queueHeadStamp q => decide (q < 0x8020)
  | .endNotice _ => true
  | .level1Nominate l => decide (l < 0x401)
  | .pullGrant d => decide (d < 65)
  | .inputDramGrant src => decide (src < 69)
  | .linkGrant a b => decide (a < 4) && decide (b < 4)
  | .egressDramGrant d => decide (d < 65)
  | .linkCellRx a b ch _ => decide (a < 4) && decide (b < 4) && decide (ch < 4)
  | .linkCreditReturn a b ch => decide (a < 4) && decide (b < 4) && decide (ch < 4)
  | .linkDeliveryTimeout a b => decide (a < 4) && decide (b < 4)
  | .holdExpiry q => decide (q < 0x8020)
  | .cvlCreditRx n _ _ _ => decide (n < 0x400)
  | .cvlEchoReqRx n _ => decide (n < 0x400)
  | .cvlEchoRspRx n _ => decide (n < 0x400)
  | .cvlQuenchRx n _ _ _ => decide (n < 0x400)
  | .cvlResumeRx n _ _ _ => decide (n < 0x400)
  | .cvlFirmwareRx n type _ _ _ => decide (n < 0x400) && decide (type < 256)
  | .quenchExpiry _ => true
  | .cvlTxMessage d _ => decide (d < 64)
  | .cvlTxFrame d _ => decide (d < 64)
  | .cvlKeyInstall n _ => decide (n < 0x400)
  | .cvlRxstatRead d => decide (d < 64)
  | .envelopeCheck _ => true
  | .diaDataAccess o _ _ => decide (o < 4)
  | .diaEnWrite o h _ => decide (o < 4) && decide (h < 2)
  | .recordComplete _ => true
  | .slotFilled _ => true
  | .heldAppendRoom _ => true
  | .respTmoExpiry _ => true
  | .verdictFwdRequestRx => true
  | .verdictFwdResponseRx => true
  | .fwdEntryTimeout i => decide (i < 0x1000)
  | .ozVpCfgWrite o _ => decide (o < 4)
  | .vpServiceRegWrite o off _ => decide (o < 4) && decide (off < 0x1000) && decide (off % 4 = 0)
  | .keyEngineTake o => decide (o < 4)
  | .pinXlate o e => decide (o < 4) && decide (e < 16)
  | .macGen o e => decide (o < 4) && decide (e < 16)
  | .macVer o e => decide (o < 4) && decide (e < 16)
  | .dukptDerive o e => decide (o < 4) && decide (e < 16)
  | .arqcVerify o e => decide (o < 4) && decide (e < 16)
  | .ff1Enc o e => decide (o < 4) && decide (e < 16)
  | .ff1Dec o e => decide (o < 4) && decide (e < 16)
  | .kbImport o e => decide (o < 4) && decide (e < 16)
  | .kbExport o e => decide (o < 4) && decide (e < 16)
  | .keyOpComplete o e => decide (o < 4) && decide (e < 16)
  | .keSelfTest o e _ => decide (o < 4) && decide (e < 16)
  | .kvPcfCfgWrite o _ => decide (o < 4)
  | .kvPcfClrCnt o => decide (o < 4)
  | .add c _ _ _ _ => decide (c < 128)
  | .sub c _ _ _ _ => decide (c < 128)
  | .addo c _ _ _ _ => decide (c < 128)
  | .subo c _ _ _ _ => decide (c < 128)
  | .neg c _ _ _ _ => decide (c < 128)
  | .abs c _ _ _ _ => decide (c < 128)
  | .and c _ _ _ => decide (c < 128)
  | .or c _ _ _ => decide (c < 128)
  | .xor c _ _ _ => decide (c < 128)
  | .sll c _ _ _ _ => decide (c < 128)
  | .srl c _ _ _ _ => decide (c < 128)
  | .sra c _ _ _ _ => decide (c < 128)
  | .ror c _ _ _ _ => decide (c < 128)
  | .slt c _ _ _ => decide (c < 128)
  | .sltu c _ _ _ => decide (c < 128)
  | .seq c _ _ _ => decide (c < 128)
  | .min c _ _ _ => decide (c < 128)
  | .max c _ _ _ => decide (c < 128)
  | .mul c _ _ _ _ => decide (c < 128)
  | .mulh c _ _ _ => decide (c < 128)
  | .mulhu c _ _ _ => decide (c < 128)
  | .mulo c _ _ _ _ => decide (c < 128)
  | .div c _ _ _ _ => decide (c < 128)
  | .divu c _ _ _ _ => decide (c < 128)
  | .rem c _ _ _ _ => decide (c < 128)
  | .remu c _ _ _ _ => decide (c < 128)
  | .clz c _ _ _ => decide (c < 128)
  | .ctz c _ _ _ => decide (c < 128)
  | .popc c _ _ _ => decide (c < 128)
  | .bswap c _ _ _ => decide (c < 128)
  | .sextb c _ _ _ => decide (c < 128)
  | .sexth c _ _ _ => decide (c < 128)
  | .zextw c _ _ _ => decide (c < 128)
  | .cmovz c _ _ _ => decide (c < 128)
  | .cmovn c _ _ _ => decide (c < 128)
  | .addi c _ _ _ => decide (c < 128)
  | .addiw c _ _ _ => decide (c < 128)
  | .andi c _ _ _ => decide (c < 128)
  | .ori c _ _ _ => decide (c < 128)
  | .xori c _ _ _ => decide (c < 128)
  | .slti c _ _ _ => decide (c < 128)
  | .sltiu c _ _ _ => decide (c < 128)
  | .lui c _ _ _ => decide (c < 128)
  | .slli c _ _ _ _ => decide (c < 128)
  | .srli c _ _ _ _ => decide (c < 128)
  | .srai c _ _ _ _ => decide (c < 128)
  | .rori c _ _ _ _ => decide (c < 128)
  | .mfs c _ _ _ => decide (c < 128)
  | .mts c _ _ _ => decide (c < 128)
  | .load c _ _ _ _ => decide (c < 128)
  | .store c _ _ _ _ => decide (c < 128)
  | .storeBufferDrain c => decide (c < 128)
  | .lateStoreReport c => decide (c < 128)
  | .cas c _ _ _ => decide (c < 128)
  | .amoadd c _ _ _ => decide (c < 128)
  | .amoswap c _ _ _ => decide (c < 128)
  | .fence c _ _ _ => decide (c < 128)
  | .isync c _ _ _ => decide (c < 128)
  | .brk c _ _ _ => decide (c < 128)
  | .beqz c _ _ => decide (c < 128)
  | .bnez c _ _ => decide (c < 128)
  | .bltz c _ _ => decide (c < 128)
  | .bgez c _ _ => decide (c < 128)
  | .bgtz c _ _ => decide (c < 128)
  | .blez c _ _ => decide (c < 128)
  | .j c _ => decide (c < 128)
  | .call c _ => decide (c < 128)
  | .jr c _ _ _ => decide (c < 128)
  | .jalr c _ _ _ => decide (c < 128)
  | .gate c _ _ _ => decide (c < 128)
  | .retg c _ _ _ => decide (c < 128)
  | .eret c _ _ _ => decide (c < 128)
  | .loop c _ _ _ _ => decide (c < 128)
  | .wait c _ _ _ => decide (c < 128)
  | .poll c _ _ _ => decide (c < 128)
  | .wfe c _ _ _ => decide (c < 128)
  | .rdtim c _ _ _ => decide (c < 128)
  | .japp c _ _ _ => decide (c < 128)
  | .lread c _ _ _ => decide (c < 128)
  | .lwrite c _ _ _ => decide (c < 128)
  | .respond c _ _ _ => decide (c < 128)
  | .ctxupd c _ _ _ => decide (c < 128)
  | .dma c _ _ _ => decide (c < 128)
  | .slrel c _ _ _ => decide (c < 128)
  | .kop c _ _ _ => decide (c < 128)
  | .ticketComplete c t code => decide (c < 128) && decide (t < 16) && decide (code < 0x10000)
  | .dmaComplete o _ => decide (o < 4)
  | .interruptEntry c => decide (c < 128)
  | .timerCompare c => decide (c < 128)
  | .vbudgetExpiry c k => decide (c < 128) && decide (k < 8)
  | .wdogStage1 c => decide (c < 128)
  | .wdogStage2 c => decide (c < 128)
  | .vcRun c _ => decide (c < 128)
  | .vcReset c _ => decide (c < 128)
  | .vaultFill o h => decide (o < 4) && decide (h < 0x100000000)
  | .vaultFillDone o h => decide (o < 4) && decide (h < 0x100000000)
  | .readAttr o => decide (o < 4)
  | .retire o => decide (o < 4)
  | .delete o => decide (o < 4)
  | .evict o => decide (o < 4)
  | .keyCmdComplete o => decide (o < 4)
  | .zoneStart o => decide (o < 4)
  | .zoneStop o => decide (o < 4)
  | .zoneRekey o => decide (o < 4)
  | .rekeyWalkEnd z => decide (z < 64)
  | .zoneExport o => decide (o < 4)
  | .zoneLoad o => decide (o < 4)
  | .zoneTransferDone z => decide (z < 64)
  | .zoneRangeWrite o _ _ => decide (o < 4)
  | .kvBaseWrite o off _ => decide (o < 4) && decide (off < 0x1000)
  | .kvCfgWrite o _ => decide (o < 4)
  | .create o i => decide (o < 4) && decide (i < 0x1000000)
  | .modify o i => decide (o < 4) && decide (i < 0x1000000)
  | .ctxRead o i => decide (o < 4) && decide (i < 0x1000000)
  | .destroy o i => decide (o < 4) && decide (i < 0x1000000)
  | .resetLimiter o i => decide (o < 4) && decide (i < 0x1000000)
  | .ctxCmdComplete o => decide (o < 4)
  | .contextFillDone i => decide (i < 0x20000)
  | .contextWriteback i => decide (i < 0x20000)
  | .ctxupdStore c t => decide (c < 128) && decide (t < 16)
  | .ctxupdAdd c t => decide (c < 128) && decide (t < 16)
  | .ctxupdRead c t => decide (c < 128) && decide (t < 16)
  | .pkQProdWrite o q v => decide (o < 4) && decide (q < 8) && decide (v < 0x100000000)
  | .pkDoorbellStore c k _ => decide (c < 128) && decide (k < 4)
  | .pkDescriptorTake o => decide (o < 4)
  | .modexp o e => decide (o < 4) && decide (e < 16)
  | .rsaVerify o e => decide (o < 4) && decide (e < 16)
  | .rsaSign o e => decide (o < 4) && decide (e < 16)
  | .rsaEncrypt o e => decide (o < 4) && decide (e < 16)
  | .rsaDecrypt o e => decide (o < 4) && decide (e < 16)
  | .ecdsaVerify o e => decide (o < 4) && decide (e < 16)
  | .ecdsaSign o e => decide (o < 4) && decide (e < 16)
  | .ecdh o e => decide (o < 4) && decide (e < 16)
  | .ed25519Verify o e => decide (o < 4) && decide (e < 16)
  | .ed25519Sign o e => decide (o < 4) && decide (e < 16)
  | .x25519 o e => decide (o < 4) && decide (e < 16)
  | .pkgen o e => decide (o < 4) && decide (e < 16)
  | .pkImport o e => decide (o < 4) && decide (e < 16)
  | .pkRewrap o e => decide (o < 4) && decide (e < 16)
  | .pkOperandsReady o e => decide (o < 4) && decide (e < 16)
  | .pkResultIssue o e _ => decide (o < 4) && decide (e < 16)
  | .sealRequest o => decide (o < 4)
  | .sealComplete o _ => decide (o < 4)
  | .pkSelfTest o _ => decide (o < 4)
  | .pkSelfTestEnd o e _ => decide (o < 4) && decide (e < 16)
  | .pkCfgWrite o _ => decide (o < 4)
  | .pkQCfgWrite o q off _ => decide (o < 4) && decide (q < 8) && decide (off < 0x40)
  | .pkBfloorWrite o _ => decide (o < 4)
  | .strandAdmit k => decide (k < 16)
  | .journalExport o r => decide (o < 4) && decide (r < 5)
  | .jnXconsWrite o r _ => decide (o < 4) && decide (r < 5)
  | .sealTrigger o => decide (o < 4)
  | .genesis o => decide (o < 4)
  | .sealNow o => decide (o < 4)
  | .twinAckRx => true
  | .journalFrameRx => true
  | .standbyChainVerify k => decide (k < 16)
  | .sealRecordRx => true
  | .deltaFrameRx => true
  | .checkpointTimer => true
  | .checkpointSegmentRx => true
  | .checkpointEndRx => true
  | .heartbeatTx => true
  | .heartbeatRx st _ => decide (st < 16)
  | .heartbeatLoss => true
  | .probeTimeout => true
  | .probeRspRx => true
  | .twinLinkUp => true
  | .swapStateRx _ => true
  | .swapReqRx => true
  | .swapAcceptRx => true
  | .swapCommitRx => true
  | .swapDoneRx => true
  | .swapRejectRx => true
  | .swapDrainEnd => true
  | .twActivate => true
  | .twStandby => true
  | .twSwap => true
  | .twCheckpoint => true
  | .twDetach => true
  | .twCfgWrite off _ => decide (off < 0x1000)
  | .twLinkKeyWrite _ => true
  | .join => true
  | .leave => true
  | .keyArm => true
  | .leaveTimeout => true
  | .joinTimeout => true
  | .ringIsolateTimeout => true
  | .ringHelloRx l => decide (l < 2)
  | .ringFrameRx l => decide (l < 2)
  | .presenceTx => true
  | .presenceRx => true
  | .presenceExpiry p => decide (p < 0x400)
  | .segDownTimeout l => decide (l < 2)
  | .timeSyncTx _ _ => true
  | .timeSyncRx _ _ => true
  | .pdelayReqTx l _ => decide (l < 2)
  | .pdelayReqRx l _ _ => decide (l < 2)
  | .pdelayRspRx l _ => decide (l < 2)
  | .masterSelfElect => true
  | .holdoverEntry => true
  | .timeValidLoss => true
  | .keySwitchTime => true
  | .keySwitchCommit => true
  | .ringMgmtRx => true
  | .crTxSend _ => true
  | .crRxRead => true
  | .ringProbeRx => true
  | .leaseReqReadRx => true
  | .leaseReqSetRx => true
  | .leaseReqAddRx => true
  | .leaseRspRx => true
  | .leaseMirrorRx => true
  | .leaseMackRx => true
  | .mirrorTmoExpiry _ => true
  | .ctrSyncRx => true
  | .leaseRetry _ => true
  | .leaseReadDeadline _ => true
  | .leaseWriteDeadline _ => true
  | .leaseExpiry e => decide (e < 0x10000)
  | .resultEntryExpiry _ _ => true
  | .ctrRead => true
  | .ctrSet => true
  | .clearAll => true
  | .crCfgWrite off _ => decide (off < 0x1000)
  | .pcieReset _ => true
  | .msixUnmask v => decide (v < 0x800)
  | .rgProdWrite r _ => decide (r < 256)
  | .txDescriptorTake => true
  | .txFrameReadDone r _ => decide (r < 128)
  | .hostRxPull => true
  | .hostRxComplete r => decide (128 ≤ r) && decide (r < 256)
  | .ringIrqModeration r => decide (r < 256)
  | .rgCfgWrite r _ => decide (r < 256)
  | .mbDataWrite _ ch k _ => decide (ch < 64) && decide (k < 32)
  | .mbSend _ ch _ => decide (ch < 64)
  | .mbTake _ ch _ => decide (ch < 64)
  | .mbAck _ ch _ => decide (ch < 64)
  | .mbOvfClear ch => decide (ch < 64)
  | .mbChCfgWrite ch _ => decide (ch < 64)
  | .deviceWideWrite _ a _ => decide (a % 4 = 0) && decide (a < 0x10000000)
  | .deviceWideApply => true
  | .pgIrqRawWrite p _ => decide (p < 0x1100)
  | .pgIrqEnWrite p _ => decide (p < 0x1100)
  | .pgIrqForceWrite p _ => decide (p < 0x1100)
  | .pgErrInfoClear p _ => decide (p < 0x1100)
  | .evcSelWrite _ n _ => decide (n < 4)
  | .evcClr p => decide (p < 0x1100)
  | .snapshotTake => true
  | .snapshotCapture p => decide (p < 0x1100)
  | .powerOn _ => true
  | .sysResetAssert => true
  | .startWarm => true
  | .startCold => true
  | .fwLoad => true
  | .warmPrepDone => true
  | .warmPrepTimeout => true
  | .startStepDone _ _ => true
  | .startStepTimeout => true
  | .twinSyncTimeout => true
  | .coldRetryTimer => true
  | .custodyWdExpiry => true
  | .deviceWdExpiry => true
  | .glbWdKick _ => true
  | .wdKickStore c _ => decide (c < 128)
  | .thermalSample temps => decide (temps.length = 5) && (temps.all fun t => decide (t < 256))
  | .thermalTrip => true
  | .thermalRestartTimer => true
  | .undervoltageDetect rail => decide (rail < 6)
  | .pwOn _ => true
  | .pwOff _ => true
  | .domainTransitionDone d => decide (d < 80)
  | .wakeEvent d src => decide (d < 80) && decide (1 ≤ src ∧ src ≤ 4)
  | .slowInputAccept i _ => decide (i < 4)
  | .slowInputChatter i => decide (i < 4)
  | .monitorArm m => decide (m < 6)
  | .monitorDeparture m _ => decide (m < 6)
  | .glitchAlarm m => decide (m < 6)
  | .slowAlarm m _ => decide (m < 6)
  | .powerLossClassify m => decide (m < 6)
  | .sequenceAlarm m => decide (m < 5)
  | .stateAlarm m => decide (m < 9)
  | .linkAlarm o => decide (o < 4)
  | .lkForce _ => true
  | .aonAlarmLatch => true
  | .vbatMeasure mv => decide (mv < 0x10000)
  | .custodyRegRead => true
  | .custodyRegWrite => true
  | .custodyPower => true
  | .fenceWrite => true
  | .alarmRead => true
  | .alarmClear => true
  | .unlockBegin => true
  | .unlockEnd => true
  | .unlockSessionTimeout => true
  | .rootGenerate => true
  | .lcAdvance => true
  | .lcSetDigest => true
  | .zoneDigest => true
  | .zoneLc => true
  | .zoneRecycle => true
  | .zoneSeedExport => true
  | .zoneSeedImport => true
  | .certRead => true
  | .dbgChallenge => true
  | .dbgResponse => true
  | .dbgClose => true
  | .writeRegion _ => true
  | .readRegion _ => true
  | .writeDefault _ => true
  | .readDefault _ => true
  | .logClear _ => true
  | .flashRead => true
  | .flashProgram => true
  | .flashErase => true
  | .flashProtect => true
  | .flashUnprotect => true
  | .flashUnlock => true
  | .flashRelock => true
  | .flashSetPassword => true
  | .flashOpDone _ _ _ => true
  | .gapMoveDone => true
  | .csWrite => true
  | .csRead => true
  | .eraseBoth => true
  | .csWriteDone _ => true
  | .seedBlockComplete => true
  | .healthRateWindow => true
  | .drbgGenerate i => decide (i < 4)
  | .drbgDraw i => decide (i < 5)
  | .drbgReseedDue i => decide (i < 5)
  | .drbgReseedDone _ => true
  | .reseed i => decide (i < 16)
  | .reinstantiate i => decide (i < 16)
  | .tapStart k => decide (k < 4)
  | .tapStop => true
  | .tapFull => true
  | .rngCfgWrite _ => true
  | .rngTpCtlWrite _ => true
  | .cardInsert => true
  | .cardPowerTimer => true
  | .cardReset => true
  | .identify => true
  | .authInit => true
  | .authProof => true
  | .authFinish => true
  | .readShare => true
  | .begin => true
  | .enroll => true
  | .writeShare => true
  | .commit => true
  | .abort => true
  | .cardResponseRx _ => true
  | .waitExtensionRx _ => true
  | .cardResponseDeadline => true
  | .cardDataBlock data crc => decide (data.length = 512) && decide (crc.length = 4) && (crc.all fun x => decide (x < 65536))
  | .cardRawRemoval _ => true
  | .cardRemoval => true
  | .generationTimeout => true
  | .eject => true
  | .clearUnknown => true
  | .revoke => true
  | .clearLog => true
  | .cbCfgWrite _ => true
  | .badgePing amp => decide (amp < 0x100000000)
  | .fieldCycleTimeout => true
  | .anticollRetryTimer => true
  | .wupa => true
  | .hlta uid atqa sak => decide (uid < 0x100000000000000) && decide (atqa < 0x10000) && decide (sak < 256)
  | .originRead => true
  | .originVerifyDone => true
  | .auth1 => true
  | .auth2 => true
  | .passAuth => true
  | .countRead => true
  | .countStep => true
  | .setKey => true
  | .kill => true
  | .badgeResponseRx data _ => decide (data.length ≤ 256)
  | .badgeResponseTimeout _ => true
  | .lnTestCfgWrite n _ => decide (n < 0x40C)
  | .prbsInject n => decide (n < 0x40C)
  | .dramOut d => decide (d < 64)
  | .dramIn d => decide (d < 64)
  | .dramCycle d => decide (d < 64)
  | .dramDrainDone d => decide (d < 64)
  | .dramDrainTimeout d => decide (d < 64)
  | .dramCloseDone d => decide (d < 64)
  | .dramBistDone d sram => decide (d < 64) && decide (sram < 5)
  | .coreBist o k => decide (o < 4) && decide (k < 32)
  | .reload o k => decide (o < 4) && decide (k < 32)
  | .coreTestDone o _ => decide (o < 4)
  | .verdictDrainTimeout o => decide (o < 4)
  | .isolate o => decide (o < 4)
  | .restore o => decide (o < 4)
  | .isolationStepDone o => decide (o < 4)
  | .testLogicReset => true
  | .extest => true
  | .idcode => true
  | .samplePreload => true
  | .highz => true
  | .clamp => true
  | .extestPulse => true
  | .extestTrain => true
  | .coreSel c => decide (c < 128)
  | .coreAccessRead a => decide (a < 0x40000000)
  | .coreAccessWrite a _ => decide (a < 0x40000000)
  | .coreAccessHalt => true
  | .coreAccessRun => true
  | .custDbg => true
  | .bypass => true
  | .noriolysFrameTx i => decide (i < 3)
  | .noiseSourceSample k _ => decide (k < 4)
  | .prbsLockChange n _ _ _ => decide (n < 0x40C)
  | .pllRelock o pll => decide (o < 4) && decide (pll < 7)
  | .crossOunceLinkRestored a b => decide (a < 4) && decide (b < 4)
  | .hiBerWindow n _ => decide (n < 0x40C)
  | .sysResetDeassert => true
  | .pcieResetEnd width speed => decide (width < 32) && decide (speed < 8)

end Sys2Proof
end

