-- ==== Sys2Proof/Tests/Slice0.lean ====
section
/-!
SUPPORT. The model's own tests: ill-formed commands that the well-formedness check refuses, worked examples of the spec, single
steps, and for every statement of Certificates/Slice0/Obligations.lean that has hypotheses a theorem witness_<its name> with
states and operands that meet them, clause by clause.
-/
namespace Sys2Proof.Tests
open Sys2Proof Sys2Proof.Machine

set_option Elab.async false

/-! ### Ill-formed commands -/

theorem test_wf_refuses_0 : (([
   .registerWrite false 0 0x20000000 0, .registerWrite false 0 2 0, .loReadLatch false 0x20000000, .rndVckPllLoss 4 false,
   .xozPllLoss 4 0, .xozPllLoss 0 3, .fabPllLoss 4, .fabRelockTimeout 4,
   .lrxLossOfLock 0x40C, .portmodeWrite 64 0, .clause73PageRx 0x40C, .rxFrameStart 0x400 [],
   .rxFrameEnd 0x400 [] false, .rxOversizeDetect 0x400, .fecCodewordDecoded 0x40C false 0 [], .controlSlotTx 0x40C,
   .controlSlotRx 0x40C 0, .signalLock 0x40C, .trainDone 0x40C 0 0, .trainTimeout 0x40C,
   .eqCoeffUpdate 0x40C 0 0, .keepUpTimeout 0x40C, .alignLocksReached 0x40C, .alignTimeout 0x40C,
   .linkLoss 0x40C, .faultClearTimeout 0x40C, .faultOrderedSetRx 0x40C false, .faultCeaseTimeout 0x40C,
   .lnUp 0x40C 0, .lnDown 0x40C 0, .lnTest 0x40C 0, .lnRetrain 0x40C 0,
   .lnClrCnt 0x40C 0, .lnCfgWrite 0x40C 0, .lnTxeqWrite 0x40C 0, .lnMaxframeWrite 0x40C 0,
   .noriolysFrameRx 3 [], .nakRx 3, .saInstall 64 0 0, .saInstall 0 8 0] : List Instr).all fun i => !i.wf) = true := by
  decide +kernel

theorem test_wf_refuses_1 : (([
   .saInstall 0 0 0x100000, .saDisable 64 0 0, .saDisable 0 8 0, .saDisable 0 0 0x100000,
   .saRead 64 0 0, .saRead 0 8 0, .saRead 0 0 0x100000, .saCmdComplete 64,
   .scEventRead 64, .egressIcvEmit 0x400, .txFrameStart 0x400, .katSlotExpiry 512,
   .katTestEnter 512, .grainKatVector 512 false, .scKatCtlWrite 64 0, .scPortWrite 0x400 0,
   .ftAdd 4, .ftDelete 4, .ftLookup 4, .congMapPropagate 4 0,
   .dqQcfgWrite 0x8020 0, .dqPortWrite 0x401 0, .queueHeadStamp 0x8020, .level1Nominate 0x401,
   .pullGrant 65, .inputDramGrant 69, .linkGrant 4 0, .linkGrant 0 4,
   .egressDramGrant 65, .linkCellRx 4 0 0 false, .linkCellRx 0 4 0 false, .linkCellRx 0 0 4 false,
   .linkCreditReturn 4 0 0, .linkCreditReturn 0 4 0, .linkCreditReturn 0 0 4, .linkDeliveryTimeout 4 0,
   .linkDeliveryTimeout 0 4, .holdExpiry 0x8020, .cvlCreditRx 0x400 0 [] 0, .cvlEchoReqRx 0x400 []] : List Instr).all fun i => !i.wf) = true := by
  decide +kernel

theorem test_wf_refuses_2 : (([
   .cvlEchoRspRx 0x400 [], .cvlQuenchRx 0x400 0 [] 0, .cvlResumeRx 0x400 0 [] 0, .cvlFirmwareRx 0x400 0 0 [] 0,
   .cvlFirmwareRx 0 256 0 [] 0, .cvlTxMessage 64 0, .cvlTxFrame 64 0, .cvlKeyInstall 0x400 0,
   .cvlRxstatRead 64, .diaDataAccess 4 false 0, .diaEnWrite 4 0 0, .diaEnWrite 0 2 0,
   .fwdEntryTimeout 0x1000, .ozVpCfgWrite 4 0, .vpServiceRegWrite 4 0 0, .vpServiceRegWrite 0 0x1000 0,
   .vpServiceRegWrite 0 2 0, .keyEngineTake 4, .pinXlate 4 0, .pinXlate 0 16,
   .macGen 4 0, .macGen 0 16, .macVer 4 0, .macVer 0 16,
   .dukptDerive 4 0, .dukptDerive 0 16, .arqcVerify 4 0, .arqcVerify 0 16,
   .ff1Enc 4 0, .ff1Enc 0 16, .ff1Dec 4 0, .ff1Dec 0 16,
   .kbImport 4 0, .kbImport 0 16, .kbExport 4 0, .kbExport 0 16,
   .keyOpComplete 4 0, .keyOpComplete 0 16, .keSelfTest 4 0 false, .keSelfTest 0 16 false] : List Instr).all fun i => !i.wf) = true := by
  decide +kernel

theorem test_wf_refuses_3 : (([
   .kvPcfCfgWrite 4 0, .kvPcfClrCnt 4, .add 128 0 0 0 false, .sub 128 0 0 0 false,
   .addo 128 0 0 0 false, .subo 128 0 0 0 false, .neg 128 0 0 0 false, .abs 128 0 0 0 false,
   .and 128 0 0 0, .or 128 0 0 0, .xor 128 0 0 0, .sll 128 0 0 0 false,
   .srl 128 0 0 0 false, .sra 128 0 0 0 false, .ror 128 0 0 0 false, .slt 128 0 0 0,
   .sltu 128 0 0 0, .seq 128 0 0 0, .min 128 0 0 0, .max 128 0 0 0,
   .mul 128 0 0 0 false, .mulh 128 0 0 0, .mulhu 128 0 0 0, .mulo 128 0 0 0 false,
   .div 128 0 0 0 false, .divu 128 0 0 0 false, .rem 128 0 0 0 false, .remu 128 0 0 0 false,
   .clz 128 0 0 0, .ctz 128 0 0 0, .popc 128 0 0 0, .bswap 128 0 0 0,
   .sextb 128 0 0 0, .sexth 128 0 0 0, .zextw 128 0 0 0, .cmovz 128 0 0 0,
   .cmovn 128 0 0 0, .addi 128 0 0 0, .addiw 128 0 0 0, .andi 128 0 0 0] : List Instr).all fun i => !i.wf) = true := by
  decide +kernel

theorem test_wf_refuses_4 : (([
   .ori 128 0 0 0, .xori 128 0 0 0, .slti 128 0 0 0, .sltiu 128 0 0 0,
   .lui 128 0 0 0, .slli 128 0 0 0 false, .srli 128 0 0 0 false, .srai 128 0 0 0 false,
   .rori 128 0 0 0 false, .mfs 128 0 0 0, .mts 128 0 0 0, .load 128 0 0 0 0,
   .store 128 0 0 0 0, .storeBufferDrain 128, .lateStoreReport 128, .cas 128 0 0 0,
   .amoadd 128 0 0 0, .amoswap 128 0 0 0, .fence 128 0 0 0, .isync 128 0 0 0,
   .brk 128 0 0 0, .beqz 128 0 0, .bnez 128 0 0, .bltz 128 0 0,
   .bgez 128 0 0, .bgtz 128 0 0, .blez 128 0 0, .j 128 0,
   .call 128 0, .jr 128 0 0 0, .jalr 128 0 0 0, .gate 128 0 0 0,
   .retg 128 0 0 0, .eret 128 0 0 0, .loop 128 false false 0 0, .wait 128 0 0 0,
   .poll 128 0 0 0, .wfe 128 0 0 0, .rdtim 128 0 0 0, .japp 128 0 0 0] : List Instr).all fun i => !i.wf) = true := by
  decide +kernel

theorem test_wf_refuses_5 : (([
   .lread 128 0 0 0, .lwrite 128 0 0 0, .respond 128 0 0 0, .ctxupd 128 0 0 0,
   .dma 128 0 0 0, .slrel 128 0 0 0, .kop 128 0 0 0, .ticketComplete 128 0 0,
   .ticketComplete 0 16 0, .ticketComplete 0 0 0x10000, .dmaComplete 4 0, .interruptEntry 128,
   .timerCompare 128, .vbudgetExpiry 128 0, .vbudgetExpiry 0 8, .wdogStage1 128,
   .wdogStage2 128, .vcRun 128 false, .vcReset 128 false, .vaultFill 4 0,
   .vaultFill 0 0x100000000, .vaultFillDone 4 0, .vaultFillDone 0 0x100000000, .readAttr 4,
   .retire 4, .delete 4, .evict 4, .keyCmdComplete 4,
   .zoneStart 4, .zoneStop 4, .zoneRekey 4, .rekeyWalkEnd 64,
   .zoneExport 4, .zoneLoad 4, .zoneTransferDone 64, .zoneRangeWrite 4 false 0,
   .kvBaseWrite 4 0 0, .kvBaseWrite 0 0x1000 0, .kvCfgWrite 4 0, .create 4 0] : List Instr).all fun i => !i.wf) = true := by
  decide +kernel

theorem test_wf_refuses_6 : (([
   .create 0 0x1000000, .modify 4 0, .modify 0 0x1000000, .ctxRead 4 0,
   .ctxRead 0 0x1000000, .destroy 4 0, .destroy 0 0x1000000, .resetLimiter 4 0,
   .resetLimiter 0 0x1000000, .ctxCmdComplete 4, .contextFillDone 0x20000, .contextWriteback 0x20000,
   .ctxupdStore 128 0, .ctxupdStore 0 16, .ctxupdAdd 128 0, .ctxupdAdd 0 16,
   .ctxupdRead 128 0, .ctxupdRead 0 16, .pkQProdWrite 4 0 0, .pkQProdWrite 0 8 0,
   .pkQProdWrite 0 0 0x100000000, .pkDoorbellStore 128 0 0, .pkDoorbellStore 0 4 0, .pkDescriptorTake 4,
   .modexp 4 0, .modexp 0 16, .rsaVerify 4 0, .rsaVerify 0 16,
   .rsaSign 4 0, .rsaSign 0 16, .rsaEncrypt 4 0, .rsaEncrypt 0 16,
   .rsaDecrypt 4 0, .rsaDecrypt 0 16, .ecdsaVerify 4 0, .ecdsaVerify 0 16,
   .ecdsaSign 4 0, .ecdsaSign 0 16, .ecdh 4 0, .ecdh 0 16] : List Instr).all fun i => !i.wf) = true := by
  decide +kernel

theorem test_wf_refuses_7 : (([
   .ed25519Verify 4 0, .ed25519Verify 0 16, .ed25519Sign 4 0, .ed25519Sign 0 16,
   .x25519 4 0, .x25519 0 16, .pkgen 4 0, .pkgen 0 16,
   .pkImport 4 0, .pkImport 0 16, .pkRewrap 4 0, .pkRewrap 0 16,
   .pkOperandsReady 4 0, .pkOperandsReady 0 16, .pkResultIssue 4 0 false, .pkResultIssue 0 16 false,
   .sealRequest 4, .sealComplete 4 false, .pkSelfTest 4 false, .pkSelfTestEnd 4 0 false,
   .pkSelfTestEnd 0 16 false, .pkCfgWrite 4 0, .pkQCfgWrite 4 0 0 0, .pkQCfgWrite 0 8 0 0,
   .pkQCfgWrite 0 0 0x40 0, .pkBfloorWrite 4 0, .strandAdmit 16, .journalExport 4 0,
   .journalExport 0 5, .jnXconsWrite 4 0 0, .jnXconsWrite 0 5 0, .sealTrigger 4,
   .genesis 4, .sealNow 4, .standbyChainVerify 16, .heartbeatRx 16 0,
   .twCfgWrite 0x1000 0, .ringHelloRx 2, .ringFrameRx 2, .presenceExpiry 0x400] : List Instr).all fun i => !i.wf) = true := by
  decide +kernel

theorem test_wf_refuses_8 : (([
   .segDownTimeout 2, .pdelayReqTx 2 0, .pdelayReqRx 2 0 0, .pdelayRspRx 2 0,
   .leaseExpiry 0x10000, .crCfgWrite 0x1000 0, .msixUnmask 0x800, .rgProdWrite 256 0,
   .txFrameReadDone 128 false, .hostRxComplete 256, .ringIrqModeration 256, .rgCfgWrite 256 0,
   .mbDataWrite false 64 0 0, .mbDataWrite false 0 32 0, .mbSend false 64 0, .mbTake false 64 0,
   .mbAck false 64 0, .mbOvfClear 64, .mbChCfgWrite 64 0, .deviceWideWrite false 0x10000000 0,
   .deviceWideWrite false 2 0, .pgIrqRawWrite 0x1100 0, .pgIrqEnWrite 0x1100 0, .pgIrqForceWrite 0x1100 0,
   .pgErrInfoClear 0x1100 0, .evcSelWrite 0 4 0, .evcClr 0x1100, .snapshotCapture 0x1100,
   .wdKickStore 128 0, .thermalSample [], .undervoltageDetect 6, .domainTransitionDone 80,
   .wakeEvent 80 0, .slowInputAccept 4 false, .slowInputChatter 4, .monitorArm 6,
   .monitorDeparture 6 false, .glitchAlarm 6, .slowAlarm 6 false, .powerLossClassify 6] : List Instr).all fun i => !i.wf) = true := by
  decide +kernel

theorem test_wf_refuses_9 : (([
   .sequenceAlarm 5, .stateAlarm 9, .linkAlarm 4, .vbatMeasure 0x10000,
   .drbgGenerate 4, .drbgDraw 5, .drbgReseedDue 5, .reseed 16,
   .reinstantiate 16, .tapStart 4, .cardDataBlock [] [], .badgePing 0x100000000,
   .hlta 0x100000000000000 0 0, .hlta 0 0x10000 0, .hlta 0 0 256, .lnTestCfgWrite 0x40C 0,
   .prbsInject 0x40C, .dramOut 64, .dramIn 64, .dramCycle 64,
   .dramDrainDone 64, .dramDrainTimeout 64, .dramCloseDone 64, .dramBistDone 64 0,
   .dramBistDone 0 5, .coreBist 4 0, .coreBist 0 32, .reload 4 0,
   .reload 0 32, .coreTestDone 4 false, .verdictDrainTimeout 4, .isolate 4,
   .restore 4, .isolationStepDone 4, .coreSel 128, .coreAccessRead 0x40000000,
   .coreAccessWrite 0x40000000 0, .noriolysFrameTx 3, .noiseSourceSample 4 false, .prbsLockChange 0x40C false 0 0] : List Instr).all fun i => !i.wf) = true := by
  decide +kernel

theorem test_wf_refuses_10 : (([
   .pllRelock 4 0, .pllRelock 0 7, .crossOunceLinkRestored 4 0, .crossOunceLinkRestored 0 4,
   .hiBerWindow 0x40C false, .pcieResetEnd 32 0, .pcieResetEnd 0 8, .hostRxComplete 127,
   .wakeEvent 64 5, .thermalSample [1, 2], .thermalSample [1, 2, 3, 4, 256], .cardDataBlock [] [0, 0, 0, 0],
   .badgeResponseRx (List.replicate 257 0) true] : List Instr).all fun i => !i.wf) = true := by
  decide +kernel

/-! ### States the tests and witnesses use -/

/-- Every domain on, every page live, the ports open. -/
def up : State :=
  ({ State.reset with dom := ((List.range 80).filter fun d => d ≠ 77 ∧ d ≠ 78).map fun d => (d, 2) } : State).setFld (ra tGLB 0 0x204) 9 9 1
/-- The same with no start under way. -/
def quiet : State := up.setFld (ra tGLB 0 0x204) 8 8 0
/-- Lane 0 in a lane state, with its configuration as given. -/
def laneAt (st cfg : Nat) : State := ((up.wrn (lnReg 0 0) cfg).setLnState 0 st)
/-- The same right after reset. -/
def coldLane (st cfg : Nat) : State := ((State.reset.wrn (lnReg 0 0) cfg).setLnState 0 st)
/-- A frame as frame 1. -/
def withFrame (f : Frame) : State := up.setFrame 1 f
/-- Endpoint context 0 in use, for port 0. -/
def withCtx : State := up.modCtx 0 fun c => { c with hdr := spliceBytes c.hdr 0 [1] }
/-- Every fence of the cores, the clusters and HBM open. -/
def open_ : State := { up with cus := { up.cus with defaults := (List.range 262).map fun f => (f, 2 ^ 24 - 1) } }
/-- Core 0 runs in ring 0. -/
def coreUp : State := open_.modCore 0 fun x => { x with st := 1 }
/-- The second component of what a lookup answers. -/
def restOf {α : Type} (s : State) (o : Option (α × State)) : State := match o with | some p => p.2 | none => s
/-- A SAK, resident in the vault of ounce 0 under handle 1. -/
def sak : KeyVal := { key := List.replicate 16 7, attr := [0x39, 0x31, 0x41, 0, 0, 0, 0, 0, 16, 0, 0, 0], handle := 1 }
/-- Context 0 with that SAK staged for its transmit record. -/
def withSak : State :=
  { ((withCtx.wrn (ra tSC 0 0xA80) 1).wrn (ra tSC 0 0xA88) 1).wrn (ra tSC 0 0x100) 0xF with
    vlt := { withCtx.vlt with zones := [(0, { count := 2, started := true, lc := 1 })], resident := [(1, { k := sak })] } }
/-- A frame of 60 equal bytes as it stands once its payload is known. -/
def oneFrame : Frame :=
  { data := List.replicate 60 1, body := List.replicate 48 1, dmac := List.replicate 6 1, smac := List.replicate 6 1 }
/-- A verdict message of the host, with an envelope of one byte of message, taken by the parser of ounce 0. -/
def vmFrame : Frame := { src := 1024, body := [0, 0, 1, 0, 0, 1] ++ List.replicate 9 0, place := .parsing 0, envOk := true, ended := 1, trust := .pass }
/-- The device renders verdicts: it is ACTIVE_ALONE, core 0 is enabled, context 0 admits 255 verdicts. -/
def vmState : State :=
  ((((up.modCtx 0 fun c => { c with hdr := spliceBytes c.hdr 0 [1, 0, 0, 0, 0, 0, 0, 255] }).setFrame 1 vmFrame).setFld (twReg 0x104) 3 0 1).wrn
    (ozReg 0 0x804) 0).wrn (ozReg 0 0x818) 1
/-- A link frame waits in the inbox of the twin link. -/
def inTwin (e : Nat × Nat × Nat × List Byte) : State := { up with jn := { up.jn with link := { inbox := [e] } } }
/-- An operation with FN `fn` in a key engine of ounce 0. -/
def keyRun (fn : Nat) (rest : List Byte) : KRun := { r := { block := BitVec.ofNat 8 fn :: rest } }
/-- A key block, wrapped with the KBPK below, of the AES key of sixteen bytes 2. -/
def keyBlock : List Byte :=
  [68, 48, 49, 52, 52, 80, 48, 65, 69, 48, 48, 83, 48, 48, 48, 48, 69, 53, 66, 50, 50, 67, 53, 57] ++
  [51, 49, 48, 70, 66, 51, 66, 57, 51, 53, 51, 55, 57, 57, 55, 70, 66, 67, 69, 51, 67, 53, 55, 56] ++
  [53, 48, 54, 69, 70, 52, 55, 68, 69, 70, 55, 55, 70, 53, 69, 52, 69, 65, 66, 48, 52, 54, 66, 48] ++
  [53, 50, 66, 50, 51, 51, 68, 65, 55, 55, 49, 69, 65, 51, 65, 55, 56, 67, 69, 50, 49, 49, 49, 56] ++
  [68, 57, 65, 54, 54, 49, 67, 68, 50, 52, 52, 50, 70, 48, 54, 50, 49, 54, 48, 53, 66, 67, 51, 48] ++
  [49, 48, 52, 48, 57, 68, 65, 55, 70, 48, 51, 56, 48, 52, 54, 54, 56, 69, 48, 48, 52, 69, 53, 48]
/-- The KBPK. -/
def kbpk : KeyVal := { key := List.replicate 16 1, attr := [0x4B, 0x31, 0x41, 0x42, 0, 0, 0, 0, 16, 0, 0, 0] }
/-- The bytes of a forwarded transfer. -/
def fwdBytes (dir : Nat) : List Byte := [BitVec.ofNat 8 dir, 1] ++ List.replicate 62 0
/-- A transfer of one VERDICT_FWD frame waits; the device is ACTIVE_ALONE and has a forwarding entry 0. -/
def fwdIn (dir : Nat) : State :=
  { (inTwin (7, 1, 0, fwdBytes dir)).setFld (twReg 0x104) 3 0 1 with vp := { up.vp with fwd := [(0, {})] } }
/-- A PIN translation between two format 0 blocks, its PIN block read with the key of sixteen bytes 1. -/
def pinRun : KRun :=
  { r := { block := [0x10, 0, 16, 0, 0xFF, 0] ++ List.replicate 26 0 ++ [0, 0, 12] ++ List.replicate 13 0 ++
      tdeaEncrypt (List.replicate 16 1) [4, 0x12, 0x34, 0xFF, 0xFF, 0xFF, 0xFF, 0xFF] ++ List.replicate 8 0 },
    keys := [{ key := List.replicate 16 1 }] }
/-- A key import of the block in the data SRAM. -/
def importRun : KRun :=
  { r := { block := [0x60] ++ List.replicate 31 0 ++ leBytes 2 keyBlock.length ++ [0, 0] ++ List.replicate 28 0 }, keys := [kbpk] }
/-- A key export with random bytes ready. -/
def exportState : State := (up.setEngRun 0 0 (keyRun 0x61 [])).setDrbg 0 { ready := true, buf := List.replicate 2 (List.replicate 16 0) }
/-- A MAC request of core 0 without a slot, and the key it names. -/
def macReq : KReq :=
  { block := [0x20, 4, 0x68, 0, 0xFF, 0, 64, 0] ++ List.replicate 8 0 ++ [1, 0, 0, 0, 1, 0, 0, 0] ++ List.replicate 8 0 ++
      [16, 1] ++ List.replicate 66 0 ++ [8, 0, 0, 0] }
/-- The MAC key. -/
def macKey : KeyVal := { key := List.replicate 16 5, attr := [0x4D, 0x36, 0x41, 0x43, 0, 0, 0, 0, 16, 0, 0, 0], handle := 1 }
/-- Its request waits in ounce 0. -/
def macState : State := { open_ with
  pay := { open_.pay with queue := [(0, [macReq])] },
  vlt := { open_.vlt with zones := [(0, { count := 2, started := true, lc := 1 })], resident := [(1, { k := macKey })] } }
/-- Core 0 runs with register `r` holding `v`. -/
def coreReg (r : Nat) (v : Word) : State := coreUp.modCore 0 fun x => { x with g := setNth x.g r v }
/-- Core 0 runs with two registers set. -/
def coreRegs (r : Nat) (v : Word) (q : Nat) (u : Word) : State := coreUp.modCore 0 fun x => { x with g := setNth (setNth x.g r v) q u }
/-- Core 0 changed. -/
def coreWith (f : Core → Core) : State := coreUp.modCore 0 f
/-- Core 0 in ring 3 before a gate of one entry. -/
def gateState : State := (coreWith fun x => { x with ring := 3, gatecount := 1, sp := [16, 0, 0, 0] }).setBytes (spData 0) [0x80, 0x80]
/-- Zone 0 has two slots, is started and in TEST. -/
def zoneUp : State := { up with vlt := { up.vlt with zones := [(0, { count := 2, started := true, lc := 1 })] } }
/-- Zone 0 as given, selected by KV_ZONE_SEL of ounce 0. -/
def zoneWith (z : Zone) : State := { up with vlt := { up.vlt with zones := [(0, z)] } }
/-- The handle of its slot 1 stands in KV_HANDLE of ounce 0, the record has STATE 1. -/
def keyState : State := (zoneUp.wrn (kvReg 0 0x204) 1).setByte (zoneUp.recAddr 1) 1
/-- Core 0 has verdict 3 in slot 0. -/
def verdictState (x : Verdict) : State := { (coreWith fun c => { c with slots := setNth c.slots 0 (some 3) }) with vp := { coreUp.vp with verdicts := [(3, x)] } }
/-- A PK operation with its operands read: FN, curve, size, FLAGS, lengths and operands. -/
def pkOp (fn curve nbits flags : Nat) (ls : List Nat) (args : List (List Byte)) : PkRun :=
  { desc := leBytes 1 fn ++ leBytes 1 flags ++ [0] ++ leBytes 1 curve ++ leBytes 2 nbits ++ List.replicate 42 0 ++ ls.flatMap (leBytes 4),
    ready := true, args := args }
/-- It is the operation of engine 0 of ounce 0; five blocks of random bytes are ready there. -/
def pkState (x : PkRun) : State := (up.setPkRun 0 0 x).setDrbg 0 { ready := true, buf := List.replicate 5 (List.replicate 16 0) }
/-- An odd modulus of `n` bytes with its top bit set. -/
def oddN (n : Nat) : List Byte := [0x80] ++ List.replicate (n - 2) 0 ++ [1]
/-- A descriptor of an ECDSA verification for engine 3 in HBM, the head of PK queue 7 of ounce 0. -/
def pkQueued : State :=
  (((((open_.setBytes (spHbm + 2 ^ 28) [0x20, 1, 3]).wr64 (pkQ 0 7 8) (2 ^ 28)).setFld (pkReg 0 0x100) 0 0 1).setFld (pkQ 0 7 0) 0 0 1).setFld (pkQ 0 7 0) 7 4 4).setFld (pkQ 0 7 0x10) 15 0 1
/-- A descriptor with an FN that does not exist. -/
def pkUnknown : State :=
  (((((open_.setBytes (spHbm + 2 ^ 28) [0x7F]).wr64 (pkQ 0 0 8) (2 ^ 28)).setFld (pkReg 0 0x100) 0 0 1).setFld (pkQ 0 0 0) 0 0 1).setFld (pkQ 0 0 0) 7 4 12).setFld (pkQ 0 0 0x10) 15 0 1
/-- A standby in SYNCED with a frame in the twin inbox. -/
def standby (f : State → State) (e : Nat × Nat × Nat × List Byte) : State := f ((inTwin e).setFld (twReg 0x104) 3 0 10)
/-- What is left of it once the frame is taken. -/
def standbyTook (f : State → State) (e : Nat × Nat × Nat × List Byte) : State := restOf up ((standby f e).linkTake 0 [e.1])
/-- The first entry of strand 0 as a standby holds it, its chain value right. -/
def verEntry : List Byte := List.replicate 208 0 ++ sha384 (genesisChain (up.rd64 (jnReg 0 0x110)) 0 ++ List.replicate 208 0)
/-- The end segment of a checkpoint of one empty segment. -/
def endSeg : List Byte := [0, 0, 0, 0, 0, 0, 0, 1, 255] ++ List.replicate 23 0 ++ [0, 0, 0, 1] ++ sha384 []
/-- A probe answer of the partner, position 1, which is active and not locked. -/
def probeAns : List Byte := [0, 0, 0, 1] ++ List.replicate 12 0 ++ [1, 0, 0, 0, 0, 0, 0, 0]
/-- A ring message of position 1 with the body `b`. -/
def ringMsg (b : List Byte) : List Byte := [0, 0, 0, 1] ++ List.replicate 12 0 ++ b
/-- A message of type `ty` waits in the ring inbox, the rest as `f` makes it. -/
def ringIn (f : State → State) (ty : Nat) (p : List Byte) : State := f { up with cr := { up.cr with inbox := [(ty, 0, p)] } }
/-- What is left once it is taken. -/
def ringTook (f : State → State) (ty : Nat) (p : List Byte) : State := restOf up ((ringIn f ty p).ringTake [ty])
/-- A lease request for counter 0 with tag 9. -/
def leaseMsg (wop v : Nat) : List Byte := ringMsg ([BitVec.ofNat 8 wop] ++ List.replicate 10 0 ++ [9] ++ List.replicate 12 0 ++ beBytes 8 v)
/-- The lease that such a request names, and the home that serves it: ACTIVE_ALONE, one counter. -/
def home (x : Lease) (s : State) : State :=
  ((({ s with cr := { s.cr with leases := cput {} x 0 [] } } : State).setFld (twReg 0x104) 3 0 1).wrn (crReg 0x144) 1).setByte (spHbm + 16) 1
/-- A lease of position 1 that has not expired. -/
def leased : Lease := { used := true, req := 1, expiry := 1 }
/-- The frame of types 0x23 to 0x2D waits in the inbox of ring lane 0. -/
def laneIn (f : State → State) (e : Nat × Nat × Nat × List Byte) : State :=
  f (({ up with cr := { up.cr with lanes := [(0, { link := { inbox := [e] } })] } } : State).setFld (crReg 0x104) 3 0 1)
/-- What is left once it is taken. -/
def laneTook (f : State → State) (e : Nat × Nat × Nat × List Byte) : State := restOf up ((laneIn f e).linkTake 1 [e.1])
/-- The ring is up: both ring lanes. -/
def ringUp : State := (up.setLnState 1032 4).setLnState 1033 4
/-- A custody command with the words `w` waits in channel 48. -/
def custWords (w : List Nat) : List Nat := w ++ List.replicate (16 - w.length) 0
/-- The state in which it waits. -/
def custIn (w : List Nat) : State :=
  ({ up with hi := { up.hi with custQ := [48], mbox := [(48, { full := true, words := 16, data := (custWords w).map (BitVec.ofNat 64) })] } } : State).setDrbg 4
    { ready := true, buf := List.replicate 16 (List.replicate 16 3) }
/-- Ring `r` is on with sixteen descriptors, one of them the device's, buffers of 256 bytes, and the host reachable. -/
def ringOn (r : Nat) : State :=
  (((up.wrn (rgReg r 8) (1 + 4 * 2 ^ 4 + 2 ^ 16)).setFld (rgReg r 0xC) 15 0 8).setFld (ra tHI 0 0x100) 9 9 1)
/-- A start that runs and stands at step `k`, not waiting. -/
def startAt (k : Nat) : State := (up.setFld (glReg 0x204) 8 8 1).setFld (glReg 0x204) 3 0 k
/-- The fence of the register pages of type 1 admits nobody. -/
def closedRegs : State := { up with cus := { up.cus with defaults := [(262, 0)] } }
/-- Words of the flash from logical word `w` on. -/
def flPut (s : State) (w : Nat) (ws : List Nat) : State :=
  (List.range ws.length).foldl (fun s i =>
    { s with fl := { s.fl with words := cput erasedWord (BitVec.ofNat 64 (nth 0 ws i)) (s.flKey (w + i)) s.fl.words } }) s
/-- Bank 0 of the configuration store is valid, with an empty body and SEQ `q`. -/
def bankUp (q : Nat) : State :=
  let s := flPut quiet 0x1FC000 [0x43464731 + 2 ^ 32, 0, q, 0, 0, 0, 0, 0]
  let s := flPut s 0x1FC003 [crc32c (s.flBytes (bankAddr 0) 0x18)]
  flPut s 0x1FDFFF [0x5A5AC3C30F0FA5A5]
/-- A card response frame to command `i`, without an error bit. -/
def respFrame (i : Nat) : BitVec 48 := BitVec.ofNat 48 ((1 * 2 ^ 38 + i) * 2 ^ 7 + crc7 (1 * 2 ^ 38 + i))
/-- A protected frame that has ended with its ICV right. -/
def icvFrame : Frame :=
  let f : Frame := { prot := true, gang := 2, ended := 1, key := List.replicate 16 0 }
  { f with data := List.replicate 20 0 ++ gcmTag f.key f.iv (List.replicate 20 0) [] ++ List.replicate 4 0 }
/-- A pair that succeeds, from its parts. -/
theorem okPair {α β : Type} {x : Except Nat α × β} {a : α} {b : β} (h : x.1.toOption = some a) (k : x.2 = b) : x = (.ok a, b) := by
  obtain ⟨y, z⟩ := x
  cases y <;> simp_all [Except.toOption]
/-- A success, from its value. -/
theorem okOf {α : Type} {x : Except Nat α} {a : α} (h : x.toOption = some a) : x = .ok a := by
  cases x <;> simp_all [Except.toOption]
/-- A value that is there, from its presence. -/
theorem someGetD {α : Type} {x : Option α} {d : α} (h : x.isSome = true) : x = some (x.getD d) := by
  cases x <;> simp_all

/-! ### Worked examples of the spec, and single steps -/

/-- What a step of the command in front leaves, read by `f`. -/
def after {α : Type} (s : State) (c : Instr) (d : α) (f : State → α) : α :=
  match step { s with pending := [c] } with
  | .next t => f t
  | _ => d

/-- R93, the example: three received PNs and what they recover, PN_high 0x3_FFFF_FFF0 and W 64. -/
theorem test_xpn_recovery :
    ([0xFFFFFFF5, 0x00000002, 0xFFFFFF00].map fun r => SaRec.recover { suite := 2, pn := 0x3FFFFFFF0, window := 64 } r) =
      [some 0x3FFFFFFF5, some 0x400000002, some 0x4FFFFFF00] := by decide +kernel

/-- R206, the example: the clear block of PIN 1234 and PAN 4000 0012 3456 7899 before TDEA. -/
theorem test_pin_block_format0 :
    xorBytes [0x04, 0x12, 0x34, 0xFF, 0xFF, 0xFF, 0xFF, 0xFF] (panField0 [4, 0, 0, 0, 0, 0, 1, 2, 3, 4, 5, 6, 7, 8, 9, 9]) =
      [0x04, 0x12, 0x34, 0xFE, 0xDC, 0xBA, 0x98, 0x76] := by decide +kernel

/-- R206, the example: the PAN field of format 4. -/
theorem test_pan_field_format4 :
    panField4 [4, 0, 0, 0, 0, 0, 1, 2, 3, 4, 5, 6, 7, 8, 9, 9] =
      [0x44, 0, 0, 0x01, 0x23, 0x45, 0x67, 0x89, 0x90, 0, 0, 0, 0, 0, 0, 0] := by decide +kernel

/-- A sum wraps modulo 2^64 (R232). -/
theorem test_add_wraps :
    after (coreRegs 1 (BitVec.allOnes 64) 2 2) (.add 0 3 1 2 false) 0 (fun t => ((t.core 0).rv 3).toNat) = 1 := by decide +kernel

/-- A W form computes on 32 bits and sign-extends (R232). -/
theorem test_addw_sign_extends :
    after (coreRegs 1 0x7FFFFFFF 2 1) (.add 0 3 1 2 true) 0 (fun t => ((t.core 0).rv 3).toNat) = 0xFFFFFFFF80000000 := by decide +kernel

/-- The most negative number divided by −1 gives itself and sets V (R235). -/
theorem test_div_overflow :
    after (coreRegs 1 (BitVec.intMin 64) 2 (BitVec.allOnes 64)) (.div 0 3 1 2 false) (0, false)
      (fun t => (((t.core 0).rv 3).toNat, nth false (t.core 0).v 0)) = (2 ^ 63, true) := by decide +kernel

/-- A shift by the width or more gives 0 (Table 7.6). -/
theorem test_sll_by_width :
    after (coreRegs 1 1 2 64) (.sll 0 3 1 2 false) 7 (fun t => ((t.core 0).rv 3).toNat) = 0 := by decide +kernel

/-- A write to g0 is discarded (R229). -/
theorem test_g0_stays_zero :
    after (coreRegs 1 5 2 6) (.add 0 0 1 2 false) 7 (fun t => ((t.core 0).rv 0).toNat) = 0 := by decide +kernel

/-- A store writes its bytes little-endian, and a load of one of them reads it back. -/
theorem test_store_bytes :
    after (coreRegs 1 0x100 2 0x1122) (.store 0 2 1 2 0) [] (fun t => t.bytes (spData 0 + 0x100) 3) = [0x22, 0x11, 0] := by decide +kernel

/-- CRC-32C of "123456789" (outside the spec). -/
theorem test_crc32c : crc32c [0x31, 0x32, 0x33, 0x34, 0x35, 0x36, 0x37, 0x38, 0x39] = 0xE3069283 := by decide +kernel

/-- AES-128, the example of FIPS 197 (outside the spec). -/
theorem test_aes :
    aesEncrypt ((List.range 16).map (BitVec.ofNat 8)) ((List.range 16).map fun i => BitVec.ofNat 8 (17 * i)) =
      [0x69, 0xC4, 0xE0, 0xD8, 0x6A, 0x7B, 0x04, 0x30, 0xD8, 0xCD, 0xB7, 0x80, 0x70, 0xB4, 0xC5, 0x5A] := by decide +kernel

/-- SHA-384 of "abc", its first eight bytes (FIPS 180, outside the spec). -/
theorem test_sha384 : (sha384 [0x61, 0x62, 0x63]).take 8 = [0xCB, 0x00, 0x75, 0x3F, 0x45, 0xA3, 0x5E, 0x8B] := by decide +kernel

/-- Table 0.3, the example: lane 679 lies in dram 42 of ounce 2, and class 5 there is queue 21733. -/
theorem test_lane_679 : laneDram 679 = 42 ∧ queueOf 679 5 = 21733 ∧ queueLane 21733 = 679 ∧ portOunce 679 = 2 ∧ coreOunce 77 = 2 := by decide +kernel

/-- Table 7.14: the words of its LOOP, LBU, ADDI and ADD. -/
theorem test_words_table_7_14 :
    wordL false true 16 4 = 0xC1040004 ∧ wordM 0x10 9 8 1 0 = 0x41281000 ∧ wordI16 0x02 8 8 1 = 0x09080001 ∧
      wordI16 0x02 9 9 0xFFD0 = 0x0929FFD0 ∧ wordT3 0 10 10 9 0x000 = 0x014A4800 := by decide +kernel

/-! ### Witnesses of the statements -/

/-- For every clause of LaneEventsFollowTheLaneStates that has hypotheses: a state and operands that meet them. -/
theorem witness_LaneEventsFollowTheLaneStates :
    (∃ (s : State) (n : Nat),
      (s.canon) ∧ (s.lnState n = 1)) ∧
    (∃ (s : State) (n : Nat),
      (s.canon) ∧ (s.lnState n = 1) ∧ (s.lnCfg n 3 = false)) ∧
    (∃ (s : State) (n : Nat),
      (s.canon) ∧ (s.lnState n = 2)) ∧
    (∃ (s : State) (n : Nat),
      (s.canon) ∧ (s.lnState n = 2)) ∧
    (∃ (s : State) (n : Nat),
      (s.canon) ∧ (s.lnState n = 4)) ∧
    (∃ (s : State) (n : Nat),
      (s.canon) ∧ ((s.lane n).kept = true) ∧ (s.lnState n = 3)) ∧
    (∃ (s : State) (n : Nat),
      (s.canon) ∧ (s.lnState n = 3)) ∧
    (∃ (s : State) (n : Nat),
      (s.canon) ∧ (s.lnState n = 4)) ∧
    (∃ (s : State) (n : Nat),
      (s.canon) ∧ (s.lnState n = 5) ∧ (s.lnFlag n 8 = false)) ∧
    (∃ (s : State) (n : Nat) (remote : Bool),
      (s.canon) ∧ (s.lnState n = 4) ∧ (s.lnFlag n (if remote then 10 else 9) = false)) ∧
    (∃ (s : State),
      (s.canon)) ∧
    (∃ (s : State) (n : Nat),
      (s.canon) ∧ (s.lnCfg n 2 = false)) ∧
    (∃ (s : State) (n : Nat),
      (s.canon) ∧ (s.portOf n = n) ∧ (s.lnState n = 4)) ∧
    (∃ (s : State) (n : Nat),
      (s.canon) ∧ (s.portOf n = n) ∧ (s.lnCfg n 2 = true)) ∧
    (∃ (s : State) (n : Nat),
      (s.canon) ∧ (s.lnState n = 3)) :=
  ⟨⟨coldLane 1 0, 0, by decide +kernel⟩,
   ⟨coldLane 1 0, 0, by decide +kernel⟩,
   ⟨coldLane 2 0, 0, by decide +kernel⟩,
   ⟨coldLane 2 0, 0, by decide +kernel⟩,
   ⟨coldLane 4 0, 0, by decide +kernel⟩,
   ⟨(coldLane 3 0).modLane 0 fun l => { l with kept := true }, 0, by decide +kernel⟩,
   ⟨coldLane 3 0, 0, by decide +kernel⟩,
   ⟨coldLane 4 0, 0, by decide +kernel⟩,
   ⟨coldLane 5 0, 0, by decide +kernel⟩,
   ⟨coldLane 4 0, 0, false, by decide +kernel⟩,
   ⟨coldLane 4 0, by decide +kernel⟩,
   ⟨coldLane 4 0, 0, by decide +kernel⟩,
   ⟨coldLane 4 0, 0, by decide +kernel⟩,
   ⟨coldLane 4 4, 0, by decide +kernel⟩,
   ⟨coldLane 3 0, 0, by decide +kernel⟩⟩

/-- For every clause of LaneCommandsTakeEffect that has hypotheses: a state and operands that meet them. -/
theorem witness_LaneCommandsTakeEffect :
    (∃ (s : State) (d : Nat),
      (s.pageLive (pageNo tLN d) = true)) ∧
    (∃ (s : State) (d : Nat) (k : Nat),
      (s.canon) ∧ (k < 4) ∧ ((∀ i < 4, s.lnState (16 * d + 4 * k + i) = 0))) ∧
    (∃ (s : State) (n : Nat) (v : Reg),
      (s.pageLive (lanePage n) = true) ∧ (s.portOf n = n) ∧ (s.rd (lnReg n 0x00) = 0) ∧ (s.lnState n = 0) ∧ (v &&& 0x18 ≠ 0x18)) ∧
    (∃ (s : State) (n : Nat) (v : Reg),
      (s.pageLive (lanePage n) = true) ∧ (getField v 5 0 + getField v 13 8 + getField v 21 16 ≤ 63) ∧ (24 ≤ getField v 13 8)) ∧
    (∃ (s : State) (n : Nat),
      (s.pageLive (lanePage n) = true) ∧ (s.portOf n = n)) ∧
    (∃ (s : State) (n : Nat),
      (s.pageLive (lanePage n) = true) ∧ (s.portOf n = n) ∧ (s.lnState n = 0) ∧ (s.lnCfg n 0 = true) ∧ ((n < 1024 → s.domOn (n / 16) = true))) ∧
    (∃ (s : State) (n : Nat),
      (s.pageLive (lanePage n) = true) ∧ (s.portOf n = n)) ∧
    (∃ (s : State) (n : Nat),
      (s.pageLive (lanePage n) = true) ∧ (s.portOf n = n) ∧ (s.lnState n ≠ 0)) ∧
    (∃ (s : State) (n : Nat),
      (s.pageLive (lanePage n) = true) ∧ (s.portOf n = n) ∧ (s.lnState n = 4)) ∧
    (∃ (s : State) (n : Nat),
      (s.pageLive (lanePage n) = true)) ∧
    (∃ (s : State) (n : Nat),
      (n < 1024) ∧ (s.lnCfg n 7 = true) ∧ (s.portOf n = n) ∧ (s.lnState n = 4) ∧ (((s.lnBump n 17 1).lane n).txSlot = 1023)) ∧
    (∃ (s : State) (n : Nat),
      (n < 1024) ∧ (s.lnCfg n 7 = true) ∧ (s.portOf n = n) ∧ (s.lnState n = 4) ∧ (s.lnFlag n 15 = true) ∧ ((s.lane n).rxSlot < 1023)) :=
  ⟨⟨up, 0, by decide +kernel⟩,
   ⟨up, 0, 3, by decide +kernel⟩,
   ⟨(laneAt 0 0), 0, 0x97, by decide +kernel⟩,
   ⟨up, 0, 0x1827, by decide +kernel⟩,
   ⟨up, 0, by decide +kernel⟩,
   ⟨(laneAt 0 1), 0, by decide +kernel⟩,
   ⟨up, 0, by decide +kernel⟩,
   ⟨(laneAt 1 1), 0, by decide +kernel⟩,
   ⟨(laneAt 4 0), 0, by decide +kernel⟩,
   ⟨up, 0, by decide +kernel⟩,
   ⟨(laneAt 4 0x80).modLane 0 fun l => { l with txSlot := 1023 }, 0, by decide +kernel⟩,
   ⟨((laneAt 4 0x80).setLnFlag 0 15 true).modLane 0 fun l => { l with rxSlot := 1022 }, 0, by decide +kernel⟩⟩

/-- For every clause of FrameEventsTakeEffect that has hypotheses: a state and operands that meet them. -/
theorem witness_FrameEventsTakeEffect :
    (∃ (s : State) (n : Nat) (d : List Byte),
      (n < 1024) ∧ (s.portOf n = n) ∧ (s.lnState n = 4) ∧ ((s.lane n).rxCur = none) ∧ ((s.lane n).rxDrop = 0) ∧ ((s.lane n).rxSkip = false) ∧ (s.lockInForce = false) ∧ (s.portsOpen = true) ∧ (etherType d ≠ 0x8808) ∧ (s.fld (scPort n) 0 0 = 0)) ∧
    (∃ (s : State) (n : Nat) (k : Nat) (f : Frame) (rest : List Byte),
      ((s.lane n).rxCur = some k) ∧ (s.frame k = some f) ∧ (f.data.length + rest.length ≤ s.fld (lnReg n 0x10) 13 0)) ∧
    (∃ (s : State) (n : Nat) (k : Nat),
      ((s.lane n).rxCur = some k)) ∧
    (∃ (s : State) (n : Nat) (f : Frame),
      (s.frame n = some f) ∧ (f.place = .waiting) ∧ (s.lockInForce = false) ∧ (s.firstWaiting n f = true)) ∧
    (∃ (s : State) (n : Nat) (f : Frame) (l : Nat),
      (s.frame n = some f) ∧ (f.place = .staged l) ∧ (s.portProtect l = true) ∧ (f.egGang = 0) ∧ (s.freeGrainsOf (grainDirKey l true) ≠ 0) ∧ (s.lockInForce = false)) ∧
    (∃ (s : State) (n : Nat) (f : Frame),
      (s.frame n = some f) ∧ (f.src < 1024) ∧ (f.prot = true) ∧ (f.gang ≠ 0) ∧ (f.icv = 0) ∧ (f.ended = 1) ∧ (f.recvIcv = f.calcIcv)) ∧
    (∃ (s : State) (n : Nat) (f : Frame),
      (s.frame n = some f) ∧ (f.src < 1024) ∧ (f.prot = true) ∧ (f.trust = .pending) ∧ (f.icv = 2) ∧ (f.ended = 1) ∧ (s.earlierUncommitted n f = false)) ∧
    (∃ (s : State) (n : Nat) (f : Frame),
      (s.frame n = some f) ∧ (f.src < 1024) ∧ (f.prot = true) ∧ (f.trust = .pending) ∧ (f.icv = 1) ∧ (f.ended = 1) ∧ (s.earlierUncommitted n f = false) ∧ (((s.ctx f.ctx).saOf f.recNo).keyHandle = f.saRec.keyHandle) ∧ (((s.ctx f.ctx).saOf f.recNo).suite = f.saRec.suite) ∧ ((s.ctx f.ctx).rxSci = f.sci) ∧ (replayFails ((s.ctx f.ctx).saOf f.recNo) (nth 0 (s.ctx f.ctx).bitmap f.recNo) f.pn = false)) ∧
    (∃ (s : State) (n : Nat) (f : Frame),
      (s.frame n = some f) ∧ (f.trust = .pass) ∧ (f.known = .pending)) ∧
    (∃ (s : State) (n : Nat) (f : Frame) (l : Nat),
      ((s.lane l).txCur = some n) ∧ (s.frame n = some f) ∧ (f.ended = 1)) ∧
    (∃ (s : State) (n : Nat) (f : Frame) (l : Nat),
      (l < 1024) ∧ (s.portOf l = l) ∧ (s.lnState l = 4) ∧ (s.lnFlag l 9 = false) ∧ (s.lnFlag l 10 = false) ∧ ((s.lane l).txCur = none) ∧ (s.lockInForce = false) ∧ (s.lnCfg l 7 = true) ∧ ((s.growCvl l).lnCfg l 7 = true) ∧ ((s.growCvl l).nextStaged l = some (n, f)) ∧ ((s.growCvl l).cutThrough n f = true) ∧ ((s.growCvl l).portProtect l = false)) :=
  ⟨⟨(laneAt 4 0), 0, List.replicate 60 0, by decide +kernel⟩,
   ⟨((up.setFrame 1 {}).modLane 0 fun l => { l with rxCur := some 1 }).wrn (lnReg 0 0x10) 64, 0, 1, {}, List.replicate 64 0, by decide +kernel⟩,
   ⟨(up.setFrame 1 {}).modLane 0 fun l => { l with rxCur := some 1 }, 0, 1, by decide +kernel⟩,
   ⟨withFrame { place := .waiting }, 1, { place := .waiting }, by decide +kernel⟩,
   ⟨(withFrame { place := .staged 0 }).setFld (scPort 0) 0 0 1, 1, { place := .staged 0 }, 0, by decide +kernel⟩,
   ⟨withFrame icvFrame, 1, icvFrame, by decide +kernel⟩,
   ⟨withFrame { src := 1023, prot := true, icv := 2, ended := 1 }, 1, { src := 1023, prot := true, icv := 2, ended := 1 }, by decide +kernel⟩,
   ⟨withFrame { prot := true, icv := 1, ended := 1, pn := 5 }, 1, { prot := true, icv := 1, ended := 1, pn := 5 }, by decide +kernel⟩,
   ⟨withFrame { trust := .pass }, 1, { trust := .pass }, by decide +kernel⟩,
   ⟨(withFrame { ended := 1 }).modLane 0 fun l => { l with txCur := some 1 }, 1, { ended := 1 }, 0, by decide +kernel⟩,
   ⟨(laneAt 4 0x80).setFrame 1 { src := 1024, known := .pass, place := .staged 0, ended := 1 }, 1, { src := 1024, known := .pass, place := .staged 0, ended := 1 }, 0, by decide +kernel⟩⟩

/-- For every clause of ProtectionCommandsTakeEffect that has hypotheses: a state and operands that meet them. -/
theorem witness_ProtectionCommandsTakeEffect :
    (∃ (s : State) (k : Nat),
      (s.katRuns k = true)) ∧
    (∃ (s : State) (k : Nat),
      (s.katRuns k = true) ∧ ((s.grainDir k).inTest = false)) ∧
    (∃ (s : State) (k : Nat),
      (s.katRuns k = true) ∧ ((s.grainDir k).inTest = true) ∧ ((s.grainDir k).vec < 15)) ∧
    (∃ (s : State) (d : Nat) (v : Reg),
      (s.pageLive (pageNo tSC d) = true) ∧ (s.lockInForce = false) ∧ (s.rotating d = true) ∧ (bitAt v 0 = true) ∧ (getField v 15 8 ≠ 0)) ∧
    (∃ (s : State) (n : Nat),
      (s.pageLive (scPage n) = true) ∧ (s.portOf n = n) ∧ (s.lnState n = 0)) ∧
    (∃ (s : State) (d : Nat) (r : Nat) (i : Nat) (key : KeyVal) (u : State),
      (s.pageLive (pageNo tSC d) = true) ∧ (s.fld (saStatus d) 31 31 = 0) ∧ (r ≤ 5) ∧ ((s.ctx i).valid = true) ∧ ((s.ctx i).port < 1024) ∧ ((s.ctx i).port / 16 = d) ∧ ((s.took (pageNo tSC d)).saCheck d i r (SaRec.decode ((s.took (pageNo tSC d)).saStage d)) = (.ok key, u))) ∧
    (∃ (s : State) (d : Nat) (r : Nat) (i : Nat),
      (s.pageLive (pageNo tSC d) = true) ∧ (s.fld (saStatus d) 31 31 = 0) ∧ (r ≤ 5) ∧ ((s.ctx i).valid = true) ∧ ((s.ctx i).port < 1024) ∧ ((s.ctx i).port / 16 = d)) ∧
    (∃ (s : State) (d : Nat) (e : Nat) (es : List Nat) (lost : Bool),
      (s.pageLive (pageNo tSC d) = true) ∧ (cget {} s.fab.scEvents d = ⟨e :: es, lost⟩)) :=
  ⟨⟨up, 0, by decide +kernel⟩,
   ⟨up.setGrainDir 0 { inTest := false }, 0, by decide +kernel⟩,
   ⟨up.setGrainDir 0 { vec := 14 }, 0, by decide +kernel⟩,
   ⟨up, 0, 0x1401, by decide +kernel⟩,
   ⟨up, 0, by decide +kernel⟩,
   ⟨withSak, 0, 5, 0, sak, (withSak.took (pageNo tSC 0)).resolve 0 1 |>.2, by decide +kernel, by decide +kernel, by decide +kernel, by decide +kernel, by decide +kernel, by decide +kernel, by (try dsimp only); exact okPair (by decide +kernel) (by decide +kernel)⟩,
   ⟨withCtx, 0, 5, 0, by decide +kernel⟩,
   ⟨{ up with fab := { up.fab with scEvents := [(0, ⟨[1, 2], true⟩)] } }, 0, 1, [2], true, by decide +kernel⟩⟩

/-- For every clause of QueueCommandsTakeEffect that has hypotheses: a state and operands that meet them. -/
theorem witness_QueueCommandsTakeEffect :
    (∃ (s : State) (n : Nat) (f : Frame) (p : Nat) (c : Nat),
      ((s.refreshBody n).frame n = some f) ∧ (f.place = .ingress) ∧ (f.src < 1024) ∧ (f.prot = false) ∧ ((s.refreshBody n).framePlynun f = false) ∧ ((s.refreshBody n).toService f = false) ∧ ((s.refreshBody n).route f = .ok (p, c))) ∧
    (∃ (s : State) (o : Nat),
      (s.fab.ftOp = none) ∧ ((s.ftEntry o).port ≤ 1024) ∧ (s.ftCount 0 < 65536)) ∧
    (∃ (s : State) (o : Nat) (x : FtEntry),
      (s.fab.ftOp = none) ∧ (oget s.fab.ft (ftKey 0 (s.ftStaged o)) = some x)) ∧
    (∃ (s : State) (o : Nat) (x : FtEntry),
      (s.fab.ftOp = none) ∧ (oget s.fab.ft (ftKey 0 (s.ftStaged o)) = some x)) ∧
    (∃ (s : State) (c : FtOp),
      (s.fab.ftOp = some c)) ∧
    (∃ (s : State) (q : Nat) (v : Reg),
      (s.pageLive (queuePage q) = true) ∧ (getField v 9 0 ≠ 0)) ∧
    (∃ (s : State) (n : Nat) (v : Reg),
      (s.pageLive (dqPage n) = true) ∧ (getField v 6 5 ≠ 3)) ∧
    (∃ (s : State) (n : Nat) (q : Nat) (f : Frame),
      (s.frame n = some f) ∧ (f.place = .noticed q) ∧ (1024 ≤ queueLane q)) ∧
    (∃ (s : State) (n : Nat) (q : Nat) (f : Frame) (ns : List Nat),
      (s.queue q = n :: ns) ∧ (s.frame n = some f) ∧ (f.tag = none) ∧ (s.portProtect (queueLane q) = false)) ∧
    (∃ (s : State) (n : Nat) (q : Nat) (f : Frame),
      (s.frame n = some f) ∧ (f.ended = 1) ∧ (f.endNoted = false) ∧ (f.fwd = true) ∧ (f.place = .noticed q)) ∧
    (∃ (s : State) (n : Nat) (q : Nat) (f : Frame) (ns : List Nat),
      (s.queue q = n :: ns) ∧ (s.frame n = some f) ∧ (32768 ≤ q) ∧ (s.fld (ra tHI 0 0x108) 15 0 = 0) ∧ (1000000 < s.clk.tim - f.enqT)) :=
  ⟨⟨((withFrame oneFrame).setFld (dqPort 0) 8 8 1), 1, oneFrame, 1024, 0, by decide +kernel, by decide +kernel, by decide +kernel, by decide +kernel, by decide +kernel, by decide +kernel, by (try dsimp only); exact okOf (by decide +kernel)⟩,
   ⟨up, 0, by decide +kernel⟩,
   ⟨{ up with fab := { up.fab with ft := [(0, { port := 3 })] } }, 0, { port := 3 }, by decide +kernel⟩,
   ⟨{ up with fab := { up.fab with ft := [(0, { port := 3 })] } }, 0, { port := 3 }, by decide +kernel⟩,
   ⟨{ up with fab := { up.fab with ftOp := some ⟨1, 0, { port := 3 }⟩ } }, ⟨1, 0, { port := 3 }⟩, by decide +kernel⟩,
   ⟨up, 0, 1, by decide +kernel⟩,
   ⟨up, 0, 0x5F, by decide +kernel⟩,
   ⟨withFrame { src := 1024, known := .pass, place := .noticed 32768 }, 1, 32768, { src := 1024, known := .pass, place := .noticed 32768 }, by decide +kernel⟩,
   ⟨(withFrame { src := 1024, known := .pass, place := .queued 0 }).setQueue 0 [1, 2], 1, 0, { src := 1024, known := .pass, place := .queued 0 }, [2], by decide +kernel⟩,
   ⟨withFrame { src := 1024, known := .pass, place := .noticed 32767, ended := 1, fwd := true }, 1, 32767, { src := 1024, known := .pass, place := .noticed 32767, ended := 1, fwd := true }, by decide +kernel⟩,
   ⟨({ (withFrame { src := 1024, known := .pass, place := .queued 32768 }).setQueue 32768 [1] with clk := { tim := 1000001 } } : State).setFld (ra tHI 0 0x108) 15 0 0, 1, 32768, { src := 1024, known := .pass, place := .queued 32768 }, [], by decide +kernel⟩⟩

/-- For every clause of ArbitersAndLinksTakeEffect that has hypotheses: a state and operands that meet them. -/
theorem witness_ArbitersAndLinksTakeEffect :
    (∃ (s : State) (l : Nat),
      (l < 1024) ∧ ((s.lane l).nominee = none)) ∧
    (∃ (s : State) (l : Nat) (n : Nat) (f : Frame),
      (l < 1024) ∧ ((s.lane l).nominee = some n) ∧ (s.nominable l = [(n, f)])) ∧
    (∃ (s : State) (n : Nat) (a : Nat) (f : Frame),
      (leastTag Frame.pulledQueue (s.pullable a) = some (n, f))) ∧
    (∃ (s : State) (l : Nat) (n : Nat) (a : Nat) (f : Frame),
      (leastTag Frame.pulledQueue (s.pulledAt 3 fun _ f => decide (f.source = a)) = some (n, f)) ∧ (f.place = .pulled l 3) ∧ (1024 ≤ f.src) ∧ (f.ounce = portOunce l)) ∧
    (∃ (s : State) (l : Nat) (n : Nat) (a : Nat) (f : Frame),
      (leastTag Frame.pulledQueue (s.pulledAt 5 fun l _ => decide (l / 16 = a)) = some (n, f)) ∧ (f.place = .pulled l 5)) ∧
    (∃ (s : State) (n : Nat) (a : Nat) (b : Nat) (f : Frame),
      (nth 0 (s.link a b).credits 2 ≠ 0) ∧ (s.linkIsDown a b = false) ∧ (s.linkPick a b = some (n, f)) ∧ (1 < f.linkLeft)) ∧
    (∃ (s : State) (a : Nat) (b : Nat) (ch : Nat),
      (nth 0 (s.link a b).flight ch ≠ 0) ∧ (ch ≠ 2)) ∧
    (∃ (s : State) (a : Nat) (b : Nat) (ch : Nat),
      (nth 0 (s.link a b).buffer ch ≠ 0)) :=
  ⟨⟨up, 0, by decide +kernel⟩,
   ⟨((withFrame { src := 1024, known := .pass, place := .queued 0, tag := some 5 }).setQueue 0 [1]).modLane 0 fun l => { l with nominee := some 1 }, 0, 1, { src := 1024, known := .pass, place := .queued 0, tag := some 5 }, by decide +kernel⟩,
   ⟨((withFrame { src := 1024, known := .pass, place := .queued 0, tag := some 5 }).setQueue 0 [1]).modLane 0 fun l => { l with nominee := some 1 }, 1, 0, { src := 1024, known := .pass, place := .queued 0, tag := some 5 }, by decide +kernel⟩,
   ⟨withFrame { src := 1024, known := .pass, place := .pulled 256 3 }, 256, 1, 64, { src := 1024, known := .pass, place := .pulled 256 3 }, by decide +kernel⟩,
   ⟨withFrame { src := 1024, known := .pass, place := .pulled 16 5 }, 16, 1, 1, { src := 1024, known := .pass, place := .pulled 16 5 }, by decide +kernel⟩,
   ⟨withFrame { src := 1024, known := .pass, place := .pulled 0 4, linkLeft := 2 }, 1, 1, 0, { src := 1024, known := .pass, place := .pulled 0 4, linkLeft := 2 }, by decide +kernel⟩,
   ⟨up.setLink 0 1 { flight := [0, 1, 0] }, 0, 1, 1, by decide +kernel⟩,
   ⟨up.setLink 0 1 { buffer := [0, 0, 1] }, 0, 1, 2, by decide +kernel⟩⟩

/-- For every clause of ControlLaneMessagesTakeEffect that has hypotheses: a state and operands that meet them. -/
theorem witness_ControlLaneMessagesTakeEffect :
    (∃ (s : State) (n : Nat) (ctr : Nat) (pay : List Word) (tag : Word) (type : Nat) (lo : Nat) (hi : Nat),
      (n < 1024) ∧ (s.portOf n = n) ∧ (s.lnCfg n 7 = true) ∧ (s.lnState n = 4) ∧ (lo ≤ pay.length) ∧ (pay.length ≤ hi) ∧ (cvlUntagged type = false) ∧ ((s.lane n).cvlKey ≠ []) ∧ (tag = cvlTag (s.lane n).cvlKey (cvlHeader type pay.length ctr :: pay)) ∧ ((s.lane n).cvlRxCtr < ctr)) ∧
    (∃ (s : State) (n : Nat),
      (n < 1024) ∧ (s.portOf n = n) ∧ (s.lnCfg n 7 = true) ∧ (s.lnState n = 4)) ∧
    (∃ (s : State) (i : Nat),
      ((s.ctx i).valid = true) ∧ ((s.ctx i).quenched = true) ∧ ((s.ctx i).fld 0x40 8 ≠ 0) ∧ ((s.ctx i).fld 0x40 8 ≤ s.clk.tim)) ∧
    (∃ (s : State) (d : Nat) (v : Reg),
      (s.pageLive (pageNo tDQ d) = true) ∧ (getField v 10 8 = 0) ∧ ((s.lane (16 * d + getField v 3 0)).cvlUsed + 2 ≤ 256)) ∧
    (∃ (s : State) (d : Nat) (v : Reg) (len : Nat),
      (s.pageLive (pageNo tDQ d) = true) ∧ (len = s.cvlTxData d 1 % 2 ^ 14) ∧ (60 ≤ len) ∧ (len ≤ 16124) ∧ (s.lnCfg (16 * d + getField v 3 0) 7 = false) ∧ (s.busMaster = true) ∧ (s.st.pcieReset = false) ∧ (s.fenceFail 261 clsDma accR (s.cvlTxData d 0) len = none) ∧ ((s.lane (16 * d + getField v 3 0)).cvlUsed < 256)) ∧
    (∃ (s : State) (n : Nat),
      (s.pageLive (dqPage n) = true) ∧ (s.lockInForce = false)) ∧
    (∃ (s : State) (d : Nat) (e : CvlEntry) (rest : List CvlEntry) (lost : Bool),
      (s.pageLive (pageNo tDQ d) = true) ∧ (cget {} s.fab.cvlRx d = ⟨e :: rest, lost⟩)) :=
  ⟨⟨(laneAt 4 0x80).modLane 0 fun l => { l with cvlKey := List.replicate 16 0 }, 0, 1, [], cvlTag (List.replicate 16 0) (cvlHeader 1 0 1 :: []), 1, 0, 1, by decide +kernel⟩,
   ⟨laneAt 4 0x80, 0, by decide +kernel⟩,
   ⟨{ (withCtx.modCtx 0 fun c => { c with hdr := spliceBytes (spliceBytes c.hdr 0 [0x11]) 0x40 [5] }) with clk := { tim := 5 } }, 0, by decide +kernel⟩,
   ⟨up.modLane 0 fun l => { l with cvlFrames := List.replicate 254 [] }, 0, 0, by decide +kernel⟩,
   ⟨({ open_.modLane 0 (fun l => { l with cvlFrames := List.replicate 255 [] }) with st := {} } : State).wr64 (ra tDQ 0 0x2D0) 60 |>.setFld (ra tHI 0 0x100) 9 9 1 |>.setFld (lnReg 0 0) 7 7 0, 0, 0, 60, by decide +kernel⟩,
   ⟨up, 0, by decide +kernel⟩,
   ⟨{ up with fab := { up.fab with cvlRx := [(0, ⟨[{ lane := 1 }, {}], true⟩)] } }, 0, { lane := 1 }, [{}], true, by decide +kernel⟩⟩

/-- For every clause of VerdictPipelineTakesEffect that has hypotheses: a state and operands that meet them. -/
theorem witness_VerdictPipelineTakesEffect :
    (∃ (s : State) (n : Nat) (o : Nat) (f : Frame),
      ((s.refreshBody n).frame n = some f) ∧ (f.place = .parsing o) ∧ (f.envOk = false) ∧ (14 ≤ f.body.length) ∧ ((s.refreshBody n).envelopeBad o f = false)) ∧
    (∃ (s : State) (o : Nat),
      ((s.rd64 (ozReg o 0x828)).testBit (s.diaSel o).1 = false)) ∧
    (∃ (s : State) (n : Nat) (o : Nat) (f : Frame) (m : VMsg) (st : Nat) (u : State),
      ((s.refreshBody n).frame n = some f) ∧ (f.place = .parsing o) ∧ (f.envOk = true) ∧ (f.ended = 1) ∧ (f.trust = .pass) ∧ ((s.refreshBody n).asStandby = false) ∧ ((s.refreshBody n).envelopeBad o f = false) ∧ ((s.refreshBody n).messageOf o n f = (m, st)) ∧ ((s.refreshBody n).placeMessage m st = (true, u))) ∧
    (∃ (s : State) (v : Nat) (x : Verdict),
      (s.verdict v = some x) ∧ (x.filled = false)) ∧
    (∃ (s : State) (v : Nat) (x : Verdict),
      (s.verdict v = some x) ∧ (x.trust = .pass) ∧ (x.held ≠ [])) ∧
    (∃ (s : State) (v : Nat) (x : Verdict) (r : Resp),
      (s.verdict v = some x) ∧ (x.resp = some r) ∧ (s.respTmo (coreOunce x.core) < s.clk.ns - r.at_)) ∧
    (∃ (s : State) (i : Nat) (e : FwdEntry),
      (oget s.vp.fwd i = some e) ∧ (s.respTmo 2 < s.clk.ns - e.at_)) ∧
    (∃ (s : State) (o : Nat),
      (s.vpOn o = false)) ∧
    (∃ (s : State) (piece : List Byte) (u : State) (b : List Byte) (u2 : State),
      (s.takeFwd 0 = some ((piece, true), u)) ∧ (u.fwdJoin 0 piece true = (some b, u2)) ∧ (u2.twActive = true) ∧ (beAt b 1 1 = 1)) ∧
    (∃ (s : State) (piece : List Byte) (u : State) (b : List Byte) (u2 : State) (e : FwdEntry),
      (s.takeFwd 1 = some ((piece, true), u)) ∧ (u.fwdJoin 1 piece true = (some b, u2)) ∧ (oget u2.vp.fwd (beAt b 12 4) = some e)) :=
  ⟨⟨vmState.setFrame 1 { vmFrame with envOk := false }, 1, 0, { vmFrame with envOk := false }, by decide +kernel⟩,
   ⟨vmState, 0, by decide +kernel⟩,
   ⟨vmState, 1, 0, vmFrame, ((vmState.refreshBody 1).messageOf 0 1 vmFrame).1, ((vmState.refreshBody 1).messageOf 0 1 vmFrame).2, ((vmState.refreshBody 1).placeMessage ((vmState.refreshBody 1).messageOf 0 1 vmFrame).1 ((vmState.refreshBody 1).messageOf 0 1 vmFrame).2).2, by decide +kernel⟩,
   ⟨{ up with vp := { up.vp with verdicts := [(3, {})] } }, 3, {}, by decide +kernel⟩,
   ⟨{ up with vp := { up.vp with verdicts := [(3, { trust := .pass, held := [.append []] })] } }, 3, { trust := .pass, held := [.append []] }, by decide +kernel⟩,
   ⟨{ up with clk := { ns := 10000001 }, vp := { up.vp with verdicts := [(3, { resp := some {} })] } }, 3, { resp := some {} }, {}, by decide +kernel⟩,
   ⟨{ up with clk := { ns := 10000001 }, vp := { up.vp with fwd := [(5, {})] } }, 5, {}, by decide +kernel⟩,
   ⟨up, 0, by decide +kernel⟩,
   ⟨fwdIn 0, fwdBytes 0, restOf up ((fwdIn 0).takeFwd 0), fwdBytes 0, ((restOf up ((fwdIn 0).takeFwd 0)).fwdJoin 0 (fwdBytes 0) true).2, by decide +kernel⟩,
   ⟨fwdIn 1, fwdBytes 1, restOf up ((fwdIn 1).takeFwd 1), fwdBytes 1, ((restOf up ((fwdIn 1).takeFwd 1)).fwdJoin 1 (fwdBytes 1) true).2, {}, by decide +kernel⟩⟩

/-- For every clause of LinkFramesTakeEffect that has hypotheses: a state and operands that meet them. -/
theorem witness_LinkFramesTakeEffect :
    (∃ (s : State) (n : Nat) (b : List Byte),
      (s.lnState n = 4) ∧ (linkOfLane n ≠ 0) ∧ (beAt (b.take 8) 0 1 = 0x20) ∧ (b.length = 16 + beAt (b.take 8) 2 2) ∧ (beAt (b.take 8) 2 2 ≤ 4096) ∧ (beAt (b.take 8) 2 2 % 8 = 0)) ∧
    (∃ (s : State) (i : Nat) (seq : Nat) (pay : List Byte) (u : State) (ty : Nat) (fl : Nat),
      (s.linkTake i [0x10] = some ((ty, fl, seq, pay), u)) ∧ (seq ≠ (u.nlink i).txSeq) ∧ ((u.nlink i).replay.any (·.1 = seq) = true)) ∧
    (∃ (s : State) (seq : Nat) (pay : List Byte) (u : State) (ty : Nat) (fl : Nat),
      (s.linkTake 0 [0x12] = some ((ty, fl, seq, pay), u))) ∧
    (∃ (s : State) (seq : Nat),
      (s.twinUp ≠ 0) ∧ ((s.nlink 0).resend = some seq)) ∧
    (∃ (s : State),
      (s.twinUp ≠ 0) ∧ ((s.nlink 0).resend = none)) :=
  ⟨⟨up.setLnState 1032 4, 1032, [0x20, 0, 0, 0, 0, 0, 0, 0] ++ List.replicate 8 0, by decide +kernel⟩,
   ⟨{ up with cr := { up.cr with lanes := [(0, { link := { inbox := [(0x10, 0, 7, [])], replay := [(7, [])] } })] } }, 1, 7, [], restOf up (State.linkTake { up with cr := { up.cr with lanes := [(0, { link := { inbox := [(0x10, 0, 7, [])], replay := [(7, [])] } })] } } 1 [0x10]), 0x10, 0, by decide +kernel⟩,
   ⟨inTwin (0x12, 0, 7, []), 7, [], restOf up ((inTwin (0x12, 0, 7, [])).linkTake 0 [0x12]), 0x12, 0, by decide +kernel⟩,
   ⟨({ up with jn := { up.jn with link := { resend := some 7 } } } : State).setLnState 1024 4, 7, by decide +kernel⟩,
   ⟨up.setLnState 1024 4, by decide +kernel⟩⟩

/-- For every clause of KeyEngineOperationsCompute that has hypotheses: a state and operands that meet them. -/
theorem witness_KeyEngineOperationsCompute :
    (∃ (s : State) (o : Nat) (e : Nat) (x : KRun) (k1 : KeyVal) (k2 : KeyVal) (pin : List Nat),
      (s.engRun o e = some x) ∧ (x.computed = false) ∧ (nth {} x.keys 0 = k1) ∧ (nth {} x.keys 1 = k2) ∧ (x.r.fn = 0x10) ∧ (x.r.f 0x21 1 = 0) ∧ (pinDecode (x.r.f 0x20 1) k1.key (x.r.b 0x30 16) x.r.pan = some pin)) ∧
    (∃ (s : State) (o : Nat) (e : Nat) (x : KRun) (k1 : KeyVal) (k2 : KeyVal),
      (s.engRun o e = some x) ∧ (x.computed = false) ∧ (nth {} x.keys 0 = k1) ∧ (nth {} x.keys 1 = k2) ∧ (x.r.fn = 0x20)) ∧
    (∃ (s : State) (o : Nat) (e : Nat) (x : KRun) (k1 : KeyVal) (k2 : KeyVal),
      (s.engRun o e = some x) ∧ (x.computed = false) ∧ (nth {} x.keys 0 = k1) ∧ (nth {} x.keys 1 = k2) ∧ (x.r.fn = 0x21)) ∧
    (∃ (s : State) (o : Nat) (e : Nat) (x : KRun) (k1 : KeyVal) (k2 : KeyVal),
      (s.engRun o e = some x) ∧ (x.computed = false) ∧ (nth {} x.keys 0 = k1) ∧ (nth {} x.keys 1 = k2) ∧ (x.r.fn = 0x30)) ∧
    (∃ (s : State) (o : Nat) (e : Nat) (x : KRun) (k1 : KeyVal) (k2 : KeyVal),
      (s.engRun o e = some x) ∧ (x.computed = false) ∧ (nth {} x.keys 0 = k1) ∧ (nth {} x.keys 1 = k2) ∧ (x.r.fn = 0x40)) ∧
    (∃ (s : State) (o : Nat) (e : Nat) (x : KRun) (k1 : KeyVal) (k2 : KeyVal),
      (s.engRun o e = some x) ∧ (x.computed = false) ∧ (nth {} x.keys 0 = k1) ∧ (nth {} x.keys 1 = k2) ∧ (x.r.fn = 0x50)) ∧
    (∃ (s : State) (o : Nat) (e : Nat) (x : KRun) (k1 : KeyVal) (k2 : KeyVal),
      (s.engRun o e = some x) ∧ (x.computed = false) ∧ (nth {} x.keys 0 = k1) ∧ (nth {} x.keys 1 = k2) ∧ (x.r.fn = 0x51)) ∧
    (∃ (s : State) (o : Nat) (e : Nat) (x : KRun) (k1 : KeyVal) (k2 : KeyVal) (h : KbHead) (key : List Byte),
      (s.engRun o e = some x) ∧ (x.computed = false) ∧ (nth {} x.keys 0 = k1) ∧ (nth {} x.keys 1 = k2) ∧ (x.r.fn = 0x60) ∧ (kbHeader (if attrAlg k1.attr = 0x41 then 0x44 else 0x42) (x.r.f 0x20 2) (s.importText x.r) = some h) ∧ (kbOpen k1.key (s.importText x.r) h = some key) ∧ ((nth 0 h.attr 2).toNat ≠ 0x48)) ∧
    (∃ (s : State) (o : Nat) (e : Nat) (x : KRun) (k1 : KeyVal) (k2 : KeyVal) (rnd : List Byte) (u : State),
      (s.engRun o e = some x) ∧ (x.computed = false) ∧ (nth {} x.keys 0 = k1) ∧ (nth {} x.keys 1 = k2) ∧ (x.r.fn = 0x61) ∧ (s.engRandom o 2 64 = some (rnd, u)) ∧ (u.engRun o e = some x)) :=
  ⟨⟨up.setEngRun 0 0 pinRun, 0, 0, pinRun, { key := List.replicate 16 1 }, {}, [1, 2, 3, 4], by decide +kernel⟩,
   ⟨up.setEngRun 0 0 (keyRun 0x20 []), 0, 0, keyRun 0x20 [], {}, {}, by decide +kernel⟩,
   ⟨up.setEngRun 0 0 (keyRun 0x21 []), 0, 0, keyRun 0x21 [], {}, {}, by decide +kernel⟩,
   ⟨up.setEngRun 0 0 (keyRun 0x30 []), 0, 0, keyRun 0x30 [], {}, {}, by decide +kernel⟩,
   ⟨up.setEngRun 0 0 (keyRun 0x40 []), 0, 0, keyRun 0x40 [], {}, {}, by decide +kernel⟩,
   ⟨up.setEngRun 0 0 (keyRun 0x50 []), 0, 0, keyRun 0x50 [], {}, {}, by decide +kernel⟩,
   ⟨up.setEngRun 0 0 (keyRun 0x51 []), 0, 0, keyRun 0x51 [], {}, {}, by decide +kernel⟩,
   ⟨(up.setBytes (spData 0) keyBlock).setEngRun 0 0 importRun, 0, 0, importRun, kbpk, {}, { len := 16, opts := [], attr := [0x50, 0x30, 0x41, 0x45, 0x30, 0x30, 0x53, 0x30] }, List.replicate 16 2, by decide +kernel⟩,
   ⟨exportState, 0, 0, keyRun 0x61 [], {}, {}, (match exportState.engRandom 0 2 64 with | some p => p.1 | none => []), restOf up (exportState.engRandom 0 2 64), by decide +kernel, by decide +kernel, by decide +kernel, by decide +kernel, by decide +kernel, rfl, by decide +kernel⟩⟩

/-- For every clause of KeyEngineCommandsTakeEffect that has hypotheses: a state and operands that meet them. -/
theorem witness_KeyEngineCommandsTakeEffect :
    (∃ (s : State) (o : Nat) (e : Nat) (r : KReq) (ks : List KeyVal) (u : State),
      (firstReady ((s.pay.run.filter fun e => e.1 / 16 = o).map (·.2.r)) [] (cget [] s.pay.queue o) = some r) ∧ (s.keyHold = false) ∧ (s.domOn (68 + o) = true) ∧ (s.fld (kvReg o 0xC08) 15 0 ≠ 0xFFFF) ∧ ((List.range 16).find? (fun e => s.engFree o e) = some e) ∧ (({ s with pay := { s.pay with queue := cput [] ((cget [] s.pay.queue o).filter (· != r)) o s.pay.queue } } : State).startChecks r = (.ok ks, u))) ∧
    (∃ (s : State) (o : Nat) (e : Nat) (x : KRun),
      (s.engRun o e = some x) ∧ (x.computed = true) ∧ (x.out = none)) ∧
    (∃ (s : State) (o : Nat) (e : Nat),
      (s.engFree o e = true) ∧ (s.domOn (68 + o) = true)) ∧
    (∃ (s : State) (o : Nat) (v : Reg),
      (s.pageLive (kvPage o) = true) ∧ (s.lockInForce = false) ∧ (4 ≤ getField v 15 12)) :=
  ⟨⟨macState, 0, 0, macReq, [macKey], (State.startChecks { macState with pay := { macState.pay with queue := [] } } macReq).2, by decide +kernel, by decide +kernel, by decide +kernel, by decide +kernel, by decide +kernel, by (try dsimp only); exact okPair (by decide +kernel) (by decide +kernel)⟩,
   ⟨up.setEngRun 0 15 { computed := true }, 0, 15, { computed := true }, by decide +kernel⟩,
   ⟨up, 0, 15, by decide +kernel⟩,
   ⟨up, 0, 0xF007, by decide +kernel⟩⟩

/-- For every clause of IntegerArithmeticComputesItsResult that has hypotheses: a state and operands that meet them. -/
theorem witness_IntegerArithmeticComputesItsResult :
    (∃ (s : State) (c : Nat),
      (s.ready c = true)) ∧
    (∃ (s : State) (c : Nat),
      (s.ready c = true)) ∧
    (∃ (s : State) (c : Nat),
      (s.ready c = true)) ∧
    (∃ (s : State) (c : Nat),
      (s.ready c = true)) ∧
    (∃ (s : State) (c : Nat),
      (s.ready c = true)) ∧
    (∃ (s : State) (c : Nat),
      (s.ready c = true)) ∧
    (∃ (s : State) (c : Nat),
      (s.ready c = true)) ∧
    (∃ (s : State) (c : Nat),
      (s.ready c = true)) ∧
    (∃ (s : State) (c : Nat) (ra : BitVec 5) (rb : BitVec 5) (w : Bool),
      let a := (s.core c).rv ra;
      let b := (s.core c).rv rb;
      let p := a.setWidth 32;
      let q := b.setWidth 32;
      (s.ready c = true) ∧ (b ≠ 0) ∧ ((w = true → q ≠ 0)) ∧ ((if w then p.sdivOverflow q else a.sdivOverflow b) = false)) ∧
    (∃ (s : State) (c : Nat) (ra : BitVec 5) (rb : BitVec 5) (w : Bool),
      let a := (s.core c).rv ra;
      let b := (s.core c).rv rb;
      let p := a.setWidth 32;
      let q := b.setWidth 32;
      (s.ready c = true) ∧ ((if w then p.sdivOverflow q else a.sdivOverflow b) = true)) ∧
    (∃ (s : State) (c : Nat) (rb : BitVec 5) (w : Bool),
      let b := (s.core c).rv rb;
      let q := b.setWidth 32;
      (s.ready c = true) ∧ (b ≠ 0) ∧ ((w = true → q ≠ 0))) ∧
    (∃ (s : State) (c : Nat) (rb : BitVec 5) (w : Bool),
      let b := (s.core c).rv rb;
      let q := b.setWidth 32;
      (s.ready c = true) ∧ ((if w then q = 0 else b = 0))) ∧
    (∃ (s : State) (c : Nat),
      (s.ready c = true)) ∧
    (∃ (s : State) (c : Nat),
      (s.ready c = true)) ∧
    (∃ (s : State) (c : Nat), s.ready c = true ∧ s.untrapped c true false = true) ∧
    (∃ (s : State) (c : Nat), s.ready c = true ∧ s.untrapped c false true = true) ∧
    (∃ (s : State) (c : Nat), s.ready c = true ∧ s.untrapped c false false = true) ∧
    (∃ (s : State) (c : Nat), s.ready c = true ∧ s.untrapped c true false = false) ∧
    (∃ (s : State) (c : Nat), s.ready c = true ∧ s.untrapped c false true = false) :=
  ⟨⟨coreUp, 0, by decide +kernel⟩,
   ⟨coreUp, 0, by decide +kernel⟩,
   ⟨coreUp, 0, by decide +kernel⟩,
   ⟨coreUp, 0, by decide +kernel⟩,
   ⟨coreUp, 0, by decide +kernel⟩,
   ⟨coreUp, 0, by decide +kernel⟩,
   ⟨coreUp, 0, by decide +kernel⟩,
   ⟨coreUp, 0, by decide +kernel⟩,
   ⟨coreReg 2 1, 0, 1, 2, false, by (try dsimp only); all_goals decide +kernel⟩,
   ⟨coreRegs 1 (BitVec.intMin 64) 2 (BitVec.allOnes 64), 0, 1, 2, false, by (try dsimp only); all_goals decide +kernel⟩,
   ⟨coreReg 2 1, 0, 2, false, by (try dsimp only); all_goals decide +kernel⟩,
   ⟨coreUp, 0, 2, false, by (try dsimp only); all_goals decide +kernel⟩,
   ⟨coreUp, 0, by decide +kernel⟩,
   ⟨coreUp, 0, by decide +kernel⟩,
   ⟨coreUp, 0, by decide +kernel⟩,
   ⟨(coreWith fun x => { x with tdz := List.replicate 4 false }), 0, by decide +kernel⟩,
   ⟨coreUp, 0, by decide +kernel⟩,
   ⟨(coreWith fun x => { x with tov := List.replicate 4 true }), 0, by decide +kernel⟩,
   ⟨coreUp, 0, by decide +kernel⟩⟩

/-- For every clause of LogicShiftsAndBitCountsCompute that has hypotheses: a state and operands that meet them. -/
theorem witness_LogicShiftsAndBitCountsCompute :
    (∃ (s : State) (c : Nat),
      (s.ready c = true)) ∧
    (∃ (s : State) (c : Nat),
      (s.ready c = true)) ∧
    (∃ (s : State) (c : Nat),
      (s.ready c = true)) ∧
    (∃ (s : State) (c : Nat),
      (s.ready c = true)) ∧
    (∃ (s : State) (c : Nat),
      (s.ready c = true)) ∧
    (∃ (s : State) (c : Nat),
      (s.ready c = true)) ∧
    (∃ (s : State) (c : Nat),
      (s.ready c = true)) ∧
    (∃ (s : State) (c : Nat),
      (s.ready c = true)) ∧
    (∃ (s : State) (c : Nat),
      (s.ready c = true)) ∧
    (∃ (s : State) (c : Nat),
      (s.ready c = true)) ∧
    (∃ (s : State) (c : Nat),
      (s.ready c = true)) ∧
    (∃ (s : State) (c : Nat),
      (s.ready c = true)) ∧
    (∃ (s : State) (c : Nat),
      (s.ready c = true)) ∧
    (∃ (s : State) (c : Nat),
      (s.ready c = true)) ∧
    (∃ (s : State) (c : Nat),
      (s.ready c = true)) ∧
    (∃ (s : State) (c : Nat),
      (s.ready c = true)) ∧
    (∃ (s : State) (c : Nat),
      (s.ready c = true)) ∧
    (∃ (s : State) (c : Nat),
      (s.ready c = true)) ∧
    (∃ (s : State) (c : Nat),
      (s.ready c = true)) ∧
    (∃ (s : State) (c : Nat) (rb : BitVec 5),
      let b := (s.core c).rv rb;
      (s.ready c = true) ∧ (b = 0)) ∧
    (∃ (s : State) (c : Nat) (rb : BitVec 5),
      let b := (s.core c).rv rb;
      (s.ready c = true) ∧ (b ≠ 0)) :=
  ⟨⟨coreUp, 0, by decide +kernel⟩,
   ⟨coreUp, 0, by decide +kernel⟩,
   ⟨coreUp, 0, by decide +kernel⟩,
   ⟨coreUp, 0, by decide +kernel⟩,
   ⟨coreUp, 0, by decide +kernel⟩,
   ⟨coreUp, 0, by decide +kernel⟩,
   ⟨coreUp, 0, by decide +kernel⟩,
   ⟨coreUp, 0, by decide +kernel⟩,
   ⟨coreUp, 0, by decide +kernel⟩,
   ⟨coreUp, 0, by decide +kernel⟩,
   ⟨coreUp, 0, by decide +kernel⟩,
   ⟨coreUp, 0, by decide +kernel⟩,
   ⟨coreUp, 0, by decide +kernel⟩,
   ⟨coreUp, 0, by decide +kernel⟩,
   ⟨coreUp, 0, by decide +kernel⟩,
   ⟨coreUp, 0, by decide +kernel⟩,
   ⟨coreUp, 0, by decide +kernel⟩,
   ⟨coreUp, 0, by decide +kernel⟩,
   ⟨coreUp, 0, by decide +kernel⟩,
   ⟨coreUp, 0, 2, by (try dsimp only); all_goals decide +kernel⟩,
   ⟨coreReg 2 1, 0, 2, by (try dsimp only); all_goals decide +kernel⟩⟩

/-- For every clause of ImmediateOperationsCompute that has hypotheses: a state and operands that meet them. -/
theorem witness_ImmediateOperationsCompute :
    (∃ (s : State) (c : Nat),
      (s.ready c = true)) ∧
    (∃ (s : State) (c : Nat),
      (s.ready c = true)) ∧
    (∃ (s : State) (c : Nat),
      (s.ready c = true)) ∧
    (∃ (s : State) (c : Nat),
      (s.ready c = true)) ∧
    (∃ (s : State) (c : Nat),
      (s.ready c = true)) ∧
    (∃ (s : State) (c : Nat),
      (s.ready c = true)) ∧
    (∃ (s : State) (c : Nat),
      (s.ready c = true)) ∧
    (∃ (s : State) (c : Nat),
      (s.ready c = true)) ∧
    (∃ (s : State) (c : Nat),
      (s.ready c = true)) ∧
    (∃ (s : State) (c : Nat),
      (s.ready c = true)) ∧
    (∃ (s : State) (c : Nat),
      (s.ready c = true)) ∧
    (∃ (s : State) (c : Nat),
      (s.ready c = true)) :=
  ⟨⟨coreUp, 0, by decide +kernel⟩,
   ⟨coreUp, 0, by decide +kernel⟩,
   ⟨coreUp, 0, by decide +kernel⟩,
   ⟨coreUp, 0, by decide +kernel⟩,
   ⟨coreUp, 0, by decide +kernel⟩,
   ⟨coreUp, 0, by decide +kernel⟩,
   ⟨coreUp, 0, by decide +kernel⟩,
   ⟨coreUp, 0, by decide +kernel⟩,
   ⟨coreUp, 0, by decide +kernel⟩,
   ⟨coreUp, 0, by decide +kernel⟩,
   ⟨coreUp, 0, by decide +kernel⟩,
   ⟨coreUp, 0, by decide +kernel⟩⟩

/-- For every clause of CoreMemoryOperationsTakeEffect that has hypotheses: a state and operands that meet them. -/
theorem witness_CoreMemoryOperationsTakeEffect :
    (∃ (s : State) (c : Nat) (ra : BitVec 5) (sub : BitVec 4) (off : BitVec 12),
      let x := s.core c;
      let size := [1, 1, 2, 2, 4, 4, 8].getD sub.toNat 8;
      let a := (x.rv ra + off.signExtend 64).toNat;
      (s.ready c = true) ∧ (sub.toNat ≤ 6) ∧ (a % size = 0) ∧ (areaOf a size ≠ .none) ∧ (s.coreFence c (clsRing x.ring) accR a size = none)) ∧
    (∃ (s : State) (c : Nat) (ra : BitVec 5) (sub : BitVec 4) (off : BitVec 12),
      let x := s.core c;
      let size := [1, 1, 2, 2, 4, 4, 8].getD sub.toNat 8;
      let a := (x.rv ra + off.signExtend 64).toNat;
      (s.ready c = true) ∧ (sub.toNat ≤ 6) ∧ (sub.toNat % 2 = 0) ∧ (a % size = 0) ∧ (a + size ≤ 0x40000) ∧ (s.fenceFail c (clsRing x.ring) accW a size = none)) ∧
    (∃ (s : State) (c : Nat) (ra : BitVec 5) (sub : BitVec 4) (off : BitVec 12),
      let x := s.core c;
      let size := [1, 1, 2, 2, 4, 4, 8].getD sub.toNat 8;
      let a := (x.rv ra + off.signExtend 64).toNat;
      (s.ready c = true) ∧ (sub.toNat ≤ 6) ∧ (sub.toNat % 2 = 0) ∧ (a % size = 0) ∧ (0x1000000 ≤ a) ∧ (a + size ≤ 0x2000000) ∧ (x.sbuf.length < 8)) ∧
    (∃ (s : State) (c : Nat) (ra : BitVec 5) (sub : BitVec 4) (off : BitVec 12),
      let x := s.core c;
      let size := [1, 1, 2, 2, 4, 4, 8].getD sub.toNat 8;
      let a := (x.rv ra + off.signExtend 64).toNat;
      (s.ready c = true) ∧ (sub.toNat ≤ 6) ∧ (a % size ≠ 0)) ∧
    (∃ (s : State) (c : Nat) (p : Nat) (bs : List Byte) (r : Nat) (rest : List (Nat × List Byte × Nat)),
      let x := s.core c;
      (s.lockInForce = false) ∧ (x.sbuf = (p, bs, r) :: rest) ∧ (inMailbox (p - 0x1000000) = false) ∧ ((p - 0x1000000 < 0x97F000 ∨ 0x97F048 ≤ p - 0x1000000)) ∧ (s.fenceFail (256 + c / 32) (clsRing r) accW (p - 0x1000000) bs.length = none)) ∧
    (∃ (s : State) (c : Nat) (p : Nat) (k : Nat),
      let x := s.core c;
      (s.coreRuns c = true) ∧ (x.late = some (p, k)) ∧ (x.ds = none) ∧ (x.exl = false) ∧ (x.dxl = false) ∧ (x.sbuf = [])) ∧
    (∃ (s : State) (c : Nat) (rd : BitVec 5) (ra : BitVec 5),
      let x := s.core c;
      let u := s.drain c;
      let m := (x.rv ra).toNat;
      let cell := spCluster (c / 32) + (m - 0x1000000);
      let old := BitVec.ofNat 64 (u.leAt cell 8);
      let atomic : Prop := s.ready c = true ∧ s.drains c = true ∧ m % 8 = 0 ∧ 0x1000000 ≤ m ∧ m + 8 ≤ 0x2000000 ∧ inMailbox (m - 0x1000000) = false ∧ ∀ i < 8, u.fenceByte (256 + c / 32) (clsRing (u.core c).ring) accR (m - 0x1000000 + i) = true ∧ u.fenceByte (256 + c / 32) (clsRing (u.core c).ring) accW (m - 0x1000000 + i) = true;
      (atomic) ∧ (old = x.rv rd)) ∧
    (∃ (s : State) (c : Nat) (rd : BitVec 5) (ra : BitVec 5),
      let x := s.core c;
      let u := s.drain c;
      let m := (x.rv ra).toNat;
      let cell := spCluster (c / 32) + (m - 0x1000000);
      let old := BitVec.ofNat 64 (u.leAt cell 8);
      let atomic : Prop := s.ready c = true ∧ s.drains c = true ∧ m % 8 = 0 ∧ 0x1000000 ≤ m ∧ m + 8 ≤ 0x2000000 ∧ inMailbox (m - 0x1000000) = false ∧ ∀ i < 8, u.fenceByte (256 + c / 32) (clsRing (u.core c).ring) accR (m - 0x1000000 + i) = true ∧ u.fenceByte (256 + c / 32) (clsRing (u.core c).ring) accW (m - 0x1000000 + i) = true;
      (atomic) ∧ (old ≠ x.rv rd)) ∧
    (∃ (s : State) (c : Nat) (ra : BitVec 5),
      let x := s.core c;
      let u := s.drain c;
      let m := (x.rv ra).toNat;
      let atomic : Prop := s.ready c = true ∧ s.drains c = true ∧ m % 8 = 0 ∧ 0x1000000 ≤ m ∧ m + 8 ≤ 0x2000000 ∧ inMailbox (m - 0x1000000) = false ∧ ∀ i < 8, u.fenceByte (256 + c / 32) (clsRing (u.core c).ring) accR (m - 0x1000000 + i) = true ∧ u.fenceByte (256 + c / 32) (clsRing (u.core c).ring) accW (m - 0x1000000 + i) = true;
      (atomic)) ∧
    (∃ (s : State) (c : Nat) (ra : BitVec 5),
      let x := s.core c;
      let u := s.drain c;
      let m := (x.rv ra).toNat;
      let atomic : Prop := s.ready c = true ∧ s.drains c = true ∧ m % 8 = 0 ∧ 0x1000000 ≤ m ∧ m + 8 ≤ 0x2000000 ∧ inMailbox (m - 0x1000000) = false ∧ ∀ i < 8, u.fenceByte (256 + c / 32) (clsRing (u.core c).ring) accR (m - 0x1000000 + i) = true ∧ u.fenceByte (256 + c / 32) (clsRing (u.core c).ring) accW (m - 0x1000000 + i) = true;
      (atomic)) ∧
    (∃ (s : State) (c : Nat),
      (s.ready c = true) ∧ (s.drains c = true)) ∧
    (∃ (s : State) (c : Nat),
      (s.ready c = true)) :=
  ⟨⟨(coreReg 1 0x3FFF8).setBytes (spData 0 + 0x3FFF8) [1], 0, 1, 6, 0, by (try dsimp only); all_goals decide +kernel⟩,
   ⟨coreReg 1 0x3FFF8, 0, 1, 6, 0, by (try dsimp only); all_goals decide +kernel⟩,
   ⟨(coreRegs 1 0x1FFFFF8 2 5).modCore 0 fun x => { x with sbuf := List.replicate 7 (0x1000000, [0], 0) }, 0, 1, 6, 0, by (try dsimp only); all_goals decide +kernel⟩,
   ⟨coreReg 1 0x3FFF9, 0, 1, 6, 0, by (try dsimp only); all_goals decide +kernel⟩,
   ⟨coreWith fun x => { x with sbuf := [(0x1000000, [1, 2], 3)] }, 0, 0x1000000, [1, 2], 3, [], by (try dsimp only); all_goals decide +kernel⟩,
   ⟨coreWith fun x => { x with late := some (0x1000000, 1) }, 0, 0x1000000, 1, by (try dsimp only); all_goals decide +kernel⟩,
   ⟨coreReg 1 0x1000000, 0, 3, 1, by (try dsimp only); all_goals decide +kernel⟩,
   ⟨coreRegs 1 0x1FFFFF8 3 5, 0, 3, 1, by (try dsimp only); all_goals decide +kernel⟩,
   ⟨coreReg 1 0x1FFFFF8, 0, 1, by (try dsimp only); all_goals decide +kernel⟩,
   ⟨coreReg 1 0x1000000, 0, 1, by (try dsimp only); all_goals decide +kernel⟩,
   ⟨coreUp, 0, by decide +kernel⟩,
   ⟨coreUp, 0, by decide +kernel⟩⟩

/-- For every clause of ControlTransfersTakeEffect that has hypotheses: a state and operands that meet them. -/
theorem witness_ControlTransfersTakeEffect :
    (∃ (s : State) (c : Nat),
      (s.ready c = true) ∧ ((s.core c).ds = none)) ∧
    (∃ (s : State) (c : Nat),
      (s.ready c = true) ∧ ((s.core c).ds = none)) ∧
    (∃ (s : State) (c : Nat),
      (s.ready c = true) ∧ ((s.core c).ds = none)) ∧
    (∃ (s : State) (c : Nat),
      (s.ready c = true) ∧ ((s.core c).ds = none)) ∧
    (∃ (s : State) (c : Nat),
      (s.ready c = true) ∧ ((s.core c).ds = none)) ∧
    (∃ (s : State) (c : Nat),
      (s.ready c = true) ∧ ((s.core c).ds = none)) ∧
    (∃ (s : State) (c : Nat),
      (s.ready c = true) ∧ ((s.core c).ds = none)) ∧
    (∃ (s : State) (c : Nat),
      (s.ready c = true) ∧ ((s.core c).ds = none)) ∧
    (∃ (s : State) (c : Nat) (ra : BitVec 5),
      let x := s.core c;
      let a := x.rv ra;
      (s.ready c = true) ∧ ((s.core c).ds = none) ∧ (a.toNat % 4 = 0)) ∧
    (∃ (s : State) (c : Nat) (ra : BitVec 5),
      let x := s.core c;
      let a := x.rv ra;
      (s.ready c = true) ∧ ((s.core c).ds = none) ∧ (a.toNat % 4 ≠ 0)) ∧
    (∃ (s : State) (c : Nat) (imm : BitVec 16) (w : List Nat) (t : Nat) (f : Nat),
      let x := s.core c;
      let u := s.drain c;
      (s.ready c = true) ∧ ((s.core c).ds = none) ∧ (s.drains c = true) ∧ (imm.toNat < x.gatecount) ∧ (x.gatebase + 32 * imm.toNat + 32 ≤ 0x40000) ∧ (w = u.gateWords c (x.gatebase + 32 * imm.toNat)) ∧ (gateOk w = true) ∧ (t = nth 0 w 0 % 4) ∧ ((nth 0 w 0).testBit (4 + x.ring) = true) ∧ (t < x.ring) ∧ (u.gateArgs c x w = none) ∧ (f = (nth 0 x.sp t - 16).toNat) ∧ ((nth 0 x.sp t).toNat % 16 = 0) ∧ (f + 16 ≤ 0x40000) ∧ (u.fenceFail c (clsRing t) accW f 16 = none)) ∧
    (∃ (s : State) (c : Nat) (imm : BitVec 16),
      let x := s.core c;
      (s.ready c = true) ∧ ((s.core c).ds = none) ∧ (s.drains c = true) ∧ (x.gatecount ≤ imm.toNat)) ∧
    (∃ (s : State) (c : Nat) (p : Nat) (ret : Nat) (r : Nat) (n : Nat),
      let x := s.core c;
      let u := s.drain c;
      (s.ready c = true) ∧ ((s.core c).ds = none) ∧ (s.drains c = true) ∧ (p = (nth 0 x.sp x.ring).toNat) ∧ (p % 16 = 0) ∧ (p + 16 ≤ 0x40000) ∧ (u.fenceFail c (clsRing x.ring) accR p 16 = none) ∧ (ret < 2 ^ 17) ∧ (r < 4) ∧ (n < 2 ^ 16) ∧ (x.ring < r) ∧ (u.bytes (spData c + p) 16 = gateFrame ret r n)) ∧
    (∃ (s : State) (c : Nat),
      let x := s.core c;
      (s.ready c = true) ∧ ((s.core c).ds = none) ∧ (s.drains c = true) ∧ ((x.ring = 0 ∨ x.ring = 1 ∧ x.pring ≠ 0))) ∧
    (∃ (s : State) (c : Nat),
      let x := s.core c;
      (s.ready c = true) ∧ ((s.core c).ds = none) ∧ ((1 < x.ring ∨ x.ring = 1 ∧ x.pring = 0))) ∧
    (∃ (s : State) (c : Nat) (le : Nat) (len : BitVec 14),
      let x := s.core c;
      (s.ready c = true) ∧ ((s.core c).ds = none) ∧ (le = x.pc.toNat + 4 * len.toNat) ∧ (len ≠ 0) ∧ (le < 2 ^ 17) ∧ (x.loops.lc1 = 0) ∧ (s.loopEndBad c le (decide (2 ≤ len.toNat)) = false)) ∧
    (∃ (s : State) (c : Nat) (imm : BitVec 16),
      let x := s.core c;
      (s.ready c = true) ∧ ((s.core c).ds = none) ∧ (2 ≤ specialAccess imm.toNat x.ring)) ∧
    (∃ (s : State) (c : Nat) (ra : BitVec 5) (imm : BitVec 16),
      let x := s.core c;
      let a := x.rv ra;
      (s.ready c = true) ∧ ((s.core c).ds = none) ∧ (specialAccess imm.toNat x.ring = 3) ∧ (s.mtsLoopBad c x imm.toNat a.toNat = none) ∧ (mtsSerial imm.toNat = false)) ∧
    (∃ (s : State) (c : Nat) (ra : BitVec 5) (imm : BitVec 16),
      let x := s.core c;
      let a := x.rv ra;
      (s.ready c = true) ∧ ((s.core c).ds = none) ∧ (specialAccess imm.toNat x.ring = 3) ∧ (s.mtsLoopBad c x imm.toNat a.toNat = none) ∧ (mtsSerial imm.toNat = true) ∧ (s.drains c = true)) ∧
    (∃ (s : State) (c : Nat) (imm : BitVec 16),
      let x := s.core c;
      (s.ready c = true) ∧ ((s.core c).ds = none) ∧ (specialAccess imm.toNat x.ring = 1)) :=
  ⟨⟨coreUp, 0, by decide +kernel⟩,
   ⟨coreUp, 0, by decide +kernel⟩,
   ⟨coreUp, 0, by decide +kernel⟩,
   ⟨coreUp, 0, by decide +kernel⟩,
   ⟨coreUp, 0, by decide +kernel⟩,
   ⟨coreUp, 0, by decide +kernel⟩,
   ⟨coreUp, 0, by decide +kernel⟩,
   ⟨coreUp, 0, by decide +kernel⟩,
   ⟨coreUp, 0, 1, by (try dsimp only); all_goals decide +kernel⟩,
   ⟨coreReg 1 1, 0, 1, by (try dsimp only); all_goals decide +kernel⟩,
   ⟨gateState, 0, 0, [0x8080, 0, 0, 0, 0, 0, 0, 0], 0, 0, by (try dsimp only); all_goals decide +kernel⟩,
   ⟨coreUp, 0, 0, by (try dsimp only); all_goals decide +kernel⟩,
   ⟨coreUp.setBytes (spData 0) (gateFrame 0x1FFFF 3 65535), 0, 0, 0x1FFFF, 3, 65535, by (try dsimp only); all_goals decide +kernel⟩,
   ⟨coreWith fun x => { x with ring := 1, pring := 2 }, 0, by (try dsimp only); all_goals decide +kernel⟩,
   ⟨coreWith fun x => { x with ring := 2 }, 0, by (try dsimp only); all_goals decide +kernel⟩,
   ⟨coreUp, 0, 4, 1, by (try dsimp only); all_goals decide +kernel⟩,
   ⟨coreUp, 0, 0x113, by (try dsimp only); all_goals decide +kernel⟩,
   ⟨coreUp, 0, 1, 0x102, by (try dsimp only); all_goals decide +kernel⟩,
   ⟨coreUp, 0, 1, 0x101, by (try dsimp only); all_goals decide +kernel⟩,
   ⟨coreWith fun x => { x with ring := 2 }, 0, 0x101, by (try dsimp only); all_goals decide +kernel⟩⟩

/-- For every clause of CoreRequestsTakeEffect that has hypotheses: a state and operands that meet them. -/
theorem witness_CoreRequestsTakeEffect :
    (∃ (s : State) (c : Nat) (ra : BitVec 5),
      let x := s.core c;
      let a := (x.rv ra).toNat;
      (s.ready c = true) ∧ (a < 12) ∧ ((nth {} x.tickets a).taken = true) ∧ ((nth {} x.tickets a).done = true)) ∧
    (∃ (s : State) (c : Nat) (ra : BitVec 5),
      let x := s.core c;
      let a := (x.rv ra).toNat;
      (s.ready c = true) ∧ (a < 12) ∧ ((nth {} x.tickets a).taken = true)) ∧
    (∃ (s : State) (c : Nat),
      (s.ready c = true) ∧ (s.drains c = true) ∧ (((s.drain c).core c).evpend &&& ((s.drain c).core c).evmask ≠ 0)) ∧
    (∃ (s : State) (c : Nat),
      (s.ready c = true)) ∧
    (∃ (s : State) (c : Nat) (ra : BitVec 5) (rb : BitVec 5),
      let x := s.core c;
      let a := (x.rv ra).toNat;
      let k := x.rv rb;
      (s.ready c = true) ∧ (x.ring ≤ 1) ∧ (k = 255) ∧ (s.dataArea c a 160 16 accR = true) ∧ (s.jnEnabled (c / 32) = true) ∧ (s.ringRoom (strandOf c) = true) ∧ ((s.strand (strandOf c)).queue.length < 64)) ∧
    (∃ (s : State) (c : Nat) (ra : BitVec 5) (t : Nat),
      let x := s.core c;
      let a := (x.rv ra).toNat;
      (s.ready c = true) ∧ (x.ring ≤ 2) ∧ (s.dataArea c a 32 8 accR = true) ∧ (s.leaseOk c (s.bytes (spData c + a) 32) false = true) ∧ (x.freeTicket 2 4 = some t)) ∧
    (∃ (s : State) (c : Nat) (ra : BitVec 5) (rb : BitVec 5) (t : Nat),
      let x := s.core c;
      let a := (x.rv ra).toNat;
      let k := x.rv rb;
      (s.ready c = true) ∧ (x.ring ≤ 1) ∧ (k = 255) ∧ (s.dataArea c a 32 8 accR = true) ∧ (s.leaseOk c (s.bytes (spData c + a) 32) true = true) ∧ (x.freeTicket 2 4 = some t)) ∧
    (∃ (s : State) (c : Nat) (ra : BitVec 5) (rb : BitVec 5) (v : Nat) (y : Verdict) (n : Nat),
      let x := s.core c;
      let a := (x.rv ra).toNat;
      let k := x.rv rb;
      (s.ready c = true) ∧ (x.ring ≤ 2) ∧ (n = getField k 13 0) ∧ (1 ≤ n) ∧ (n ≤ 8192) ∧ (k &&& 0xFFFFFFFFF8E0C000 = 0) ∧ (s.slotVerdictOf c (getField k 26 24) = some v) ∧ (s.verdict v = some y) ∧ (s.dataArea c a n 1 accR = true) ∧ (y.trust ≠ .fail) ∧ (y.responded = false) ∧ (y.appends ≠ 0) ∧ (cget 0 s.vp.units (c / 32) + respUnits n ≤ 8192)) ∧
    (∃ (s : State) (c : Nat) (ra : BitVec 5) (rb : BitVec 5) (v : Nat) (y : Verdict) (n : Nat),
      let x := s.core c;
      let a := (x.rv ra).toNat;
      let k := x.rv rb;
      (s.ready c = true) ∧ (x.ring ≤ 2) ∧ (n = getField k 13 0) ∧ (1 ≤ n) ∧ (k &&& 0xFFFFFFFFF8E0C000 = 0) ∧ (s.slotVerdictOf c (getField k 26 24) = some v) ∧ (s.verdict v = some y) ∧ (s.dataArea c a n 1 accR = true) ∧ (y.trust = .fail)) ∧
    (∃ (s : State) (c : Nat) (ra : BitVec 5) (rb : BitVec 5) (t : Nat) (b : List Byte),
      let x := s.core c;
      let a := (x.rv ra).toNat;
      let k := x.rv rb;
      (s.ready c = true) ∧ (x.ring ≤ 1) ∧ (k = 255) ∧ (b = s.bytes (spData c + a) 48) ∧ (s.dataArea c a 48 16 accR = true) ∧ (ctxupdBad b true = false) ∧ (ofLe (b.take 1) ≠ 3) ∧ (x.freeTicket 10 2 = some t)) ∧
    (∃ (s : State) (c : Nat) (rd : BitVec 5) (ra : BitVec 5) (t : Nat) (b : List Byte) (u : State),
      let x := s.core c;
      let a := (x.rv ra).toNat;
      (s.ready c = true) ∧ (x.ring ≤ 2) ∧ (b = s.bytes (spData c + a) 32) ∧ (s.dataArea c a 32 8 accR = true) ∧ (dmaOk b = true) ∧ (x.freeTicket 6 4 = some t) ∧ (u = s.takeTicket c t rd)) ∧
    (∃ (s : State) (c : Nat),
      let x := s.core c;
      (s.ready c = true) ∧ (x.ring ≤ 2)) ∧
    (∃ (s : State) (c : Nat) (ra : BitVec 5) (t : Nat) (b : List Byte),
      let x := s.core c;
      let a := (x.rv ra).toNat;
      (s.ready c = true) ∧ (x.ring ≤ 1) ∧ (s.dataArea c a 16 16 accR = true) ∧ (s.dataArea c a 64 16 accR = true) ∧ (b = s.bytes (spData c + a) 64) ∧ (ofLe (sliceBytes (s.bytes (spData c + a) 16) 2 2) = 64) ∧ (ofLe (sliceBytes b 0 1) = 0x10) ∧ (ofLe (sliceBytes b 4 1) = 255) ∧ (x.freeTicket 0 2 = some t)) :=
  ⟨⟨coreWith fun x => { x with g := setNth x.g 1 11, tickets := setNth x.tickets 11 { taken := true, done := true } }, 0, 1, by (try dsimp only); all_goals decide +kernel⟩,
   ⟨coreWith fun x => { x with g := setNth x.g 1 11, tickets := setNth x.tickets 11 { taken := true } }, 0, 1, by (try dsimp only); all_goals decide +kernel⟩,
   ⟨coreWith fun x => { x with evpend := 2 ^ 5, evmask := 2 ^ 5 }, 0, by decide +kernel⟩,
   ⟨coreUp, 0, by decide +kernel⟩,
   ⟨(coreRegs 1 0x3FF60 2 255).setFld (jnReg 0 0x100) 0 0 1, 0, 1, 2, by (try dsimp only); all_goals decide +kernel⟩,
   ⟨(coreReg 1 0x3FFE0).setBytes (spData 0 + 0x3FFE8) [0xD0, 0xFF, 3], 0, 1, 2, by (try dsimp only); all_goals decide +kernel⟩,
   ⟨(coreRegs 1 0x3FFE0 2 255).setBytes (spData 0 + 0x3FFE0) [1, 0, 0, 0, 0, 0, 0, 0, 0xD0, 0xFF, 3], 0, 1, 2, 2, by (try dsimp only); all_goals decide +kernel⟩,
   ⟨(verdictState { appends := 1 }).modCore 0 fun x => { x with g := setNth (setNth x.g 1 0x3FFC0) 2 64 }, 0, 1, 2, 3, { appends := 1 }, 64, by (try dsimp only); all_goals decide +kernel⟩,
   ⟨(verdictState { trust := .fail }).modCore 0 fun x => { x with g := setNth (setNth x.g 1 0x3FFFF) 2 1 }, 0, 1, 2, 3, { trust := .fail }, 1, by (try dsimp only); all_goals decide +kernel⟩,
   ⟨(coreRegs 1 0x3FFD0 2 255).setByte (spData 0 + 0x3FFD0) 1 |>.setByte (spData 0 + 0x3FFD1) 16 |>.setByte (spData 0 + 0x3FFD2) 16, 0, 1, 2, 10, [1, 16, 16] ++ List.replicate 45 0, by (try dsimp only); all_goals decide +kernel⟩,
   ⟨(coreReg 1 0).setLe (spData 0 + 4) 4 65536, 0, 3, 1, 6, [0, 0, 0, 0, 0, 0, 1, 0] ++ List.replicate 24 0, ((coreReg 1 0).setLe (spData 0 + 4) 4 65536).takeTicket 0 6 3, by (try dsimp only); all_goals decide +kernel, by (try dsimp only); all_goals decide +kernel, by (try dsimp only); all_goals decide +kernel, by (try dsimp only); all_goals decide +kernel, by (try dsimp only); all_goals decide +kernel, by (try dsimp only); all_goals decide +kernel, rfl⟩,
   ⟨coreWith fun x => { x with ring := 2 }, 0, by (try dsimp only); all_goals decide +kernel⟩,
   ⟨(coreReg 1 0x100).setBytes (spData 0 + 0x100) [0x10, 0, 64, 0, 255], 0, 1, 0, [0x10, 0, 64, 0, 255] ++ List.replicate 59 0, by (try dsimp only); all_goals decide +kernel⟩⟩

/-- For every clause of CoreEventsTakeEffect that has hypotheses: a state and operands that meet them. -/
theorem witness_CoreEventsTakeEffect :
    (∃ (s : State) (c : Nat) (k : Nat),
      let x := s.core c;
      ((nth {} x.tickets k).taken = true) ∧ ((nth {} x.tickets k).done = false)) ∧
    (∃ (s : State) (c : Nat) (k : Nat),
      let x := s.core c;
      ((nth {} x.tickets k).taken = false)) ∧
    (∃ (s : State) (k : Nat) (n : Nat) (d : DmaOp),
      (k < 8) ∧ ((cget [] s.vc.dma n)[k]? = some d) ∧ (d.toHbm = true) ∧ (d.laddr + d.len ≤ 0x40000) ∧ (d.len ≠ 0) ∧ ((∀ i < d.len, s.fenceByte d.core clsDma accR (d.laddr + i) = true ∧ s.fenceByte 260 clsDma accW (d.haddr + i) = true))) ∧
    (∃ (s : State) (c : Nat) (k : Nat),
      let x := s.core c;
      (s.coreRuns c = true) ∧ (x.interrupt = some k) ∧ (x.ds = none) ∧ (x.late = none) ∧ (x.wdog = false)) ∧
    (∃ (s : State) (c : Nat),
      let x := s.core c;
      (s.coreRuns c = true) ∧ (x.tmcmp ≠ 0) ∧ (x.tmcmp < 2 ^ 64)) ∧
    (∃ (s : State) (c : Nat) (k : Nat) (v : Nat) (y : Verdict),
      (s.slotVerdictOf c k = some v) ∧ (s.verdict v = some y) ∧ (y.filled = true) ∧ (y.budget ≠ 0) ∧ (y.budgetHit = false)) ∧
    (∃ (s : State) (c : Nat),
      let x := s.core c;
      (s.wdCounts c = true) ∧ (x.wdstage = false)) ∧
    (∃ (s : State) (c : Nat),
      let x := s.core c;
      (s.wdCounts c = true) ∧ (x.wdstage = true)) ∧
    (∃ (s : State) (c : Nat),
      let x := s.core c;
      (s.pageLive (vcPage (c / 32)) = true) ∧ (x.st = 0)) ∧
    (∃ (s : State) (c : Nat),
      let x := s.core c;
      (s.pageLive (vcPage (c / 32)) = true) ∧ (1 ≤ x.st) ∧ (x.st ≤ 3) ∧ (x.ds = none)) ∧
    (∃ (s : State) (c : Nat),
      let x := s.core c;
      (s.pageLive (vcPage (c / 32)) = true) ∧ ((x.st = 0 ∨ 4 ≤ x.st))) ∧
    (∃ (s : State) (c : Nat),
      (s.pageLive (vcPage (c / 32)) = true)) :=
  ⟨⟨coreWith fun x => { x with tickets := setNth x.tickets 15 { taken := true } }, 0, 15, by (try dsimp only); all_goals decide +kernel⟩,
   ⟨coreUp, 0, 0, by (try dsimp only); all_goals decide +kernel⟩,
   ⟨{ open_ with vc := { open_.vc with dma := [(0, [{ toHbm := true, len := 8, laddr := 0x3FFF8, haddr := 2 ^ 35 }])] } }, 0, 0, { toHbm := true, len := 8, laddr := 0x3FFF8, haddr := 2 ^ 35 }, by decide +kernel⟩,
   ⟨coreWith fun x => { x with ring := 3, evpend := 1, ien := 1, iroute := 1, ictl := 2 }, 0, 0, by (try dsimp only); all_goals decide +kernel⟩,
   ⟨coreWith fun x => { x with tmcmp := 2 ^ 64 - 1 }, 0, by (try dsimp only); all_goals decide +kernel⟩,
   ⟨verdictState { filled := true, budget := 1 }, 0, 0, 3, { filled := true, budget := 1 }, by decide +kernel⟩,
   ⟨coreWith fun x => { x with wden := true }, 0, by (try dsimp only); all_goals decide +kernel⟩,
   ⟨coreWith fun x => { x with wden := true, wdstage := true }, 0, by (try dsimp only); all_goals decide +kernel⟩,
   ⟨up, 0, by (try dsimp only); all_goals decide +kernel⟩,
   ⟨coreWith fun x => { x with st := 3 }, 0, by (try dsimp only); all_goals decide +kernel⟩,
   ⟨coreWith fun x => { x with st := 4 }, 0, by (try dsimp only); all_goals decide +kernel⟩,
   ⟨coreUp, 0, by decide +kernel⟩⟩

/-- For every clause of KeyCommandsTakeEffect that has hypotheses: a state and operands that meet them. -/
theorem witness_KeyCommandsTakeEffect :
    (∃ (s : State) (o : Nat) (h : Nat),
      let z := handleZone h;
      (s.zoneServed z = true) ∧ (s.domOn (68 + o) = true) ∧ (1 ≤ handleSlot h) ∧ (handleSlot h < (s.zone z).count) ∧ (s.keyHold = false) ∧ (oget s.vlt.resident (resKey o h) = none) ∧ (s.vlt.fills = [])) ∧
    (∃ (s : State) (o : Nat) (h : Nat),
      (s.vlt.fills = [(o, h, true)]) ∧ (s.domOn (68 + o) = true) ∧ (s.keyHold = false)) ∧
    (∃ (s : State) (o : Nat) (h : Nat),
      let r := s.recBytes h;
      let z := handleZone h;
      let takes : Prop := h = (s.rd (kvReg o 0x204)).toNat ∧ s.fld (kvReg o 0x208) 31 31 = 0 ∧ s.zoneServed z = true ∧ 1 ≤ handleSlot h ∧ handleSlot h < (s.zone z).count;
      (takes) ∧ (recState r = 0)) ∧
    (∃ (s : State) (o : Nat) (h : Nat),
      let r := s.recBytes h;
      let z := handleZone h;
      let takes : Prop := h = (s.rd (kvReg o 0x204)).toNat ∧ s.fld (kvReg o 0x208) 31 31 = 0 ∧ s.zoneServed z = true ∧ 1 ≤ handleSlot h ∧ handleSlot h < (s.zone z).count;
      (takes) ∧ (recState r ≠ 0)) ∧
    (∃ (s : State) (o : Nat) (h : Nat),
      let r := s.recBytes h;
      let z := handleZone h;
      let takes : Prop := h = (s.rd (kvReg o 0x204)).toNat ∧ s.fld (kvReg o 0x208) 31 31 = 0 ∧ s.zoneServed z = true ∧ 1 ≤ handleSlot h ∧ handleSlot h < (s.zone z).count;
      let open_ : Prop := s.keyHold = false ∧ s.isStandby = false;
      (takes) ∧ (open_) ∧ (recState r ≠ 0) ∧ (s.genReady z = true)) ∧
    (∃ (s : State) (o : Nat) (h : Nat),
      let r := s.recBytes h;
      let z := handleZone h;
      let takes : Prop := h = (s.rd (kvReg o 0x204)).toNat ∧ s.fld (kvReg o 0x208) 31 31 = 0 ∧ s.zoneServed z = true ∧ 1 ≤ handleSlot h ∧ handleSlot h < (s.zone z).count;
      let open_ : Prop := s.keyHold = false ∧ s.isStandby = false;
      (takes) ∧ (open_) ∧ (recState r ≠ 0) ∧ (s.refcnt h ≠ 0)) ∧
    (∃ (s : State) (o : Nat) (h : Nat),
      let r := s.recBytes h;
      let z := handleZone h;
      let takes : Prop := h = (s.rd (kvReg o 0x204)).toNat ∧ s.fld (kvReg o 0x208) 31 31 = 0 ∧ s.zoneServed z = true ∧ 1 ≤ handleSlot h ∧ handleSlot h < (s.zone z).count;
      let open_ : Prop := s.keyHold = false ∧ s.isStandby = false;
      (takes) ∧ (open_) ∧ (recState r ≠ 0) ∧ (s.refcnt h = 0)) ∧
    (∃ (s : State) (o : Nat) (h : Nat),
      let z := handleZone h;
      let takes : Prop := h = (s.rd (kvReg o 0x204)).toNat ∧ s.fld (kvReg o 0x208) 31 31 = 0 ∧ s.zoneServed z = true ∧ 1 ≤ handleSlot h ∧ handleSlot h < (s.zone z).count;
      (takes)) ∧
    (∃ (s : State) (o : Nat),
      (oget s.vlt.retire o = none)) :=
  ⟨⟨keyState, 0, 1, by (try dsimp only); all_goals decide +kernel⟩,
   ⟨{ zoneUp with vlt := { zoneUp.vlt with fills := [(0, 1, true)] } }, 0, 1, by decide +kernel⟩,
   ⟨zoneUp.wrn (kvReg 0 0x204) 1, 0, 1, by (try dsimp only); all_goals decide +kernel⟩,
   ⟨keyState, 0, 1, by (try dsimp only); all_goals decide +kernel⟩,
   ⟨keyState, 0, 1, by (try dsimp only); all_goals decide +kernel⟩,
   ⟨keyState.setByte (keyState.recAddr 1 + 0x1C) 1, 0, 1, by (try dsimp only); all_goals decide +kernel⟩,
   ⟨keyState, 0, 1, by (try dsimp only); all_goals decide +kernel⟩,
   ⟨keyState, 0, 1, by (try dsimp only); all_goals decide +kernel⟩,
   ⟨keyState, 0, by decide +kernel⟩⟩

/-- For every clause of ZoneCommandsTakeEffect that has hypotheses: a state and operands that meet them. -/
theorem witness_ZoneCommandsTakeEffect :
    (∃ (s : State) (o : Nat) (z : Nat),
      let x := s.zone z;
      let open_ : Prop := z = s.fld (kvReg o 0x140) 5 0 ∧ s.keyHold = false ∧ s.isStandby = false;
      (open_) ∧ ((s.zoneLc z = 1 ∨ s.zoneLc z = 2)) ∧ (x.count ≠ 0) ∧ (x.started = false) ∧ (x.epoch < 0xFFFF)) ∧
    (∃ (s : State) (o : Nat) (z : Nat),
      let x := s.zone z;
      let open_ : Prop := z = s.fld (kvReg o 0x140) 5 0 ∧ s.keyHold = false ∧ s.isStandby = false;
      (open_) ∧ (x.started = true)) ∧
    (∃ (s : State) (o : Nat) (z : Nat),
      let x := s.zone z;
      let open_ : Prop := z = s.fld (kvReg o 0x140) 5 0 ∧ s.keyHold = false ∧ s.isStandby = false;
      (open_) ∧ (s.zoneBusy = false) ∧ (s.zoneServed z = true) ∧ (x.epoch < 0xFFFF)) ∧
    (∃ (s : State) (o : Nat) (z : Nat),
      let open_ : Prop := z = s.fld (kvReg o 0x140) 5 0 ∧ s.keyHold = false ∧ s.isStandby = false;
      (open_) ∧ (s.zoneBusy = false) ∧ (s.zoneServed z = true)) ∧
    (∃ (s : State) (o : Nat) (z : Nat),
      let x := s.zone z;
      let open_ : Prop := z = s.fld (kvReg o 0x140) 5 0 ∧ s.keyHold = false ∧ s.isStandby = false;
      (open_) ∧ (s.zoneBusy = false) ∧ (x.started = false)) ∧
    (∃ (s : State) (z : Nat),
      let x := s.zone z;
      (x.rekey = true) ∧ (x.started = true) ∧ (s.keyHold = false) ∧ (s.usedSlots (s.recAddr (handleOf z 0)) x.count = [])) ∧
    (∃ (s : State) (z : Nat),
      let x := s.zone z;
      (x.busy = 4) ∧ (s.busMaster = true) ∧ (s.keyHold = false)) ∧
    (∃ (s : State) (o : Nat) (z : Nat) (v : Reg),
      let x := s.zone z;
      let free : Prop := s.pageLive (kvPage o) = true ∧ s.lockInForce = false;
      (free) ∧ (z = s.fld (kvReg o 0x140) 5 0) ∧ (s.rangeOk z (getField v 24 0) x.count = true)) ∧
    (∃ (s : State) (o : Nat) (z : Nat) (v : Reg),
      let x := s.zone z;
      let free : Prop := s.pageLive (kvPage o) = true ∧ s.lockInForce = false;
      (free) ∧ (z = s.fld (kvReg o 0x140) 5 0) ∧ (s.rangeOk z x.zbase (getField v 26 0) = true)) ∧
    (∃ (s : State) (o : Nat),
      let free : Prop := s.pageLive (kvPage o) = true ∧ s.lockInForce = false;
      (free) ∧ (s.vlt.zones.any (fun e => e.2.started) = false) ∧ (s.validCtxs = [])) ∧
    (∃ (s : State) (v : Reg),
      (s.lockInForce = false) ∧ (10 ≤ getField v 4 0) ∧ (getField v 4 0 ≤ 30) ∧ (bitAt v 31 = false)) :=
  ⟨⟨zoneWith { count := 1, lc := 1, epoch := 65534 }, 0, 0, by (try dsimp only); all_goals decide +kernel⟩,
   ⟨zoneWith { started := true }, 0, 0, by (try dsimp only); all_goals decide +kernel⟩,
   ⟨zoneWith { count := 1, started := true, lc := 2, epoch := 65534 }, 0, 0, by (try dsimp only); all_goals decide +kernel⟩,
   ⟨zoneUp, 0, 0, by (try dsimp only); all_goals decide +kernel⟩,
   ⟨zoneWith { lc := 1 }, 0, 0, by (try dsimp only); all_goals decide +kernel⟩,
   ⟨zoneWith { count := 1, started := true, lc := 1, rekey := true }, 0, by (try dsimp only); all_goals decide +kernel⟩,
   ⟨(zoneWith { count := 1, lc := 1, busy := 4 }).setFld (ra tHI 0 0x100) 9 9 1, 0, by (try dsimp only); all_goals decide +kernel⟩,
   ⟨(zoneWith { count := 1 }).setFld (kvReg 0 0x110) 25 0 0x2000000, 0, 0, 0x1FFFFFF, by (try dsimp only); all_goals decide +kernel⟩,
   ⟨up.setFld (kvReg 0 0x110) 25 0 1, 0, 0, 1, by (try dsimp only); all_goals decide +kernel⟩,
   ⟨up, 0, by (try dsimp only); all_goals decide +kernel⟩,
   ⟨up, 30, by decide +kernel⟩⟩

/-- For every clause of ContextCommandsTakeEffect that has hypotheses: a state and operands that meet them. -/
theorem witness_ContextCommandsTakeEffect :
    (∃ (s : State) (o : Nat) (i : Nat),
      let y := s.ctx i;
      let st := s.staged o;
      let free : Prop := s.fld (kvReg o 0x304) 31 31 = 0;
      (free) ∧ (y.valid = false) ∧ (st.port = 1024) ∧ (s.isStandby = false) ∧ ((createHeader y st false).port = 1024) ∧ (verdBad ((createHeader y st false).fld 4 4) = false)) ∧
    (∃ (s : State) (o : Nat) (i : Nat),
      let y := s.ctx i;
      let free : Prop := s.fld (kvReg o 0x304) 31 31 = 0;
      (free) ∧ (y.valid = true)) ∧
    (∃ (s : State) (o : Nat) (i : Nat),
      let y := s.ctx i;
      let st := s.staged o;
      let free : Prop := s.fld (kvReg o 0x304) 31 31 = 0;
      (free) ∧ (y.valid = true) ∧ (st.port = y.port) ∧ (st.rxSci = y.rxSci) ∧ (st.zone = y.zone) ∧ (verdBad (st.fld 4 4) = false) ∧ (s.bindClash i (modifyHeader y st) = false) ∧ (s.isStandby = false)) ∧
    (∃ (s : State) (o : Nat) (i : Nat),
      let y := s.ctx i;
      let free : Prop := s.fld (kvReg o 0x304) 31 31 = 0;
      (free) ∧ (y.valid = true)) ∧
    (∃ (s : State) (o : Nat) (i : Nat),
      let y := s.ctx i;
      let free : Prop := s.fld (kvReg o 0x304) 31 31 = 0;
      (free) ∧ (y.valid = true) ∧ (y.sa.any SaRec.inService = false)) ∧
    (∃ (s : State) (o : Nat) (i : Nat),
      let y := s.ctx i;
      let free : Prop := s.fld (kvReg o 0x304) 31 31 = 0;
      (free) ∧ (y.valid = true) ∧ (y.sa.any SaRec.inService = true)) ∧
    (∃ (s : State) (o : Nat) (i : Nat),
      let y := s.ctx i;
      let free : Prop := s.fld (kvReg o 0x304) 31 31 = 0;
      (free) ∧ (y.valid = true)) ∧
    (∃ (s : State) (i : Nat) (e : CachedCtx),
      (s.ctxCached i = some e) ∧ (e.changed = true)) ∧
    (∃ (s : State) (c : Nat) (t : Nat) (x : CtxOp),
      (s.cxs.ops = [x]) ∧ (x.core = c) ∧ (x.tkt = t) ∧ (s.isStandby = false) ∧ ((s.ctx x.ctx).valid = true)) :=
  ⟨⟨(up).wrn (kvReg 0 (0x380 + 0)) 67108864, 0, 0, by (try dsimp only); all_goals decide +kernel⟩,
   ⟨withCtx, 0, 0, by (try dsimp only); all_goals decide +kernel⟩,
   ⟨withCtx, 0, 0, by (try dsimp only); all_goals decide +kernel⟩,
   ⟨withCtx, 0, 0, by (try dsimp only); all_goals decide +kernel⟩,
   ⟨withCtx, 0, 0, by (try dsimp only); all_goals decide +kernel⟩,
   ⟨withCtx.modCtx 0 fun c => { c with sa := setNth c.sa 5 { inUse := true } }, 0, 0, by (try dsimp only); all_goals decide +kernel⟩,
   ⟨withCtx, 0, 0, by (try dsimp only); all_goals decide +kernel⟩,
   ⟨{ up with cxs := { up.cxs with cache := [(0, { changed := true })] } }, 0, { changed := true }, by decide +kernel⟩,
   ⟨{ withCtx with cxs := { withCtx.cxs with ops := [{}] } }, 0, 0, {}, by decide +kernel⟩⟩

/-- For every clause of PublicKeyOperationsCompute that has hypotheses: a state and operands that meet them. -/
theorem witness_PublicKeyOperationsCompute :
    (∃ (s : State) (o : Nat) (e : Nat) (x : PkRun) (n : Nat) (b : Nat) (y : Nat),
      let k := x.nbits / 8;
      let a (i : Nat) : List Byte := x.arg i;
      let runs (fn : Nat) : Prop := s.pkRun o e = some x ∧ x.fn = fn ∧ x.ready = true ∧ x.computed = false;
      (runs 0x01) ∧ (x.curve = 0) ∧ (256 ≤ x.nbits) ∧ (x.nbits ≤ 8192) ∧ (x.nbits % 64 = 0) ∧ (x.l 0 = k) ∧ (x.l 1 = k) ∧ (1 ≤ x.l 2) ∧ (x.l 2 ≤ k) ∧ (k ≤ x.l 3) ∧ (n = ofBe (a 0)) ∧ (b = ofBe (a 1)) ∧ (y = ofBe (a 2)) ∧ (n % 2 = 1) ∧ (n.testBit (x.nbits - 1) = true) ∧ (1 ≤ b) ∧ (b < n) ∧ (1 ≤ y)) ∧
    (∃ (s : State) (o : Nat) (e : Nat) (x : PkRun) (n : Nat) (y : Nat),
      let k := x.nbits / 8;
      let a (i : Nat) : List Byte := x.arg i;
      let runs (fn : Nat) : Prop := s.pkRun o e = some x ∧ x.fn = fn ∧ x.ready = true ∧ x.computed = false;
      (runs 0x10) ∧ (rsaPublic x.nbits (a 0) = some (n, y)) ∧ (x.curve = 0) ∧ (rsaSize x.nbits true = true) ∧ (x.l 1 = x.hlen) ∧ (x.l 2 = k) ∧ (1 ≤ ofBe (a 2)) ∧ (ofBe (a 2) < n)) ∧
    (∃ (s : State) (o : Nat) (e : Nat) (x : PkRun),
      let k := x.nbits / 8;
      let runs (fn : Nat) : Prop := s.pkRun o e = some x ∧ x.fn = fn ∧ x.ready = true ∧ x.computed = false;
      (runs 0x11) ∧ (x.curve = 0) ∧ (rsaSize x.nbits false = true) ∧ (x.l 1 = x.hlen) ∧ (k ≤ x.l 3) ∧ (x.pad = 0)) ∧
    (∃ (s : State) (o : Nat) (e : Nat) (x : PkRun),
      let k := x.nbits / 8;
      let runs (fn : Nat) : Prop := s.pkRun o e = some x ∧ x.fn = fn ∧ x.ready = true ∧ x.computed = false;
      (runs 0x11) ∧ (x.curve = 0) ∧ (rsaSize x.nbits false = true) ∧ (x.l 1 = x.hlen) ∧ (k ≤ x.l 3) ∧ (x.pad ≠ 0) ∧ ((s.draw o ((x.hlen + 15) / 16)).1 ≠ none)) ∧
    (∃ (s : State) (o : Nat) (e : Nat) (x : PkRun) (n : Nat) (y : Nat),
      let k := x.nbits / 8;
      let a (i : Nat) : List Byte := x.arg i;
      let runs (fn : Nat) : Prop := s.pkRun o e = some x ∧ x.fn = fn ∧ x.ready = true ∧ x.computed = false;
      (runs 0x12) ∧ (rsaPublic x.nbits (a 0) = some (n, y)) ∧ (x.curve = 0) ∧ (rsaSize x.nbits false = true) ∧ (x.l 1 + 2 * x.hlen + 2 ≤ k) ∧ (k ≤ x.l 3) ∧ ((s.draw o ((x.hlen + 15) / 16)).1 ≠ none)) ∧
    (∃ (s : State) (o : Nat) (e : Nat) (x : PkRun),
      let k := x.nbits / 8;
      let a (i : Nat) : List Byte := x.arg i;
      let runs (fn : Nat) : Prop := s.pkRun o e = some x ∧ x.fn = fn ∧ x.ready = true ∧ x.computed = false;
      (runs 0x13) ∧ (x.curve = 0) ∧ (rsaSize x.nbits false = true) ∧ (x.l 1 = k) ∧ (k ≤ x.l 3 + 2 * x.hlen + 2) ∧ (1 ≤ ofBe (a 1))) ∧
    (∃ (s : State) (o : Nat) (e : Nat) (x : PkRun) (q : Nat × Nat) (r : Nat) (t : Nat),
      let a (i : Nat) : List Byte := x.arg i;
      let c := curveOf x.curve;
      let runs (fn : Nat) : Prop := s.pkRun o e = some x ∧ x.fn = fn ∧ x.ready = true ∧ x.computed = false;
      let ec : Prop := 1 ≤ x.curve ∧ x.curve ≤ 3 ∧ x.nbits = 0;
      (runs 0x20) ∧ (ec) ∧ (digestLen (x.l 1) = true) ∧ (x.l 2 = 2 * c.fw) ∧ (c.decode (a 0) = some q) ∧ (r = ofBe ((a 2).take c.fw)) ∧ (t = ofBe ((a 2).drop c.fw)) ∧ (1 ≤ r) ∧ (r < c.n) ∧ (1 ≤ t) ∧ (t < c.n)) ∧
    (∃ (s : State) (o : Nat) (e : Nat) (x : PkRun),
      let c := curveOf x.curve;
      let runs (fn : Nat) : Prop := s.pkRun o e = some x ∧ x.fn = fn ∧ x.ready = true ∧ x.computed = false;
      let ec : Prop := 1 ≤ x.curve ∧ x.curve ≤ 3 ∧ x.nbits = 0;
      (runs 0x21) ∧ (ec) ∧ (digestLen (x.l 1) = true) ∧ (2 * c.fw ≤ x.l 3) ∧ ((s.draw o 2).1 ≠ none)) ∧
    (∃ (s : State) (o : Nat) (e : Nat) (x : PkRun),
      let c := curveOf x.curve;
      let runs (fn : Nat) : Prop := s.pkRun o e = some x ∧ x.fn = fn ∧ x.ready = true ∧ x.computed = false;
      let ec : Prop := 1 ≤ x.curve ∧ x.curve ≤ 3 ∧ x.nbits = 0;
      (runs 0x22) ∧ (ec) ∧ (c.fw ≤ x.l 3)) ∧
    (∃ (s : State) (o : Nat) (e : Nat) (x : PkRun) (ok : Bool),
      let a (i : Nat) : List Byte := x.arg i;
      let runs (fn : Nat) : Prop := s.pkRun o e = some x ∧ x.fn = fn ∧ x.ready = true ∧ x.computed = false;
      (runs 0x30) ∧ (x.curve = 4) ∧ (x.nbits = 0) ∧ (x.l 0 = 32) ∧ (x.l 1 ≤ 65536) ∧ (x.l 2 = 64) ∧ (edVerify (a 0) (a 1) (a 2) = some ok)) ∧
    (∃ (s : State) (o : Nat) (e : Nat) (x : PkRun),
      let runs (fn : Nat) : Prop := s.pkRun o e = some x ∧ x.fn = fn ∧ x.ready = true ∧ x.computed = false;
      (runs 0x31) ∧ (x.curve = 4) ∧ (x.nbits = 0) ∧ (x.l 1 ≤ 65536) ∧ (64 ≤ x.l 3)) ∧
    (∃ (s : State) (o : Nat) (e : Nat) (x : PkRun),
      let runs (fn : Nat) : Prop := s.pkRun o e = some x ∧ x.fn = fn ∧ x.ready = true ∧ x.computed = false;
      (runs 0x32) ∧ (x.curve = 5) ∧ (x.nbits = 0) ∧ (x.l 1 = 32) ∧ (32 ≤ x.l 3)) ∧
    (∃ (s : State) (o : Nat) (e : Nat) (x : PkRun),
      let c := curveOf x.curve;
      let runs (fn : Nat) : Prop := s.pkRun o e = some x ∧ x.fn = fn ∧ x.ready = true ∧ x.computed = false;
      (runs 0x40) ∧ (1 ≤ x.curve) ∧ (x.curve ≤ 5) ∧ (x.nbits = 0) ∧ (x.l 2 = (if x.curve ≤ 3 then 2 * c.fw + 1 else 32)) ∧ (48 + blobText (curveKind x.curve) x.curve 0 ≤ x.l 3) ∧ (s.genReady x.zone = true) ∧ ((s.draw o 5).1 ≠ none)) ∧
    (∃ (s : State) (o : Nat) (e : Nat) (x : PkRun),
      let runs (fn : Nat) : Prop := s.pkRun o e = some x ∧ x.fn = fn ∧ x.ready = true ∧ x.computed = false;
      (runs 0x41) ∧ (16 ≤ x.l 1) ∧ (x.l 1 ≤ 4096) ∧ (s.genReady x.zone = true)) ∧
    (∃ (s : State) (o : Nat) (e : Nat) (x : PkRun),
      let runs (fn : Nat) : Prop := s.pkRun o e = some x ∧ x.fn = fn ∧ x.ready = true ∧ x.computed = false;
      (runs 0x42) ∧ (x.curve ≤ 5) ∧ ((x.curve = 0 → rsaSize x.nbits false = true)) ∧ ((x.curve ≠ 0 → x.nbits = 0)) ∧ (s.genReady x.zone = true)) :=
  ⟨⟨pkState (pkOp 0x01 0 256 0 [32, 32, 32, 32] [oddN 32, beBytes 32 1, beBytes 32 1, []]), 0, 0, pkOp 0x01 0 256 0 [32, 32, 32, 32] [oddN 32, beBytes 32 1, beBytes 32 1, []], 2 ^ 255 + 1, 1, 1, by (try dsimp only); all_goals decide +kernel⟩,
   ⟨pkState (pkOp 0x10 0 1024 0 [132, 32, 128, 0] [oddN 128 ++ [0, 1, 0, 1], List.replicate 32 0, beBytes 128 1, []]), 0, 0, pkOp 0x10 0 1024 0 [132, 32, 128, 0] [oddN 128 ++ [0, 1, 0, 1], List.replicate 32 0, beBytes 128 1, []], 2 ^ 1023 + 1, 65537, by (try dsimp only); all_goals decide +kernel⟩,
   ⟨pkState (pkOp 0x11 0 2048 0 [0, 32, 0, 256] []), 0, 0, pkOp 0x11 0 2048 0 [0, 32, 0, 256] [], by (try dsimp only); all_goals decide +kernel⟩,
   ⟨pkState (pkOp 0x11 0 4096 0x14 [0, 48, 0, 512] []), 0, 0, pkOp 0x11 0 4096 0x14 [0, 48, 0, 512] [], by (try dsimp only); all_goals decide +kernel⟩,
   ⟨pkState (pkOp 0x12 0 2048 0 [260, 190, 0, 256] [oddN 256 ++ [0, 1, 0, 1], [], [], []]), 0, 0, pkOp 0x12 0 2048 0 [260, 190, 0, 256] [oddN 256 ++ [0, 1, 0, 1], [], [], []], 2 ^ 2047 + 1, 65537, by (try dsimp only); all_goals decide +kernel⟩,
   ⟨pkState (pkOp 0x13 0 2048 0 [0, 256, 0, 190] [[], beBytes 256 1]), 0, 0, pkOp 0x13 0 2048 0 [0, 256, 0, 190] [[], beBytes 256 1], by (try dsimp only); all_goals decide +kernel⟩,
   ⟨pkState (pkOp 0x20 1 0 0 [65, 32, 64, 0] [4 :: (beBytes 32 p256.gx ++ beBytes 32 p256.gy), List.replicate 32 0, beBytes 32 1 ++ beBytes 32 2, []]), 0, 0, pkOp 0x20 1 0 0 [65, 32, 64, 0] [4 :: (beBytes 32 p256.gx ++ beBytes 32 p256.gy), List.replicate 32 0, beBytes 32 1 ++ beBytes 32 2, []], (p256.gx, p256.gy), 1, 2, by (try dsimp only); all_goals decide +kernel⟩,
   ⟨pkState (pkOp 0x21 3 0 0x20 [0, 64, 0, 132] []), 0, 0, pkOp 0x21 3 0 0x20 [0, 64, 0, 132] [], by (try dsimp only); all_goals decide +kernel⟩,
   ⟨pkState (pkOp 0x22 1 0 0 [0, 0, 0, 32] []), 0, 0, pkOp 0x22 1 0 0 [0, 0, 0, 32] [], by (try dsimp only); all_goals decide +kernel⟩,
   ⟨pkState (pkOp 0x30 4 0 0 [32, 0, 64, 0] [0x58 :: List.replicate 31 0x66, [], 1 :: List.replicate 63 0, []]), 0, 0, pkOp 0x30 4 0 0 [32, 0, 64, 0] [0x58 :: List.replicate 31 0x66, [], 1 :: List.replicate 63 0, []], (edVerify (0x58 :: List.replicate 31 0x66) [] (1 :: List.replicate 63 0)).getD false, by (try dsimp only); all_goals decide +kernel, by (try dsimp only); all_goals decide +kernel, by (try dsimp only); all_goals decide +kernel, by (try dsimp only); all_goals decide +kernel, by (try dsimp only); all_goals decide +kernel, by (try dsimp only); all_goals decide +kernel, by (try dsimp only); exact someGetD (by decide +kernel)⟩,
   ⟨pkState (pkOp 0x31 4 0 0 [0, 65536, 0, 64] []), 0, 0, pkOp 0x31 4 0 0 [0, 65536, 0, 64] [], by (try dsimp only); all_goals decide +kernel⟩,
   ⟨pkState (pkOp 0x32 5 0 0 [0, 32, 0, 32] []), 0, 0, pkOp 0x32 5 0 0 [0, 32, 0, 32] [], by (try dsimp only); all_goals decide +kernel⟩,
   ⟨pkState (pkOp 0x40 4 0 0 [0, 0, 32, 112] []), 0, 0, pkOp 0x40 4 0 0 [0, 0, 32, 112] [], by (try dsimp only); all_goals decide +kernel⟩,
   ⟨pkState (pkOp 0x41 0 0 0 [0, 4096, 0, 0] []), 0, 0, pkOp 0x41 0 0 0 [0, 4096, 0, 0] [], by (try dsimp only); all_goals decide +kernel⟩,
   ⟨pkState (pkOp 0x42 0 2048 0 [0, 0, 0, 0] []), 0, 0, pkOp 0x42 0 2048 0 [0, 0, 0, 0] [], by (try dsimp only); all_goals decide +kernel⟩⟩

/-- For every clause of PublicKeyEnginesTakeCommands that has hypotheses: a state and operands that meet them. -/
theorem witness_PublicKeyEnginesTakeCommands :
    (∃ (s : State) (o : Nat) (q : Nat) (n : Nat),
      let b := pkQ o q 0;
      ((n % 65536 + 65536 - s.fld (pkQ o q 0x14) 15 0) % 65536 ≤ 2 ^ s.fld b 7 4)) ∧
    (∃ (s : State) (e : Nat) (k : Nat),
      (k < 4) ∧ (s.coreRuns e = true) ∧ (s.fenceFail (256 + e / 32) (clsRing (s.core e).ring) accW (0x97F000 + 8 * k) 8 = none)) ∧
    (∃ (s : State) (o : Nat) (e : Nat) (q : Nat) (x : PkRun) (t : State) (key : List Byte) (u : State),
      (s.keyHold = false) ∧ (s.domOn (68 + o) = true) ∧ (s.pk.retry = []) ∧ (s.fld (pkReg o 0x100) 0 0 = 1) ∧ (s.pkNextQueue o = some q) ∧ (x = s.pkHead o q) ∧ (x.space ≠ 1) ∧ (s.pkChecks o x = (.ok key, t)) ∧ (t.pkAssign o x = some (e, none)) ∧ (u = t.setFld (pkQ o q 0x14) 15 0 (t.fld (pkQ o q 0x14) 15 0 + 1))) ∧
    (∃ (s : State) (o : Nat) (q : Nat) (x : PkRun) (u : State),
      (s.keyHold = false) ∧ (s.domOn (68 + o) = true) ∧ (s.pk.retry = []) ∧ (s.fld (pkReg o 0x100) 0 0 = 1) ∧ (s.pkNextQueue o = some q) ∧ (x = s.pkHead o q) ∧ (x.space ≠ 1) ∧ (pkShape x.fn = none) ∧ (u = s.setFld (pkQ o q 0x14) 15 0 (s.fld (pkQ o q 0x14) 15 0 + 1))) ∧
    (∃ (s : State) (o : Nat) (e : Nat) (x : PkRun),
      (s.pkRun o e = some x) ∧ (x.ready = false) ∧ ((s.busMaster = true ∨ ∀ i < 4, x.a i / 2 ^ 62 ≠ 1))) ∧
    (∃ (s : State) (o : Nat) (e : Nat) (x : PkRun),
      (s.pkRun o e = some x) ∧ (x.computed = true)) ∧
    (∃ (s : State) (o : Nat) (e : Nat) (x : PkRun),
      (s.pkRun o e = some x) ∧ (x.computed = true) ∧ (x.retried = true) ∧ (x.e2 = none) ∧ (s.pk.test = [])) ∧
    (∃ (s : State) (o : Nat) (e : Nat),
      (s.domOn (68 + o) = true) ∧ (s.sealEngine o = some e) ∧ (s.pkTesting o e = false)) ∧
    (∃ (s : State) (o : Nat),
      (s.domOn (68 + o) = true) ∧ ((s.pkEngines o).length < 3)) ∧
    (∃ (s : State) (o : Nat) (e : Nat),
      (s.domOn (68 + o) = true) ∧ (3 ≤ (s.pkEngines o).length) ∧ ((((List.range 15).map fun i => (cget 14 s.pk.lastTest o + 1 + i) % 15).find? fun e => s.pkInService o e) = some e)) ∧
    (∃ (s : State) (o : Nat) (e : Nat),
      (s.pkTesting o e = true) ∧ (s.pkBusy o e = false)) ∧
    (∃ (s : State) (v : Reg),
      (s.lockInForce = false) ∧ (bitAt v 31 = false) ∧ ((bitAt v 1 = false ∨ s.silicon = 0 ∨ s.silicon = 1))) ∧
    (∃ (s : State) (o : Nat) (q : Nat) (v : Reg),
      let b := pkQ o q 0;
      (s.fld b 0 0 = 0) ∧ (4 ≤ getField v 7 4) ∧ (getField v 7 4 ≤ 12) ∧ (getField v 9 8 ≤ 2)) ∧
    (∃ (s : State) (o : Nat) (q : Nat),
      let b := pkQ o q 0;
      (s.fld b 0 0 = 0)) ∧
    (∃ (s : State) (o : Nat) (v : Reg) (z : Nat),
      (s.pageLive (pkPage o) = true) ∧ (s.lockInForce = false) ∧ (z = s.fld (pkReg o 0x120) 5 0) ∧ (getField v 15 0 ≤ (s.zone z).epoch)) :=
  ⟨⟨up, 0, 0, 0, by (try dsimp only); all_goals decide +kernel⟩,
   ⟨coreUp, 0, 3, by decide +kernel⟩,
   ⟨pkQueued, 0, 3, 7, pkQueued.pkHead 0 7, pkQueued, [], pkQueued.setFld (pkQ 0 7 0x14) 15 0 (pkQueued.fld (pkQ 0 7 0x14) 15 0 + 1), by decide +kernel, by decide +kernel, by decide +kernel, by decide +kernel, by decide +kernel, by decide +kernel, by decide +kernel, by (try dsimp only); exact okPair (by decide +kernel) (by decide +kernel), by decide +kernel, rfl⟩,
   ⟨pkUnknown, 0, 0, pkUnknown.pkHead 0 0, pkUnknown.setFld (pkQ 0 0 0x14) 15 0 (pkUnknown.fld (pkQ 0 0 0x14) 15 0 + 1), by decide +kernel, by decide +kernel, by decide +kernel, by decide +kernel, by decide +kernel, by decide +kernel, by decide +kernel, by decide +kernel, rfl⟩,
   ⟨up.setPkRun 0 0 {}, 0, 0, {}, by decide +kernel⟩,
   ⟨up.setPkRun 0 0 { computed := true }, 0, 0, { computed := true }, by decide +kernel⟩,
   ⟨up.setPkRun 0 0 { computed := true, retried := true }, 0, 0, { computed := true, retried := true }, by decide +kernel⟩,
   ⟨up, 0, 15, by decide +kernel⟩,
   ⟨up.wrn (pkReg 0 0x108) 0x7FFC, 0, by decide +kernel⟩,
   ⟨up, 0, 0, by decide +kernel⟩,
   ⟨{ up with pk := { up.pk with test := [0] } }, 0, 0, by decide +kernel⟩,
   ⟨up, 0, by decide +kernel⟩,
   ⟨up, 0, 0, 0x2C0, by (try dsimp only); all_goals decide +kernel⟩,
   ⟨up, 0, 0, by (try dsimp only); all_goals decide +kernel⟩,
   ⟨up, 0, 0, 0, by decide +kernel⟩⟩

/-- For every clause of JournalCommandsTakeEffect that has hypotheses: a state and operands that meet them. -/
theorem witness_JournalCommandsTakeEffect :
    (∃ (s : State) (k : Nat) (a : App) (rest : List App) (n : Nat),
      let x := s.strand k;
      (x.queue = a :: rest) ∧ (n = (s.clk.ns - x.tokT) / 1000) ∧ (1 ≤ x.tokens + n)) ∧
    (∃ (s : State) (o : Nat) (r : Nat) (b : List Byte) (p : Nat) (u : State),
      (r < 4) ∧ (s.nextExport o r = some b) ∧ (p = (s.rd (jnX o r 12)).toNat) ∧ ((p + 2 ^ 32 - (s.rd (jnX o r 16)).toNat) % 2 ^ 32 < 2 ^ s.fld (jnX o r 8) 4 0) ∧ (s.fld (jnReg o 0x100) 1 1 = 1) ∧ (s.busMaster = true) ∧ (u = (((s.setBytes (spHost + s.rd64 (jnX o r 0) + 256 * (p % 2 ^ s.fld (jnX o r 8) 4 0)) b).wrn (jnX o r 12) (p + 1)).jnBump o 4).irq (jnPage o) 0)) ∧
    (∃ (s : State) (o : Nat) (r : Nat) (b : List Byte) (p : Nat) (u : State),
      (4 ≤ r) ∧ ((cget {} s.jn.seals o).out.head? = some b) ∧ (p = (s.rd (jnX o r 12)).toNat) ∧ ((p + 2 ^ 32 - (s.rd (jnX o r 16)).toNat) % 2 ^ 32 < 2 ^ s.fld (jnX o r 8) 4 0) ∧ (s.fld (jnReg o 0x100) 1 1 = 1) ∧ (s.busMaster = true) ∧ (u = (((s.setBytes (spHost + s.rd64 (jnX o r 0) + 256 * (p % 2 ^ s.fld (jnX o r 8) 4 0)) b).wrn (jnX o r 12) (p + 1)).jnBump o 4).irq (jnPage o) 0)) ∧
    (∃ (s : State) (o : Nat) (r : Nat) (v : Reg),
      ((v.toNat + 2 ^ 32 - (s.rd (jnX o r 16)).toNat) % 2 ^ 32 ≤ ((s.rd (jnX o r 12)).toNat + 2 ^ 32 - (s.rd (jnX o r 16)).toNat) % 2 ^ 32)) ∧
    (∃ (s : State) (o : Nat) (r : Nat) (v : Reg),
      ((s.rd (jnX o r 12)).toNat = (s.rd (jnX o r 16)).toNat) ∧ (v ≠ s.rd (jnX o r 16))) ∧
    (∃ (s : State) (o : Nat),
      let y := s.sealOf o;
      (s.jnEnabled o = true) ∧ (s.isStandby = false) ∧ (y.cur = none)) ∧
    (∃ (s : State) (o : Nat),
      let y := s.sealOf o;
      (s.jnEnabled o = true) ∧ (s.isStandby = false) ∧ (y.cur ≠ none)) ∧
    (∃ (s : State) (o : Nat),
      let y := s.sealOf o;
      (y.cur ≠ none) ∧ (s.lockInForce = false) ∧ (s.sealAble o = true)) ∧
    (∃ (s : State) (o : Nat) (c : List Byte × List Byte),
      let y := s.sealOf o;
      (y.cur = some c) ∧ (y.asked = true) ∧ (y.retried = false) ∧ (s.isoOunce o = false)) ∧
    (∃ (s : State) (o : Nat) (c : List Byte × List Byte),
      let y := s.sealOf o;
      (y.cur = some c) ∧ (y.asked = true) ∧ (s.isoOunce o = false) ∧ (y.retried = false)) ∧
    (∃ (s : State),
      ((∀ i < 4, s.vpOn i = false)) ∧ (s.twState ≤ 1)) :=
  ⟨⟨{ up with jn := { up.jn with strands := [(0, { queue := [{}], tokens := 1 })] } }, 0, {}, [], 0, by (try dsimp only); all_goals decide +kernel⟩,
   ⟨((((up.setFld (twReg 0x104) 3 0 1).setStrand 3 { seq := 1 }).setFld (jnReg 0 0x100) 1 1 1).setFld (ra tHI 0 0x100) 9 9 1), 0, 3, List.replicate 256 0, 0, (((((((up.setFld (twReg 0x104) 3 0 1).setStrand 3 { seq := 1 }).setFld (jnReg 0 0x100) 1 1 1).setFld (ra tHI 0 0x100) 9 9 1).setBytes (spHost + ((((up.setFld (twReg 0x104) 3 0 1).setStrand 3 { seq := 1 }).setFld (jnReg 0 0x100) 1 1 1).setFld (ra tHI 0 0x100) 9 9 1).rd64 (jnX 0 3 0) + 256 * (0 % 2 ^ ((((up.setFld (twReg 0x104) 3 0 1).setStrand 3 { seq := 1 }).setFld (jnReg 0 0x100) 1 1 1).setFld (ra tHI 0 0x100) 9 9 1).fld (jnX 0 3 8) 4 0)) (List.replicate 256 0)).wrn (jnX 0 3 12) (0 + 1)).jnBump 0 4).irq (jnPage 0) 0, by decide +kernel, by decide +kernel, by decide +kernel, by decide +kernel, by decide +kernel, by decide +kernel, rfl⟩,
   ⟨((({ up with jn := { up.jn with seals := [(0, { out := [[1]] })] } } : State).setFld (jnReg 0 0x100) 1 1 1).setFld (ra tHI 0 0x100) 9 9 1), 0, 4, [1], 0, (((((({ up with jn := { up.jn with seals := [(0, { out := [[1]] })] } } : State).setFld (jnReg 0 0x100) 1 1 1).setFld (ra tHI 0 0x100) 9 9 1).setBytes (spHost + ((({ up with jn := { up.jn with seals := [(0, { out := [[1]] })] } } : State).setFld (jnReg 0 0x100) 1 1 1).setFld (ra tHI 0 0x100) 9 9 1).rd64 (jnX 0 4 0) + 256 * (0 % 2 ^ ((({ up with jn := { up.jn with seals := [(0, { out := [[1]] })] } } : State).setFld (jnReg 0 0x100) 1 1 1).setFld (ra tHI 0 0x100) 9 9 1).fld (jnX 0 4 8) 4 0)) [1]).wrn (jnX 0 4 12) (0 + 1)).jnBump 0 4).irq (jnPage 0) 0, by decide +kernel, by decide +kernel, by decide +kernel, by decide +kernel, by decide +kernel, by decide +kernel, rfl⟩,
   ⟨up, 0, 0, 0, by decide +kernel⟩,
   ⟨up, 0, 0, 1, by decide +kernel⟩,
   ⟨up.setFld (jnReg 0 0x100) 0 0 1, 0, by (try dsimp only); all_goals decide +kernel⟩,
   ⟨({ up with jn := { up.jn with seals := [(0, { cur := some ([], []) })] } } : State).setFld (jnReg 0 0x100) 0 0 1, 0, by (try dsimp only); all_goals decide +kernel⟩,
   ⟨{ up with jn := { up.jn with seals := [(0, { cur := some ([], []) })] } }, 0, by (try dsimp only); all_goals decide +kernel⟩,
   ⟨{ up with jn := { up.jn with seals := [(0, { cur := some ([], []), asked := true })] } }, 0, ([], []), by (try dsimp only); all_goals decide +kernel⟩,
   ⟨{ up with jn := { up.jn with seals := [(0, { cur := some ([], []), asked := true })] } }, 0, ([], []), by (try dsimp only); all_goals decide +kernel⟩,
   ⟨up, by decide +kernel⟩⟩

/-- For every clause of MirrorAndCheckpointsTakeEffect that has hypotheses: a state and operands that meet them. -/
theorem witness_MirrorAndCheckpointsTakeEffect :
    (∃ (s : State) (u : State) (t : Nat) (q : Nat) (w : Nat) (b : List Byte) (m : Mirror) (ms : List Mirror),
      (s.linkTake 0 [2] = some ((t, q, w, b), u)) ∧ (u.jn.unacked = m :: ms)) ∧
    (∃ (s : State) (u : State) (t : Nat) (q : Nat) (w : Nat) (b : List Byte) (x : Strand),
      (s.linkTake 0 [1] = some ((t, q, w, b), u)) ∧ (u.mirrorOpen = true) ∧ (beAt b 1 1 ≠ 3) ∧ (beAt b 2 1 < 16) ∧ (x = u.strand (beAt b 2 1)) ∧ (beAt b 4 8 = x.seq + 1)) ∧
    (∃ (s : State) (u : State) (t : Nat) (q : Nat) (w : Nat) (b : List Byte),
      (s.linkTake 0 [1] = some ((t, q, w, b), u)) ∧ (u.mirrorOpen = true) ∧ (beAt b 1 1 ≠ 3) ∧ (beAt b 2 1 < 16) ∧ (beAt b 4 8 ≠ (u.strand (beAt b 2 1)).seq + 1)) ∧
    (∃ (s : State) (k : Nat) (e : List Byte) (es : List (List Byte)) (x : Strand),
      (s.asStandby = true) ∧ (x = s.strand k) ∧ (x.toVerify = e :: es) ∧ (sha384 (s.chainAt k x.verified ++ e.take 0xD0) = e.drop 0xD0)) ∧
    (∃ (s : State) (u : State) (t : Nat) (q : Nat) (w : Nat) (b : List Byte) (o : Nat) (x : Seal),
      (s.linkTake 0 [1] = some ((t, q, w, b), u)) ∧ (u.mirrorOpen = true) ∧ (beAt b 1 1 = 3) ∧ (o = beAt b 2 1 % 4) ∧ (x = u.sealOf o) ∧ (x.fresh = true) ∧ ((∀ i < 4, beAt b (0x20 + 8 * i) 8 ≤ (u.strand (4 * o + i)).seq))) ∧
    (∃ (s : State) (u : State) (t : Nat) (q : Nat) (w : Nat) (b : List Byte) (r : List Byte),
      let c := u.jn.rx;
      (s.linkTake 0 [3] = some ((t, q, w, b), u)) ∧ (u.mirrorOpen = true) ∧ (deltaRecords 256 b = [r]) ∧ (beAt r 8 1 ≠ 3) ∧ (u.jn.dseq < beAt r 0 8) ∧ (c.active = false)) ∧
    (∃ (s : State),
      (s.twState = 2) ∧ (s.fld (twReg 0x144) 15 0 ≠ 0)) ∧
    (∃ (s : State) (u : State) (t : Nat) (q : Nat) (w : Nat) (b : List Byte),
      let c := u.jn.rx;
      let seg := beAt b 4 4;
      (s.linkTake 0 [4] = some ((t, q, w, b), u)) ∧ (beAt b 8 1 = 3) ∧ (u.mirrorOpen = true) ∧ (c.active = true) ∧ (1 ≤ seg) ∧ (c.seg = seg) ∧ (c.epoch = beAt b 0 4)) ∧
    (∃ (s : State) (u : State) (t : Nat) (q : Nat) (w : Nat) (b : List Byte),
      let c := u.jn.rx;
      let seg := beAt b 4 4;
      (s.linkTake 0 [4] = some ((t, q, w, b), u)) ∧ (beAt b 8 1 ≠ 0xFF) ∧ (u.mirrorOpen = true) ∧ (c.active = true) ∧ (1 ≤ seg) ∧ (c.seg ≠ seg)) ∧
    (∃ (s : State) (u : State) (t : Nat) (q : Nat) (w : Nat) (b : List Byte) (y : State),
      let c := u.jn.rx;
      let seg := beAt b 4 4;
      (s.linkTake 0 [4] = some ((t, q, w, b), u)) ∧ (beAt b 8 1 = 0xFF) ∧ (u.mirrorOpen = true) ∧ (c.active = true) ∧ (c.epoch = beAt b 0 4) ∧ (c.seg = seg) ∧ (beAt (b.drop 32) 0 4 = seg) ∧ (sliceBytes (b.drop 32) 4 48 = sha384 c.data) ∧ (y = (((u.shadowLive).wrn (twReg 0x14C) 0).twBump 6).irq twPage 2)) :=
  ⟨⟨standby (fun s => { s with jn := { s.jn with unacked := [.sealRec []] } }) (2, 0, 0, []), standbyTook (fun s => { s with jn := { s.jn with unacked := [.sealRec []] } }) (2, 0, 0, []), 2, 0, 0, [], .sealRec [], [], by decide +kernel⟩,
   ⟨standby (id) (1, 0, 0, ([0, 1, 15, 0, 0, 0, 0, 0, 0, 0, 0, 1] ++ List.replicate 244 0)), standbyTook (id) (1, 0, 0, ([0, 1, 15, 0, 0, 0, 0, 0, 0, 0, 0, 1] ++ List.replicate 244 0)), 1, 0, 0, ([0, 1, 15, 0, 0, 0, 0, 0, 0, 0, 0, 1] ++ List.replicate 244 0), {}, by decide +kernel⟩,
   ⟨standby (id) (1, 0, 0, ([0, 1, 15, 0, 2] ++ List.replicate 251 0)), standbyTook (id) (1, 0, 0, ([0, 1, 15, 0, 2] ++ List.replicate 251 0)), 1, 0, 0, ([0, 1, 15, 0, 2] ++ List.replicate 251 0), by decide +kernel⟩,
   ⟨up.setStrand 0 { toVerify := [verEntry] }, 0, verEntry, [], { toVerify := [verEntry] }, by decide +kernel⟩,
   ⟨standby (id) (1, 0, 0, ([0, 3, 15] ++ List.replicate 253 0)), standbyTook (id) (1, 0, 0, ([0, 3, 15] ++ List.replicate 253 0)), 1, 0, 0, ([0, 3, 15] ++ List.replicate 253 0), 3, {}, by decide +kernel⟩,
   ⟨standby (id) (3, 0, 0, ([1, 0, 0, 0, 0, 0, 0, 0, 4] ++ List.replicate 15 0)), standbyTook (id) (3, 0, 0, ([1, 0, 0, 0, 0, 0, 0, 0, 4] ++ List.replicate 15 0)), 3, 0, 0, ([1, 0, 0, 0, 0, 0, 0, 0, 4] ++ List.replicate 15 0), [1, 0, 0, 0, 0, 0, 0, 0, 4] ++ List.replicate 15 0, by (try dsimp only); all_goals decide +kernel⟩,
   ⟨(up.setFld (twReg 0x104) 3 0 2).wrn (twReg 0x144) 1, by decide +kernel⟩,
   ⟨standby (fun s => { s with jn := { s.jn with rx := { active := true, seg := 1 } } }) (4, 0, 0, ([0, 0, 0, 0, 0, 0, 0, 1, 3] ++ List.replicate 23 0)), standbyTook (fun s => { s with jn := { s.jn with rx := { active := true, seg := 1 } } }) (4, 0, 0, ([0, 0, 0, 0, 0, 0, 0, 1, 3] ++ List.replicate 23 0)), 4, 0, 0, ([0, 0, 0, 0, 0, 0, 0, 1, 3] ++ List.replicate 23 0), by (try dsimp only); all_goals decide +kernel⟩,
   ⟨standby (fun s => { s with jn := { s.jn with rx := { active := true, seg := 1 } } }) (4, 0, 0, ([0, 0, 0, 0, 0, 0, 0, 2, 3] ++ List.replicate 23 0)), standbyTook (fun s => { s with jn := { s.jn with rx := { active := true, seg := 1 } } }) (4, 0, 0, ([0, 0, 0, 0, 0, 0, 0, 2, 3] ++ List.replicate 23 0)), 4, 0, 0, ([0, 0, 0, 0, 0, 0, 0, 2, 3] ++ List.replicate 23 0), by (try dsimp only); all_goals decide +kernel⟩,
   ⟨standby (fun s => { s with jn := { s.jn with rx := { active := true, seg := 1 } } }) (4, 0, 0, endSeg), standbyTook (fun s => { s with jn := { s.jn with rx := { active := true, seg := 1 } } }) (4, 0, 0, endSeg), 4, 0, 0, endSeg, ((((standbyTook (fun s => { s with jn := { s.jn with rx := { active := true, seg := 1 } } }) (4, 0, 0, endSeg)).shadowLive).wrn (twReg 0x14C) 0).twBump 6).irq twPage 2, by (try dsimp only); all_goals decide +kernel, by (try dsimp only); all_goals decide +kernel, by (try dsimp only); all_goals decide +kernel, by (try dsimp only); all_goals decide +kernel, by (try dsimp only); all_goals decide +kernel, by (try dsimp only); all_goals decide +kernel, by (try dsimp only); all_goals decide +kernel, by (try dsimp only); all_goals decide +kernel, rfl⟩⟩

/-- For every clause of PartnersMeetAndLoseEachOther that has hypotheses: a state and operands that meet them. -/
theorem witness_PartnersMeetAndLoseEachOther :
    (∃ (s : State),
      (s.jn.link.up = true) ∧ (s.lockInForce = false) ∧ (s.jn.cutOff = false) ∧ (s.st.prep = none)) ∧
    (∃ (s : State),
      (s.lockInForce = true)) ∧
    (∃ (s : State) (u : State) (t : Nat) (q : Nat) (w : Nat) (b : List Byte),
      (s.linkTake 0 [5] = some ((t, q, w, b), u)) ∧ (u.jn.gone = false) ∧ (u.jn.link.up = true) ∧ (u.twActive = false)) ∧
    (∃ (s : State) (u : State) (t : Nat) (q : Nat) (w : Nat) (st : Nat) (b : List Byte),
      (s.linkTake 0 [5] = some ((t, q, w, b), u)) ∧ (u.jn.gone = false) ∧ (u.jn.link.up = true) ∧ (1 ≤ u.twState) ∧ (u.twState ≤ 3) ∧ (9 ≤ u.jn.partState) ∧ (u.jn.partState ≤ 11) ∧ ((st < 9 ∨ 11 < st))) ∧
    (∃ (s : State),
      (s.jn.link.up = true) ∧ (s.jn.gone = false)) ∧
    (∃ (s : State),
      (s.jn.probing = true) ∧ ((s.twState = 10 ∨ s.twState = 11))) ∧
    (∃ (s : State),
      (s.jn.probing = true) ∧ ((s.twState = 8 ∨ s.twState = 9))) ∧
    (∃ (s : State) (u : State) (e : Nat) (g : Nat) (y : State) (r : List Byte),
      (s.ringTake [0x26] = some ((e, g, r), u)) ∧ (u.jn.probing = true) ∧ (ringSrc r = u.partner) ∧ (y = { u with jn := { u.jn with probing := false, partLocked := decide (beAt (ringBody r) 2 1 % 2 = 1), partRole := beAt (ringBody r) 0 1, partGen := beAt (ringBody r) 4 4 } }) ∧ ((u.twState = 10 ∨ u.twState = 11)) ∧ (beAt (ringBody r) 0 1 = 1) ∧ (beAt (ringBody r) 2 1 % 2 = 0)) ∧
    (∃ (s : State),
      (s.jn.link.up = false) ∧ (2 ≤ s.jn.link.width) ∧ (s.jn.link.lost = false) ∧ (s.jn.link.key ≠ [])) ∧
    (∃ (s : State) (u : State) (t : Nat) (q : Nat) (w : Nat) (b : List Byte) (y : State),
      (s.linkTake 0 [6] = some ((t, q, w, b), u)) ∧ (beAt b 0 1 = 6) ∧ (y = { u with jn := { u.jn with partRole := beAt b 1 1, partGen := beAt b 4 4 } }) ∧ (1 ≤ y.twState) ∧ (y.twState ≤ 3)) :=
  ⟨⟨{ up with jn := { up.jn with link := { up := true } } }, by decide +kernel⟩,
   ⟨{ up with cus := { up.cus with sticky := true } }, by decide +kernel⟩,
   ⟨standby (fun s => { s with jn := { s.jn with link := { s.jn.link with up := true } } }) (5, 0, 0, (List.replicate 32 0)), standbyTook (fun s => { s with jn := { s.jn with link := { s.jn.link with up := true } } }) (5, 0, 0, (List.replicate 32 0)), 5, 0, 0, (List.replicate 32 0), by decide +kernel⟩,
   ⟨standby ((fun s => ({ s with jn := { s.jn with link := { s.jn.link with up := true }, partState := 9 } } : State).setFld (twReg 0x104) 3 0 3)) (5, 0, 0, (List.replicate 32 0)), standbyTook ((fun s => ({ s with jn := { s.jn with link := { s.jn.link with up := true }, partState := 9 } } : State).setFld (twReg 0x104) 3 0 3)) (5, 0, 0, (List.replicate 32 0)), 5, 0, 0, 8, (List.replicate 32 0), by decide +kernel⟩,
   ⟨{ up with jn := { up.jn with link := { up := true } } }, by decide +kernel⟩,
   ⟨({ up with jn := { up.jn with probing := true } } : State).setFld (twReg 0x104) 3 0 11, by decide +kernel⟩,
   ⟨({ up with jn := { up.jn with probing := true } } : State).setFld (twReg 0x104) 3 0 8, by decide +kernel⟩,
   ⟨({ up.setFld (twReg 0x104) 3 0 10 with jn := { up.jn with probing := true }, cr := { up.cr with inbox := [(0x26, 0, probeAns)] } } : State).setFld (ra tCR 0 0x100) 9 0 0, restOf up (State.ringTake (({ up.setFld (twReg 0x104) 3 0 10 with jn := { up.jn with probing := true }, cr := { up.cr with inbox := [(0x26, 0, probeAns)] } } : State).setFld (ra tCR 0 0x100) 9 0 0) [0x26]), 0x26, 0, (fun u : State => { u with jn := { u.jn with probing := false, partLocked := decide (beAt (ringBody probeAns) 2 1 % 2 = 1), partRole := beAt (ringBody probeAns) 0 1, partGen := beAt (ringBody probeAns) 4 4 } }) (restOf up (State.ringTake (({ up.setFld (twReg 0x104) 3 0 10 with jn := { up.jn with probing := true }, cr := { up.cr with inbox := [(0x26, 0, probeAns)] } } : State).setFld (ra tCR 0 0x100) 9 0 0) [0x26])), probeAns, by decide +kernel, by decide +kernel, by decide +kernel, rfl, by decide +kernel, by decide +kernel, by decide +kernel⟩,
   ⟨{ up with jn := { up.jn with link := { width := 2, lost := false, key := [0] } } }, by decide +kernel⟩,
   ⟨standby ((fun s => ({ s with jn := { s.jn with partState := 0 } } : State).setFld (twReg 0x104) 3 0 3)) (6, 0, 0, [6, 0, 0, 0, 0, 0, 0, 0]), standbyTook ((fun s => ({ s with jn := { s.jn with partState := 0 } } : State).setFld (twReg 0x104) 3 0 3)) (6, 0, 0, [6, 0, 0, 0, 0, 0, 0, 0]), 6, 0, 0, [6, 0, 0, 0, 0, 0, 0, 0], (fun u : State => { u with jn := { u.jn with partRole := 0, partGen := 0 } }) (standbyTook (fun s => ({ s with jn := { s.jn with partState := 0 } } : State).setFld (twReg 0x104) 3 0 3) (6, 0, 0, [6, 0, 0, 0, 0, 0, 0, 0])), by decide +kernel, by decide +kernel, rfl, by decide +kernel, by decide +kernel⟩⟩

/-- For every clause of SwapsAndTwinCommandsTakeEffect that has hypotheses: a state and operands that meet them. -/
theorem witness_SwapsAndTwinCommandsTakeEffect :
    (∃ (s : State) (u : State) (g : Nat) (n : Nat),
      (s.takeSwap 1 = some ((g, n), u)) ∧ (g ≤ u.roleGen)) ∧
    (∃ (s : State) (u : State) (g : Nat) (n : Nat),
      (s.takeSwap 1 = some ((g, n), u)) ∧ (g = u.roleGen + 1) ∧ (u.twState = 2) ∧ (u.jn.partState = 10)) ∧
    (∃ (s : State) (u : State) (g : Nat) (n : Nat),
      (s.takeSwap 2 = some ((g, n), u)) ∧ (u.twState = 2) ∧ (u.jn.swapSent = some g)) ∧
    (∃ (s : State) (u : State) (g : Nat) (n : Nat),
      (s.takeSwap 2 = some ((g, n), u)) ∧ (u.isStandby = true)) ∧
    (∃ (s : State) (u : State) (g : Nat) (n : Nat) (y : State) (z : State),
      (s.takeSwap 3 = some ((g, n), u)) ∧ (u.twState = 10) ∧ (y = u.verifyAll) ∧ (y.twState = 10) ∧ (z = (State.takeCeilings (State.setRoleGen { y with jn := { y.jn with swapG := none, swapSent := none, accepting := false, partState := 10, solo := false, rx := {}, shadow := [] } } g)).setTwState 2)) ∧
    (∃ (s : State) (u : State) (g : Nat) (n : Nat),
      (s.takeSwap 4 = some ((g, n), u)) ∧ (u.twState = 4) ∧ (u.jn.swapG = some g)) ∧
    (∃ (s : State) (u : State) (g : Nat) (n : Nat),
      (s.takeSwap 5 = some ((g, n), u)) ∧ (u.jn.swapSent = some g)) ∧
    (∃ (s : State) (y : State),
      (s.twState = 3) ∧ (s.jn.drained = false) ∧ (y = s.discardVerdicts.markers 4 s.roleGen)) ∧
    (∃ (s : State) (y : State),
      (s.twState = 0) ∧ (s.jn.cutOff = false) ∧ (y = State.setTwState (State.setRoleGen { s with jn := { s.jn with solo := s.onLossSolo, accepting := false } } ((s.roleGen + 1) % 2 ^ 32)) 1)) ∧
    (∃ (s : State),
      (s.twState ≠ 0)) ∧
    (∃ (s : State) (y : State),
      (s.twState = 0) ∧ (s.jn.cutOff = false) ∧ (s.jn.link.up = true) ∧ (s.jn.partRole = 1) ∧ (y = { s with jn := { s.jn with accepting := true, gone := false } })) ∧
    (∃ (s : State),
      (s.jn.link.up = true) ∧ ((s.twState = 1 ∨ s.twState = 2 ∨ s.isStandby = true))) ∧
    (∃ (s : State),
      (s.jn.link.up = false)) ∧
    (∃ (s : State),
      ((s.twState = 1 ∨ s.twState = 2)) ∧ (s.jn.link.up = true) ∧ (8 ≤ s.jn.partState) ∧ (s.jn.partState ≤ 11)) ∧
    (∃ (s : State) (v : Reg),
      (s.pageLive twPage = true) ∧ (s.lockInForce = false) ∧ (getField v 1 0 < 2) ∧ (2 ≤ getField v 15 8) ∧ (getField v 15 8 ≤ 11) ∧ (bitAt v 31 = false)) ∧
    (∃ (s : State) (v : Reg),
      (s.pageLive twPage = true) ∧ (s.lockInForce = false) ∧ (s.twState = 0) ∧ (20 ≤ getField v 4 0) ∧ (getField v 4 0 ≤ 30)) ∧
    (∃ (s : State) (off : Nat),
      (s.pageLive twPage = true) ∧ (s.lockInForce = false) ∧ (s.twState = 0) ∧ (0x128 ≤ off) ∧ (off < 0x140) ∧ (off % 4 = 0)) ∧
    (∃ (s : State),
      (s.pageLive twPage = true) ∧ (s.lockInForce = false)) :=
  ⟨⟨standby ((fun s => ({ s with jn := { s.jn with partState := 0 } } : State).setFld (twReg 0x104) 3 0 2)) (6, 0, 0, [1, 0, 0, 0, 0, 0, 0, 0]), standbyTook ((fun s => ({ s with jn := { s.jn with partState := 0 } } : State).setFld (twReg 0x104) 3 0 2)) (6, 0, 0, [1, 0, 0, 0, 0, 0, 0, 0]), 0, 0, by decide +kernel⟩,
   ⟨standby ((fun s => ({ s with jn := { s.jn with partState := 10 } } : State).setFld (twReg 0x104) 3 0 2)) (6, 0, 0, [1, 0, 0, 0, 0, 0, 0, 1]), standbyTook ((fun s => ({ s with jn := { s.jn with partState := 10 } } : State).setFld (twReg 0x104) 3 0 2)) (6, 0, 0, [1, 0, 0, 0, 0, 0, 0, 1]), 1, 0, by decide +kernel⟩,
   ⟨standby ((fun s => ({ s with jn := { s.jn with swapSent := some 1 } } : State).setFld (twReg 0x104) 3 0 2)) (6, 0, 0, [2, 0, 0, 0, 0, 0, 0, 1]), standbyTook ((fun s => ({ s with jn := { s.jn with swapSent := some 1 } } : State).setFld (twReg 0x104) 3 0 2)) (6, 0, 0, [2, 0, 0, 0, 0, 0, 0, 1]), 1, 0, by decide +kernel⟩,
   ⟨standby ((fun s => ({ s with jn := { s.jn with partState := 0 } } : State).setFld (twReg 0x104) 3 0 11)) (6, 0, 0, [2, 0, 0, 0, 0, 0, 0, 1]), standbyTook ((fun s => ({ s with jn := { s.jn with partState := 0 } } : State).setFld (twReg 0x104) 3 0 11)) (6, 0, 0, [2, 0, 0, 0, 0, 0, 0, 1]), 1, 0, by decide +kernel⟩,
   ⟨standby ((fun s => ({ s with jn := { s.jn with partState := 0 } } : State).setFld (twReg 0x104) 3 0 10)) (6, 0, 0, [3, 0, 0, 0, 0, 0, 0, 1]), standbyTook ((fun s => ({ s with jn := { s.jn with partState := 0 } } : State).setFld (twReg 0x104) 3 0 10)) (6, 0, 0, [3, 0, 0, 0, 0, 0, 0, 1]), 1, 0, (standbyTook ((fun s => ({ s with jn := { s.jn with partState := 0 } } : State).setFld (twReg 0x104) 3 0 10)) (6, 0, 0, [3, 0, 0, 0, 0, 0, 0, 1])).verifyAll, (State.takeCeilings (State.setRoleGen { ((standbyTook ((fun s => ({ s with jn := { s.jn with partState := 0 } } : State).setFld (twReg 0x104) 3 0 10)) (6, 0, 0, [3, 0, 0, 0, 0, 0, 0, 1])).verifyAll) with jn := { ((standbyTook ((fun s => ({ s with jn := { s.jn with partState := 0 } } : State).setFld (twReg 0x104) 3 0 10)) (6, 0, 0, [3, 0, 0, 0, 0, 0, 0, 1])).verifyAll).jn with swapG := none, swapSent := none, accepting := false, partState := 10, solo := false, rx := {}, shadow := [] } } 1)).setTwState 2, by decide +kernel, by decide +kernel, rfl, by decide +kernel, rfl⟩,
   ⟨standby ((fun s => ({ s with jn := { s.jn with swapG := some 1 } } : State).setFld (twReg 0x104) 3 0 4)) (6, 0, 0, [4, 0, 0, 0, 0, 0, 0, 1]), standbyTook ((fun s => ({ s with jn := { s.jn with swapG := some 1 } } : State).setFld (twReg 0x104) 3 0 4)) (6, 0, 0, [4, 0, 0, 0, 0, 0, 0, 1]), 1, 0, by decide +kernel⟩,
   ⟨standby ((fun s => ({ s with jn := { s.jn with swapSent := some 1 } } : State).setFld (twReg 0x104) 3 0 2)) (6, 0, 0, [5, 0, 0, 0, 0, 0, 0, 1]), standbyTook ((fun s => ({ s with jn := { s.jn with swapSent := some 1 } } : State).setFld (twReg 0x104) 3 0 2)) (6, 0, 0, [5, 0, 0, 0, 0, 0, 0, 1]), 1, 0, by decide +kernel⟩,
   ⟨up.setFld (twReg 0x104) 3 0 3, (up.setFld (twReg 0x104) 3 0 3).discardVerdicts.markers 4 (up.setFld (twReg 0x104) 3 0 3).roleGen, by decide +kernel, by decide +kernel, rfl⟩,
   ⟨up, State.setTwState (State.setRoleGen { up with jn := { up.jn with solo := up.onLossSolo, accepting := false } } ((up.roleGen + 1) % 2 ^ 32)) 1, by decide +kernel, by decide +kernel, rfl⟩,
   ⟨up.setFld (twReg 0x104) 3 0 1, by decide +kernel⟩,
   ⟨{ up with jn := { up.jn with link := { up := true }, partRole := 1 } }, (fun s : State => { s with jn := { s.jn with accepting := true, gone := false } }) { up with jn := { up.jn with link := { up := true }, partRole := 1 } }, by decide +kernel, by decide +kernel, by decide +kernel, by decide +kernel, rfl⟩,
   ⟨({ up with jn := { up.jn with link := { up := true } } } : State).setFld (twReg 0x104) 3 0 11, by decide +kernel⟩,
   ⟨up, by decide +kernel⟩,
   ⟨({ up with jn := { up.jn with link := { up := true }, partState := 11 } } : State).setFld (twReg 0x104) 3 0 1, by decide +kernel⟩,
   ⟨up, 0x201, by decide +kernel⟩,
   ⟨up, 30, by decide +kernel⟩,
   ⟨up, 0x13C, by decide +kernel⟩,
   ⟨up, by decide +kernel⟩⟩

/-- For every clause of RingStatesFollowTheirTable that has hypotheses: a state and operands that meet them. -/
theorem witness_RingStatesFollowTheirTable :
    (∃ (s : State),
      let down (i : Nat) : Prop := s.lnState (1032 + i) ≠ 4;
      ((s.ringState = 0 ∨ 4 ≤ s.ringState)) ∧ (s.rd (crReg 0x110) ≠ 0) ∧ (down 0) ∧ (down 1)) ∧
    (∃ (s : State),
      ((s.ringState = 0 ∨ 4 ≤ s.ringState)) ∧ (s.rd (crReg 0x110) = 0)) ∧
    (∃ (s : State),
      (s.ringState = 2)) ∧
    (∃ (s : State),
      (s.ringState ≠ 2)) ∧
    (∃ (s : State),
      (s.ringState = 3)) ∧
    (∃ (s : State),
      (s.ringState = 1)) ∧
    (∃ (s : State),
      let down (i : Nat) : Prop := s.lnState (1032 + i) ≠ 4;
      (s.ringState = 2) ∧ (down 0) ∧ (down 1)) ∧
    (∃ (s : State),
      (s.cr.armed = true)) ∧
    (∃ (s : State),
      (s.cr.armed = true) ∧ (s.cr.switched = true)) ∧
    (∃ (s : State),
      let down (i : Nat) : Prop := s.lnState (1032 + i) ≠ 4;
      (s.ringState = 1) ∧ (s.fld (crReg 0x100) 23 23 = 1) ∧ (s.cr.gotSync = false) ∧ ((¬ down 0 ∨ ¬ down 1))) ∧
    (∃ (s : State),
      (s.cr.gotSync = true) ∧ (s.crStat 9 = false) ∧ (s.crStat 8 = false)) ∧
    (∃ (s : State),
      (s.crStat 8 = true)) ∧
    (∃ (s : State) (l : Nat),
      let down (i : Nat) : Prop := s.lnState (1032 + i) ≠ 4;
      (s.ringState = 2) ∧ (down l) ∧ ((s.ringLane l).segDown = false)) ∧
    (∃ (s : State),
      ((s.ringState = 2 ∨ s.ringState = 3))) ∧
    (∃ (s : State) (u : State) (l : Nat) (m : List Byte),
      let b := ringBody m;
      (s.ringTake [0x23] = some ((0x23, l, m), u)) ∧ (ringSrc m ≠ u.position) ∧ ((beAt b 21 1).testBit 6 = false) ∧ ((oget u.cr.present (ringSrc m)).isSome = true)) ∧
    (∃ (s : State) (u : State) (l : Nat) (m : List Byte),
      let b := ringBody m;
      (s.ringTake [0x23] = some ((0x23, l, m), u)) ∧ (ringSrc m ≠ u.position) ∧ ((beAt b 21 1).testBit 6 = true)) :=
  ⟨⟨up.wrn (crReg 0x110) 1, by (try dsimp only); all_goals decide +kernel⟩,
   ⟨(up.wrn (crReg 0x110) 0).setFld (crReg 0x104) 3 0 4, by decide +kernel⟩,
   ⟨(up).setFld (crReg 0x104) 3 0 2, by decide +kernel⟩,
   ⟨up, by decide +kernel⟩,
   ⟨(up).setFld (crReg 0x104) 3 0 3, by decide +kernel⟩,
   ⟨(up).setFld (crReg 0x104) 3 0 1, by decide +kernel⟩,
   ⟨(up).setFld (crReg 0x104) 3 0 2, by (try dsimp only); all_goals decide +kernel⟩,
   ⟨{ up with cr := { up.cr with armed := true } }, by decide +kernel⟩,
   ⟨{ up with cr := { up.cr with armed := true, switched := true } }, by decide +kernel⟩,
   ⟨(ringUp.setFld (crReg 0x100) 23 23 1).setFld (crReg 0x104) 3 0 1, by (try dsimp only); all_goals decide +kernel⟩,
   ⟨{ up with cr := { up.cr with gotSync := true } }, by decide +kernel⟩,
   ⟨up.setFld (crReg 0x104) 8 8 1, by decide +kernel⟩,
   ⟨(up).setFld (crReg 0x104) 3 0 2, 0, by (try dsimp only); all_goals decide +kernel⟩,
   ⟨(up).setFld (crReg 0x104) 3 0 3, by decide +kernel⟩,
   ⟨ringIn (fun s => { s with cr := { s.cr with present := [(1, {})] } }) 0x23 (ringMsg (List.replicate 21 0 ++ [0, 0, 0])), ringTook (fun s => { s with cr := { s.cr with present := [(1, {})] } }) 0x23 (ringMsg (List.replicate 21 0 ++ [0, 0, 0])), 0, ringMsg (List.replicate 21 0 ++ [0, 0, 0]), by (try dsimp only); all_goals decide +kernel⟩,
   ⟨ringIn (id) 0x23 (ringMsg (List.replicate 21 0 ++ [64, 0, 0])), ringTook (id) 0x23 (ringMsg (List.replicate 21 0 ++ [64, 0, 0])), 0, ringMsg (List.replicate 21 0 ++ [64, 0, 0]), by (try dsimp only); all_goals decide +kernel⟩⟩

/-- For every clause of RingFramesAndTimeTakeEffect that has hypotheses: a state and operands that meet them. -/
theorem witness_RingFramesAndTimeTakeEffect :
    (∃ (s : State) (u : State) (l : Nat) (a : Nat) (c : Nat) (d : Nat) (p : List Byte) (h : List Byte) (key : List Byte),
      (s.linkTake (l + 1) [0x20] = some ((a, c, d, h ++ p ++ helloTag key h p), u)) ∧ (h.length = 8) ∧ (p.length = 32) ∧ ((helloTag key h p).length = 8) ∧ (key ∈ u.linkKeys (l + 1)) ∧ (beAt p 16 8 = (u.ringLane l).nonce) ∧ (beAt p 8 8 = (u.ringLane l).echo) ∧ ((u.ringLane l).rsc ≠ 0)) ∧
    (∃ (s : State) (u : State) (l : Nat) (a : Nat) (c : Nat) (d : Nat) (b : List Byte),
      (s.linkTake (l + 1) [0x20] = some ((a, c, d, b), u)) ∧ (b.length ≠ 48)) ∧
    (∃ (s : State) (u : State) (l : Nat) (c : Nat) (d : Nat) (p : List Byte) (type : Nat) (w : MsgWin) (q : List Byte),
      let dst := beAt p 0 2;
      let src := beAt p 2 2 % 1024;
      let hops := beAt p 4 2 % 1024;
      (s.linkTake (l + 1) [0x23, 0x24, 0x25, 0x26, 0x27, 0x28, 0x29, 0x2A, 0x2B, 0x2C, 0x2D] = some ((type, c, d, p), u)) ∧ (type ≠ 0x24) ∧ (u.onRing = true) ∧ (natField dst 11 10 = 2) ∧ (16 ≤ p.length) ∧ (p.length ≤ (if ringUrgent type then 144 else 1040)) ∧ (src ≠ u.position) ∧ (2 ≤ hops) ∧ (q = spliceBytes p 4 (beBytes 2 (hops - 1))) ∧ ((cget {} u.cr.wins src).accept (beAt q 8 8) = some w) ∧ ((type = 0x27 → beAt (ringBody q) 0 1 ≤ 2))) ∧
    (∃ (s : State) (u : State) (l : Nat) (c : Nat) (d : Nat) (p : List Byte) (type : Nat),
      let dst := beAt p 0 2;
      (s.linkTake (l + 1) [0x23, 0x24, 0x25, 0x26, 0x27, 0x28, 0x29, 0x2A, 0x2B, 0x2C, 0x2D] = some ((type, c, d, p), u)) ∧ (u.onRing = true) ∧ (natField dst 11 10 = 3)) ∧
    (∃ (s : State) (u : State) (a : Nat) (p : List Byte) (type : Nat),
      (s.ringTake [0x2C, 0x2D] = some ((type, a, p), u)) ∧ (u.cr.rxq.length < 64)) ∧
    (∃ (s : State) (u : State) (a : Nat) (p : List Byte) (type : Nat),
      (s.ringTake [0x2C, 0x2D] = some ((type, a, p), u)) ∧ (64 ≤ u.cr.rxq.length)) ∧
    (∃ (s : State) (v : Reg),
      (s.ringState = 2) ∧ ((getField v 7 0 = 0x2C ∨ getField v 7 0 = 0x2D)) ∧ (1 ≤ getField v 18 8) ∧ (getField v 18 8 ≤ 1024) ∧ (s.crTxUsed < 16)) ∧
    (∃ (s : State),
      (s.ringState ≠ 2)) ∧
    (∃ (s : State) (a : Nat) (b : List Byte) (type : Nat) (rest : List (Nat × Nat × List Byte)),
      (s.cr.rxq = (type, a, b) :: rest)) ∧
    (∃ (s : State) (u : State) (a : Nat) (p : List Byte),
      (s.ringTake [0x25] = some ((0x25, a, p), u)) ∧ (u.onRing = true) ∧ (u.laneJoined 0 = true)) ∧
    (∃ (s : State) (n : Nat) (q : Nat),
      (s.onRing = true) ∧ (s.crStat 9 = true) ∧ (n = s.cr.msgid + 1) ∧ (q = (s.cr.txSeq + 1) % 2 ^ 32)) ∧
    (∃ (s : State) (u : State) (l : Nat) (t0 : Nat) (p : List Byte) (off : Int),
      (s.ringTake [0x24] = some ((0x24, l, p), u)) ∧ (u.crStat 9 = false) ∧ (u.cr.gotSync = false) ∧ (u.ringState = 2) ∧ ((u.ringLane l).delays = []) ∧ ((u.ringLane (1 - l)).hello = false) ∧ (off = ((t0 : Int) - ((beAt (ringBody p) 0 10 : Int) + toSigned64 (beAt (ringBody p) 10 8))) / 65536)) ∧
    (∃ (s : State) (l : Nat),
      (s.laneJoined l = true)) ∧
    (∃ (s : State) (u : State) (l : Nat) (a : Nat) (c : Nat) (d : Nat) (b : List Byte),
      (s.linkTake (l + 1) [0x21] = some ((a, c, d, b), u))) ∧
    (∃ (s : State) (u : State) (l : Nat) (a : Nat) (c : Nat) (d : Nat) (b : List Byte) (n : Nat),
      (s.linkTake (l + 1) [0x22] = some ((a, c, d, b), u)) ∧ ((u.ringLane l).t1 = some n)) :=
  ⟨⟨laneIn (fun s => { s with cr := { s.cr with keyCur := List.replicate 16 1, lanes := cput {} { s.ringLane 0 with rsc := 1 } 0 s.cr.lanes } }) (0x20, 0, 0, (List.replicate 8 0 ++ (List.replicate 32 0) ++ helloTag (List.replicate 16 1) (List.replicate 8 0) (List.replicate 32 0))), laneTook (fun s => { s with cr := { s.cr with keyCur := List.replicate 16 1, lanes := cput {} { s.ringLane 0 with rsc := 1 } 0 s.cr.lanes } }) (0x20, 0, 0, (List.replicate 8 0 ++ (List.replicate 32 0) ++ helloTag (List.replicate 16 1) (List.replicate 8 0) (List.replicate 32 0))), 0, 0x20, 0, 0, (List.replicate 32 0), List.replicate 8 0, List.replicate 16 1, by decide +kernel⟩,
   ⟨laneIn (id) (0x20, 0, 0, []), laneTook (id) (0x20, 0, 0, []), 0, 0x20, 0, 0, [], by decide +kernel⟩,
   ⟨laneIn (id) (0x2C, 0, 0, ([8, 0, 0, 1, 0, 2, 0, 0, 0, 0, 0, 0, 0, 0, 0, 1] ++ List.replicate 8 0)), laneTook (id) (0x2C, 0, 0, ([8, 0, 0, 1, 0, 2, 0, 0, 0, 0, 0, 0, 0, 0, 0, 1] ++ List.replicate 8 0)), 0, 0, 0, ([8, 0, 0, 1, 0, 2, 0, 0, 0, 0, 0, 0, 0, 0, 0, 1] ++ List.replicate 8 0), 0x2C, { high := 1, marks := 1, any := true }, spliceBytes ([8, 0, 0, 1, 0, 2, 0, 0, 0, 0, 0, 0, 0, 0, 0, 1] ++ List.replicate 8 0) 4 (beBytes 2 1), by (try dsimp only); all_goals decide +kernel⟩,
   ⟨laneIn (id) (0x23, 0, 0, ([12, 0, 0, 1, 0, 2, 0, 0, 0, 0, 0, 0, 0, 0, 0, 1] ++ List.replicate 8 0)), laneTook (id) (0x23, 0, 0, ([12, 0, 0, 1, 0, 2, 0, 0, 0, 0, 0, 0, 0, 0, 0, 1] ++ List.replicate 8 0)), 0, 0, 0, ([12, 0, 0, 1, 0, 2, 0, 0, 0, 0, 0, 0, 0, 0, 0, 1] ++ List.replicate 8 0), 0x23, by (try dsimp only); all_goals decide +kernel⟩,
   ⟨ringIn (fun s => { s with cr := { s.cr with rxq := List.replicate 63 (0, 0, []) } }) 0x2D ([]), ringTook (fun s => { s with cr := { s.cr with rxq := List.replicate 63 (0, 0, []) } }) 0x2D ([]), 0, [], 0x2D, by decide +kernel⟩,
   ⟨ringIn (fun s => { s with cr := { s.cr with rxq := List.replicate 64 (0, 0, []) } }) 0x2C ([]), ringTook (fun s => { s with cr := { s.cr with rxq := List.replicate 64 (0, 0, []) } }) 0x2C ([]), 0, [], 0x2C, by decide +kernel⟩,
   ⟨(up).setFld (crReg 0x104) 3 0 2, 0x4002D, by decide +kernel⟩,
   ⟨up, by decide +kernel⟩,
   ⟨{ up with cr := { up.cr with rxq := [(0x2C, 1, [5])] } }, 1, [5], 0x2C, [], by decide +kernel⟩,
   ⟨ringIn (fun s => ({ s with cr := { s.cr with lanes := [(0, { hello := true })] } } : State).setFld (crReg 0x104) 3 0 1) 0x25 ([]), ringTook (fun s => ({ s with cr := { s.cr with lanes := [(0, { hello := true })] } } : State).setFld (crReg 0x104) 3 0 1) 0x25 ([]), 0, [], by decide +kernel⟩,
   ⟨(up.setFld (crReg 0x104) 9 9 1).setFld (crReg 0x104) 3 0 1, 1, 1, by decide +kernel⟩,
   ⟨ringIn (fun s => s.setFld (crReg 0x104) 3 0 2) 0x24 (ringMsg (List.replicate 18 0)), ringTook (fun s => s.setFld (crReg 0x104) 3 0 2) 0x24 (ringMsg (List.replicate 18 0)), 0, 0, ringMsg (List.replicate 18 0), 0, by decide +kernel⟩,
   ⟨{ up with cr := { up.cr with lanes := [(0, { hello := true })] } }, 0, by decide +kernel⟩,
   ⟨laneIn (id) (0x21, 0, 0, []), laneTook (id) (0x21, 0, 0, []), 0, 0x21, 0, 0, [], by decide +kernel⟩,
   ⟨laneIn (fun s => { s with cr := { s.cr with lanes := cput {} { s.ringLane 0 with t1 := some 7 } 0 s.cr.lanes } }) (0x22, 0, 0, []), laneTook (fun s => { s with cr := { s.cr with lanes := cput {} { s.ringLane 0 with t1 := some 7 } 0 s.cr.lanes } }) (0x22, 0, 0, []), 0, 0x22, 0, 0, [], 7, by decide +kernel⟩⟩

/-- For every clause of LeaseCommandsTakeEffect that has hypotheses: a state and operands that meet them. -/
theorem witness_LeaseCommandsTakeEffect :
    (∃ (s : State) (u : State) (l : Nat) (n : Nat) (e : Nat) (p : List Byte),
      let b := ringBody p;
      let asks (wop : Nat) : Prop := s.ringTake [0x27] = some ((0x27, l, p), u) ∧ beAt b 0 1 = wop ∧ u.servesLeases = true ∧ u.cr.answers = [] ∧ u.cr.mirrors = [] ∧ u.leaseCounter (beAt b 4 4) = .ok n;
      (asks 0) ∧ (u.crStat 7 = true) ∧ (u.freeLease = some e)) ∧
    (∃ (s : State) (u : State) (l : Nat) (n : Nat) (p : List Byte),
      let b := ringBody p;
      let asks (wop : Nat) : Prop := s.ringTake [0x27] = some ((0x27, l, p), u) ∧ beAt b 0 1 = wop ∧ u.servesLeases = true ∧ u.cr.answers = [] ∧ u.cr.mirrors = [] ∧ u.leaseCounter (beAt b 4 4) = .ok n;
      (asks 0) ∧ (u.crStat 7 = false)) ∧
    (∃ (s : State) (u : State) (l : Nat) (n : Nat) (p : List Byte),
      let b := ringBody p;
      let req := ringSrc p;
      let asks (wop : Nat) : Prop := s.ringTake [0x27] = some ((0x27, l, p), u) ∧ beAt b 0 1 = wop ∧ u.servesLeases = true ∧ u.cr.answers = [] ∧ u.cr.mirrors = [] ∧ u.leaseCounter (beAt b 4 4) = .ok n;
      let x := u.lease (beAt b 16 8 % 65536);
      let v := beAt b 24 8;
      let owns : Prop := x.used = true ∧ x.gen = natField (beAt b 16 8) 31 16 ∧ x.idx = n ∧ x.req = req ∧ u.clk.tim < x.expiry;
      (asks 1) ∧ (owns) ∧ (u.ctrVersion n = x.version) ∧ (v < 2 ^ 64)) ∧
    (∃ (s : State) (u : State) (l : Nat) (n : Nat) (p : List Byte),
      let b := ringBody p;
      let req := ringSrc p;
      let asks (wop : Nat) : Prop := s.ringTake [0x27] = some ((0x27, l, p), u) ∧ beAt b 0 1 = wop ∧ u.servesLeases = true ∧ u.cr.answers = [] ∧ u.cr.mirrors = [] ∧ u.leaseCounter (beAt b 4 4) = .ok n;
      let x := u.lease (beAt b 16 8 % 65536);
      let owns : Prop := x.used = true ∧ x.gen = natField (beAt b 16 8) 31 16 ∧ x.idx = n ∧ x.req = req ∧ u.clk.tim < x.expiry;
      (asks 1) ∧ (owns) ∧ (u.ctrVersion n ≠ x.version)) ∧
    (∃ (s : State) (u : State) (l : Nat) (n : Nat) (p : List Byte),
      let b := ringBody p;
      let req := ringSrc p;
      let asks (wop : Nat) : Prop := s.ringTake [0x27] = some ((0x27, l, p), u) ∧ beAt b 0 1 = wop ∧ u.servesLeases = true ∧ u.cr.answers = [] ∧ u.cr.mirrors = [] ∧ u.leaseCounter (beAt b 4 4) = .ok n;
      let x := u.lease (beAt b 16 8 % 65536);
      let v := beAt b 24 8;
      let owns : Prop := x.used = true ∧ x.gen = natField (beAt b 16 8) 31 16 ∧ x.idx = n ∧ x.req = req ∧ u.clk.tim < x.expiry;
      (asks 2) ∧ (owns) ∧ (-(2 ^ 63 : Int) ≤ u.ctrValue n + toSigned64 v) ∧ (u.ctrValue n + toSigned64 v < 2 ^ 63)) ∧
    (∃ (s : State) (u : State) (l : Nat) (n : Nat) (p : List Byte),
      let b := ringBody p;
      let req := ringSrc p;
      let asks (wop : Nat) : Prop := s.ringTake [0x27] = some ((0x27, l, p), u) ∧ beAt b 0 1 = wop ∧ u.servesLeases = true ∧ u.cr.answers = [] ∧ u.cr.mirrors = [] ∧ u.leaseCounter (beAt b 4 4) = .ok n;
      let x := u.lease (beAt b 16 8 % 65536);
      let v := beAt b 24 8;
      let owns : Prop := x.used = true ∧ x.gen = natField (beAt b 16 8) 31 16 ∧ x.idx = n ∧ x.req = req ∧ u.clk.tim < x.expiry;
      (asks 2) ∧ (owns) ∧ (2 ^ 63 ≤ u.ctrValue n + toSigned64 v)) ∧
    (∃ (s : State) (e : Nat),
      ((s.lease e).used = true) ∧ ((s.lease e).expiry ≤ s.clk.tim)) ∧
    (∃ (s : State) (u : State) (l : Nat) (p : List Byte),
      let b := ringBody p;
      let req := ringSrc p;
      (s.ringTake [0x29] = some ((0x29, l, p), u)) ∧ (req = u.partner) ∧ (u.asStandby = true) ∧ (u.crStat 20 = true) ∧ ((mirrorOf b).mseq = u.cr.mseqRx + 1) ∧ ((mirrorOf b).write = false)) ∧
    (∃ (s : State) (u : State) (l : Nat) (p : List Byte),
      let b := ringBody p;
      let req := ringSrc p;
      (s.ringTake [0x29] = some ((0x29, l, p), u)) ∧ (req = u.partner) ∧ (u.asStandby = true) ∧ (u.crStat 20 = true) ∧ ((mirrorOf b).mseq ≠ u.cr.mseqRx + 1)) ∧
    (∃ (s : State) (u : State) (l : Nat) (p : List Byte) (m : LeaseMirror),
      let b := ringBody p;
      let req := ringSrc p;
      (s.ringTake [0x2A] = some ((0x2A, l, p), u)) ∧ (req = u.partner) ∧ (u.cr.mirrors = [m]) ∧ (m.mseq = beAt b 0 8) ∧ (m.desync = false) ∧ (m.mseq < 2 ^ 64 - 2)) ∧
    (∃ (s : State) (m : LeaseMirror),
      (s.cr.mirrors = [m]) ∧ (m.desync = false) ∧ (s.hasStandby = true)) ∧
    (∃ (s : State) (u : State) (l : Nat) (p : List Byte),
      let b := ringBody p;
      let req := ringSrc p;
      (s.ringTake [0x2B] = some ((0x2B, l, p), u)) ∧ (req = u.partner) ∧ (u.asStandby = true) ∧ (beAt b 0 1 = 2) ∧ (u.cr.syncRx = beAt b 4 4)) ∧
    (∃ (s : State) (u : State) (l : Nat) (p : List Byte) (q : LeaseReq),
      let b := ringBody p;
      (s.ringTake [0x28] = some ((0x28, l, p), u)) ∧ (oget u.cr.reqs (beAt b 4 4) = some q) ∧ (q.wop ≠ 0)) ∧
    (∃ (s : State) (tag : Nat) (q : LeaseReq),
      (oget s.cr.reqs tag = some q) ∧ (s.clk.tim < q.deadline)) ∧
    (∃ (s : State) (tag : Nat) (q : LeaseReq),
      (oget s.cr.reqs tag = some q) ∧ (q.wop = 0)) ∧
    (∃ (s : State) (tag : Nat) (q : LeaseReq),
      (oget s.cr.reqs tag = some q) ∧ (q.wop ≠ 0)) :=
  ⟨⟨ringIn (fun s => (home {} s).setFld (crReg 0x104) 7 7 1) 0x27 (leaseMsg 0 (0)), ringTook (fun s => (home {} s).setFld (crReg 0x104) 7 7 1) 0x27 (leaseMsg 0 (0)), 0, 0, 0, leaseMsg 0 (0), ⟨by decide +kernel, by decide +kernel, by decide +kernel, by decide +kernel, by decide +kernel, okOf (by decide +kernel)⟩, by (try dsimp only); all_goals decide +kernel, by (try dsimp only); all_goals decide +kernel⟩,
   ⟨ringIn (home ({})) 0x27 (leaseMsg 0 (0)), ringTook (home ({})) 0x27 (leaseMsg 0 (0)), 0, 0, leaseMsg 0 (0), ⟨by decide +kernel, by decide +kernel, by decide +kernel, by decide +kernel, by decide +kernel, okOf (by decide +kernel)⟩, by (try dsimp only); all_goals decide +kernel⟩,
   ⟨ringIn (home (leased)) 0x27 (leaseMsg 1 (2 ^ 64 - 1)), ringTook (home (leased)) 0x27 (leaseMsg 1 (2 ^ 64 - 1)), 0, 0, leaseMsg 1 (2 ^ 64 - 1), ⟨by decide +kernel, by decide +kernel, by decide +kernel, by decide +kernel, by decide +kernel, okOf (by decide +kernel)⟩, by (try dsimp only); all_goals decide +kernel, by (try dsimp only); all_goals decide +kernel, by (try dsimp only); all_goals decide +kernel⟩,
   ⟨ringIn (home ({ leased with version := 1 })) 0x27 (leaseMsg 1 (0)), ringTook (home ({ leased with version := 1 })) 0x27 (leaseMsg 1 (0)), 0, 0, leaseMsg 1 (0), ⟨by decide +kernel, by decide +kernel, by decide +kernel, by decide +kernel, by decide +kernel, okOf (by decide +kernel)⟩, by (try dsimp only); all_goals decide +kernel, by (try dsimp only); all_goals decide +kernel⟩,
   ⟨ringIn (fun s => home leased s) 0x27 (leaseMsg 2 (2 ^ 63)), ringTook (fun s => home leased s) 0x27 (leaseMsg 2 (2 ^ 63)), 0, 0, leaseMsg 2 (2 ^ 63), ⟨by decide +kernel, by decide +kernel, by decide +kernel, by decide +kernel, by decide +kernel, okOf (by decide +kernel)⟩, by (try dsimp only); all_goals decide +kernel, by (try dsimp only); all_goals decide +kernel, by (try dsimp only); all_goals decide +kernel⟩,
   ⟨ringIn (fun s => (home leased s).setByte spHbm 1) 0x27 (leaseMsg 2 (2 ^ 63 - 1)), ringTook (fun s => (home leased s).setByte spHbm 1) 0x27 (leaseMsg 2 (2 ^ 63 - 1)), 0, 0, leaseMsg 2 (2 ^ 63 - 1), ⟨by decide +kernel, by decide +kernel, by decide +kernel, by decide +kernel, by decide +kernel, okOf (by decide +kernel)⟩, by (try dsimp only); all_goals decide +kernel, by (try dsimp only); all_goals decide +kernel⟩,
   ⟨{ up with cr := { up.cr with leases := [(0, { used := true })] } }, 0, by decide +kernel⟩,
   ⟨ringIn (fun s => s.setFld (crReg 0x104) 20 20 1) 0x29 (ringMsg ([0, 0, 0, 0, 0, 0, 0, 1] ++ List.replicate 104 0)), ringTook (fun s => s.setFld (crReg 0x104) 20 20 1) 0x29 (ringMsg ([0, 0, 0, 0, 0, 0, 0, 1] ++ List.replicate 104 0)), 0, ringMsg ([0, 0, 0, 0, 0, 0, 0, 1] ++ List.replicate 104 0), by (try dsimp only); all_goals decide +kernel⟩,
   ⟨ringIn (fun s => s.setFld (crReg 0x104) 20 20 1) 0x29 (ringMsg (List.replicate 112 0)), ringTook (fun s => s.setFld (crReg 0x104) 20 20 1) 0x29 (ringMsg (List.replicate 112 0)), 0, ringMsg (List.replicate 112 0), by (try dsimp only); all_goals decide +kernel⟩,
   ⟨ringIn (fun s => { s with cr := { s.cr with mirrors := [{ mseq := 2 ^ 64 - 3 }] } }) 0x2A (ringMsg (beBytes 8 (2 ^ 64 - 3))), ringTook (fun s => { s with cr := { s.cr with mirrors := [{ mseq := 2 ^ 64 - 3 }] } }) 0x2A (ringMsg (beBytes 8 (2 ^ 64 - 3))), 0, ringMsg (beBytes 8 (2 ^ 64 - 3)), { mseq := 2 ^ 64 - 3 }, by (try dsimp only); all_goals decide +kernel⟩,
   ⟨({ up with cr := { up.cr with mirrors := [{}] }, jn := { up.jn with link := { up := true }, partState := 10 } } : State).setFld (twReg 0x104) 3 0 2, {}, by decide +kernel⟩,
   ⟨ringIn (id) 0x2B (ringMsg ([2] ++ List.replicate 7 0)), ringTook (id) 0x2B (ringMsg ([2] ++ List.replicate 7 0)), 0, ringMsg ([2] ++ List.replicate 7 0), by (try dsimp only); all_goals decide +kernel⟩,
   ⟨ringIn (fun s => { s with cr := { s.cr with reqs := [(0, { wop := 1 })] } }) 0x28 (ringMsg (List.replicate 40 0)), ringTook (fun s => { s with cr := { s.cr with reqs := [(0, { wop := 1 })] } }) 0x28 (ringMsg (List.replicate 40 0)), 0, ringMsg (List.replicate 40 0), { wop := 1 }, by (try dsimp only); all_goals decide +kernel⟩,
   ⟨{ up with cr := { up.cr with reqs := [(0, { deadline := 1 })] } }, 0, { deadline := 1 }, by decide +kernel⟩,
   ⟨{ up with cr := { up.cr with reqs := [(0, {})] } }, 0, {}, by decide +kernel⟩,
   ⟨{ up with cr := { up.cr with reqs := [(0, { wop := 2 })] } }, 0, { wop := 2 }, by decide +kernel⟩⟩

/-- For every clause of CounterCommandsTakeEffect that has hypotheses: a state and operands that meet them. -/
theorem witness_CounterCommandsTakeEffect :
    (∃ (s : State),
      let i := s.ctrSel;
      let free : Prop := s.fld (crReg 0x170) 31 31 = 0;
      (free) ∧ (i < s.ctrCount)) ∧
    (∃ (s : State),
      let i := s.ctrSel;
      let free : Prop := s.fld (crReg 0x170) 31 31 = 0;
      (free) ∧ (s.ctrCount ≤ i)) ∧
    (∃ (s : State),
      let i := s.ctrSel;
      let free : Prop := s.fld (crReg 0x170) 31 31 = 0;
      (free) ∧ (i < s.ctrCount)) ∧
    (∃ (s : State),
      let free : Prop := s.fld (crReg 0x170) 31 31 = 0;
      (free)) ∧
    (∃ (s : State),
      (s.fld (crReg 0x170) 31 31 = 1)) ∧
    (∃ (s : State) (v : Reg),
      (s.pageLive crPage = true) ∧ (s.lockInForce = false) ∧ (bitAt v 31 = false) ∧ ((getField v 9 0 = s.position ∨ s.ringState = 0))) ∧
    (∃ (v : Reg),
      (100 ≤ getField v 15 0) ∧ (getField v 15 0 ≤ 4000) ∧ (10 ≤ getField v 23 16) ∧ (1 ≤ getField v 31 24) ∧ (getField v 31 24 ≤ 100)) ∧
    (∃ (s : State) (off : Nat),
      (s.pageLive crPage = true) ∧ (s.lockInForce = false) ∧ (s.ringState = 0) ∧ (0x148 ≤ off) ∧ (off ≤ 0x154) ∧ (off % 4 = 0)) ∧
    (∃ (s : State) (v : Reg),
      (s.pageLive crPage = true) ∧ (s.lockInForce = false) ∧ (s.ringState = 0) ∧ (v.toNat ≤ 2 ^ 20)) :=
  ⟨⟨up.wrn (crReg 0x144) 1, by (try dsimp only); all_goals decide +kernel⟩,
   ⟨up, by (try dsimp only); all_goals decide +kernel⟩,
   ⟨up.wrn (crReg 0x144) 1, by (try dsimp only); all_goals decide +kernel⟩,
   ⟨up, by (try dsimp only); all_goals decide +kernel⟩,
   ⟨up.setFld (crReg 0x170) 31 31 1, by decide +kernel⟩,
   ⟨up, 0, by decide +kernel⟩,
   ⟨0x640A0FA0, by decide +kernel⟩,
   ⟨up, 0x154, by decide +kernel⟩,
   ⟨up, 0x100000, by decide +kernel⟩⟩

/-- For every clause of HostInterfaceCommandsTakeEffect that has hypotheses: a state and operands that meet them. -/
theorem witness_HostInterfaceCommandsTakeEffect :
    (∃ (s : State),
      (s.st.pcieReset = true)) ∧
    (∃ (n : Nat),
      (n < 2048)) ∧
    (∃ (s : State) (r : Nat) (v : Reg),
      ((getField v 15 0 + 65536 - s.rgCons r) % 65536 ≤ s.rgSize r)) ∧
    (∃ (s : State) (r : Nat) (v : Reg),
      (s.rgSize r < (getField v 15 0 + 65536 - s.rgCons r) % 65536)) ∧
    (∃ (s : State) (r : Nat) (v : Reg),
      (s.rgCfgBad r v = false) ∧ (bitAt v 31 = false)) ∧
    (∃ (s : State) (r : Nat),
      (s.hi.modWait.contains r = true)) ∧
    (∃ (s : State) (r : Nat),
      let d := s.bytes (s.rgDesc r (s.rgCons r + (s.hi.tx.filter (·.ring = r)).length)) 32;
      (s.hostDma = true) ∧ (s.portsOpen = true) ∧ (r < 128) ∧ (s.hi.txTurn = (r + 127) % 128) ∧ (s.txReady r = true) ∧ (s.txRoomUsed + ofLe (sliceBytes d 8 2) ≤ 2 ^ 19)) ∧
    (∃ (s : State) (r : Nat) (t : TxPull),
      (s.hi.tx = [t]) ∧ (t.ring = r) ∧ (t.frame = none) ∧ (txMalformed t.desc = true)) ∧
    (∃ (s : State) (r : Nat) (t : TxPull),
      (s.hi.tx = [t]) ∧ (t.ring = r) ∧ (t.frame = none) ∧ (txMalformed t.desc = false)) ∧
    (∃ (s : State) (r : Nat) (t : TxPull),
      let len := ofLe (sliceBytes t.desc 8 2);
      let frame := s.bytes (spHost + ofLe (sliceBytes t.desc 0 8)) len;
      (s.hi.tx = [t]) ∧ (t.ring = r) ∧ (t.frame = none) ∧ (txMalformed t.desc = false) ∧ (ofBe (frame.take 6) ≠ s.svcMac 1) ∧ ((descField t.desc 0xB 1).testBit 0 = true) ∧ (s.portConfigured (descField t.desc 0xC 2) = true) ∧ (s.congested 1 (descField t.desc 0xC 2) (descField t.desc 0xA 1 % 32) = false)) ∧
    (∃ (s : State) (n : Nat) (f : Frame),
      (s.hostDma = true) ∧ (leastTag (fun f => f.cls) ((List.range 32).filterMap s.hostPullable) = some (n, f))) ∧
    (∃ (s : State) (r : Nat) (f : Frame) (x : RxPull) (rest : List RxPull) (u : State) (g : Frame),
      (s.rgPulls r = x :: rest) ∧ (s.frame x.frame = some f) ∧ (u = s.refreshBody x.frame) ∧ (u.frame x.frame = some g) ∧ (u.hostDma = true) ∧ (g.ended ≠ 0) ∧ (g.known ≠ .pending)) ∧
    (∃ (s : State) (r : Nat) (x : RxPull) (rest : List RxPull),
      (s.rgPulls r = x :: rest) ∧ (s.frame x.frame = none)) :=
  ⟨⟨{ up with st := { up.st with pcieReset := true } }, by decide +kernel⟩,
   ⟨2047, by decide +kernel⟩,
   ⟨ringOn 0, 0, 16, by decide +kernel⟩,
   ⟨ringOn 0, 0, 17, by decide +kernel⟩,
   ⟨up, 128, 0x400040, by decide +kernel⟩,
   ⟨{ up with hi := { up.hi with modWait := [0] } }, 0, by decide +kernel⟩,
   ⟨ringOn 1, 1, by (try dsimp only); all_goals decide +kernel⟩,
   ⟨{ up with hi := { up.hi with tx := [{}] } }, 0, {}, by decide +kernel⟩,
   ⟨{ up with hi := { up.hi with tx := [{ desc := List.replicate 8 0 ++ [60] }] } }, 0, { desc := List.replicate 8 0 ++ [60] }, by decide +kernel⟩,
   ⟨({ (laneAt 4 0) with hi := { up.hi with tx := [{ desc := List.replicate 8 0 ++ [0xFC, 0x3E, 0, 1] }] } } : State).wrn (ozReg 1 0x808) 5 |>.setFld (ra tDR 0 0x104) 2 0 0, 0, { desc := List.replicate 8 0 ++ [0xFC, 0x3E, 0, 1] }, by (try dsimp only); all_goals decide +kernel⟩,
   ⟨((ringOn 128).setFrame 1 { src := 1024, known := .pass, place := .queued 32768, tag := some 1, endNoted := true }).setQueue 32768 [1], 1, { src := 1024, known := .pass, place := .queued 32768, tag := some 1, endNoted := true }, by decide +kernel⟩,
   ⟨({ ringOn 128 with hi := { up.hi with rx := [(128, [{ frame := 1 }])] } } : State).setFrame 1 { src := 1024, ended := 2, known := .fail }, 128, { src := 1024, ended := 2, known := .fail }, { frame := 1 }, [], (({ ringOn 128 with hi := { up.hi with rx := [(128, [{ frame := 1 }])] } } : State).setFrame 1 { src := 1024, ended := 2, known := .fail }).refreshBody 1, { src := 1024, ended := 2, known := .fail }, by decide +kernel, by decide +kernel, rfl, by decide +kernel, by decide +kernel, by decide +kernel, by decide +kernel⟩,
   ⟨{ up with hi := { up.hi with rx := [(128, [{ frame := 1 }])] } }, 128, { frame := 1 }, [], by decide +kernel⟩⟩

/-- For every clause of MailboxCommandsTakeEffect that has hypotheses: a state and operands that meet them. -/
theorem witness_MailboxCommandsTakeEffect :
    (∃ (s : State) (ch : Nat) (k : Nat),
      let x := s.mbox ch;
      let host : Prop := s.domOn 72 = true ∧ s.st.pcieReset = false ∧ s.mbEn ch = true;
      (host) ∧ (s.mbSend ch = 256) ∧ (x.full = false) ∧ (x.ovf = false) ∧ (k < 32)) ∧
    (∃ (s : State) (ch : Nat) (k : Nat),
      let x := s.mbox ch;
      (s.mbEn ch = true) ∧ (56 ≤ ch) ∧ (x.full = false) ∧ (k < 32)) ∧
    (∃ (s : State) (ch : Nat) (v : Reg),
      let x := s.mbox ch;
      let host : Prop := s.domOn 72 = true ∧ s.st.pcieReset = false ∧ s.mbEn ch = true;
      let bs := leBytes 4 v.toNat;
      let w := ofLe bs % 32;
      (host) ∧ (s.mbSend ch = 256) ∧ (x.full = false) ∧ (x.ovf = false) ∧ (1 ≤ w) ∧ (w ≤ 16)) ∧
    (∃ (s : State) (ch : Nat) (v : Reg),
      let x := s.mbox ch;
      let bs := leBytes 4 v.toNat;
      let w := ofLe bs % 32;
      (s.mbEn ch = true) ∧ (56 ≤ ch) ∧ (x.full = false) ∧ (1 ≤ w) ∧ (w ≤ 16)) ∧
    (∃ (s : State) (ch : Nat),
      let x := s.mbox ch;
      let host : Prop := s.domOn 72 = true ∧ s.st.pcieReset = false ∧ s.mbEn ch = true;
      (host) ∧ (s.mbSend ch = 256) ∧ (x.full = true) ∧ (x.ovf = false)) ∧
    (∃ (s : State) (ch : Nat),
      let host : Prop := s.domOn 72 = true ∧ s.st.pcieReset = false ∧ s.mbEn ch = true;
      (host) ∧ (s.mbRecv ch = 256) ∧ ((ch < 48 ∨ 56 ≤ ch))) ∧
    (∃ (s : State) (ch : Nat),
      let x := s.mbox ch;
      (s.mbEn ch = true) ∧ (48 ≤ ch) ∧ (ch < 56) ∧ (x.full = true)) ∧
    (∃ (s : State) (ch : Nat),
      let host : Prop := s.domOn 72 = true ∧ s.st.pcieReset = false ∧ s.mbEn ch = true;
      (host)) ∧
    (∃ (s : State) (ch : Nat),
      let host : Prop := s.domOn 72 = true ∧ s.st.pcieReset = false ∧ s.mbEn ch = true;
      (host) ∧ (s.mbSend ch = 256)) ∧
    (∃ (s : State) (ch : Nat) (v : Reg),
      let x := s.mbox ch;
      (x.full = false) ∧ (ch < 48) ∧ (endpointsOk ch (getField v 9 0) (getField v 25 16) = true)) ∧
    (∃ (s : State) (ch : Nat) (v : Reg),
      let x := s.mbox ch;
      ((x.full = true ∨ endpointsOk ch (getField v 9 0) (getField v 25 16) = false))) :=
  ⟨⟨({ up with hi := { up.hi with mbox := cput {} {} 0 [] } } : State).wrn (mbCfg 0) (2 ^ 31 + 5 * 2 ^ 16 + 256), 0, 31, by (try dsimp only); all_goals decide +kernel⟩,
   ⟨({ up with hi := { up.hi with mbox := cput {} {} 56 [] } } : State).wrn (mbCfg 56) (2 ^ 31 + 5 * 2 ^ 16 + 0), 56, 31, by (try dsimp only); all_goals decide +kernel⟩,
   ⟨({ up with hi := { up.hi with mbox := cput {} {} 0 [] } } : State).wrn (mbCfg 0) (2 ^ 31 + 5 * 2 ^ 16 + 256), 0, 16, by (try dsimp only); all_goals decide +kernel⟩,
   ⟨({ up with hi := { up.hi with mbox := cput {} {} 63 [] } } : State).wrn (mbCfg 63) (2 ^ 31 + 5 * 2 ^ 16 + 0), 63, 1, by (try dsimp only); all_goals decide +kernel⟩,
   ⟨({ up with hi := { up.hi with mbox := cput {} { full := true } 0 [] } } : State).wrn (mbCfg 0) (2 ^ 31 + 5 * 2 ^ 16 + 256), 0, by (try dsimp only); all_goals decide +kernel⟩,
   ⟨({ up with hi := { up.hi with mbox := cput {} {} 15 [] } } : State).wrn (mbCfg 15) (2 ^ 31 + 256 * 2 ^ 16 + 3), 15, by (try dsimp only); all_goals decide +kernel⟩,
   ⟨({ up with hi := { up.hi with mbox := cput {} { full := true } 55 [] } } : State).wrn (mbCfg 55) (2 ^ 31 + 0 * 2 ^ 16 + 256), 55, by (try dsimp only); all_goals decide +kernel⟩,
   ⟨({ up with hi := { up.hi with mbox := cput {} {} 0 [] } } : State).wrn (mbCfg 0) (2 ^ 31 + 5 * 2 ^ 16 + 256), 0, by (try dsimp only); all_goals decide +kernel⟩,
   ⟨({ up with hi := { up.hi with mbox := cput {} {} 0 [] } } : State).wrn (mbCfg 0) (2 ^ 31 + 5 * 2 ^ 16 + 256), 0, by (try dsimp only); all_goals decide +kernel⟩,
   ⟨up, 47, 0x7F007E, by (try dsimp only); all_goals decide +kernel⟩,
   ⟨up, 47, 0x7F007F, by (try dsimp only); all_goals decide +kernel⟩⟩

/-- For every clause of PageCommandsTakeEffect that has hypotheses: a state and operands that meet them. -/
theorem witness_PageCommandsTakeEffect :
    (∃ (s : State) (cust : Bool) (a : Nat),
      let passes : Prop := (cust = true ∨ s.hostUp = true ∧ s.warmBlocked a = false) ∧ s.regFence cust accW a = none;
      (passes)) ∧
    (∃ (s : State) (a : Nat) (be : BitVec 4),
      (s.hostUp = true) ∧ (be ≠ 0) ∧ (be ≠ 15) ∧ (a < bar4)) ∧
    (∃ (s : State) (cust : Bool) (a : Nat) (b : Nat),
      (cust = true) ∧ (s.regFence cust accW a = some b)) ∧
    (∃ (s : State) (cust : Bool) (a : Nat) (m : Reg),
      let passes : Prop := (cust = true ∨ s.hostUp = true ∧ s.warmBlocked a = false) ∧ s.regFence cust accW a = none;
      (a % 4 = 0) ∧ (a < bar2) ∧ (passes) ∧ (a / 0x1000 % 0x100 < pageCount (a / 0x100000)) ∧ (0x100 ≤ a % 0x1000) ∧ (s.pageLive (pageNo (a / 0x100000) (a / 0x1000 % 0x100)) = true) ∧ (access (a / 0x100000) (a / 0x1000 % 0x100) (a % 0x1000) = some (.rw, m))) ∧
    (∃ (s : State) (a : Nat),
      (s.hostUp = true) ∧ (s.warmBlocked (a / 4 * 4) = false) ∧ (s.regFence false accR (a / 4 * 4) = none)) ∧
    (∃ (s : State) (a : Nat),
      (s.regFence true accR (a / 4 * 4) = none)) ∧
    (∃ (s : State) (cust : Bool) (a : Nat),
      let passes : Prop := (cust = true ∨ s.hostUp = true ∧ s.warmBlocked a = false) ∧ s.regFence cust accW a = none;
      (passes) ∧ (devWide (a / 0x100000) (a % 0x1000) = true) ∧ (a < bar2) ∧ (a / 0x1000 % 0x100 < 4) ∧ (s.pageLive (a / 0x1000) = true)) ∧
    (∃ (p : Nat),
      (pageExists p = true)) ∧
    (∃ (p : Nat) (n : Nat),
      (pageExists p = true) ∧ (n < 4)) ∧
    (∃ (s : State) (ch : Nat) (w : List Nat),
      (s.custodyServes 0x01 ch w = true) ∧ (nth 0 w 1 < 2 ^ 28) ∧ (nth 0 w 1 % 4 = 0) ∧ (s.regFence true accR (nth 0 w 1) = none)) ∧
    (∃ (s : State) (ch : Nat) (w : List Nat),
      (s.custodyServes 0x02 ch w = true) ∧ (nth 0 w 1 < 2 ^ 28) ∧ (nth 0 w 1 % 4 = 0) ∧ (nth 0 w 2 < 2 ^ 32) ∧ (s.regFence true accW (nth 0 w 1) = none)) ∧
    (∃ (s : State) (ch : Nat) (w : List Nat),
      (s.custodyServes 0x03 ch w = true) ∧ ((nth 0 w 3 = 1 ∨ nth 0 w 3 = 2))) :=
  ⟨⟨open_, false, 0, by (try dsimp only); all_goals decide +kernel⟩,
   ⟨open_, 0, 8, by decide +kernel⟩,
   ⟨closedRegs, true, 0x100000, 0, by decide +kernel⟩,
   ⟨open_, false, 0x100114, 0x1F, by (try dsimp only); all_goals decide +kernel⟩,
   ⟨open_, 0, by decide +kernel⟩,
   ⟨open_, 0, by decide +kernel⟩,
   ⟨open_, false, 0x200800, by (try dsimp only); all_goals decide +kernel⟩,
   ⟨0x203, by decide +kernel⟩,
   ⟨0x203, 3, by decide +kernel⟩,
   ⟨custIn [1, 0xF300000], 48, custWords [1, 0xF300000], by decide +kernel⟩,
   ⟨custIn [2, 0x200100, 2 ^ 32 - 1], 48, custWords [2, 0x200100, 2 ^ 32 - 1], by decide +kernel⟩,
   ⟨custIn [3, 0, 0, 2], 48, custWords [3, 0, 0, 2], by decide +kernel⟩⟩

/-- For every clause of StartStepsFollowTheirTable that has hypotheses: a state and operands that meet them. -/
theorem witness_StartStepsFollowTheirTable :
    (∃ (s : State),
      let k := s.startFld 3 0;
      let runs : Prop := s.startWaits = false ∧ s.custodyBroken = false;
      (runs) ∧ ((k = 6 ∨ k = 9))) ∧
    (∃ (s : State),
      let k := s.startFld 3 0;
      let runs : Prop := s.startWaits = false ∧ s.custodyBroken = false;
      (runs) ∧ (k = 2) ∧ (s.suspects < 2)) ∧
    (∃ (s : State),
      let k := s.startFld 3 0;
      let runs : Prop := s.startWaits = false ∧ s.custodyBroken = false;
      (runs) ∧ (k = 2) ∧ (2 ≤ s.suspects)) ∧
    (∃ (s : State),
      let k := s.startFld 3 0;
      let runs : Prop := s.startWaits = false ∧ s.custodyBroken = false;
      (runs) ∧ (k = 5)) ∧
    (∃ (s : State),
      let k := s.startFld 3 0;
      let runs : Prop := s.startWaits = false ∧ s.custodyBroken = false;
      (runs) ∧ (k = 11) ∧ (s.ringState ≠ 1) ∧ (s.lockInForce = false)) ∧
    (∃ (s : State),
      let k := s.startFld 3 0;
      let runs : Prop := s.startWaits = false ∧ s.custodyBroken = false;
      (runs) ∧ (k = 12) ∧ (s.step12Ok = true)) ∧
    (∃ (s : State),
      (s.startWaits = true)) ∧
    (∃ (s : State),
      let k := s.startFld 3 0;
      (s.startWaits = false) ∧ (k ≠ 7) ∧ (k ≠ 10) ∧ (k ≠ 11)) ∧
    (∃ (s : State),
      let k := s.startFld 3 0;
      (s.startWaits = false) ∧ (k = 10)) ∧
    (∃ (s : State),
      let k := s.startFld 3 0;
      (s.startWaits = false) ∧ (k = 10) ∧ (s.twState = 0)) :=
  ⟨⟨startAt 9, by (try dsimp only); all_goals decide +kernel⟩,
   ⟨(startAt 2).setFld (rnReg 0x104) 4 4 1, by (try dsimp only); all_goals decide +kernel⟩,
   ⟨(startAt 2).setFld (rnReg 0x104) 5 4 3, by (try dsimp only); all_goals decide +kernel⟩,
   ⟨startAt 5, by (try dsimp only); all_goals decide +kernel⟩,
   ⟨startAt 11, by (try dsimp only); all_goals decide +kernel⟩,
   ⟨startAt 12, by (try dsimp only); all_goals decide +kernel⟩,
   ⟨quiet, by decide +kernel⟩,
   ⟨startAt 1, by (try dsimp only); all_goals decide +kernel⟩,
   ⟨startAt 10, by (try dsimp only); all_goals decide +kernel⟩,
   ⟨startAt 10, by (try dsimp only); all_goals decide +kernel⟩⟩

/-- For every clause of StartSourcesTakeEffect that has hypotheses: a state and operands that meet them. -/
theorem witness_StartSourcesTakeEffect :
    (∃ (s : State),
      (s.fl.opRec = none)) ∧
    (∃ (s : State),
      (s.st.sysReset = true)) ∧
    (∃ (s : State),
      let taken := s.took glPage;
      (taken.warmRefusal = 0)) ∧
    (∃ (s : State),
      let taken := s.took glPage;
      (taken.warmRefusal ≠ 0)) ∧
    (∃ (s : State),
      let taken := s.took glPage;
      (taken.warmRefusal = 0)) ∧
    (∃ (s : State) (cause : Nat),
      (s.st.prep = some cause)) ∧
    (∃ (s : State) (cause : Nat),
      (s.st.prep = some cause)) ∧
    (∃ (s : State),
      (s.st.retryDue = true)) ∧
    (∃ (s : State),
      (s.deviceWdCounts = true) ∧ (s.st.prep = none)) ∧
    (∃ (v : Reg),
      (getField v 15 0 = 0xA55A)) ∧
    (∃ (v : Reg),
      (getField v 15 0 ≠ 0xA55A)) ∧
    (∃ (s : State) (c : Nat),
      (s.coreRuns c = true)) :=
  ⟨⟨up, by decide +kernel⟩,
   ⟨{ up with st := { up.st with sysReset := true } }, by decide +kernel⟩,
   ⟨quiet, by (try dsimp only); all_goals decide +kernel⟩,
   ⟨{ up with st := { up.st with retryDue := true } }, by (try dsimp only); all_goals decide +kernel⟩,
   ⟨quiet, by (try dsimp only); all_goals decide +kernel⟩,
   ⟨{ up with st := { up.st with prep := some 1 } }, 1, by decide +kernel⟩,
   ⟨{ up with st := { up.st with prep := some 1 } }, 1, by decide +kernel⟩,
   ⟨{ up with st := { up.st with retryDue := true } }, by decide +kernel⟩,
   ⟨(up.setFld (glReg 0x204) 8 8 0).setFld (glReg 0x280) 0 0 1, by decide +kernel⟩,
   ⟨0xA55A, by decide +kernel⟩,
   ⟨0, by decide +kernel⟩,
   ⟨coreUp, 0, by decide +kernel⟩⟩

/-- For every clause of PowerEventsTakeEffect that has hypotheses: a state and operands that meet them. -/
theorem witness_PowerEventsTakeEffect :
    (∃ (s : State),
      ((∃ x ∈ s.st.temp, 115 ≤ x))) ∧
    (∃ (s : State),
      (s.st.tripped = true) ∧ (s.fld (glReg 0x2A4) 0 0 = 1) ∧ ((∀ x ∈ s.st.temp, x < 95))) ∧
    (∃ (s : State) (rail : Nat),
      ((∀ m < 4, (s.monitor m).below = false)) ∧ (s.st.tripped = false) ∧ (s.st.rails.contains rail = false)) ∧
    (∃ (s : State) (d : Nat),
      (s.domain d = 1)) ∧
    (∃ (s : State) (d : Nat),
      (s.domain d = 3) ∧ (68 ≤ d)) ∧
    (∃ (s : State) (d : Nat),
      (s.domain d = 3) ∧ (64 ≤ d) ∧ (d < 68) ∧ (s.clusterVerdicts (d - 64) = [])) ∧
    (∃ (s : State) (d : Nat),
      (s.domain d = 4) ∧ (64 ≤ d)) ∧
    (∃ (s : State) (d : Nat) (src : Nat),
      (((64 ≤ d ∧ d < 68 ∧ src = 1) ∨ (d = 72 ∧ src = 2) ∨ (d = 79 ∧ (src = 3 ∨ src = 4)))) ∧ ((∀ w ∈ s.st.wakes ++ s.st.held, w.1 ≠ d))) ∧
    (∃ (i : Nat),
      (i < 4)) ∧
    (∃ (s : State) (i : Nat),
      (i < 4) ∧ ((s.slow i).filt = true)) ∧
    (∃ (s : State),
      ((s.slow 2).filt = false) ∧ ((s.slow 2).armed 2 s.clk.ns = true)) ∧
    (∃ (s : State),
      ((s.slow 1).filt = false) ∧ ((s.slow 1).armed 1 s.clk.ns = true) ∧ (s.domOn 79 = false)) ∧
    (∃ (s : State) (i : Nat),
      (i < 4) ∧ (0 < s.clk.ns)) :=
  ⟨⟨{ up with st := { up.st with temp := [0, 0, 0, 0, 115] } }, by decide +kernel⟩,
   ⟨({ up with st := { up.st with tripped := true, temp := [94, 94, 94, 94, 94] } } : State).setFld (glReg 0x2A4) 0 0 1, by decide +kernel⟩,
   ⟨up, 0, by decide +kernel⟩,
   ⟨up.setDomain 0 1, 0, by decide +kernel⟩,
   ⟨up.setDomain 68 3, 68, by decide +kernel⟩,
   ⟨up.setDomain 67 3, 67, by decide +kernel⟩,
   ⟨up.setDomain 64 4, 64, by decide +kernel⟩,
   ⟨up, 79, 4, by decide +kernel⟩,
   ⟨3, by decide +kernel⟩,
   ⟨{ up with st := { up.st with slow := [(3, { filt := true })] } }, 3, by decide +kernel⟩,
   ⟨up, by decide +kernel⟩,
   ⟨up.setDomain 79 0, by decide +kernel⟩,
   ⟨{ up with clk := { ns := 1 } }, 3, by decide +kernel⟩⟩

/-- For every clause of AlarmsBringLockAndReachTheLatch that has hypotheses: a state and operands that meet them. -/
theorem witness_AlarmsBringLockAndReachTheLatch :
    (∃ (m : Nat),
      (m ≠ 4)) ∧
    (∃ (s : State) (m : Nat),
      let x := s.monitor m;
      (x.armed = true) ∧ (s.cus.keepOff = false) ∧ (m ≠ 5)) ∧
    (∃ (s : State),
      (s.cus.keepOff = false)) ∧
    (∃ (s : State) (m : Nat),
      let x := s.monitor m;
      (x.dep ≠ 0) ∧ (s.cus.keepOff = false)) ∧
    (∃ (s : State) (m : Nat),
      let x := s.monitor m;
      (x.armed = true) ∧ (s.cus.keepOff = false) ∧ (m ≠ 5)) ∧
    (∃ (m : Nat),
      (m < 4)) ∧
    (∃ (s : State) (m : Nat),
      let x := s.monitor m;
      (x.armed = true) ∧ (m < 4) ∧ (s.cus.keepOff = false)) ∧
    (∃ (s : State),
      (s.cus.keepOff = false)) ∧
    (∃ (s : State),
      (s.cus.keepOff = false)) ∧
    (∃ (s : State) (v : Reg),
      (s.cus.keepOff = false) ∧ (getField v 31 16 = 0x464F) ∧ (s.silicon ≤ 1)) ∧
    (∃ (s : State) (v : Reg),
      (getField v 31 16 ≠ 0x464F ∨ 1 < s.silicon)) ∧
    (∃ (s : State),
      (s.cus.sticky = true)) ∧
    (∃ (s : State) (mv : Nat),
      (s.cus.keepOff = false) ∧ (mv < 2600)) ∧
    (∃ (s : State) (mv : Nat),
      (s.cus.keepOff = false) ∧ (2600 ≤ mv)) :=
  ⟨⟨0, by decide +kernel⟩,
   ⟨{ up with cus := { up.cus with monitors := [(4, { armed := true })] } }, 4, by (try dsimp only); all_goals decide +kernel⟩,
   ⟨up, by decide +kernel⟩,
   ⟨{ up with cus := { up.cus with monitors := [(0, { dep := 1 })] } }, 0, by (try dsimp only); all_goals decide +kernel⟩,
   ⟨{ up with cus := { up.cus with monitors := [(4, { armed := true })] } }, 4, by (try dsimp only); all_goals decide +kernel⟩,
   ⟨3, by decide +kernel⟩,
   ⟨{ up with cus := { up.cus with monitors := [(3, { armed := true })] } }, 3, by (try dsimp only); all_goals decide +kernel⟩,
   ⟨up, by decide +kernel⟩,
   ⟨up, by decide +kernel⟩,
   ⟨up, 0x464F0000, by decide +kernel⟩,
   ⟨up, 0x464E0000, by decide +kernel⟩,
   ⟨{ up with cus := { up.cus with sticky := true } }, by decide +kernel⟩,
   ⟨up, 2599, by decide +kernel⟩,
   ⟨up, 2600, by decide +kernel⟩⟩

/-- For every clause of CustodySessionsAndLifeCycle that has hypotheses: a state and operands that meet them. -/
theorem witness_CustodySessionsAndLifeCycle :
    (∃ (s : State) (ch : Nat) (k : Nat) (w : List Nat),
      (s.custodyServes 0x20 ch w = true) ∧ (nth 0 w 1 = k) ∧ (k < 16)) ∧
    (∃ (s : State) (ch : Nat) (w : List Nat),
      (s.custodyServes 0x21 ch w = true) ∧ (s.cus.latch = 0x3C5A)) ∧
    (∃ (s : State) (ch : Nat) (w : List Nat),
      (s.custodyServes 0x21 ch w = true) ∧ (s.cus.latch ≠ 0x3C5A)) ∧
    (∃ (s : State) (ch : Nat) (w : List Nat),
      (s.custodyServes 0x30 ch w = true) ∧ (s.cus.session.open_ = false)) ∧
    (∃ (s : State) (ch : Nat) (w : List Nat),
      (s.custodyServes 0x31 ch w = true)) ∧
    (∃ (s : State) (ch : Nat) (w : List Nat) (r : List Byte) (u : State) (m : Nat) (n : Nat),
      (s.custodyServes 0x32 ch w = true) ∧ (nth 0 w 1 = m + 16 * n) ∧ (2 ≤ m) ∧ (m ≤ 8) ∧ (m ≤ n) ∧ (n ≤ 16) ∧ (s.silicon = 1) ∧ (s.draw 4 (2 * m + 1) = (some r, u))) ∧
    (∃ (s : State) (ch : Nat) (t : Nat) (w : List Nat),
      (s.custodyServes 0x40 ch w = true) ∧ (nth 0 w 1 = t) ∧ (t < 8) ∧ (t = s.silicon + 1) ∧ (t < 5) ∧ (t ≠ 2) ∧ (t ≠ 3) ∧ (s.lockInForce = false) ∧ (s.cus.tokenFails < 8)) ∧
    (∃ (s : State) (ch : Nat) (w : List Nat),
      (s.custodyServes 0x40 ch w = true) ∧ (nth 0 w 1 = 2) ∧ (s.silicon = 1) ∧ (s.lockInForce = false) ∧ (s.cus.tokenFails < 8) ∧ (s.cus.digest1 ≠ []) ∧ (s.cus.digest2 ≠ []) ∧ (sha384 (wordBytes w 2 4) = s.cus.digest1)) ∧
    (∃ (s : State) (ch : Nat) (w : List Nat),
      (s.custodyServes 0x40 ch w = true) ∧ (nth 0 w 1 = 2) ∧ (s.silicon = 1) ∧ (s.lockInForce = false) ∧ (s.cus.tokenFails < 8) ∧ (s.cus.digest1 ≠ []) ∧ (s.cus.digest2 ≠ []) ∧ (sha384 (wordBytes w 2 4) ≠ s.cus.digest1)) ∧
    (∃ (s : State) (ch : Nat) (w : List Nat),
      (s.custodyServes 0x41 ch w = true) ∧ (nth 0 w 1 = 1) ∧ (s.silicon = 1) ∧ (s.cus.digest1 = [])) ∧
    (∃ (s : State) (ch : Nat) (w : List Nat),
      (s.custodyServes 0x41 ch w = true) ∧ (nth 0 w 1 = 2) ∧ (s.silicon = 1) ∧ (s.cus.digest2 = [])) :=
  ⟨⟨custIn [32, 15], 48, 15, custWords [32, 15], by decide +kernel⟩,
   ⟨custIn [33], 48, custWords [33], by decide +kernel⟩,
   ⟨(fun s : State => { s with cus := { s.cus with latch := 0 } }) (custIn [33]), 48, custWords [33], by decide +kernel⟩,
   ⟨custIn [48], 48, custWords [48], by decide +kernel⟩,
   ⟨custIn [49], 48, custWords [49], by decide +kernel⟩,
   ⟨custIn [50, 2 + 16 * 16], 48, custWords [50, 2 + 16 * 16], (match ((custIn [50, 2 + 16 * 16]).draw 4 5).1 with | some b => b | none => []), ((custIn [50, 2 + 16 * 16]).draw 4 5).2, 2, 16, by decide +kernel⟩,
   ⟨(fun s : State => { s with cus := { s.cus with otp := 0xFFFFFF } }) (custIn [64, 4]), 48, 4, custWords [64, 4], by decide +kernel⟩,
   ⟨(fun s : State => { s with cus := { s.cus with tokenFails := 7, digest1 := sha384 (wordBytes (custWords [0x40, 2]) 2 4), digest2 := [0] } }) (custIn [64, 2]), 48, custWords [64, 2], by decide +kernel⟩,
   ⟨(fun s : State => { s with cus := { s.cus with digest1 := [1], digest2 := [0] } }) (custIn [64, 2]), 48, custWords [64, 2], by decide +kernel⟩,
   ⟨custIn [65, 1], 48, custWords [65, 1], by decide +kernel⟩,
   ⟨custIn [65, 2], 48, custWords [65, 2], by decide +kernel⟩⟩

/-- For every clause of ZoneLifeAndDebugGrants that has hypotheses: a state and operands that meet them. -/
theorem witness_ZoneLifeAndDebugGrants :
    (∃ (s : State) (ch : Nat) (z : Nat) (t : Nat) (w : List Nat),
      let x := s.zone z;
      let may : Prop := (s.silicon = 1 ∨ s.silicon = 2) ∧ s.lockInForce = false;
      (s.custodyServes 0x50 ch w = true) ∧ (may) ∧ (z < 64) ∧ (1 ≤ t) ∧ (t ≤ 3) ∧ (nth 0 w 1 = z + 256 * t) ∧ (x.started = false) ∧ (s.zoneLc z = 0) ∧ (nth [] x.digests (t - 1) = [])) ∧
    (∃ (s : State) (ch : Nat) (z : Nat) (t : Nat) (w : List Nat) (r : List Byte) (u : State),
      let x := s.zone z;
      let may : Prop := (s.silicon = 1 ∨ s.silicon = 2) ∧ s.lockInForce = false;
      let token := sha384 (wordBytes w 2 4) = nth [] x.digests (t - 1);
      (s.custodyServes 0x51 ch w = true) ∧ (may) ∧ (z < 64) ∧ (t = 1) ∧ (nth 0 w 1 = z + 256) ∧ (x.started = false) ∧ (s.zoneLc z = 0) ∧ ((∀ d ∈ x.digests, d ≠ [])) ∧ (x.fails < 8) ∧ (token) ∧ (s.draw 4 2 = (some r, u))) ∧
    (∃ (s : State) (ch : Nat) (z : Nat) (t : Nat) (w : List Nat),
      let x := s.zone z;
      let may : Prop := (s.silicon = 1 ∨ s.silicon = 2) ∧ s.lockInForce = false;
      let token := sha384 (wordBytes w 2 4) = nth [] x.digests (t - 1);
      (s.custodyServes 0x51 ch w = true) ∧ (may) ∧ (z < 64) ∧ (t = 2) ∧ (nth 0 w 1 = z + 512) ∧ (x.started = false) ∧ (s.zoneLc z = 1) ∧ (x.fails < 8) ∧ (token)) ∧
    (∃ (s : State) (ch : Nat) (z : Nat) (t : Nat) (w : List Nat),
      let x := s.zone z;
      let may : Prop := (s.silicon = 1 ∨ s.silicon = 2) ∧ s.lockInForce = false;
      let token := sha384 (wordBytes w 2 4) = nth [] x.digests (t - 1);
      (s.custodyServes 0x51 ch w = true) ∧ (may) ∧ (z < 64) ∧ (t = 3) ∧ (nth 0 w 1 = z + 768) ∧ (x.started = false) ∧ (s.zoneLc z = 2) ∧ (x.fails < 8) ∧ (token)) ∧
    (∃ (s : State) (ch : Nat) (z : Nat) (w : List Nat),
      let x := s.zone z;
      let may : Prop := (s.silicon = 1 ∨ s.silicon = 2) ∧ s.lockInForce = false;
      (s.custodyServes 0x52 ch w = true) ∧ (may) ∧ (z < 64) ∧ (nth 0 w 1 = z) ∧ (x.started = false) ∧ (s.zoneLc z = 3) ∧ (s.cus.quorum = true)) ∧
    (∃ (s : State) (ch : Nat) (z : Nat) (w : List Nat) (r : List Byte) (u : State),
      let may : Prop := (s.silicon = 1 ∨ s.silicon = 2) ∧ s.lockInForce = false;
      (s.custodyServes 0x53 ch w = true) ∧ (may) ∧ (z < 64) ∧ (nth 0 w 1 = z) ∧ (nth 0 w 2 % 8 = 0) ∧ (nth 0 w 3 % 8 = 0) ∧ (s.zoneLc z = 1) ∧ (s.busMaster = true) ∧ (s.draw 4 1 = (some r, u))) ∧
    (∃ (s : State) (ch : Nat) (z : Nat) (w : List Nat),
      let may : Prop := (s.silicon = 1 ∨ s.silicon = 2) ∧ s.lockInForce = false;
      (s.custodyServes 0x54 ch w = true) ∧ (may) ∧ (z < 64) ∧ (nth 0 w 1 = z) ∧ (nth 0 w 2 % 8 = 0) ∧ (nth 0 w 3 % 8 = 0) ∧ (s.cus.quorum = false)) ∧
    (∃ (s : State) (ch : Nat) (z : Nat) (w : List Nat),
      let may : Prop := (s.silicon = 1 ∨ s.silicon = 2) ∧ s.lockInForce = false;
      (s.custodyServes 0x54 ch w = true) ∧ (may) ∧ (z < 64) ∧ (nth 0 w 1 = z) ∧ (nth 0 w 2 % 8 = 0) ∧ (nth 0 w 3 % 8 = 0) ∧ (s.cus.quorum = true) ∧ (s.zoneLc z = 0)) ∧
    (∃ (s : State) (ch : Nat) (w : List Nat),
      (s.custodyServes 0x55 ch w = true) ∧ (nth 0 w 1 % 8 = 0) ∧ (s.busMaster = true)) ∧
    (∃ (s : State) (ch : Nat) (scope : Nat) (w : List Nat) (r : List Byte) (u : State),
      (s.custodyServes 0x60 ch w = true) ∧ (nth 0 w 1 = scope) ∧ (scope < 256) ∧ (s.silicon = 2) ∧ (s.draw 4 2 = (some r, u))) ∧
    (∃ (s : State) (ch : Nat) (scope : Nat) (at_ : Nat) (w : List Nat) (nonce : List Byte),
      (s.custodyServes 0x61 ch w = true) ∧ (s.silicon = 2) ∧ (s.cus.challenge = some (nonce, scope, at_)) ∧ (scope < 4) ∧ (s.lockInForce = false) ∧ (s.clk.ns ≤ at_ + 600000000000)) ∧
    (∃ (s : State) (ch : Nat) (w : List Nat),
      (s.custodyServes 0x62 ch w = true)) :=
  ⟨⟨custIn [80, 831], 48, 63, 3, custWords [80, 831], by (try dsimp only); all_goals decide +kernel⟩,
   ⟨(fun s : State => { s with vlt := { s.vlt with zones := cput {} { digests := [sha384 (wordBytes (custWords [0x51, 319]) 2 4), [1], [1]], fails := 7 } 63 [] } }) (custIn [81, 319]), 48, 63, 1, custWords [81, 319], (match (((fun s : State => { s with vlt := { s.vlt with zones := cput {} { digests := [sha384 (wordBytes (custWords [0x51, 319]) 2 4), [1], [1]], fails := 7 } 63 [] } }) (custIn [81, 319])).draw 4 2).1 with | some b => b | none => []), (((fun s : State => { s with vlt := { s.vlt with zones := cput {} { digests := [sha384 (wordBytes (custWords [0x51, 319]) 2 4), [1], [1]], fails := 7 } 63 [] } }) (custIn [81, 319])).draw 4 2).2, by (try dsimp only); all_goals decide +kernel⟩,
   ⟨(fun s : State => { s with vlt := { s.vlt with zones := cput {} { lc := 1, fails := 7, digests := [[], sha384 (wordBytes (custWords [0x51, 575]) 2 4), []] } 63 [] } }) (custIn [81, 575]), 48, 63, 2, custWords [81, 575], by (try dsimp only); all_goals decide +kernel⟩,
   ⟨(fun s : State => { s with vlt := { s.vlt with zones := cput {} { lc := 2, digests := [[], [], sha384 (wordBytes (custWords [0x51, 831]) 2 4)] } 63 [] } }) (custIn [81, 831]), 48, 63, 3, custWords [81, 831], by (try dsimp only); all_goals decide +kernel⟩,
   ⟨(fun s : State => { s with vlt := { s.vlt with zones := [(63, { lc := 3 })] }, cus := { s.cus with quorum := true } }) (custIn [82, 63]), 48, 63, custWords [82, 63], by (try dsimp only); all_goals decide +kernel⟩,
   ⟨(fun s : State => { s with vlt := { s.vlt with zones := cput {} { lc := 1 } 63 [] } }) ((custIn [83, 63, 8, 8]).setFld (ra tHI 0 0x100) 9 9 1), 48, 63, custWords [83, 63, 8, 8], (match (((fun s : State => { s with vlt := { s.vlt with zones := cput {} { lc := 1 } 63 [] } }) ((custIn [83, 63, 8, 8]).setFld (ra tHI 0 0x100) 9 9 1)).draw 4 1).1 with | some b => b | none => []), (((fun s : State => { s with vlt := { s.vlt with zones := cput {} { lc := 1 } 63 [] } }) ((custIn [83, 63, 8, 8]).setFld (ra tHI 0 0x100) 9 9 1)).draw 4 1).2, by (try dsimp only); all_goals decide +kernel⟩,
   ⟨custIn [84, 63, 8, 8], 48, 63, custWords [84, 63, 8, 8], by (try dsimp only); all_goals decide +kernel⟩,
   ⟨(fun s : State => { s with cus := { s.cus with quorum := true } }) (custIn [84, 63, 8, 8]), 48, 63, custWords [84, 63, 8, 8], by (try dsimp only); all_goals decide +kernel⟩,
   ⟨(custIn [85, 8]).setFld (ra tHI 0 0x100) 9 9 1, 48, custWords [85, 8], by decide +kernel⟩,
   ⟨(fun s : State => { s with cus := { s.cus with otp := 0x3FFFF } }) (custIn [96, 255]), 48, 255, custWords [96, 255], (match (((fun s : State => { s with cus := { s.cus with otp := 0x3FFFF } }) (custIn [96, 255])).draw 4 2).1 with | some b => b | none => []), (((fun s : State => { s with cus := { s.cus with otp := 0x3FFFF } }) (custIn [96, 255])).draw 4 2).2, by decide +kernel⟩,
   ⟨(fun s : State => { s with clk := { ns := 600000000000 }, cus := { s.cus with otp := 0x3FFFF, challenge := some ([1], 3, 0) } }) (custIn [97]), 48, 3, 0, custWords [97], [1], by decide +kernel⟩,
   ⟨custIn [98], 48, custWords [98], by decide +kernel⟩⟩

/-- For every clause of FenceCommandsTakeEffect that has hypotheses: a state and operands that meet them. -/
theorem witness_FenceCommandsTakeEffect :
    (∃ (s : State) (ch : Nat) (f : Nat) (r : Nat) (start : Nat) (last : Nat) (perm : Nat) (en : Bool) (w : List Nat),
      (s.custodyServes 0x10 ch w = true) ∧ (ch < 52) ∧ (f ≤ 278) ∧ (r ≤ 15) ∧ (start ≤ last) ∧ (last + 16 ≤ fenceSize f) ∧ (start % 16 = 0) ∧ (last % 16 = 0) ∧ (perm < 2 ^ 24) ∧ (nth 0 w 1 = f + 2 ^ 16 * r + 2 ^ 24 * b2n en) ∧ (nth 0 w 2 = start) ∧ (nth 0 w 3 = last) ∧ (nth 0 w 4 = perm)) ∧
    (∃ (s : State) (ch : Nat) (f : Nat) (perm : Nat) (w : List Nat),
      (s.custodyServes 0x10 ch w = true) ∧ (ch < 52) ∧ (f ≤ 278) ∧ (perm < 2 ^ 24) ∧ (nth 0 w 1 = f + 2 ^ 25) ∧ (nth 0 w 4 = perm)) ∧
    (∃ (s : State) (cust : Bool) (f : Nat) (r : Nat) (start : Nat) (last : Nat),
      let passes : Prop := s.fenceFail (261 + tCD) (if cust then clsCust else clsHost) accW 0x3120 4 = none;
      (passes) ∧ (s.fnSel = (f, r)) ∧ (f ≤ 278) ∧ (s.rd64 (fnReg 0x108) / 16 * 16 = start) ∧ (s.rd64 (fnReg 0x110) / 16 * 16 = last) ∧ (start ≤ last) ∧ (last + 16 ≤ fenceSize f)) ∧
    (∃ (s : State) (cust : Bool) (f : Nat) (r : Nat),
      let passes : Prop := s.fenceFail (261 + tCD) (if cust then clsCust else clsHost) accW 0x3120 4 = none;
      (passes) ∧ (s.fnSel = (f, r)) ∧ (f ≤ 278)) ∧
    (∃ (s : State) (cust : Bool) (f : Nat) (r : Nat),
      let passes : Prop := s.fenceFail (261 + tCD) (if cust then clsCust else clsHost) accW 0x3120 4 = none;
      (passes) ∧ (s.fnSel = (f, r)) ∧ (f ≤ 278)) ∧
    (∃ (s : State) (cust : Bool) (f : Nat) (r : Nat),
      let passes : Prop := s.fenceFail (261 + tCD) (if cust then clsCust else clsHost) accW 0x3120 4 = none;
      (passes) ∧ (s.fnSel = (f, r)) ∧ (f ≤ 278)) ∧
    (∃ (s : State) (cust : Bool),
      let passes : Prop := s.fenceFail (261 + tCD) (if cust then clsCust else clsHost) accW 0x3120 4 = none;
      (passes)) ∧
    (∃ (s : State) (a : Nat),
      (s.fenceFail (261 + tCD) clsHost accW 0x3120 4 = some a)) :=
  ⟨⟨custIn [16, 17760534, 0xFFFF0, 0xFFFF0, 16777215], 48, 278, 15, 0xFFFF0, 0xFFFF0, 2 ^ 24 - 1, true, custWords [16, 17760534, 0xFFFF0, 0xFFFF0, 16777215], by decide +kernel⟩,
   ⟨custIn [16, 33554710, 0, 0, 16777215], 48, 278, 2 ^ 24 - 1, custWords [16, 33554710, 0, 0, 16777215], by decide +kernel⟩,
   ⟨up.wrn (fnReg 0x100) 0xF0116, true, 278, 15, 0, 0, by (try dsimp only); all_goals decide +kernel⟩,
   ⟨up.wrn (fnReg 0x100) 0xF0116, true, 278, 15, by (try dsimp only); all_goals decide +kernel⟩,
   ⟨up.wrn (fnReg 0x100) 0xF0116, true, 278, 15, by (try dsimp only); all_goals decide +kernel⟩,
   ⟨up.wrn (fnReg 0x100) 0xF0116, true, 278, 15, by (try dsimp only); all_goals decide +kernel⟩,
   ⟨up, true, by (try dsimp only); all_goals decide +kernel⟩,
   ⟨{ up with cus := { up.cus with defaults := [(276, 0)] } }, 0x3120, by decide +kernel⟩⟩

/-- For every clause of FlashCommandsTakeEffect that has hypotheses: a state and operands that meet them. -/
theorem witness_FlashCommandsTakeEffect :
    (∃ (s : State),
      let w := s.flAddr;
      let n := s.flCount;
      let inRange : Prop := 1 ≤ n ∧ n ≤ 64 ∧ w + n ≤ 2 ^ 21;
      (s.fl.op = none) ∧ (inRange) ∧ ((∀ r ∈ flRegions w n, flPrivate r = false))) ∧
    (∃ (s : State),
      let w := s.flAddr;
      let n := s.flCount;
      let idle : Prop := s.fl.op = none ∧ s.startRuns = false;
      let inRange : Prop := 1 ≤ n ∧ n ≤ 64 ∧ w + n ≤ 2 ^ 21;
      (idle) ∧ (inRange) ∧ (s.flWriteRefusal (flRegions w n) = 0) ∧ ((∀ i < n, s.flWord (w + i) = erasedWord))) ∧
    (∃ (s : State),
      let w := s.flAddr;
      let n := s.flCount;
      let idle : Prop := s.fl.op = none ∧ s.startRuns = false;
      let inRange : Prop := 1 ≤ n ∧ n ≤ 64 ∧ w + n ≤ 2 ^ 21;
      (idle) ∧ (inRange) ∧ (s.flWriteRefusal (flRegions w n) = 0) ∧ ((∃ i < n, s.flWord (w + i) ≠ erasedWord))) ∧
    (∃ (s : State),
      let w := s.flAddr;
      let idle : Prop := s.fl.op = none ∧ s.startRuns = false;
      (idle) ∧ (s.flWriteRefusal [w / 8192] = 0)) ∧
    (∃ (s : State),
      let idle : Prop := s.fl.op = none ∧ s.startRuns = false;
      let region : Prop := 1 ≤ s.fld (flReg 0x110) 16 8 ∧ s.fld (flReg 0x110) 7 0 + s.fld (flReg 0x110) 16 8 ≤ 256;
      (idle) ∧ (region)) ∧
    (∃ (s : State),
      let idle : Prop := s.fl.op = none ∧ s.startRuns = false;
      let region : Prop := 1 ≤ s.fld (flReg 0x110) 16 8 ∧ s.fld (flReg 0x110) 7 0 + s.fld (flReg 0x110) 16 8 ≤ 256;
      (idle) ∧ (region) ∧ (s.flUnlocked = true)) ∧
    (∃ (s : State),
      let idle : Prop := s.fl.op = none ∧ s.startRuns = false;
      (idle) ∧ (s.fld (flReg 0x104) 23 16 < 8)) ∧
    (∃ (s : State),
      let idle : Prop := s.fl.op = none ∧ s.startRuns = false;
      (idle)) ∧
    (∃ (s : State),
      let idle : Prop := s.fl.op = none ∧ s.startRuns = false;
      (idle) ∧ (s.flUnlocked = true)) ∧
    (∃ (s : State) (x : FlashOp),
      let runs : Prop := s.fl.op = some x ∧ s.fl.move = none;
      (runs) ∧ (x.op = 1)) ∧
    (∃ (s : State) (x : FlashOp),
      let runs : Prop := s.fl.op = some x ∧ s.fl.move = none;
      (runs) ∧ (x.op = 2)) ∧
    (∃ (s : State) (x : FlashOp),
      let runs : Prop := s.fl.op = some x ∧ s.fl.move = none;
      (runs) ∧ (x.op = 3) ∧ ((s.wear (x.word / 512 / 256)).erases ≠ 63)) ∧
    (∃ (s : State) (x : FlashOp),
      let runs : Prop := s.fl.op = some x ∧ s.fl.move = none;
      (runs) ∧ (x.op = 4)) ∧
    (∃ (s : State) (x : FlashOp),
      let runs : Prop := s.fl.op = some x ∧ s.fl.move = none;
      (runs) ∧ (x.op = 6) ∧ (x.pass = s.fl.pass)) ∧
    (∃ (s : State) (x : FlashOp),
      let runs : Prop := s.fl.op = some x ∧ s.fl.move = none;
      (runs) ∧ (x.op = 7)) ∧
    (∃ (s : State) (x : FlashOp),
      let runs : Prop := s.fl.op = some x ∧ s.fl.move = none;
      (runs) ∧ (x.op = 8)) ∧
    (∃ (s : State) (x : FlashOp) (k : Nat),
      (s.fl.move = some k) ∧ (s.fl.op = some x) ∧ (x.count = 0)) :=
  ⟨⟨((quiet.setFld (flReg 0x108) 23 3 (2 ^ 21 - 64)).setFld (flReg 0x10C) 6 0 64), by (try dsimp only); all_goals decide +kernel⟩,
   ⟨((quiet.setFld (flReg 0x108) 23 3 (2 ^ 20 - 64)).setFld (flReg 0x10C) 6 0 64), by (try dsimp only); all_goals decide +kernel⟩,
   ⟨{ ((quiet.setFld (flReg 0x108) 23 3 (2 ^ 20 - 64)).setFld (flReg 0x10C) 6 0 64) with fl := { up.fl with words := [(((((quiet.setFld (flReg 0x108) 23 3 (2 ^ 20 - 64)).setFld (flReg 0x10C) 6 0 64)).flKey (2 ^ 20 - 1)), 5)] } }, by (try dsimp only); all_goals decide +kernel⟩,
   ⟨((quiet.setFld (flReg 0x108) 23 3 (2 ^ 20 - 64)).setFld (flReg 0x10C) 6 0 64), by (try dsimp only); all_goals decide +kernel⟩,
   ⟨quiet.setFld (flReg 0x110) 16 8 256, by (try dsimp only); all_goals decide +kernel⟩,
   ⟨((quiet.setFld (flReg 0x110) 16 8 1).setFld (flReg 0x110) 7 0 255).setFld (flReg 0x104) 30 30 1, by (try dsimp only); all_goals decide +kernel⟩,
   ⟨quiet, by (try dsimp only); all_goals decide +kernel⟩,
   ⟨quiet, by (try dsimp only); all_goals decide +kernel⟩,
   ⟨quiet.setFld (flReg 0x104) 30 30 1, by (try dsimp only); all_goals decide +kernel⟩,
   ⟨{ up with fl := { up.fl with op := some { op := 1 } } }, { op := 1 }, by (try dsimp only); all_goals decide +kernel⟩,
   ⟨{ up with fl := { up.fl with op := some { op := 2 } } }, { op := 2 }, by (try dsimp only); all_goals decide +kernel⟩,
   ⟨{ up with fl := { up.fl with op := some { op := 3 } } }, { op := 3 }, by (try dsimp only); all_goals decide +kernel⟩,
   ⟨{ up with fl := { up.fl with op := some { op := 4 } } }, { op := 4 }, by (try dsimp only); all_goals decide +kernel⟩,
   ⟨{ up with fl := { up.fl with op := some { op := 6 } } }, { op := 6 }, by (try dsimp only); all_goals decide +kernel⟩,
   ⟨{ up with fl := { up.fl with op := some { op := 7 } } }, { op := 7 }, by (try dsimp only); all_goals decide +kernel⟩,
   ⟨{ up with fl := { up.fl with op := some { op := 8 } } }, { op := 8 }, by (try dsimp only); all_goals decide +kernel⟩,
   ⟨{ up with fl := { up.fl with op := some { op := 1 }, move := some 0 } }, { op := 1 }, 0, by decide +kernel⟩⟩

/-- For every clause of ConfigurationStoreTakesEffect that has hypotheses: a state and operands that meet them. -/
theorem witness_ConfigurationStoreTakesEffect :
    (∃ (s : State) (len : Nat),
      let idle : Prop := s.fl.csOp = none ∧ s.startRuns = false;
      (idle) ∧ (s.fld (csReg 0x110) 16 0 = len) ∧ (len ≤ 65464) ∧ (s.csWinner = none)) ∧
    (∃ (s : State) (b : Nat) (len : Nat),
      let idle : Prop := s.fl.csOp = none ∧ s.startRuns = false;
      (idle) ∧ (s.fld (csReg 0x110) 16 0 = len) ∧ (len ≤ 65464) ∧ (s.csWinner = some b) ∧ (s.bankSeq b ≠ 2 ^ 64 - 2)) ∧
    (∃ (s : State) (len : Nat),
      let idle : Prop := s.fl.csOp = none ∧ s.startRuns = false;
      (idle) ∧ (s.fld (csReg 0x110) 16 0 = len) ∧ (65464 < len)) ∧
    (∃ (s : State) (b : Nat) (body : List Byte),
      (s.fl.csOp = some (body, b))) ∧
    (∃ (s : State) (b : Nat) (body : List Byte),
      (s.fl.csOp = some (body, b))) ∧
    (∃ (s : State),
      (s.fl.csOp = none) ∧ (s.csWinner = none)) ∧
    (∃ (s : State) (b : Nat) (body : List Byte),
      (s.fl.csOp = none) ∧ (s.csWinner = some b) ∧ (s.bankBody b = body)) ∧
    (∃ (s : State),
      (s.fl.csOp = none)) :=
  ⟨⟨quiet.wrn (csReg 0x110) 65464, 65464, by (try dsimp only); all_goals decide +kernel⟩,
   ⟨(bankUp 5).wrn (csReg 0x110) 65464, 0, 65464, by (try dsimp only); all_goals decide +kernel⟩,
   ⟨quiet.wrn (csReg 0x110) 65465, 65465, by (try dsimp only); all_goals decide +kernel⟩,
   ⟨{ up with fl := { up.fl with csOp := some ([], 1) } }, 1, [], by decide +kernel⟩,
   ⟨{ up with fl := { up.fl with csOp := some ([], 1) } }, 1, [], by decide +kernel⟩,
   ⟨quiet, by decide +kernel⟩,
   ⟨bankUp (2 ^ 64 - 1), 0, [], by decide +kernel⟩,
   ⟨quiet, by decide +kernel⟩⟩

/-- For every clause of RandomNumberServiceTakesEffect that has hypotheses: a state and operands that meet them. -/
theorem witness_RandomNumberServiceTakesEffect :
    (∃ (s : State) (k : Nat),
      let x := s.noise k;
      (k < 4) ∧ (s.domOn 76 = true) ∧ (s.tpOn k = false) ∧ (s.feeding.contains k = true) ∧ (x.bits.length < 3072)) ∧
    (∃ (s : State) (k : Nat),
      let x := s.noise k;
      (k < 4) ∧ (s.domOn 76 = true) ∧ (s.tpOn k = true) ∧ (lfsrStep x.lfsr ≠ 1)) ∧
    (∃ (s : State),
      (s.domOn 76 = true) ∧ (2 ≤ s.feeding.length) ∧ ((∀ j ∈ s.feeding, 3072 / s.feeding.length ≤ (s.noise j).bits.length)) ∧ (s.rng.pool.length < 16)) ∧
    (∃ (s : State) (i : Nat),
      let d := s.drbg i;
      (i < 4) ∧ (d.ready = true) ∧ (d.buf = []) ∧ (d.gen < 2 ^ 32) ∧ (s.domOn (drbgDomain i) = true)) ∧
    (∃ (s : State) (i : Nat),
      let d := s.drbg i;
      (i < 5) ∧ (d.ready = true) ∧ (1 ≤ d.buf.length) ∧ (d.gen ≤ 2 ^ 32)) ∧
    (∃ (s : State) (i : Nat),
      let d := s.drbg i;
      (i < 5) ∧ (d.ready = true)) ∧
    (∃ (s : State) (i : Nat) (taint : Bool) (block : List Byte) (rest : List (List Byte × Bool)),
      let d := s.drbg i;
      (s.seedNext = some i) ∧ (s.rng.pool = (block, taint) :: rest) ∧ (d.instWait = false)) ∧
    (∃ (s : State) (i : Nat) (taint : Bool) (block : List Byte) (rest : List (List Byte × Bool)),
      let d := s.drbg i;
      (s.seedNext = some i) ∧ (s.rng.pool = (block, taint) :: rest) ∧ (d.instWait = true) ∧ (i ≠ 2)) ∧
    (∃ (s : State) (i : Nat),
      let d := s.drbg i;
      (s.rnRefusal i = 0) ∧ (d.ready = true)) ∧
    (∃ (s : State) (i : Nat),
      (s.rnRefusal i = 0)) ∧
    (∃ (s : State) (k : Nat),
      (s.silicon ≤ 1) ∧ (k < 4) ∧ (2 ≤ ((List.range 4).filter fun j => j ≠ k ∧ s.fld (rnReg 0x100) j j = 1).length) ∧ (s.rng.tap = false)) ∧
    (∃ (s : State),
      (s.rng.tap = true) ∧ (s.rng.tapBits.length = 8192)) ∧
    (∃ (s : State) (v : Reg),
      (s.lockInForce = false) ∧ (bitAt v 31 = false) ∧ (2 ≤ ((List.range 4).filter fun j => bitAt v j).length)) ∧
    (∃ (s : State) (v : Reg),
      (s.lockInForce = false) ∧ (s.pageLive rnPage = true) ∧ (getField v 3 0 = 0)) ∧
    (∃ (s : State) (v : Reg),
      (s.lockInForce = false) ∧ (s.pageLive rnPage = true) ∧ (s.silicon ≠ 0) ∧ (getField v 3 0 ≠ 0)) :=
  ⟨⟨{ up with rng := { up.rng with src := [(3, { bits := List.replicate 3071 false })] } }, 3, by (try dsimp only); all_goals decide +kernel⟩,
   ⟨({ up with rng := { up.rng with src := [(3, { lfsr := 2 })] } } : State).setFld (rnReg 0x180) 3 3 1, 3, by (try dsimp only); all_goals decide +kernel⟩,
   ⟨{ up with rng := { up.rng with src := (List.range 4).map fun k => (k, { bits := List.replicate 768 false }), pool := List.replicate 15 ([], false) } }, by decide +kernel⟩,
   ⟨{ up with rng := { up.rng with inst := [(3, { ready := true, gen := 2 ^ 32 - 1 })] } }, 3, by (try dsimp only); all_goals decide +kernel⟩,
   ⟨{ up with rng := { up.rng with inst := [(4, { ready := true, gen := 2 ^ 32, buf := [[]] })] } }, 4, by (try dsimp only); all_goals decide +kernel⟩,
   ⟨{ up with rng := { up.rng with inst := [(4, { ready := true })] } }, 4, by (try dsimp only); all_goals decide +kernel⟩,
   ⟨{ up with rng := { up.rng with want := [2], pool := [([], false)] } }, 2, false, [], [], by (try dsimp only); all_goals decide +kernel⟩,
   ⟨{ up with rng := { up.rng with want := [4], pool := [([], false)], inst := [(4, { instWait := true })] } }, 4, false, [], [], by (try dsimp only); all_goals decide +kernel⟩,
   ⟨{ up with rng := { up.rng with inst := [(4, { ready := true })] } }, 4, by (try dsimp only); all_goals decide +kernel⟩,
   ⟨up, 4, by decide +kernel⟩,
   ⟨up.setFld (rnReg 0x100) 3 0 0xF, 3, by decide +kernel⟩,
   ⟨{ up with rng := { up.rng with tap := true, tapBits := List.replicate 8192 false } }, by decide +kernel⟩,
   ⟨up, 0xC, by decide +kernel⟩,
   ⟨up, 0, by decide +kernel⟩,
   ⟨up, 8, by decide +kernel⟩⟩

/-- For every clause of CardCommandsAreSent that has hypotheses: a state and operands that meet them. -/
theorem witness_CardCommandsAreSent :
    (∃ (s : State),
      let c := s.cb.card;
      let due := fun (i : Nat) => c.phase = 4 ∧ c.next = i ∧ c.await = 0 ∧ c.rawOut = false;
      (due 21)) ∧
    (∃ (s : State),
      let c := s.cb.card;
      let due := fun (i : Nat) => c.phase = 4 ∧ c.next = i ∧ c.await = 0 ∧ c.rawOut = false;
      (due 22)) ∧
    (∃ (s : State) (r : List Byte) (u : State),
      let c := s.cb.card;
      let due := fun (i : Nat) => c.phase = 4 ∧ c.next = i ∧ c.await = 0 ∧ c.rawOut = false;
      (due 24) ∧ (s.draw 4 2 = (some r, u))) ∧
    (∃ (s : State),
      let c := s.cb.card;
      let due := fun (i : Nat) => c.phase = 4 ∧ c.next = i ∧ c.await = 0 ∧ c.rawOut = false;
      (due 25)) ∧
    (∃ (s : State),
      let c := s.cb.card;
      let due := fun (i : Nat) => c.phase = 4 ∧ c.next = i ∧ c.await = 0 ∧ c.rawOut = false;
      (due 26)) ∧
    (∃ (s : State),
      let c := s.cb.card;
      let due := fun (i : Nat) => c.phase = 4 ∧ c.next = i ∧ c.await = 0 ∧ c.rawOut = false;
      (due 28)) ∧
    (∃ (s : State),
      let c := s.cb.card;
      let due := fun (i : Nat) => c.phase = 4 ∧ c.next = i ∧ c.await = 0 ∧ c.rawOut = false;
      (due 40)) ∧
    (∃ (s : State) (r : List Byte) (u : State),
      let c := s.cb.card;
      let due := fun (i : Nat) => c.phase = 4 ∧ c.next = i ∧ c.await = 0 ∧ c.rawOut = false;
      (due 41) ∧ (c.tries = 0) ∧ (s.draw 4 2 = (some r, u))) ∧
    (∃ (s : State),
      let c := s.cb.card;
      let due := fun (i : Nat) => c.phase = 4 ∧ c.next = i ∧ c.await = 0 ∧ c.rawOut = false;
      (due 41) ∧ (c.tries ≠ 0)) ∧
    (∃ (s : State),
      let c := s.cb.card;
      let due := fun (i : Nat) => c.phase = 4 ∧ c.next = i ∧ c.await = 0 ∧ c.rawOut = false;
      (due 42)) ∧
    (∃ (s : State),
      let c := s.cb.card;
      let due := fun (i : Nat) => c.phase = 4 ∧ c.next = i ∧ c.await = 0 ∧ c.rawOut = false;
      (due 43)) ∧
    (∃ (s : State),
      let c := s.cb.card;
      let due := fun (i : Nat) => c.phase = 4 ∧ c.next = i ∧ c.await = 0 ∧ c.rawOut = false;
      (due 44)) :=
  ⟨⟨{ up with cb := { up.cb with card := { phase := 4, next := 21 } } }, by (try dsimp only); all_goals decide +kernel⟩,
   ⟨{ up with cb := { up.cb with card := { phase := 4, next := 22 } } }, by (try dsimp only); all_goals decide +kernel⟩,
   ⟨(({ up with cb := { up.cb with card := { phase := 4, next := 24 } } } : State).setDrbg 4 { ready := true, buf := List.replicate 2 (List.replicate 16 3) }), (match (((({ up with cb := { up.cb with card := { phase := 4, next := 24 } } } : State).setDrbg 4 { ready := true, buf := List.replicate 2 (List.replicate 16 3) })).draw 4 2).1 with | some b => b | none => []), (((({ up with cb := { up.cb with card := { phase := 4, next := 24 } } } : State).setDrbg 4 { ready := true, buf := List.replicate 2 (List.replicate 16 3) })).draw 4 2).2, by (try dsimp only); all_goals decide +kernel⟩,
   ⟨{ up with cb := { up.cb with card := { phase := 4, next := 25 } } }, by (try dsimp only); all_goals decide +kernel⟩,
   ⟨{ up with cb := { up.cb with card := { phase := 4, next := 26 } } }, by (try dsimp only); all_goals decide +kernel⟩,
   ⟨{ up with cb := { up.cb with card := { phase := 4, next := 28 } } }, by (try dsimp only); all_goals decide +kernel⟩,
   ⟨{ up with cb := { up.cb with card := { phase := 4, next := 40 } } }, by (try dsimp only); all_goals decide +kernel⟩,
   ⟨(({ up with cb := { up.cb with card := { phase := 4, next := 41 } } } : State).setDrbg 4 { ready := true, buf := List.replicate 2 (List.replicate 16 3) }), (match (((({ up with cb := { up.cb with card := { phase := 4, next := 41 } } } : State).setDrbg 4 { ready := true, buf := List.replicate 2 (List.replicate 16 3) })).draw 4 2).1 with | some b => b | none => []), (((({ up with cb := { up.cb with card := { phase := 4, next := 41 } } } : State).setDrbg 4 { ready := true, buf := List.replicate 2 (List.replicate 16 3) })).draw 4 2).2, by (try dsimp only); all_goals decide +kernel⟩,
   ⟨{ up with cb := { up.cb with card := { phase := 4, next := 41, tries := 1 } } }, by (try dsimp only); all_goals decide +kernel⟩,
   ⟨{ up with cb := { up.cb with card := { phase := 4, next := 42 } } }, by (try dsimp only); all_goals decide +kernel⟩,
   ⟨{ up with cb := { up.cb with card := { phase := 4, next := 43 } } }, by (try dsimp only); all_goals decide +kernel⟩,
   ⟨{ up with cb := { up.cb with card := { phase := 4, next := 44 } } }, by (try dsimp only); all_goals decide +kernel⟩⟩

/-- For every clause of CardSlotEventsTakeEffect that has hypotheses: a state and operands that meet them. -/
theorem witness_CardSlotEventsTakeEffect :
    (∃ (s : State),
      let c := s.cb.card;
      ((s.slow 1).filt = true) ∧ ((s.slow 1).acted = true) ∧ (c.inserted = false)) ∧
    (∃ (s : State),
      let c := s.cb.card;
      ((c.phase = 1 ∨ c.phase = 2))) ∧
    (∃ (s : State),
      let c := s.cb.card;
      (c.phase = 3)) ∧
    (∃ (s : State) (frame : BitVec 48),
      let c := s.cb.card;
      let good : Prop := getField frame 47 45 = 1 ∧ getField frame 6 0 = crc7 (frame.toNat / 2 ^ 7) ∧ getField frame 12 7 = c.sent ∧ bitAt frame 43 = false ∧ bitAt frame 44 = false;
      (c.phase = 4) ∧ (c.await = 1) ∧ (good) ∧ ((c.sent = 22 ∨ c.sent = 25 ∨ c.sent = 28))) ∧
    (∃ (s : State) (frame : BitVec 48),
      let c := s.cb.card;
      let good : Prop := getField frame 47 45 = 1 ∧ getField frame 6 0 = crc7 (frame.toNat / 2 ^ 7) ∧ getField frame 12 7 = c.sent ∧ bitAt frame 43 = false ∧ bitAt frame 44 = false;
      (c.phase = 4) ∧ (c.await = 1) ∧ (good) ∧ (c.sent = 40)) ∧
    (∃ (s : State) (frame : BitVec 48),
      let c := s.cb.card;
      let good : Prop := getField frame 47 45 = 1 ∧ getField frame 6 0 = crc7 (frame.toNat / 2 ^ 7) ∧ getField frame 12 7 = c.sent ∧ bitAt frame 43 = false ∧ bitAt frame 44 = false;
      (c.phase = 4) ∧ (c.await = 1) ∧ (good) ∧ (c.sent = 24)) ∧
    (∃ (s : State) (frame : BitVec 48),
      let c := s.cb.card;
      let waits : Prop := c.phase = 4 ∧ (c.await = 1 ∨ c.await = 4);
      (waits) ∧ (getField frame 47 45 ≠ 1)) ∧
    (∃ (s : State) (b : Byte),
      let c := s.cb.card;
      let waits : Prop := c.phase = 4 ∧ (c.await = 1 ∨ c.await = 4);
      (waits) ∧ (b = 0x5A) ∧ (c.ext < 2000)) ∧
    (∃ (s : State) (b : Byte),
      let c := s.cb.card;
      let waits : Prop := c.phase = 4 ∧ (c.await = 1 ∨ c.await = 4);
      (waits) ∧ (b = 0x5A) ∧ (2000 ≤ c.ext)) ∧
    (∃ (s : State),
      let c := s.cb.card;
      let waits : Prop := c.phase = 4 ∧ (c.await = 1 ∨ c.await = 4);
      (waits)) ∧
    (∃ (s : State) (data : List Byte) (crc : List Nat),
      let c := s.cb.card;
      (c.phase = 4) ∧ (c.await = 2) ∧ (crc = (List.range 4).map (lineCrc data))) ∧
    (∃ (s : State) (data : List Byte) (crc : List Nat),
      let c := s.cb.card;
      (c.phase = 4) ∧ (c.await = 2) ∧ (crc ≠ (List.range 4).map (lineCrc data))) ∧
    (∃ (s : State),
      let c := s.cb.card;
      (c.phase = 4) ∧ (c.await = 3)) ∧
    (∃ (s : State) (out : Bool),
      let c := s.cb.card;
      (out = true ∨ c.waiting = none)) ∧
    (∃ (s : State),
      let c := s.cb.card;
      ((s.slow 1).filt = false) ∧ (c.inserted = true)) ∧
    (∃ (s : State) (g : Generation),
      (s.cus.gen = some g) ∧ (g.badgePhase = false)) ∧
    (∃ (s : State),
      let c := s.cb.card;
      (s.pageLive cbPage = true) ∧ (c.busy = false)) ∧
    (∃ (s : State),
      let c := s.cb.card;
      (s.pageLive cbPage = true) ∧ (c.busy = true)) ∧
    (∃ (s : State),
      let lives : Prop := s.pageLive cbPage = true ∧ s.cbBusy = false;
      (lives)) ∧
    (∃ (s : State),
      let lives : Prop := s.pageLive cbPage = true ∧ s.cbBusy = false;
      let uid := s.rd64 (cbReg 0x140) % 2 ^ 56;
      (lives) ∧ (s.lockInForce = false) ∧ (2 ≤ (s.cus.badges.filter fun x => x.uid != uid).length)) ∧
    (∃ (s : State),
      let lives : Prop := s.pageLive cbPage = true ∧ s.cbBusy = false;
      (lives)) ∧
    (∃ (s : State) (v : Reg),
      (s.pageLive cbPage = true) ∧ (s.lockInForce = false) ∧ (bitAt v 31 = false) ∧ (getField v 23 16 ≠ 0) ∧ (2 ≤ getField v 7 0) ∧ (getField v 7 0 ≤ 200) ∧ (bitAt v 24 = true) ∧ (bitAt v 25 = true) ∧ (s.cb.rdr.st ≠ 0)) :=
  ⟨⟨{ up with st := { up.st with slow := [(1, { filt := true, acted := true })] } }, by (try dsimp only); all_goals decide +kernel⟩,
   ⟨{ up with cb := { up.cb with card := { phase := 2 } } }, by (try dsimp only); all_goals decide +kernel⟩,
   ⟨{ up with cb := { up.cb with card := { phase := 3 } } }, by (try dsimp only); all_goals decide +kernel⟩,
   ⟨{ up with cb := { up.cb with card := { phase := 4, await := 1, sent := 28 } } }, respFrame 28, by (try dsimp only); all_goals decide +kernel⟩,
   ⟨{ up with cb := { up.cb with card := { phase := 4, await := 1, sent := 40 } } }, respFrame 40, by (try dsimp only); all_goals decide +kernel⟩,
   ⟨{ up with cb := { up.cb with card := { phase := 4, await := 1, sent := 24 } } }, respFrame 24, by (try dsimp only); all_goals decide +kernel⟩,
   ⟨{ up with cb := { up.cb with card := { phase := 4, await := 4 } } }, 0, by (try dsimp only); all_goals decide +kernel⟩,
   ⟨{ up with cb := { up.cb with card := { phase := 4, await := 1, ext := 1999 } } }, 0x5A, by (try dsimp only); all_goals decide +kernel⟩,
   ⟨{ up with cb := { up.cb with card := { phase := 4, await := 4, ext := 2000 } } }, 0x5A, by (try dsimp only); all_goals decide +kernel⟩,
   ⟨{ up with cb := { up.cb with card := { phase := 4, await := 4 } } }, by (try dsimp only); all_goals decide +kernel⟩,
   ⟨{ up with cb := { up.cb with card := { phase := 4, await := 2 } } }, [], (List.range 4).map (lineCrc []), by (try dsimp only); all_goals decide +kernel⟩,
   ⟨{ up with cb := { up.cb with card := { phase := 4, await := 2 } } }, [], [], by (try dsimp only); all_goals decide +kernel⟩,
   ⟨{ up with cb := { up.cb with card := { phase := 4, await := 3 } } }, by (try dsimp only); all_goals decide +kernel⟩,
   ⟨up, false, by (try dsimp only); all_goals decide +kernel⟩,
   ⟨{ up with cb := { up.cb with card := { inserted := true } } }, by (try dsimp only); all_goals decide +kernel⟩,
   ⟨{ up with cus := { up.cus with gen := some {} } }, {}, by decide +kernel⟩,
   ⟨up, by (try dsimp only); all_goals decide +kernel⟩,
   ⟨{ up with cb := { up.cb with card := { phase := 4 } } }, by (try dsimp only); all_goals decide +kernel⟩,
   ⟨up, by (try dsimp only); all_goals decide +kernel⟩,
   ⟨{ up with cus := { up.cus with badges := [{ uid := 1 }, { uid := 2 }] } }, by (try dsimp only); all_goals decide +kernel⟩,
   ⟨up, by (try dsimp only); all_goals decide +kernel⟩,
   ⟨{ up with cb := { up.cb with rdr := { st := 1 } } }, 0x030100C8, by decide +kernel⟩⟩

/-- For every clause of BadgeReaderTakesEffect that has hypotheses: a state and operands that meet them. -/
theorem witness_BadgeReaderTakesEffect :
    (∃ (s : State) (amp : Nat),
      let x := s.cb.rdr;
      let k := s.fld (cbReg 0x100) 23 16;
      let mean := sumNat x.base / x.base.length;
      let diff := if amp < mean then mean - amp else amp - mean;
      (x.st = 1) ∧ (s.readerOn = true) ∧ (x.base ≠ []) ∧ (diff * 256 ≤ k * mean)) ∧
    (∃ (s : State) (amp : Nat),
      let x := s.cb.rdr;
      let k := s.fld (cbReg 0x100) 23 16;
      let mean := sumNat x.base / x.base.length;
      let diff := if amp < mean then mean - amp else amp - mean;
      (x.st = 1) ∧ (s.readerOn = true) ∧ (x.base ≠ []) ∧ (k * mean < diff * 256) ∧ (x.blocked = false)) ∧
    (∃ (s : State),
      let x := s.cb.rdr;
      ((x.st = 2 ∨ x.st = 3)) ∧ (x.found = [])) ∧
    (∃ (s : State),
      let x := s.cb.rdr;
      (x.st = 3) ∧ (x.retries < 3)) ∧
    (∃ (s : State),
      let x := s.cb.rdr;
      (x.st = 2)) ∧
    (∃ (s : State) (n : Nat),
      let x := s.cb.rdr;
      (x.st = 4) ∧ (x.cur = none) ∧ (s.nextBadge = some n)) ∧
    (∃ (s : State) (uid : Nat) (atqa : Nat) (sak : Nat),
      let x := s.cb.rdr;
      (x.st = 3) ∧ (atqa = 0x48) ∧ (sak = 2) ∧ (x.found.length < 4) ∧ (uid ∉ x.found)) ∧
    (∃ (s : State) (atqa : Nat) (sak : Nat),
      let x := s.cb.rdr;
      (x.st = 3) ∧ ((atqa ≠ 0x48 ∨ sak ≠ 2))) ∧
    (∃ (s : State),
      let x := s.cb.rdr;
      let due := fun (code : Nat) => x.st = 4 ∧ x.cur.isSome = true ∧ x.next = code ∧ x.sent = 0;
      (due 0x60)) ∧
    (∃ (s : State),
      let x := s.cb.rdr;
      (x.next = 0xF0)) ∧
    (∃ (s : State) (r : List Byte) (t : State),
      let x := s.cb.rdr;
      let due := fun (code : Nat) => x.st = 4 ∧ x.cur.isSome = true ∧ x.next = code ∧ x.sent = 0;
      (due 0x70) ∧ (s.draw 4 1 = (some r, t))) ∧
    (∃ (s : State),
      let x := s.cb.rdr;
      let due := fun (code : Nat) => x.st = 4 ∧ x.cur.isSome = true ∧ x.next = code ∧ x.sent = 0;
      (due 0x71)) ∧
    (∃ (s : State),
      let x := s.cb.rdr;
      let due := fun (code : Nat) => x.st = 4 ∧ x.cur.isSome = true ∧ x.next = code ∧ x.sent = 0;
      (due 0x72)) ∧
    (∃ (s : State),
      let x := s.cb.rdr;
      let due := fun (code : Nat) => x.st = 4 ∧ x.cur.isSome = true ∧ x.next = code ∧ x.sent = 0;
      (due 0x80)) ∧
    (∃ (s : State),
      let x := s.cb.rdr;
      let due := fun (code : Nat) => x.st = 4 ∧ x.cur.isSome = true ∧ x.next = code ∧ x.sent = 0;
      (due 0x81)) ∧
    (∃ (s : State),
      let x := s.cb.rdr;
      let due := fun (code : Nat) => x.st = 4 ∧ x.cur.isSome = true ∧ x.next = code ∧ x.sent = 0;
      (due 0x90)) ∧
    (∃ (s : State),
      let x := s.cb.rdr;
      let due := fun (code : Nat) => x.st = 4 ∧ x.cur.isSome = true ∧ x.next = code ∧ x.sent = 0;
      (due 0x9F)) ∧
    (∃ (s : State),
      let x := s.cb.rdr;
      let awaits := fun (code : Nat) => x.st = 4 ∧ x.cur.isSome = true ∧ x.sent = code;
      (awaits 0x60)) ∧
    (∃ (s : State),
      let x := s.cb.rdr;
      let awaits := fun (code : Nat) => x.st = 4 ∧ x.cur.isSome = true ∧ x.sent = code;
      (awaits 0x71)) ∧
    (∃ (s : State),
      let x := s.cb.rdr;
      let awaits := fun (code : Nat) => x.st = 4 ∧ x.cur.isSome = true ∧ x.sent = code;
      (awaits 0x80)) ∧
    (∃ (s : State),
      let x := s.cb.rdr;
      let awaits := fun (code : Nat) => x.st = 4 ∧ x.cur.isSome = true ∧ x.sent = code;
      (awaits 0x90)) ∧
    (∃ (s : State) (left : Bool),
      let x := s.cb.rdr;
      (1 ≤ x.sent) ∧ (x.st = 4) ∧ (x.cur.isSome = true) ∧ (left = true)) ∧
    (∃ (s : State),
      let x := s.cb.rdr;
      let awaits := fun (code : Nat) => x.st = 4 ∧ x.cur.isSome = true ∧ x.sent = code;
      (awaits 0x70)) :=
  ⟨⟨(({ up with cb := { up.cb with rdr := { st := 1, base := [8] } } } : State).setFld (cbReg 0x100) 25 16 0x201), 8, by (try dsimp only); all_goals decide +kernel⟩,
   ⟨(({ up with cb := { up.cb with rdr := { st := 1, base := [8] } } } : State).setFld (cbReg 0x100) 25 16 0x201), 100, by (try dsimp only); all_goals decide +kernel⟩,
   ⟨{ up with cb := { up.cb with rdr := { st := 3 } } }, by (try dsimp only); all_goals decide +kernel⟩,
   ⟨{ up with cb := { up.cb with rdr := { st := 3, retries := 2 } } }, by (try dsimp only); all_goals decide +kernel⟩,
   ⟨{ up with cb := { up.cb with rdr := { st := 2 } } }, by (try dsimp only); all_goals decide +kernel⟩,
   ⟨{ up with cb := { up.cb with rdr := { st := 4, found := [5, 7] } } }, 5, by (try dsimp only); all_goals decide +kernel⟩,
   ⟨{ up with cb := { up.cb with rdr := { st := 3, found := [1, 2, 3] } } }, 9, 0x48, 2, by (try dsimp only); all_goals decide +kernel⟩,
   ⟨{ up with cb := { up.cb with rdr := { st := 3 } } }, 0x48, 3, by (try dsimp only); all_goals decide +kernel⟩,
   ⟨{ up with cb := { up.cb with rdr := { st := 4, cur := some 5, next := 0x60 } } }, by (try dsimp only); all_goals decide +kernel⟩,
   ⟨{ up with cb := { up.cb with rdr := { next := 0xF0 } } }, by (try dsimp only); all_goals decide +kernel⟩,
   ⟨(({ up with cb := { up.cb with rdr := { st := 4, cur := some 5, next := 0x70 } } } : State).setDrbg 4 { ready := true, buf := List.replicate 2 (List.replicate 16 3) }), (match (((({ up with cb := { up.cb with rdr := { st := 4, cur := some 5, next := 0x70 } } } : State).setDrbg 4 { ready := true, buf := List.replicate 2 (List.replicate 16 3) })).draw 4 1).1 with | some b => b | none => []), (((({ up with cb := { up.cb with rdr := { st := 4, cur := some 5, next := 0x70 } } } : State).setDrbg 4 { ready := true, buf := List.replicate 2 (List.replicate 16 3) })).draw 4 1).2, by (try dsimp only); all_goals decide +kernel⟩,
   ⟨{ up with cb := { up.cb with rdr := { st := 4, cur := some 5, next := 0x71 } } }, by (try dsimp only); all_goals decide +kernel⟩,
   ⟨{ up with cb := { up.cb with rdr := { st := 4, cur := some 5, next := 0x72 } } }, by (try dsimp only); all_goals decide +kernel⟩,
   ⟨{ up with cb := { up.cb with rdr := { st := 4, cur := some 5, next := 0x80 } } }, by (try dsimp only); all_goals decide +kernel⟩,
   ⟨{ up with cb := { up.cb with rdr := { st := 4, cur := some 5, next := 0x81 } } }, by (try dsimp only); all_goals decide +kernel⟩,
   ⟨{ up with cb := { up.cb with rdr := { st := 4, cur := some 5, next := 0x90 } } }, by (try dsimp only); all_goals decide +kernel⟩,
   ⟨{ up with cb := { up.cb with rdr := { st := 4, cur := some 5, next := 0x9F } } }, by (try dsimp only); all_goals decide +kernel⟩,
   ⟨{ up with cb := { up.cb with rdr := { st := 4, cur := some 5, sent := 0x60 } } }, by (try dsimp only); all_goals decide +kernel⟩,
   ⟨{ up with cb := { up.cb with rdr := { st := 4, cur := some 5, sent := 0x71 } } }, by (try dsimp only); all_goals decide +kernel⟩,
   ⟨{ up with cb := { up.cb with rdr := { st := 4, cur := some 5, sent := 0x80 } } }, by (try dsimp only); all_goals decide +kernel⟩,
   ⟨{ up with cb := { up.cb with rdr := { st := 4, cur := some 5, sent := 0x90 } } }, by (try dsimp only); all_goals decide +kernel⟩,
   ⟨{ up with cb := { up.cb with rdr := { st := 4, cur := some 5, sent := 1 } } }, true, by (try dsimp only); all_goals decide +kernel⟩,
   ⟨{ up with cb := { up.cb with rdr := { st := 4, cur := some 5, sent := 0x70 } } }, by (try dsimp only); all_goals decide +kernel⟩⟩

/-- For every clause of TestAndServiceCommandsTakeEffect that has hypotheses: a state and operands that meet them. -/
theorem witness_TestAndServiceCommandsTakeEffect :
    (∃ (s : State) (n : Nat) (r : Reg),
      let lives : Prop := s.pageLive (lanePage n) = true;
      (lives) ∧ (s.lnState n = 0) ∧ (getField r 1 0 ≠ 3)) ∧
    (∃ (s : State) (n : Nat),
      let lives : Prop := s.pageLive (lanePage n) = true;
      (lives) ∧ (s.lnState n ≠ 0) ∧ (s.lnState n ≠ 6)) ∧
    (∃ (s : State) (n : Nat),
      let lives : Prop := s.pageLive (lanePage n) = true;
      (lives) ∧ (s.lnState n = 6) ∧ (s.testMode n = 1) ∧ (s.fld (lnReg n 0x34) 0 0 = 1) ∧ ((s.rd (lnReg n 0x30)).toNat < 0xFFFFFFFF)) ∧
    (∃ (s : State) (n : Nat),
      let lives : Prop := s.pageLive (lanePage n) = true;
      (lives) ∧ (s.lnState n ≠ 6)) ∧
    (∃ (s : State) (n : Nat),
      (s.lnState n = 6) ∧ (s.testMode n ≠ 2) ∧ (s.fld (lnReg n 0x34) 0 0 = 0)) ∧
    (∃ (s : State) (d : Nat),
      let free : Prop := s.fld (ra tPW 0 0x110) 31 31 = 0 ∧ s.isoDomain d = false;
      (free) ∧ (s.drState d = 0)) ∧
    (∃ (s : State) (d : Nat),
      let free : Prop := s.fld (ra tPW 0 0x110) 31 31 = 0 ∧ s.isoDomain d = false;
      (free) ∧ ((s.drState d = 3 ∨ s.drState d = 5)) ∧ ((∀ e ∈ domDeps d, s.domOn e = true))) ∧
    (∃ (s : State) (d : Nat),
      let free : Prop := s.fld (ra tPW 0 0x110) 31 31 = 0 ∧ s.isoDomain d = false;
      (free) ∧ (s.drState d = 0)) ∧
    (∃ (s : State) (d : Nat),
      (s.fld (ra tPW 0 0x110) 31 31 = 0) ∧ (s.drState d = 4)) ∧
    (∃ (s : State) (d : Nat),
      (s.drState d = 1) ∧ (s.dramCells d = 0)) ∧
    (∃ (s : State) (d : Nat),
      (s.drState d = 1)) ∧
    (∃ (s : State) (d : Nat),
      (s.drState d = 2)) ∧
    (∃ (s : State) (d : Nat),
      (s.drState d = 4) ∧ (s.domOn d = true) ∧ (s.startRunning = false)) ∧
    (∃ (s : State) (d : Nat) (sram : Nat),
      (s.drState d = 4) ∧ (s.domOn d = true) ∧ (s.startRunning = false) ∧ (1 ≤ sram) ∧ (sram ≤ 4)) ∧
    (∃ (s : State) (o : Nat) (k : Nat),
      let c := 32 * o + k;
      let idle : Prop := s.domOn (64 + o) = true ∧ ((s.core c).st = 0 ∨ (s.core c).st = 4) ∧ (s.took (pageNo tTS o)).fld (ozReg o 0x818) k k = 0 ∧ (s.took (pageNo tTS o)).fld (tsReg o 0x104) 31 31 = 0;
      (k < 32) ∧ (o < 4) ∧ (idle)) ∧
    (∃ (s : State) (o : Nat) (v : Nat),
      (oget s.svc.test o = some v) ∧ (v % 4 = 2)) ∧
    (∃ (s : State) (o : Nat),
      (s.domain (64 + o) = 3)) :=
  ⟨⟨laneAt 0 0, 0, 2, by (try dsimp only); all_goals decide +kernel⟩,
   ⟨laneAt 5 0, 0, by (try dsimp only); all_goals decide +kernel⟩,
   ⟨(((laneAt 6 0).setFld (lnReg 0 0x24) 1 0 1).setFld (lnReg 0 0x34) 0 0 1).wrn (lnReg 0 0x30) 0xFFFFFFFE, 0, by (try dsimp only); all_goals decide +kernel⟩,
   ⟨laneAt 5 0, 0, by (try dsimp only); all_goals decide +kernel⟩,
   ⟨((laneAt 6 0).setFld (lnReg 0 0x24) 1 0 1).setFld (lnReg 0 0x34) 0 0 0, 0, by decide +kernel⟩,
   ⟨(up).setFld (drReg 0 0x104) 2 0 0, 0, by (try dsimp only); all_goals decide +kernel⟩,
   ⟨(up).setFld (drReg 0 0x104) 2 0 5, 0, by (try dsimp only); all_goals decide +kernel⟩,
   ⟨(up).setFld (drReg 0 0x104) 2 0 0, 0, by (try dsimp only); all_goals decide +kernel⟩,
   ⟨(up).setFld (drReg 0 0x104) 2 0 4, 0, by decide +kernel⟩,
   ⟨(up).setFld (drReg 0 0x104) 2 0 1, 0, by decide +kernel⟩,
   ⟨(up).setFld (drReg 0 0x104) 2 0 1, 0, by decide +kernel⟩,
   ⟨(up).setFld (drReg 0 0x104) 2 0 2, 0, by decide +kernel⟩,
   ⟨(quiet).setFld (drReg 0 0x104) 2 0 4, 0, by decide +kernel⟩,
   ⟨(quiet).setFld (drReg 0 0x104) 2 0 4, 0, 4, by decide +kernel⟩,
   ⟨up.wrn (ozReg 3 0x818) 0, 3, 31, by (try dsimp only); all_goals decide +kernel⟩,
   ⟨{ up with svc := { up.svc with test := [(0, 6)] } }, 0, 6, by decide +kernel⟩,
   ⟨up.setDomain 67 3, 3, by decide +kernel⟩⟩

/-- For every clause of IsolationAndClockLossesTakeEffect that has hypotheses: a state and operands that meet them. -/
theorem witness_IsolationAndClockLossesTakeEffect :
    (∃ (s : State) (o : Nat),
      let soft := ((List.range 4).filter fun p => s.isoState p != 0 && s.fld (ozReg p 0x104) 2 2 == 0).length;
      (s.startRunning = false) ∧ (s.isHeld = false) ∧ (soft < 2) ∧ (s.isoState o = 0)) ∧
    (∃ (s : State),
      (s.startRunning = true)) ∧
    (∃ (s : State),
      let soft := ((List.range 4).filter fun p => s.isoState p != 0 && s.fld (ozReg p 0x104) 2 2 == 0).length;
      (s.startRunning = false) ∧ (s.isHeld = false) ∧ (2 ≤ soft)) ∧
    (∃ (s : State) (o : Nat),
      let soft := ((List.range 4).filter fun p => s.isoState p != 0 && s.fld (ozReg p 0x104) 2 2 == 0).length;
      (s.startRunning = false) ∧ (s.isHeld = false) ∧ (soft < 2) ∧ (s.isoState o ≠ 0)) ∧
    (∃ (s : State) (o : Nat),
      (s.isoState o = 2) ∧ (s.fld (ozReg o 0x104) 3 3 = 0) ∧ (s.fld (ozReg o 0x104) 2 2 = 0)) ∧
    (∃ (s : State) (o : Nat),
      (s.isoState o ≠ 2)) ∧
    (∃ (a : Nat) (b : Nat),
      (a < 4) ∧ (b < 4) ∧ (a ≠ b)) ∧
    (∃ (o : Nat),
      (o < 4)) ∧
    (∃ (s : State) (o : Nat),
      (o < 4) ∧ (o ∉ s.svc.fabLost)) ∧
    (∃ (s : State) (o : Nat),
      (o ∈ s.svc.fabLost)) ∧
    (∃ (o : Nat) (pll : Nat),
      (o < 4) ∧ (3 ≤ pll) ∧ (pll < 6)) ∧
    (∃ (o : Nat) (pll : Nat),
      (o < 4) ∧ ((pll = 1 ∨ pll = 2))) :=
  ⟨⟨(quiet).setFld (ozReg 1 0x104) 1 0 1, 0, by (try dsimp only); all_goals decide +kernel⟩,
   ⟨startAt 1, by decide +kernel⟩,
   ⟨((quiet).setFld (ozReg 2 0x104) 1 0 1).setFld (ozReg 1 0x104) 1 0 1, by (try dsimp only); all_goals decide +kernel⟩,
   ⟨(quiet).setFld (ozReg 0 0x104) 1 0 1, 0, by (try dsimp only); all_goals decide +kernel⟩,
   ⟨(quiet).setFld (ozReg 0 0x104) 1 0 2, 0, by decide +kernel⟩,
   ⟨quiet, 0, by decide +kernel⟩,
   ⟨3, 2, by decide +kernel⟩,
   ⟨3, by decide +kernel⟩,
   ⟨quiet, 3, by decide +kernel⟩,
   ⟨{ quiet with svc := { quiet.svc with fabLost := [0] } }, 0, by decide +kernel⟩,
   ⟨3, 5, by decide +kernel⟩,
   ⟨3, 2, by decide +kernel⟩⟩

/-- For every clause of TestAccessPortTakesEffect that has hypotheses: a state and operands that meet them. -/
theorem witness_TestAccessPortTakesEffect :
    (∃ (s : State),
      let open_ := fun (cls : Nat) => s.jtagClasses.testBit cls = true;
      (open_ 1)) ∧
    (∃ (s : State),
      let open_ := fun (cls : Nat) => s.jtagClasses.testBit cls = true;
      let early : Prop := s.portsOpen = false ∨ s.isHeld = true;
      (open_ 1) ∧ (early)) ∧
    (∃ (s : State),
      let open_ := fun (cls : Nat) => s.jtagClasses.testBit cls = true;
      let early : Prop := s.portsOpen = false ∨ s.isHeld = true;
      (open_ 1) ∧ (early)) ∧
    (∃ (s : State),
      let open_ := fun (cls : Nat) => s.jtagClasses.testBit cls = true;
      let early : Prop := s.portsOpen = false ∨ s.isHeld = true;
      (open_ 1) ∧ (early)) ∧
    (∃ (s : State),
      let open_ := fun (cls : Nat) => s.jtagClasses.testBit cls = true;
      let early : Prop := s.portsOpen = false ∨ s.isHeld = true;
      (open_ 1) ∧ (early)) ∧
    (∃ (s : State),
      let open_ := fun (cls : Nat) => s.jtagClasses.testBit cls = true;
      let early : Prop := s.portsOpen = false ∨ s.isHeld = true;
      (open_ 1) ∧ (early)) ∧
    (∃ (s : State),
      let shut := fun (cls : Nat) => s.jtagClasses.testBit cls = false;
      (shut 1)) ∧
    (∃ (s : State),
      let open_ := fun (cls : Nat) => s.jtagClasses.testBit cls = true;
      (open_ 1) ∧ (s.portsOpen = true) ∧ (s.isHeld = false)) ∧
    (∃ (s : State),
      let open_ := fun (cls : Nat) => s.jtagClasses.testBit cls = true;
      (open_ 3)) ∧
    (∃ (s : State),
      let shut := fun (cls : Nat) => s.jtagClasses.testBit cls = false;
      (shut 3)) ∧
    (∃ (s : State) (c : Nat),
      let open_ := fun (cls : Nat) => s.jtagClasses.testBit cls = true;
      (open_ 2) ∧ (c < 128)) ∧
    (∃ (s : State),
      let shut := fun (cls : Nat) => s.jtagClasses.testBit cls = false;
      (shut 2)) ∧
    (∃ (s : State) (a : Nat),
      let open_ := fun (cls : Nat) => s.jtagClasses.testBit cls = true;
      let q := s.jtag.sel;
      let access : Prop := open_ 2 ∧ ((s.core q).st = 0 ∨ (s.core q).st = 4) ∧ s.domOn (64 + coreOunce q) = true ∧ s.fld (ozReg (coreOunce q) 0x818) (q % 32) (q % 32) = 0;
      (access) ∧ (a < 32)) ∧
    (∃ (s : State) (a : Nat),
      let open_ := fun (cls : Nat) => s.jtagClasses.testBit cls = true;
      let q := s.jtag.sel;
      let access : Prop := open_ 2 ∧ ((s.core q).st = 0 ∨ (s.core q).st = 4) ∧ s.domOn (64 + coreOunce q) = true ∧ s.fld (ozReg (coreOunce q) 0x818) (q % 32) (q % 32) = 0;
      (access) ∧ (0x3FFE0000 ≤ a) ∧ (a < 0x3FFF0000)) ∧
    (∃ (s : State) (a : Nat),
      let open_ := fun (cls : Nat) => s.jtagClasses.testBit cls = true;
      let q := s.jtag.sel;
      let access : Prop := open_ 2 ∧ ((s.core q).st = 0 ∨ (s.core q).st = 4) ∧ s.domOn (64 + coreOunce q) = true ∧ s.fld (ozReg (coreOunce q) 0x818) (q % 32) (q % 32) = 0;
      (access) ∧ (a < 32)) ∧
    (∃ (s : State),
      let open_ := fun (cls : Nat) => s.jtagClasses.testBit cls = true;
      let q := s.jtag.sel;
      (open_ 2) ∧ ((s.core q).st = 1)) ∧
    (∃ (s : State),
      let open_ := fun (cls : Nat) => s.jtagClasses.testBit cls = true;
      (open_ 2)) ∧
    (∃ (s : State),
      let open_ := fun (cls : Nat) => s.jtagClasses.testBit cls = true;
      (open_ 2)) :=
  ⟨⟨up, by (try dsimp only); all_goals decide +kernel⟩,
   ⟨up.setFld (glReg 0x204) 10 10 1, by (try dsimp only); all_goals decide +kernel⟩,
   ⟨up.setFld (glReg 0x204) 10 10 1, by (try dsimp only); all_goals decide +kernel⟩,
   ⟨up.setFld (glReg 0x204) 10 10 1, by (try dsimp only); all_goals decide +kernel⟩,
   ⟨up.setFld (glReg 0x204) 10 10 1, by (try dsimp only); all_goals decide +kernel⟩,
   ⟨up.setFld (glReg 0x204) 10 10 1, by (try dsimp only); all_goals decide +kernel⟩,
   ⟨{ up with cus := { up.cus with otp := 0x3FFFF } }, by (try dsimp only); all_goals decide +kernel⟩,
   ⟨up, by (try dsimp only); all_goals decide +kernel⟩,
   ⟨{ up with cus := { up.cus with otp := 0x3F } }, by (try dsimp only); all_goals decide +kernel⟩,
   ⟨up, by (try dsimp only); all_goals decide +kernel⟩,
   ⟨up, 127, by (try dsimp only); all_goals decide +kernel⟩,
   ⟨{ up with cus := { up.cus with otp := 0x3FFFF } }, by (try dsimp only); all_goals decide +kernel⟩,
   ⟨({ open_ with jtag := { sel := 127 } } : State).wrn (ozReg 3 0x818) 0, 31, by (try dsimp only); all_goals decide +kernel⟩,
   ⟨({ open_ with jtag := { sel := 127 } } : State).wrn (ozReg 3 0x818) 0, 0x3FFEFFFF, by (try dsimp only); all_goals decide +kernel⟩,
   ⟨({ open_ with jtag := { sel := 127 } } : State).wrn (ozReg 3 0x818) 0, 31, by (try dsimp only); all_goals decide +kernel⟩,
   ⟨({ coreUp with jtag := { sel := 0 } } : State), by (try dsimp only); all_goals decide +kernel⟩,
   ⟨up, by (try dsimp only); all_goals decide +kernel⟩,
   ⟨up, by (try dsimp only); all_goals decide +kernel⟩⟩

/-- For every clause of LaneSettingsOutOfRangeAreRefused that has hypotheses: a state and operands that meet them. -/
theorem witness_LaneSettingsOutOfRangeAreRefused :
    (∃ (s : State) (n : Nat) (v : Reg),
      let sum := getField v 5 0 + getField v 13 8 + getField v 21 16;
      (s.canon = true) ∧ (s.pageLive (lanePage n) = true) ∧ ((63 < sum ∨ getField v 13 8 < 24))) ∧
    (∃ (s : State) (n : Nat) (v : Reg),
      let sum := getField v 5 0 + getField v 13 8 + getField v 21 16;
      (s.canon = true) ∧ (s.pageLive (lanePage n) = true) ∧ (sum ≤ 63) ∧ (24 ≤ getField v 13 8)) ∧
    (∃ (s : State) (n : Nat) (v : Reg),
      (s.canon = true) ∧ (s.pageLive (lanePage n) = true) ∧ (s.lnState n ≠ 0) ∧ ((s.lnState n = 6 → bitAt v 8 = false))) ∧
    (∃ (s : State) (n : Nat) (v : Reg),
      (s.canon = true) ∧ (s.pageLive (lanePage n) = true) ∧ (s.lnState n = 0) ∧ (getField v 1 0 = 3)) ∧
    (∃ (s : State) (n : Nat) (v : Reg),
      (s.canon = true) ∧ (s.pageLive (lanePage n) = true) ∧ (s.lnState n = 0) ∧ (getField v 1 0 ≠ 3)) ∧
    (∃ (s : State) (n : Nat) (v : Reg),
      (s.canon = true) ∧ (s.pageLive (lanePage n) = true) ∧ (s.lnState n = 6) ∧ (bitAt v 8 = true)) :=
  ⟨⟨up, 1039, 0x182800, by (try dsimp only); all_goals decide +kernel⟩,
   ⟨up, 1039, 0x1827, by (try dsimp only); all_goals decide +kernel⟩,
   ⟨up.setLnState 1039 6, 1039, 0, by decide +kernel⟩,
   ⟨up, 1039, 3, by decide +kernel⟩,
   ⟨up, 1039, 2, by decide +kernel⟩,
   ⟨up.setLnState 1039 6, 1039, 0x100, by decide +kernel⟩⟩

/-- For every clause of RingSettingsAreRefusedWhileEnabled that has hypotheses: a state and operands that meet them. -/
theorem witness_RingSettingsAreRefusedWhileEnabled :
    (∃ (s : State) (r : Nat) (h : Nat) (v : Reg),
      let size := getField v 7 4;
      let buf := getField v 23 16;
      let on : Prop := s.fld (rgReg r 8) 0 0 = 1;
      (s.canon = true) ∧ (r < 256) ∧ (h < 2) ∧ (on) ∧ ((size ≠ s.fld (rgReg r 8) 7 4 ∨ buf ≠ s.fld (rgReg r 8) 23 16))) ∧
    (∃ (s : State) (r : Nat) (h : Nat) (v : Reg),
      let size := getField v 7 4;
      let buf := getField v 23 16;
      (s.canon = true) ∧ (r < 256) ∧ (h < 2) ∧ ((size < 4 ∨ (128 ≤ r ∧ buf = 0) ∨ (r < 128 ∧ buf ≠ 0)))) ∧
    (∃ (s : State) (r : Nat) (h : Nat) (v : Reg),
      let on : Prop := s.fld (rgReg r 8) 0 0 = 1;
      (s.canon = true) ∧ (r < 256) ∧ (h < 2) ∧ (s.hostUp = true) ∧ (on) ∧ ((if h = 0 then v &&& 0xFFFFF000 else v) ≠ s.rd (rgReg r (4 * h)))) :=
  ⟨⟨ringOn 0, 0, 1, 0x50, by (try dsimp only); all_goals decide +kernel⟩,
   ⟨up, 255, 1, 0x40, by (try dsimp only); all_goals decide +kernel⟩,
   ⟨ringOn 255, 255, 1, 1, by (try dsimp only); all_goals decide +kernel⟩⟩

/-- For every clause of ViolationsAreLogged that has hypotheses: a state and operands that meet them. -/
theorem witness_ViolationsAreLogged :
    (∃ (s : State) (f : Nat),
      (s.canon = true) ∧ (f < 512) ∧ (s.cus.log.length < 16)) ∧
    (∃ (s : State) (f : Nat),
      (s.canon = true) ∧ (f < 512) ∧ (16 ≤ s.cus.log.length)) ∧
    (∃ (s : State) (f : Nat),
      let info := pra (pageNo tCD 3) 0x20;
      (s.canon = true) ∧ (f < 512) ∧ (s.fld info 31 31 = 0)) :=
  ⟨⟨up, 511, by decide +kernel⟩,
   ⟨{ up with cus := { up.cus with log := List.replicate 16 {} } }, 511, by decide +kernel⟩,
   ⟨up, 511, by (try dsimp only); all_goals decide +kernel⟩⟩

/-- For every clause of ExceptionEntrySavesAndRedirects that has hypotheses: a state and operands that meet them. -/
theorem witness_ExceptionEntrySavesAndRedirects :
    (∃ (s : State) (c : Nat),
      let x := s.core c;
      let quiet : Prop := 1 ≤ x.st ∧ x.sbuf = [] ∧ x.late = none;
      (quiet) ∧ (x.ds = none) ∧ (x.exl = false) ∧ (x.dxl = false)) ∧
    (∃ (s : State) (c : Nat) (d : Slot),
      let x := s.core c;
      let quiet : Prop := 1 ≤ x.st ∧ x.sbuf = [] ∧ x.late = none;
      (quiet) ∧ (x.ds = some d) ∧ (d.link = 0) ∧ (x.exl = false) ∧ (x.dxl = false)) ∧
    (∃ (s : State) (c : Nat),
      let x := s.core c;
      let quiet : Prop := 1 ≤ x.st ∧ x.sbuf = [] ∧ x.late = none;
      (quiet) ∧ (x.ds = none) ∧ (x.exl = true) ∧ (x.dxl = false)) ∧
    (∃ (s : State) (c : Nat),
      let x := s.core c;
      let quiet : Prop := 1 ≤ x.st ∧ x.sbuf = [] ∧ x.late = none;
      (quiet) ∧ (x.ds = none) ∧ (x.dxl = true)) :=
  ⟨⟨coreUp, 0, by (try dsimp only); all_goals decide +kernel⟩,
   ⟨coreWith fun x => { x with ds := some {} }, 0, {}, by (try dsimp only); all_goals decide +kernel⟩,
   ⟨coreWith fun x => { x with exl := true }, 0, by (try dsimp only); all_goals decide +kernel⟩,
   ⟨coreWith fun x => { x with exl := true, dxl := true }, 0, by (try dsimp only); all_goals decide +kernel⟩⟩

/-- The premises of the frame of the integer operations hold of an addition of core 0. -/
theorem witness_IntegerOperationsChangeOnlyTheirRegister :
    coreUp.ready 0 = true ∧ (coreUp.core 0).stopping = false ∧
      exec (.add 0 3 1 2 false) coreUp = .next (coreUp.writesBack 0 3 0) := by
  refine ⟨by decide +kernel, by decide +kernel, rfl⟩

/-- The premises of the frame of the stores hold of an 8-byte store at the last address of the data SRAM. -/
theorem witness_StoresChangeOnlyTheirBytes :
    (coreReg 1 0x3FFF8).ready 0 = true ∧ ((coreReg 1 0x3FFF8).core 0).stopping = false ∧
      (coreReg 1 0x3FFF8).fenceFail 0 (clsRing ((coreReg 1 0x3FFF8).core 0).ring) accW 0x3FFF8 8 = none ∧
      ∃ t, exec (.store 0 2 1 6 0) (coreReg 1 0x3FFF8) = .next t := by
  refine ⟨by decide +kernel, by decide +kernel, by decide +kernel, _, rfl⟩

/-- A state whose queue is empty, and one with a command in front, answer a next state. -/
theorem witness_StepRunsTheFrontCommand :
    State.reset.pending = [] ∧ step State.reset = .next State.reset.tick ∧
      step { State.reset with pending := [.timPllLoss] } = exec .timPllLoss State.reset := by
  refine ⟨rfl, rfl, rfl⟩

/-- The state right after reset is canonical, and its step answers a next state. -/
theorem witness_StepKeepsTheCanonicalForm : State.reset.canon = true ∧ ∃ t, step State.reset = .next t :=
  ⟨by decide +kernel, _, rfl⟩

/-- A command waits, and the step that takes it answers a next state. -/
theorem witness_CommandsLeaveTheQueueAlone :
    ∃ (s t : State) (c : Instr) (rest : List Instr), s.pending = c :: rest ∧ step s = .next t :=
  ⟨{ State.reset with pending := [.timPllLoss, .timPllLoss] }, _, .timPllLoss, [.timPllLoss], rfl, rfl⟩

end Sys2Proof.Tests
end

section
/-!
PROOFS. The register writes of a lane (R70, R630): the reports of a page stay below its offset 0x100, so a write to a block register
touches, of the lane's block, only what its clause names; then the writes to LN_TXEQ and LN_TEST_CFG branch by branch.
-/
namespace Sys2Proof.Machine

section
variable (s : State)

/-! ### What an event leaves alone -/

theorem rd_wr64_ne (a b x : Nat) (h : b ≠ a) (h' : b ≠ a + 4) : (s.wr64 a x).rd b = s.rd b :=
  (rd_wrn_ne _ _ _ _ h').trans (rd_wrn_ne _ _ _ _ h)

theorem rd_ite {s t u : State} {b : Nat} {c : Prop} [Decidable c] (ht : t.rd b = s.rd b) (hu : u.rd b = s.rd b) :
    (if c then t else u).rd b = s.rd b := by split <;> assumption

/-- An event counter at offset `e` writes the three words from `e` on only. -/
theorem rd_evcStep (p ev unit amt edge e b : Nat) (h : pra p (e + 12) ≤ b) : (evcStep p ev unit amt edge s e).rd b = s.rd b := by
  obtain ⟨hsel, hlo, hhi⟩ : b ≠ pra p e ∧ b ≠ pra p (e + 4) ∧ b ≠ pra p (e + 4) + 4 := by unfold pra at *; omega
  exact rd_ite ((rd_wr64_ne _ _ _ _ hlo hhi).trans (rd_ite (rd_setFld_ne _ _ _ _ _ _ hsel) rfl)) rfl

/-- An event of a page writes below offset 0x100 of the page only, where its event counters lie. -/
theorem rd_event (p ev unit amt edge b : Nat) (h : pra p 0x100 ≤ b) : (s.event p ev unit amt edge).rd b = s.rd b := by
  have step (s : State) (e : Nat) (he : e ≤ 0x70) : (evcStep p ev unit amt edge s e).rd b = s.rd b :=
    rd_evcStep s p ev unit amt edge e b (by unfold pra at *; omega)
  simp [State.event, step]

variable (n : Nat)

/-- A lane's block lies on its page, from offset 0x100 on (R68). -/
theorem lnReg_eq_pra (off : Nat) : lnReg n off = pra (lanePage n) (0x100 + 0xE0 * laneBlk n + off) := by
  unfold lnReg lanePage pra pageNo ra
  omega

@[simp] theorem rd_took_lnReg (off : Nat) : (s.took (lanePage n)).rd (lnReg n off) = s.rd (lnReg n off) :=
  rd_event _ _ _ _ _ _ _ (by rw [lnReg_eq_pra]; unfold pra; omega)

@[simp] theorem fld_took_lnReg (off hi lo : Nat) : (s.took (lanePage n)).fld (lnReg n off) hi lo = s.fld (lnReg n off) hi lo := by
  simp [State.fld]

/-! ### LN_STATUS, and the page's domain -/

theorem rd_lnStatus_ne (off code : Nat) (h : off ≠ 0x20) : (s.lnStatus n code).rd (lnReg n off) = s.rd (lnReg n off) :=
  rd_setFld_ne _ _ _ _ _ _ (by simpa using h)

theorem fld_lnStatus (code : Nat) (hs : s.canon) (hc : code < 2 ^ 16) : (s.lnStatus n code).fld (lnReg n 0x20) 15 0 = code :=
  (fld_setFld _ _ _ _ _ (canon_regs hs) (by omega)).trans (Nat.mod_eq_of_lt hc)

theorem pageWrite_live (p : Nat) (f : State → State) (h : s.pageLive p = true) : s.pageWrite p f = f s := if_pos h

/-! ### LN_TXEQ -/

variable (v : Reg) (hl : s.pageLive (lanePage n) = true)

/-- The transmit coefficients in `v` are out of range (R70). -/
def txeqBad (v : Reg) : Prop := 63 < getField v 5 0 + getField v 13 8 + getField v 21 16 ∨ getField v 13 8 < 24

include hl

theorem exec_lnTxeqWrite_refused (hv : txeqBad v) : exec (.lnTxeqWrite n v) s = .next (s.lnStatus n 0x105) :=
  congrArg done ((pageWrite_live _ _ _ hl).trans (if_pos hv))

theorem exec_lnTxeqWrite_stored (hv : ¬ txeqBad v) :
    exec (.lnTxeqWrite n v) s = .next ((s.wr (lnReg n 0x08) (v &&& 0x3F3F3F)).took (lanePage n)) :=
  congrArg done ((pageWrite_live _ _ _ hl).trans (if_neg hv))

/-! ### LN_TEST_CFG -/

theorem exec_lnTestCfgWrite_inject (hst : s.lnState n = 6) (hv : bitAt v 8 = true) :
    exec (.lnTestCfgWrite n v) s = .next ((s.prbsInject n).took (lanePage n)) :=
  congrArg done ((pageWrite_live _ _ _ hl).trans (if_pos ⟨hst, hv⟩))

theorem exec_lnTestCfgWrite_refused (hst : s.lnState n = 6 → bitAt v 8 = false) (hv : s.lnState n ≠ 0 ∨ getField v 1 0 = 3) :
    exec (.lnTestCfgWrite n v) s = .next (s.lnStatus n 0x120) := by
  have inject : ¬ (s.lnState n = 6 ∧ bitAt v 8 = true) := fun ⟨h6, h8⟩ => by simp [hst h6] at h8
  exact congrArg done ((pageWrite_live _ _ _ hl).trans ((if_neg inject).trans (if_pos hv)))

theorem exec_lnTestCfgWrite_stored (hst : s.lnState n = 0) (hv : getField v 1 0 ≠ 3) :
    exec (.lnTestCfgWrite n v) s = .next ((s.wrn (lnReg n 0x24) (getField v 1 0)).took (lanePage n)) := by
  have inject : ¬ (s.lnState n = 6 ∧ bitAt v 8 = true) := fun ⟨h6, _⟩ => by omega
  have refused : ¬ (s.lnState n ≠ 0 ∨ getField v 1 0 = 3) := by simp [hst, hv]
  exact congrArg done ((pageWrite_live _ _ _ hl).trans ((if_neg inject).trans (if_neg refused)))

omit hl

/-- An injected bit error counts in PRBS_ERR alone (R629). -/
theorem rd_prbsInject_ne (off : Nat) (h : off ≠ 0x30) : (s.prbsInject n).rd (lnReg n off) = s.rd (lnReg n off) :=
  rd_ite (rd_wrn_ne _ _ _ _ (by simpa using h)) rfl

/-- A mode stored in LN_TEST_CFG reads back: two bits go through the register's 32 unchanged. -/
theorem fld_wrn_getField (a : Nat) (hs : s.canon) : (s.wrn a (getField v 1 0)).fld a 1 0 = getField v 1 0 := by
  have hlt : getField v 1 0 < 4 := natField_lt v.toNat 1 0
  rw [State.wrn, fld_wr _ _ _ _ _ (canon_regs hs)]
  generalize getField v 1 0 = m at hlt ⊢
  simp only [getField, natField, BitVec.toNat_ofNat, Nat.shiftRight_zero]
  omega

end

/-- Settles O51, branch by branch of the two writes: a refusal records its code in LN_STATUS and touches no other register, and a
value stored is read back because the write's own event stays outside the lane's block. -/
theorem laneSettingsOutOfRangeAreRefused : Obligations.LaneSettingsOutOfRangeAreRefused := by
  intro s n v hs hl sum kept
  have refused (off code : Nat) (ho : off ≠ 0x20) (hc : code < 2 ^ 16) : kept (s.lnStatus n code) off code :=
    ⟨rd_lnStatus_ne s n off code ho, fld_lnStatus s n code hs hc⟩
  refine ⟨fun hv => ?_, fun hsum hmain => ?_, fun hst hbit => ?_, fun hst hv => ?_, fun hst hv => ?_, fun hst hbit => ?_⟩
  · exact ⟨_, exec_lnTxeqWrite_refused s n v hl hv, refused _ _ (by decide) (by decide)⟩
  · have hv : ¬ txeqBad v := by rintro (h | h) <;> omega
    exact ⟨_, exec_lnTxeqWrite_stored s n v hl hv, by simp [rd_wr _ _ _ (canon_regs hs)]⟩
  · exact ⟨_, exec_lnTestCfgWrite_refused s n v hl hbit (.inl hst), refused _ _ (by decide) (by decide)⟩
  · have off : s.lnState n = 6 → bitAt v 8 = false := fun h6 => by omega
    exact ⟨_, exec_lnTestCfgWrite_refused s n v hl off (.inr hv), refused _ _ (by decide) (by decide)⟩
  · exact ⟨_, exec_lnTestCfgWrite_stored s n v hl hst hv, by simp [fld_wrn_getField s v _ hs]⟩
  · refine ⟨_, exec_lnTestCfgWrite_inject s n v hl hst hbit, ?_, ?_⟩
    · rw [rd_took_lnReg, rd_prbsInject_ne s n 0x24 (by decide)]
    · rw [fld_took_lnReg, State.fld, rd_prbsInject_ne s n 0x20 (by decide), State.fld]

end Sys2Proof.Machine
end

section
/-!
PROOFS. What a ring refuses (R469): an interrupt of a page writes the first 0x100 bytes of the page and the Pending Bit Array only, so a
refusal touches, of the ring's block, RG_STATUS alone; then which writes to RG_CFG and RG_BASE are refused.
-/
namespace Sys2Proof.Machine

section
variable (s : State)

/-! ### What an interrupt leaves alone -/

/-- Of the registers, a vector writes the Pending Bit Array only (R453). -/
theorem rd_sendVector (v b : Nat) (h : b < bar4 + 0x8000) : (s.sendVector v).rd b = s.rd b :=
  rd_ite (rd_ite rfl (rd_setFld_ne _ _ _ _ _ _ (by omega))) rfl

theorem rd_irqFollow (p old b : Nat) (h : pra p 0x100 ≤ b) (hb : b < bar4 + 0x8000) : (s.irqFollow p old).rd b = s.rd b :=
  rd_ite ((rd_sendVector _ _ _ hb).trans (rd_event _ _ _ _ _ _ _ h)) rfl

theorem rd_rawSet (p bit b : Nat) (h : pra p 0x100 ≤ b) (hb : b < bar4 + 0x8000) : (s.rawSet p bit).rd b = s.rd b := by
  have raw : b ≠ pra p 0x010 := by unfold pra at *; omega
  rw [State.rawSet, rd_irqFollow _ _ _ _ h hb, rd_event _ _ _ _ _ _ _ h, rd_setFld_ne _ _ _ _ _ _ raw]

/-- An interrupt of a page writes the first 0x100 bytes of the page and the Pending Bit Array only. -/
theorem rd_irq (p bit b : Nat) (h : pra p 0x100 ≤ b) (hb : b < bar4 + 0x8000) : (s.irq p bit).rd b = s.rd b :=
  rd_ite (rd_rawSet _ _ _ _ h hb) rfl

variable (r : Nat)

/-! ### RG_STATUS -/

@[simp] theorem rgReg_inj (a b : Nat) : rgReg r a = rgReg r b ↔ a = b := by simp [rgReg]

/-- RING_ERR is raised on the HI page, away from every ring's block in BAR2 (Table 13.7). -/
theorem rd_irq_rgReg (bit off : Nat) (hr : r < 256) (ho : off < 0x40) :
    (s.irq hiPage bit).rd (rgReg r off) = s.rd (rgReg r off) :=
  rd_irq _ _ _ _ (by unfold pra hiPage pageNo tHI rgReg bar2; omega) (by unfold rgReg bar2 bar4; omega)

theorem rd_rgRefuse_ne (code off : Nat) (hr : r < 256) (ho : off < 0x40) (h : off ≠ 0x14) :
    (s.rgRefuse r code).rd (rgReg r off) = s.rd (rgReg r off) :=
  (rd_irq_rgReg _ _ _ _ hr ho).trans (rd_setFld_ne _ _ _ _ _ _ (by simpa using h))

theorem fld_rgRefuse (code : Nat) (hs : s.canon) (hr : r < 256) (hc : code < 2 ^ 16) :
    (s.rgRefuse r code).fld (rgReg r 0x14) 15 0 = code := by
  rw [State.rgRefuse, State.fld, rd_irq_rgReg _ _ _ _ hr (by decide)]
  exact (fld_setFld _ _ _ _ _ (canon_regs hs) (by decide)).trans (Nat.mod_eq_of_lt hc)

/-! ### RG_CFG -/

variable (v : Reg)

theorem exec_rgCfgWrite_refused (h : s.rgCfgBad r v = true) : exec (.rgCfgWrite r v) s = .next (s.rgRefuse r 0xA16) :=
  congrArg done (if_pos h)

/-- While EN is 1, a write that changes SIZE or BUFSZ is bad. -/
theorem rgCfgBad_of_enabled (on : s.fld (rgReg r 8) 0 0 = 1)
    (h : getField v 7 4 ≠ s.fld (rgReg r 8) 7 4 ∨ getField v 23 16 ≠ s.fld (rgReg r 8) 23 16) : s.rgCfgBad r v = true := by
  have en : bitAt (s.rd (rgReg r 8)) 0 = true := by
    rw [State.fld, getField_bit] at on
    simpa [b2n] using on
  have changed : (getField v 7 4 != getField (s.rd (rgReg r 8)) 7 4 || getField v 23 16 != getField (s.rd (rgReg r 8)) 23 16) = true := by
    simpa [State.fld] using h
  simp only [State.rgCfgBad, en, changed, Bool.and_self, Bool.true_or]

/-- A SIZE below 4 is bad, and so is a BUFSZ that does not fit the kind of ring: 128 and above receive. -/
theorem rgCfgBad_of_range (h : getField v 7 4 < 4 ∨ (128 ≤ r ∧ getField v 23 16 = 0) ∨ (r < 128 ∧ getField v 23 16 ≠ 0)) :
    s.rgCfgBad r v = true := by
  obtain hsize | ⟨hrx, hbuf⟩ | ⟨htx, hbuf⟩ := h
  · simp [State.rgCfgBad, hsize]
  · simp [State.rgCfgBad, Nat.not_lt.2 hrx, hbuf]
  · simp [State.rgCfgBad, htx, hbuf]

/-! ### RG_BASE -/

/-- A host write of all four bytes above BAR0 meets neither the warm start nor a fence (R496, R549). -/
theorem arrive_host_bar2 (a : Nat) (f : State → State) (ha : bar2 ≤ a) (up : s.hostUp = true) : s.arrive false 15 a f = f s := by
  have warm : s.warmBlocked a = false := by simp [State.warmBlocked, Nat.not_lt.2 ha]
  have fence : s.regFence false accW a = none := if_pos (.inl ha)
  simp [State.arrive, up, warm, fence]

/-- The two words of RG_BASE begin a ring's block of BAR2 (Table 13.7). -/
theorem writeReg_rgBase (cust : Bool) (h : Nat) (hr : r < 256) (hh : h < 2) :
    s.writeReg cust (rgReg r (4 * h)) v = s.writeRgBase r h v := by
  obtain ⟨haligned, hbar0, hbar2⟩ : rgReg r (4 * h) % 4 = 0 ∧ ¬ rgReg r (4 * h) < bar2 ∧ rgReg r (4 * h) < bar4 := by
    unfold rgReg bar2 bar4; omega
  obtain ⟨hmbox, hring⟩ : ¬ rgReg r (4 * h) - bar2 < 0x4000 ∧ rgReg r (4 * h) - bar2 < 0x8000 := by unfold rgReg; omega
  obtain ⟨hblock, hword⟩ : (rgReg r (4 * h) - bar2 - 0x4000) / 0x40 = r ∧ (rgReg r (4 * h) - bar2) % 0x40 = 4 * h := by
    unfold rgReg; omega
  simp only [State.writeReg, haligned, hbar0, hbar2, State.writeBar2, hmbox, hring, hblock, hword, ne_eq,
    not_true_eq_false, if_true, if_false]
  obtain rfl | rfl : h = 0 ∨ h = 1 := by omega
  · rfl
  · rfl

/-- A write of the host to either half of RG_BASE is judged by the ring. -/
theorem exec_registerWrite_rgBase (h : Nat) (hr : r < 256) (hh : h < 2) (up : s.hostUp = true) :
    exec (.registerWrite false 15 (rgReg r (4 * h)) v) s = .next (s.writeRgBase r h v) := by
  have above : bar2 ≤ rgReg r (4 * h) := by unfold rgReg; omega
  exact congrArg done ((arrive_host_bar2 _ _ _ above up).trans (writeReg_rgBase _ _ _ _ _ hr hh))

theorem writeRgBase_refused (h : Nat) (on : s.fld (rgReg r 8) 0 0 = 1)
    (hv : (if h = 0 then v &&& 0xFFFFF000 else v) ≠ s.rd (rgReg r (4 * h))) : s.writeRgBase r h v = s.rgRefuse r 0xA16 :=
  if_pos (by simpa [State.rgOn, on] using hv)

end

/-- Settles O52: each of the writes reaches the ring's refusal, which records the code in RG_STATUS and leaves the register. -/
theorem ringSettingsAreRefusedWhileEnabled : Obligations.RingSettingsAreRefusedWhileEnabled := by
  intro s r h v hs hr hh size buf on refused
  have refuses (off : Nat) (ho : off < 0x14) : refused (.next (s.rgRefuse r 0xA16)) off :=
    ⟨_, rfl, rd_rgRefuse_ne s r _ off hr (by omega) (by omega), fld_rgRefuse s r _ hs hr (by decide)⟩
  refine ⟨fun hon hchange => ?_, fun hrange => ?_, fun hup hon hchange => ?_⟩
  · rw [exec_rgCfgWrite_refused s r v (rgCfgBad_of_enabled s r v hon hchange)]
    exact refuses 8 (by decide)
  · rw [exec_rgCfgWrite_refused s r v (rgCfgBad_of_range s r v hrange)]
    exact refuses 8 (by decide)
  · rw [exec_registerWrite_rgBase s r v h hr hh hup, writeRgBase_refused s r v h hon hchange]
    exact refuses (4 * h) (by omega)

end Sys2Proof.Machine
end

section
/-!
PROOFS. The log of fence violations (R553): a violation enters the log or the count FN_LOG_OVF, then raises VIOLATION and offers its code
to PG_ERR_INFO. The page's event counters begin at offset 0x40, above PG_ERR_INFO, so neither the interrupt nor an event disturbs it.
-/
namespace Sys2Proof.Machine

section
variable (s : State)

/-! ### PG_ERR_INFO -/

/-- An event of a page leaves what stands below the page's first event counter. -/
theorem rd_event_below (p ev unit amt edge b : Nat) (h : b < pra p 0x40) : (s.event p ev unit amt edge).rd b = s.rd b := by
  have step (s : State) (e : Nat) (he : 0x40 ≤ e) : (evcStep p ev unit amt edge s e).rd b = s.rd b := by
    obtain ⟨hsel, hlo, hhi⟩ : b ≠ pra p e ∧ b ≠ pra p (e + 4) ∧ b ≠ pra p (e + 4) + 4 := by unfold pra at *; omega
    exact rd_ite ((rd_wr64_ne _ _ _ _ hlo hhi).trans (rd_ite (rd_setFld_ne _ _ _ _ _ _ hsel) rfl)) rfl
  simp [State.event, step]

/-- Raising a bit of a page's PG_IRQ_RAW leaves the page's PG_ERR_INFO. -/
theorem rd_rawSet_errInfo (p bit : Nat) (hp : pra p 0x020 < bar4 + 0x8000) :
    (s.rawSet p bit).rd (pra p 0x020) = s.rd (pra p 0x020) := by
  obtain ⟨hraw, hevents⟩ : pra p 0x020 ≠ pra p 0x010 ∧ pra p 0x020 < pra p 0x40 := by unfold pra; omega
  refine (rd_ite ((rd_sendVector _ _ _ hp).trans (rd_event_below _ _ _ _ _ _ _ hevents)) rfl).trans ?_
  exact (rd_event_below _ _ _ _ _ _ _ hevents).trans (rd_setFld_ne _ _ _ _ _ _ hraw)

/-- An error offered to a page writes the first 0x100 bytes of the page and the Pending Bit Array only. -/
theorem rd_errInfo (p src code b : Nat) (h : pra p 0x100 ≤ b) (hb : b < bar4 + 0x8000) :
    (s.errInfo p src code).rd b = s.rd b := by
  have info : b ≠ pra p 0x020 := by unfold pra at *; omega
  have offered : (s.event p 0x05 0 1 1).rd b = s.rd b := rd_event _ _ _ _ _ _ _ h
  exact rd_ite ((rd_setFld_ne _ _ _ _ _ _ info).trans offered)
    ((rd_rawSet _ _ _ _ h hb).trans ((rd_wrn_ne _ _ _ _ info).trans offered))

/-- The first error since VALID was cleared is kept (R478). -/
theorem rd_errInfo_first (p src code : Nat) (hs : s.canon) (hp : pra p 0x020 < bar4 + 0x8000)
    (hv : s.fld (pra p 0x020) 31 31 = 0) :
    (s.errInfo p src code).rd (pra p 0x020) = BitVec.ofNat 32 (2 ^ 31 + (src % 2 ^ 14) * 2 ^ 16 + code % 2 ^ 16) := by
  have invalid : ¬ (s.event p 0x05 0 1 1).fld (pra p 0x020) 31 31 = 1 := by
    rw [State.fld, rd_event_below _ _ _ _ _ _ _ (by unfold pra; omega)]
    exact fun valid => by simp [State.fld, valid] at hv
  rw [State.errInfo, if_neg invalid, rd_rawSet_errInfo _ _ _ hp]
  exact rd_wr _ _ _ (canon_regs (State.canon_event hs ..))

/-- The fields of PG_ERR_INFO as an error writes them: VALID, CODE and SRC. -/
theorem errInfo_fields (src code : Nat) (v : Reg)
    (hv : v = BitVec.ofNat 32 (2 ^ 31 + (src % 2 ^ 14) * 2 ^ 16 + code % 2 ^ 16)) :
    getField v 31 31 = 1 ∧ getField v 15 0 = code % 2 ^ 16 ∧ getField v 29 16 = src % 2 ^ 14 := by
  subst hv
  simp only [getField, natField, BitVec.toNat_ofNat, Nat.shiftRight_eq_div_pow]
  omega

/-! ### The log and its count -/

variable (f c k a : Nat)

/-- The part of a violation that keeps the log: the entry is stored, or counted in FN_LOG_OVF. -/
def State.logViolation : State :=
  if s.cus.log.length < 16 then
    { s with cus := { s.cus with log := s.cus.log ++ [⟨a, f, c, k = accW, k = accX⟩] } }
  else s.wrn (ra tCD 3 0x304) (min ((s.rd (ra tCD 3 0x304)).toNat + 1) 0xFFFFFFFF)

theorem violation_eq_report :
    s.violation f c k a = ((s.logViolation f c k a).rawSet (pageNo tCD 3) 0).errInfo (pageNo tCD 3) f 0x813 := rfl

theorem logViolation_room (h : s.cus.log.length < 16) :
    s.logViolation f c k a = { s with cus := { s.cus with log := s.cus.log ++ [⟨a, f, c, k = accW, k = accX⟩] } } := if_pos h

theorem logViolation_full (h : 16 ≤ s.cus.log.length) :
    s.logViolation f c k a = s.wrn (ra tCD 3 0x304) (min ((s.rd (ra tCD 3 0x304)).toNat + 1) 0xFFFFFFFF) :=
  if_neg (Nat.not_lt.2 h)

theorem rd_logViolation_ne (b : Nat) (h : b ≠ ra tCD 3 0x304) : (s.logViolation f c k a).rd b = s.rd b :=
  rd_ite rfl (rd_wrn_ne _ _ _ _ h)

theorem canon_logViolation (hs : s.canon) : (s.logViolation f c k a).canon :=
  State.canon_ite hs (State.canon_wrn hs _ _)

/-- What follows the log entry leaves the log alone. -/
theorem cus_violation : (s.violation f c k a).cus = (s.logViolation f c k a).cus := by
  rw [violation_eq_report, State.errInfo_cus, (rawSet_reports ..).cus_eq]

/-- What follows the log entry leaves FN_LOG_OVF alone. -/
theorem rd_violation_logOvf : (s.violation f c k a).rd (ra tCD 3 0x304) = (s.logViolation f c k a).rd (ra tCD 3 0x304) := by
  have above : pra (pageNo tCD 3) 0x100 ≤ ra tCD 3 0x304 := by decide
  have below : ra tCD 3 0x304 < bar4 + 0x8000 := by decide
  exact (rd_errInfo _ _ _ _ _ above below).trans (rd_rawSet _ _ _ _ above below)

/-- The first violation since VALID was cleared is the one PG_ERR_INFO keeps. -/
theorem rd_violation_errInfo (hs : s.canon) (hv : s.fld (pra (pageNo tCD 3) 0x20) 31 31 = 0) :
    (s.violation f c k a).rd (pra (pageNo tCD 3) 0x20) = BitVec.ofNat 32 (2 ^ 31 + (f % 2 ^ 14) * 2 ^ 16 + 0x813 % 2 ^ 16) := by
  have hp : pra (pageNo tCD 3) 0x20 < bar4 + 0x8000 := by decide
  have canon := State.canon_rawSet (canon_logViolation s f c k a hs) (pageNo tCD 3) 0
  refine rd_errInfo_first ((s.logViolation f c k a).rawSet (pageNo tCD 3) 0) _ _ _ canon hp ?_
  rw [State.fld, rd_rawSet_errInfo _ _ _ hp, rd_logViolation_ne _ _ _ _ _ _ (by decide)]
  exact hv

end

/-- Settles O53: the log and its count are those of the logging part, which the report after it leaves alone; the report finds VALID as
it stood, and writes PG_ERR_INFO when it is clear. -/
theorem violationsAreLogged : Obligations.ViolationsAreLogged := by
  intro s f c k a hs hf t info
  refine ⟨fun room => ?_, fun full => ?_, fun clear => ?_⟩
  · have log : t.cus.log = s.cus.log ++ [⟨a, f, c, k = accW, k = accX⟩] := by
      rw [cus_violation, logViolation_room s f c k a room]
    refine ⟨by simp [log], ⟨_, log, rfl, rfl⟩, ?_⟩
    rw [rd_violation_logOvf, logViolation_room s f c k a room]
    rfl
  · refine ⟨by rw [cus_violation, logViolation_full s f c k a full, State.wrn_cus], fun unsaturated => ?_⟩
    rw [rd_violation_logOvf, logViolation_full s f c k a full, State.wrn, rd_wr _ _ _ (canon_regs hs), BitVec.toNat_ofNat]
    omega
  · obtain ⟨valid, code, src⟩ := errInfo_fields f 0x813 _ (rd_violation_errInfo s f c k a hs clear)
    exact ⟨valid, code, src.trans (Nat.mod_eq_of_lt (by omega))⟩

end Sys2Proof.Machine
end

section
/-!
PROOFS. What every operation of the model keeps: the queue of waiting commands, and the canonical form of the four tables. One lemma per
operation, in the order of the model, each from those of the operations it is built of.
-/
namespace Sys2Proof.Machine

set_option Elab.async false

section

/-- What every command keeps of a state: the queue is `Q`, and where `C` holds the four tables are in their canonical form. -/
structure State.Kept (Q : List Instr) (C : Prop) (s : State) : Prop where
  queue : s.pending = Q
  canon : C → s.canon = true

/-- The state a command goes on to keeps what every command keeps. -/
def Answers (Q : List Instr) (C : Prop) (o : Outcome) : Prop := ∀ t, o = .next t → t.Kept Q C

/-- The state an instruction leaves, however it ends. -/
def CoreRes.state : CoreRes → State
  | .ok t => t
  | .goto t _ => t
  | .xfer t _ _ _ => t
  | .trap t _ _ _ => t
  | .stall t _ => t
  | .late t => t

variable {Q : List Instr} {C : Prop} {s : State} {α β : Type}

/-- A change that leaves the queue and the four tables alone. -/
theorem State.Kept.same {latch lastRead clk pgs fab cxs vp pay vc vlt pk jn cr hi st fl rng cus cb svc jtag fresh} (hs : s.Kept Q C) :
    State.Kept Q C ⟨s.regs, s.ctrs, s.mem, latch, lastRead, clk, s.dom, pgs, fab, cxs, vp, pay, vc, vlt, pk, jn, cr, hi, st, fl, rng, cus, cb,
      svc, jtag, fresh, s.pending⟩ :=
  ⟨hs.queue, fun c => (canon_congr rfl rfl rfl rfl).trans (hs.canon c)⟩

/-- A change to the four tables that leaves the queue alone and keeps their canonical form. -/
theorem State.Kept.tables {t : State} (hs : s.Kept Q C) (hq : t.pending = s.pending) (h : s.canon → t.canon) : t.Kept Q C :=
  ⟨hq.trans hs.queue, fun c => h (hs.canon c)⟩

/-- A change to the four tables, each of them kept in its canonical form. -/
theorem State.Kept.parts {regs ctrs mem latch lastRead clk dom pgs fab cxs vp pay vc vlt pk jn cr hi st fl rng cus cb svc jtag fresh}
    (hs : s.Kept Q C) (hr : tblWf resetWord s.regs → tblWf resetWord regs)
    (hc : tblWf (fun _ => (0 : Word)) s.ctrs → tblWf (fun _ => (0 : Word)) ctrs) (hd : tblWf domDefault s.dom → tblWf domDefault dom)
    (hm : Memory.wf s.mem → Memory.wf mem) :
    State.Kept Q C ⟨regs, ctrs, mem, latch, lastRead, clk, dom, pgs, fab, cxs, vp, pay, vc, vlt, pk, jn, cr, hi, st, fl, rng, cus, cb,
      svc, jtag, fresh, s.pending⟩ :=
  ⟨hs.queue, fun c => (canon_iff _).2 ⟨hr (canon_regs (hs.canon c)), hc (canon_ctrs (hs.canon c)), hd (canon_dom (hs.canon c)),
    hm (canon_mem (hs.canon c))⟩⟩

theorem State.Kept.ite {c : Prop} {_ : Decidable c} {t u : State} (ht : t.Kept Q C) (hu : u.Kept Q C) : (if c then t else u).Kept Q C := by
  split <;> assumption

theorem State.Kept.itePair {c : Prop} {_ : Decidable c} {p q : α × State} (hp : p.2.Kept Q C) (hq : q.2.Kept Q C) :
    (if c then p else q).2.Kept Q C := by
  split <;> assumption

theorem State.Kept.foldl {f : State → α → State} {l : List α} (hs : s.Kept Q C) (hf : ∀ s x, s.Kept Q C → (f s x).Kept Q C) :
    (l.foldl f s).Kept Q C := by
  induction l generalizing s with
  | nil => exact hs
  | cons x l ih => exact ih (hf s x hs)

theorem State.Kept.snd {p : α × State} {a : α} {t : State} (h : p.2.Kept Q C) (e : p = (a, t)) : t.Kept Q C := by
  rw [e] at h; exact h

theorem State.Kept.sndsnd {p : α × β × State} {a : α} {b : β} {t : State} (h : p.2.2.Kept Q C) (e : p = (a, b, t)) : t.Kept Q C := by
  rw [e] at h; exact h

theorem Answers.done (hs : s.Kept Q C) : Answers Q C (Machine.done s) := fun _ e => Host.Outcome.next.inj e ▸ hs

theorem State.Kept.pair {a : α} (hs : s.Kept Q C) : ((a, s) : α × State).2.Kept Q C := hs

theorem State.Kept.pairPair {a : α} {b : β} (hs : s.Kept Q C) : ((a, b, s) : α × β × State).2.2.Kept Q C := hs

theorem State.Kept.pairPairPair {γ : Type} {a : α} {b : β} {c : γ} (hs : s.Kept Q C) :
    ((a, b, c, s) : α × β × γ × State).2.2.2.Kept Q C := hs

theorem CoreRes.kept_ok (hs : s.Kept Q C) : (CoreRes.ok s).state.Kept Q C := hs

theorem CoreRes.kept_goto {a : Nat} (hs : s.Kept Q C) : (CoreRes.goto s a).state.Kept Q C := hs

theorem CoreRes.kept_xfer {a b d} (hs : s.Kept Q C) : (CoreRes.xfer s a b d).state.Kept Q C := hs

theorem CoreRes.kept_trap {a b d} (hs : s.Kept Q C) : (CoreRes.trap s a b d).state.Kept Q C := hs

theorem CoreRes.kept_stall {a} (hs : s.Kept Q C) : (CoreRes.stall s a).state.Kept Q C := hs

theorem CoreRes.kept_late (hs : s.Kept Q C) : (CoreRes.late s).state.Kept Q C := hs

theorem State.Kept.sndsndsnd {γ : Type} {p : α × β × γ × State} {a : α} {b : β} {c : γ} {t : State} (h : p.2.2.2.Kept Q C)
    (e : p = (a, b, c, t)) : t.Kept Q C := by
  rw [e] at h; exact h

theorem CoreRes.kept_ite {c : Prop} {_ : Decidable c} {r r' : CoreRes} (h : r.state.Kept Q C) (h' : r'.state.Kept Q C) :
    (if c then r else r').state.Kept Q C := by split <;> assumption

/-! ### Ops -/

theorem State.Kept.wr {a : Nat} {v : Reg} (hs : s.Kept Q C) : (s.wr a v).Kept Q C :=
  hs.tables rfl fun h => State.canon_wr h _ _

theorem State.Kept.wrn {a n : Nat} (hs : s.Kept Q C) : (s.wrn a n).Kept Q C := hs.wr
theorem State.Kept.setFld {a hi lo x : Nat} (hs : s.Kept Q C) : (s.setFld a hi lo x).Kept Q C := hs.wr
theorem State.Kept.wr64 {a n : Nat} (hs : s.Kept Q C) : (s.wr64 a n).Kept Q C := hs.wrn.wrn
theorem State.Kept.wrAll {t off : Nat} {v : Reg} (hs : s.Kept Q C) : (s.wrAll t off v).Kept Q C := hs.foldl fun _ _ h1 => h1.wr
theorem State.Kept.status {a code : Nat} (hs : s.Kept Q C) : (s.status a code).Kept Q C := hs.setFld
theorem State.Kept.setDomain {d v : Nat} (hs : s.Kept Q C) : (s.setDomain d v).Kept Q C :=
  hs.tables rfl fun h => State.canon_setDomain h _ _

theorem State.Kept.setByte {a : Nat} {b : Byte} (hs : s.Kept Q C) : (s.setByte a b).Kept Q C :=
  hs.tables rfl fun h => State.canon_setByte h _ _

theorem State.Kept.setBytes {a : Nat} {bs : List Byte} (hs : s.Kept Q C) : (s.setBytes a bs).Kept Q C :=
  hs.tables rfl fun h => State.canon_setBytes h _ _

theorem State.Kept.zeroBytes {a n : Nat} (hs : s.Kept Q C) : (s.zeroBytes a n).Kept Q C :=
  hs.tables rfl fun h => State.canon_zeroBytes h _ _

theorem State.Kept.setLe {a n v : Nat} (hs : s.Kept Q C) : (s.setLe a n v).Kept Q C := hs.setBytes
theorem State.Kept.setPending {v x : Nat} (hs : s.Kept Q C) : (s.setPending v x).Kept Q C := hs.setFld
theorem State.Kept.sendVector {v : Nat} (hs : s.Kept Q C) : (s.sendVector v).Kept Q C := .ite (.ite hs.setLe hs.setPending) hs
theorem State.Kept.evcStep {p ev unit amt edge e : Nat} (hs : s.Kept Q C) : (evcStep p ev unit amt edge s e).Kept Q C :=
  .ite ((State.Kept.ite hs.setFld hs).wr64) hs

theorem State.Kept.event {p ev unit amt edge : Nat} (hs : s.Kept Q C) : (s.event p ev unit amt edge).Kept Q C :=
  hs.foldl fun _ _ h1 => h1.evcStep

theorem State.Kept.clrCtr {p k u : Nat} (hs : s.Kept Q C) : (s.clrCtr p k u).Kept Q C :=
  hs.tables rfl fun h => State.canon_clrCtr h _ _ _

theorem State.Kept.addCtr {p k u n : Nat} (hs : s.Kept Q C) : (s.addCtr p k u n).Kept Q C :=
  hs.tables rfl fun h => State.canon_addCtr h _ _ _ _

theorem State.Kept.bump {p k u n : Nat} (hs : s.Kept Q C) : (s.bump p k u n).Kept Q C := .ite hs hs.addCtr.event
theorem State.Kept.pageMsix {p : Nat} (hs : s.Kept Q C) : (s.pageMsix p).Kept Q C := hs.sendVector
theorem State.Kept.irqFollow {p old : Nat} (hs : s.Kept Q C) : (s.irqFollow p old).Kept Q C := .ite hs.event.pageMsix hs
theorem State.Kept.rawSet {p b : Nat} (hs : s.Kept Q C) : (s.rawSet p b).Kept Q C := hs.setFld.event.irqFollow
theorem State.Kept.irq {p b : Nat} (hs : s.Kept Q C) : (s.irq p b).Kept Q C := .ite hs.rawSet hs
theorem State.Kept.errInfo {p src code : Nat} (hs : s.Kept Q C) : (s.errInfo p src code).Kept Q C :=
  .ite hs.event.setFld hs.event.wrn.rawSet

theorem State.Kept.free (hs : s.Kept Q C) : s.free.2.Kept Q C := by
  unfold State.free
  exact .pair hs.same

theorem State.Kept.freeBytes {n : Nat} (hs : s.Kept Q C) : (s.freeBytes n).2.Kept Q C := by
  unfold State.freeBytes
  exact .pair hs.same

/-! ### Frames -/

theorem State.Kept.setLane {n : Nat} {l : Lane} (hs : s.Kept Q C) : (s.setLane n l).Kept Q C := hs.same
theorem State.Kept.modLane {n : Nat} {f : Lane → Lane} (hs : s.Kept Q C) : (s.modLane n f).Kept Q C := hs.setLane
theorem State.Kept.setLnState {n v : Nat} (hs : s.Kept Q C) : (s.setLnState n v).Kept Q C := hs.setFld
theorem State.Kept.lnStatus {n code : Nat} (hs : s.Kept Q C) : (s.lnStatus n code).Kept Q C := hs.status
theorem State.Kept.lnBump {n k amt : Nat} (hs : s.Kept Q C) : (s.lnBump n k amt).Kept Q C := hs.bump
theorem State.Kept.scBump {n k : Nat} (hs : s.Kept Q C) : (s.scBump n k).Kept Q C := hs.bump
theorem State.Kept.dqBump {n k : Nat} (hs : s.Kept Q C) : (s.dqBump n k).Kept Q C := hs.bump
theorem State.Kept.setFrame {f : Nat} {x : Frame} (hs : s.Kept Q C) : (s.setFrame f x).Kept Q C := hs.same
theorem State.Kept.modFrame {f : Nat} {g : Frame → Frame} (hs : s.Kept Q C) : (s.modFrame f g).Kept Q C := hs.same
theorem State.Kept.delFrame {f : Nat} (hs : s.Kept Q C) : (s.delFrame f).Kept Q C := hs.same
theorem State.Kept.newFrame {x : Frame} (hs : s.Kept Q C) : (s.newFrame x).Kept Q C := hs.same
theorem State.Kept.setShared {d v : Nat} (hs : s.Kept Q C) : (s.setShared d v).Kept Q C := hs.same
theorem State.Kept.takeCells {p k : Nat} (hs : s.Kept Q C) : (s.takeCells p k).Kept Q C :=
  .ite hs.setShared.modLane.irq hs.setShared.modLane

theorem State.Kept.refillHead {d k : Nat} {ns : List Nat} (hs : s.Kept Q C) : (refillHead d ns k s).Kept Q C := by
  induction ns generalizing k s with
  | nil => exact hs.setShared
  | cons n ns ih => exact ih (.ite hs hs.modLane)

theorem State.Kept.freeCells {d k : Nat} (hs : s.Kept Q C) : (s.freeCells d k).Kept Q C := .ite hs hs.refillHead
theorem State.Kept.setQueue {q : Nat} {l : List Nat} (hs : s.Kept Q C) : (s.setQueue q l).Kept Q C := hs.same
theorem State.Kept.qBump {q k n : Nat} (hs : s.Kept Q C) : (s.qBump q k n).Kept Q C := by
  unfold State.qBump
  refine .ite ?_ ?_
  · exact hs.bump
  · split
    · exact hs.bump
    · exact hs.bump
    · exact hs.bump
    · exact hs

theorem State.Kept.updateCong {q : Nat} (hs : s.Kept Q C) : (s.updateCong q).Kept Q C := hs.same
theorem State.Kept.setLastTag {q v : Nat} (hs : s.Kept Q C) : (s.setLastTag q v).Kept Q C := hs.same
theorem State.Kept.releaseRoom {f : Nat} {x : Frame} (hs : s.Kept Q C) : (s.releaseRoom f x).Kept Q C := by
  unfold State.releaseRoom
  extract_lets s1 s2
  have h1 : s1.Kept Q C := .ite hs.freeCells hs
  have h2 : s2.Kept Q C := by
    unfold s2
    split
    · exact h1.modLane
    · exact h1.modLane
    · exact h1.modLane
    · exact h1
  exact h2.modFrame

theorem State.Kept.setGrainDir {k : Nat} {g : GrainDir} (hs : s.Kept Q C) : (s.setGrainDir k g).Kept Q C := hs.same
theorem State.Kept.freeGrains {k n : Nat} (hs : s.Kept Q C) : (s.freeGrains k n).Kept Q C := hs.setGrainDir
theorem State.Kept.releaseAll {n : Nat} {f : Frame} (hs : s.Kept Q C) : (s.releaseAll n f).Kept Q C := by
  unfold State.releaseAll
  extract_lets _ s1 s2
  have h1 : s1.Kept Q C := .ite hs.releaseRoom hs.releaseRoom.freeGrains
  have h2 : s2.Kept Q C := by
    unfold s2
    split
    · exact .ite h1 h1.freeGrains
    · exact .ite h1 h1.freeGrains
    · exact h1
  exact h2.modFrame

theorem State.Kept.endFrame {n : Nat} (hs : s.Kept Q C) : (s.endFrame n).Kept Q C := by
  unfold State.endFrame
  split
  · exact hs
  · exact .ite ((State.Kept.ite hs.releaseRoom.modFrame hs.releaseAll).modFrame) hs.releaseAll.delFrame

theorem State.Kept.leaveQueue {q f : Nat} (hs : s.Kept Q C) : (s.leaveQueue q f).Kept Q C := hs.setQueue.updateCong

/-! ### Lock -/

theorem State.Kept.setMonitor {m : Nat} {x : Monitor} (hs : s.Kept Q C) : (s.setMonitor m x).Kept Q C := hs.same
theorem State.Kept.endGrant (hs : s.Kept Q C) : s.endGrant.Kept Q C := by
  unfold State.endGrant
  exact .ite hs.same.irq hs

theorem State.Kept.took {p : Nat} (hs : s.Kept Q C) : (s.took p).Kept Q C := hs.event
theorem State.Kept.discard {p : Nat} (hs : s.Kept Q C) : (s.discard p).Kept Q C := hs.event
theorem State.Kept.pageWrite {p : Nat} {f : State → State} (hs : s.Kept Q C) (hf : ∀ t, t.Kept Q C → (f t).Kept Q C) :
    (s.pageWrite p f).Kept Q C := .ite (hf _ hs) hs.discard

theorem State.Kept.lockDrop {p : Nat} (hs : s.Kept Q C) : (s.lockDrop p).Kept Q C := hs.setFld.bump.irq.discard
theorem State.Kept.rwlWrite {p : Nat} {f : State → State} (hs : s.Kept Q C) (hf : ∀ t, t.Kept Q C → (f t).Kept Q C) :
    (s.rwlWrite p f).Kept Q C := by
  unfold State.rwlWrite
  exact hs.pageWrite (fun _ h1 => .ite h1.lockDrop (hf _ h1))

theorem State.Kept.violation {f c k a : Nat} (hs : s.Kept Q C) : (s.violation f c k a).Kept Q C := by
  unfold State.violation
  exact ((State.Kept.ite hs.same hs.wrn).rawSet).errInfo

theorem State.Kept.fencedPut {sp f c a : Nat} {bs : List Byte} (hs : s.Kept Q C) : (fencedPut sp f c bs a s).Kept Q C := by
  induction bs generalizing a s with
  | nil => exact hs
  | cons b bs ih => exact ih (.ite hs.setByte hs)

/-! ### JournalOps -/

theorem State.Kept.twStatus {code : Nat} (hs : s.Kept Q C) : (s.twStatus code).Kept Q C := hs.status
theorem State.Kept.twBump {k : Nat} (hs : s.Kept Q C) : (s.twBump k).Kept Q C := hs.bump
theorem State.Kept.setStrand {k : Nat} {x : Strand} (hs : s.Kept Q C) : (s.setStrand k x).Kept Q C := hs.same
theorem State.Kept.jnBump {o k : Nat} (hs : s.Kept Q C) : (s.jnBump o k).Kept Q C := hs.bump
theorem State.Kept.ringLeave {k : Nat} (hs : s.Kept Q C) : (s.ringLeave k).Kept Q C := hs.setStrand
theorem State.Kept.commitVerdict {v : Option Nat} (hs : s.Kept Q C) : (s.commitVerdict v).Kept Q C := by
  unfold State.commitVerdict
  extract_lets
  split
  · exact hs
  · exact hs.same

theorem State.Kept.chainEntry {k : Nat} {a : App} (hs : s.Kept Q C) : (s.chainEntry k a).Kept Q C := by
  unfold State.chainEntry
  extract_lets _ _ _ _ _ _ _ _ _ _ _ _ _ s1 s2 _ s3 _ s4
  have h1 : s1.Kept Q C := .ite hs.setBytes.setStrand.jnBump.irq hs.setBytes.setStrand.jnBump
  have h2 : s2.Kept Q C := .ite h1.jnBump h1
  have h3 : s3.Kept Q C := .ite h2.same h2
  have h4 : s4.Kept Q C := by
    unfold s4
    split
    · exact h3
    · exact h3.same
  exact .ite h4 h4.commitVerdict.ringLeave

theorem State.Kept.commitEntry {k seq : Nat} (hs : s.Kept Q C) : (s.commitEntry k seq).Kept Q C := by
  unfold State.commitEntry
  extract_lets
  split
  · exact hs
  · exact hs.setStrand.commitVerdict.ringLeave

theorem State.Kept.markers {event prevGen : Nat} (hs : s.Kept Q C) : (s.markers event prevGen).Kept Q C :=
  hs.foldl fun _ _ h1 => h1.chainEntry

theorem State.Kept.pushDelta {kind index : Nat} {data : List Byte} (hs : s.Kept Q C) : (s.pushDelta kind index data).Kept Q C := by
  unfold State.pushDelta
  extract_lets _ _ _ _ _ s1 s2
  have h1 : s1.Kept Q C := hs.same
  have h2 : s2.Kept Q C := h1.wr64
  exact .ite (.ite h2.same h2) hs

/-! ### RngOps -/

theorem State.Kept.setDrbg {i : Nat} {d : Drbg} (hs : s.Kept Q C) : (s.setDrbg i d).Kept Q C := hs.same
theorem State.Kept.draw {i n : Nat} (hs : s.Kept Q C) : (s.draw i n).2.Kept Q C := by
  unfold State.draw
  extract_lets
  refine .itePair ?_ ?_
  · exact .pair hs
  · refine .itePair ?_ ?_
    · exact .pair hs
    · exact .pair hs.setDrbg

/-! ### VaultOps -/

theorem State.Kept.kvBump {o k : Nat} (hs : s.Kept Q C) : (s.kvBump o k).Kept Q C := hs.bump
theorem State.Kept.setZone {z : Nat} {x : Zone} (hs : s.Kept Q C) : (s.setZone z x).Kept Q C := hs.same
theorem State.Kept.zoneDelta {z : Nat} (hs : s.Kept Q C) : (s.zoneDelta z).Kept Q C := .ite hs.pushDelta hs
theorem State.Kept.setRefcnt {h v : Nat} (hs : s.Kept Q C) : (s.setRefcnt h v).Kept Q C := hs.setLe
theorem State.Kept.raiseCeil {z : Nat} (hs : s.Kept Q C) : (s.raiseCeil z).Kept Q C := .ite hs.setZone.pushDelta hs
theorem State.Kept.nextGen {z : Nat} (hs : s.Kept Q C) : (s.nextGen z).2.Kept Q C := .pair hs.raiseCeil.setZone
theorem State.Kept.putRecord {h : Nat} {r : List Byte} (hs : s.Kept Q C) : (s.putRecord h r).Kept Q C :=
  .ite hs.setBytes.pushDelta hs.setBytes

theorem State.Kept.writeKey {h st : Nat} {attr key hh : List Byte} {ref : Nat} (hs : s.Kept Q C) :
    (s.writeKey h st attr key hh ref).Kept Q C := hs.nextGen.putRecord

theorem State.Kept.dropResident {k : Nat} (hs : s.Kept Q C) : (s.dropResident k).Kept Q C := hs.same
theorem State.Kept.evictFor {o need n : Nat} (hs : s.Kept Q C) : (evictFor o need n s).Kept Q C := by
  induction n generalizing s with
  | zero => exact hs
  | succ n ih =>
    unfold Machine.evictFor
    split
    · exact hs
    · split
      · exact hs
      · exact ih hs.dropResident.kvBump

theorem State.Kept.placeKey {o : Nat} {k : KeyVal} (hs : s.Kept Q C) : (s.placeKey o k).Kept Q C := by
  unfold State.placeKey
  extract_lets s1
  have h1 : s1.Kept Q C := hs.evictFor
  exact h1.same

theorem State.Kept.zeroiseKey {h : Nat} (hs : s.Kept Q C) : (s.zeroiseKey h).Kept Q C := hs.same
theorem State.Kept.modResident {h : Nat} {f : KeyVal → KeyVal} (hs : s.Kept Q C) : (s.modResident h f).Kept Q C := hs.same
theorem State.Kept.fill {o h : Nat} (hs : s.Kept Q C) : (s.fill o h).2.Kept Q C := by
  unfold State.fill
  extract_lets
  refine .itePair ?_ ?_
  · exact .pair hs.kvBump
  · split
    · exact .pair hs.kvBump.kvBump.irq
    · exact .pair hs.kvBump.placeKey

theorem State.Kept.resolve {o h : Nat} (hs : s.Kept Q C) : (s.resolve o h).2.Kept Q C := by
  unfold State.resolve
  extract_lets
  refine .itePair ?_ ?_
  · exact .pair hs
  · refine .itePair ?_ ?_
    · exact .pair hs
    · refine .itePair ?_ ?_
      · exact .pair hs
      · split
        · exact .pair hs.same
        · exact hs.fill

theorem State.Kept.storeKey {h : Nat} {attr key : List Byte} (hs : s.Kept Q C) : (s.storeKey h attr key).2.Kept Q C := by
  unfold State.storeKey
  extract_lets
  refine .itePair ?_ ?_
  · exact .pair hs
  · refine .itePair ?_ ?_
    · exact .pair hs
    · refine .itePair ?_ ?_
      · exact .pair hs
      · refine .itePair ?_ ?_
        · exact .pair hs
        · refine .itePair ?_ ?_
          · exact .pair hs
          · exact .pair hs.writeKey

/-! ### ContextOps -/

theorem State.Kept.setCached {i : Nat} {x : CachedCtx} (hs : s.Kept Q C) : (s.setCached i x).Kept Q C := hs.same
theorem State.Kept.modCached {i : Nat} {f : CachedCtx → CachedCtx} (hs : s.Kept Q C) : (s.modCached i f).Kept Q C := hs.same
theorem State.Kept.writeBack {i : Nat} (hs : s.Kept Q C) : (s.writeBack i).Kept Q C := by
  unfold State.writeBack
  split
  · exact hs
  · extract_lets _ _ _ _ _ _ s1 _ s2
    have h1 : s1.Kept Q C := hs.kvBump
    have h2 : s2.Kept Q C := h1.same
    exact h2.setCached

theorem State.Kept.evictCtx {i : Nat} (hs : s.Kept Q C) : (s.evictCtx i).Kept Q C := by
  unfold State.evictCtx
  split
  · exact hs
  · extract_lets s1
    have h1 : s1.Kept Q C := .ite hs.writeBack hs
    exact h1.same

theorem State.Kept.fillShadows {o : Nat} {rs : List SaRec} (hs : s.Kept Q C) : (fillShadows o rs s).2.Kept Q C := by
  induction rs generalizing s with
  | nil => exact hs
  | cons r rs ih =>
    unfold Machine.fillShadows
    split
    · exact ih hs.resolve
    · exact ih hs

theorem State.Kept.fillCtx {i : Nat} (hs : s.Kept Q C) : (s.fillCtx i).Kept Q C := by
  unfold State.fillCtx
  extract_lets _ _ _ s1
  have h1 : s1.Kept Q C := .ite hs hs.free.evictCtx
  split
  · exact hs
  · exact h1.fillShadows.setCached

theorem State.Kept.reachCtx {i : Nat} (hs : s.Kept Q C) : (s.reachCtx i).Kept Q C := by
  unfold State.reachCtx
  extract_lets
  split
  · exact hs.kvBump
  · exact hs.kvBump.fillCtx

theorem State.Kept.modCtx {i : Nat} {f : Ctx → Ctx} (hs : s.Kept Q C) : (s.modCtx i f).Kept Q C := hs.fillCtx.modCached
theorem State.Kept.setShadow {i r : Nat} {k : Shadow} (hs : s.Kept Q C) : (s.setShadow i r k).Kept Q C := hs.modCached
theorem State.Kept.ctxDelta {i : Nat} (hs : s.Kept Q C) : (s.ctxDelta i).Kept Q C := hs.pushDelta
theorem State.Kept.leaveService {i r : Nat} (hs : s.Kept Q C) : (s.leaveService i r).Kept Q C := hs.setRefcnt.setShadow
theorem State.Kept.zeroiseZone {z : Nat} (hs : s.Kept Q C) : (s.zeroiseZone z).Kept Q C := hs.same
theorem State.Kept.ctxUpdate {i : Nat} {b : List Byte} (hs : s.Kept Q C) : (s.ctxUpdate i b).2.Kept Q C := by
  unfold State.ctxUpdate
  extract_lets _ _ _ _ f1
  have h1 : ∀ y1 t, t.Kept Q C → (f1 y1 t).2.Kept Q C := fun _ _ h2 => .pair h2.kvBump
  refine .itePair ?_ ?_
  · exact h1 _ _ hs
  · refine .itePair ?_ ?_
    · exact h1 _ _ hs
    · refine .itePair ?_ ?_
      · exact .pair hs.reachCtx.modCtx.ctxDelta.kvBump
      · refine .itePair ?_ ?_
        · exact h1 _ _ hs.reachCtx
        · exact .pair hs.reachCtx.modCtx.ctxDelta.kvBump

/-! ### CoreBase -/

theorem State.Kept.setCore {c : Nat} {x : Core} (hs : s.Kept Q C) : (s.setCore c x).Kept Q C := hs.same
theorem State.Kept.modCore {c : Nat} {f : Core → Core} (hs : s.Kept Q C) : (s.modCore c f).Kept Q C := hs.setCore
theorem State.Kept.setEvent {c b : Nat} (hs : s.Kept Q C) : (s.setEvent c b).Kept Q C := hs.modCore
theorem State.Kept.completeTicket {c t status : Nat} (hs : s.Kept Q C) : (s.completeTicket c t status).Kept Q C :=
  .ite hs.modCore.setEvent hs

theorem State.Kept.wake {d src : Nat} (hs : s.Kept Q C) : (s.wake d src).Kept Q C := by
  unfold State.wake
  extract_lets s1
  have h1 : s1.Kept Q C := hs.wrn
  exact .ite hs (.ite h1.same.rawSet h1.same.bump)

theorem State.Kept.setMbox {ch : Nat} {x : Mbox} (hs : s.Kept Q C) : (s.setMbox ch x).Kept Q C := hs.same
theorem State.Kept.mbCode {ch code : Nat} (hs : s.Kept Q C) : (s.mbCode ch code).Kept Q C := hs.setMbox
theorem State.Kept.mbNotify {ch e : Nat} (hs : s.Kept Q C) : (s.mbNotify ch e).Kept Q C := by
  unfold State.mbNotify
  extract_lets s1 s2
  have h1 : s1.Kept Q C := .ite hs hs.wake
  have h2 : s2.Kept Q C := hs.wake
  exact .ite h1.sendVector (.ite (.ite hs.setEvent h2.same) hs)

theorem State.Kept.mbData {ch off : Nat} {bs : List Byte} (hs : s.Kept Q C) : (s.mbData ch off bs).Kept Q C := hs.setMbox
theorem State.Kept.mbDoSend {ch words : Nat} (hs : s.Kept Q C) : (s.mbDoSend ch words).Kept Q C := by
  unfold State.mbDoSend
  extract_lets _ s1 _ s2
  have h1 : s1.Kept Q C := hs.setMbox
  have h2 : s2.Kept Q C := .ite h1.same h1
  exact h2.bump.mbNotify

theorem State.Kept.mbDoTake {ch : Nat} (hs : s.Kept Q C) : (s.mbDoTake ch).Kept Q C := by
  unfold State.mbDoTake
  extract_lets _ s1 _ _ s2
  have h1 : s1.Kept Q C := hs.setMbox
  have h2 : s2.Kept Q C := .ite h1.same h1
  exact .ite h2.mbNotify hs.mbCode

theorem State.Kept.mbCoreStore {c off : Nat} {bs : List Byte} (hs : s.Kept Q C) : (s.mbCoreStore c off bs).2.Kept Q C := by
  unfold State.mbCoreStore
  extract_lets
  refine .itePair ?_ ?_
  · exact .pair hs.same
  · refine .itePair ?_ ?_
    · exact .pair hs
    · refine .itePair ?_ ?_
      · exact .pair hs
      · refine .itePair ?_ ?_
        · exact .pair hs.mbCode.bump
        · refine .itePair ?_ ?_
          · exact .pair hs.mbData
          · refine .itePair ?_ ?_
            · refine .itePair ?_ ?_
              · exact .pair hs.mbCode.bump
              · exact .pair hs.mbDoSend
            · refine .itePair ?_ ?_
              · exact .pair (.ite hs.setMbox hs)
              · refine .itePair ?_ ?_
                · exact .pair hs.mbDoTake
                · exact .pair hs

theorem State.Kept.completerAbort {ch r : Nat} (hs : s.Kept Q C) : (s.completerAbort ch r).Kept Q C := by
  unfold State.completerAbort
  extract_lets _ s1
  have h1 : s1.Kept Q C := hs.setFld
  exact h1.same

theorem State.Kept.mbHostWrite {ch r : Nat} {bs : List Byte} (hs : s.Kept Q C) : (s.mbHostWrite ch r bs).Kept Q C := by
  unfold State.mbHostWrite
  extract_lets _ _ _ f1
  have h1 : ∀ t, t.Kept Q C → (f1 t).Kept Q C := fun _ h2 => h2.bump.completerAbort
  refine .ite ?_ ?_
  · exact hs
  · refine .ite ?_ ?_
    · exact hs.bump.completerAbort
    · refine .ite ?_ ?_
      · exact hs.setMbox.bump.completerAbort
      · refine .ite ?_ ?_
        · exact h1 _ hs.mbCode
        · refine .ite ?_ ?_
          · exact hs.mbData
          · refine .ite ?_ ?_
            · exact .ite (h1 _ hs.mbCode) hs.mbDoSend
            · exact .ite (.ite hs.setMbox hs) (.ite hs.mbDoTake hs)

theorem State.Kept.mbCustWrite {ch r : Nat} {bs : List Byte} (hs : s.Kept Q C) : (s.mbCustWrite ch r bs).Kept Q C := by
  unfold State.mbCustWrite
  extract_lets _ _ _ f1
  have h1 : ∀ y1, (f1 y1).Kept Q C := fun _ => hs.mbCode.bump
  refine .ite ?_ ?_
  · exact hs
  · refine .ite ?_ ?_
    · exact h1 _
    · refine .ite ?_ ?_
      · exact hs.mbData
      · refine .ite ?_ ?_
        · exact .ite (h1 _) hs.mbDoSend
        · exact .ite (.ite hs.setMbox hs) (.ite hs.mbDoTake (.ite hs.setMbox hs.mbCode))

/-! ### NorOps -/

theorem State.Kept.setRingLane {l : Nat} {x : RingLane} (hs : s.Kept Q C) : (s.setRingLane l x).Kept Q C := hs.same
theorem State.Kept.setNlink {i : Nat} {x : NLink} (hs : s.Kept Q C) : (s.setNlink i x).Kept Q C := by
  unfold State.setNlink
  exact .ite hs.same hs.setRingLane

theorem State.Kept.modNlink {i : Nat} {f : NLink → NLink} (hs : s.Kept Q C) : (s.modNlink i f).Kept Q C := hs.setNlink
theorem State.Kept.linkSend {i type seq : Nat} {payload : List Byte} (hs : s.Kept Q C) : (s.linkSend i type seq payload).Kept Q C :=
  hs.modNlink

theorem State.Kept.sendNak {i : Nat} (hs : s.Kept Q C) : (s.sendNak i).Kept Q C := .ite hs hs.setNlink.linkSend
theorem State.Kept.linkSent {i : Nat} {b : List Byte} (hs : s.Kept Q C) : (s.linkSent i b).Kept Q C := hs.same
theorem State.Kept.sendSequenced {i type flags : Nat} {key payload : List Byte} (hs : s.Kept Q C) :
    (s.sendSequenced i type flags key payload).Kept Q C := hs.setNlink.linkSent

theorem State.Kept.linkTake {i : Nat} {types : List Nat} {e : (Nat × Nat × Nat × List Byte) × State} (hs : s.Kept Q C)
    (he : s.linkTake i types = some e) : e.2.Kept Q C := by
  unfold State.linkTake at he
  split at he
  · split at he
    · cases he; exact .pair hs.modNlink
    · cases he
  · cases he

theorem State.Kept.linkKeyOf {h : Nat} (hs : s.Kept Q C) : (s.linkKeyOf h).2.2.Kept Q C := by
  unfold State.linkKeyOf
  split
  · rename_i heq
    have h1 := hs.resolve.snd heq
    exact .pairPair h1
  · rename_i heq
    have h2 := hs.resolve.snd heq
    split
    · exact .pairPair h2
    · exact .pairPair h2

/-! ### RingOps -/

theorem State.Kept.crBump {k : Nat} (hs : s.Kept Q C) : (s.crBump k).Kept Q C := hs.bump
theorem State.Kept.crStatus {code : Nat} (hs : s.Kept Q C) : (s.crStatus code).Kept Q C := hs.status
theorem State.Kept.setCrStat {b : Nat} {x : Bool} (hs : s.Kept Q C) : (s.setCrStat b x).Kept Q C := hs.setFld
theorem State.Kept.setRingState {v : Nat} (hs : s.Kept Q C) : (s.setRingState v).Kept Q C :=
  .ite hs.setFld.setCrStat hs.setFld.setCrStat.irq

theorem State.Kept.modRingLane {l : Nat} {f : RingLane → RingLane} (hs : s.Kept Q C) : (s.modRingLane l f).Kept Q C := hs.setRingLane
theorem State.Kept.setHello {l : Nat} {x : Bool} (hs : s.Kept Q C) : (s.setHello l x).Kept Q C := hs.modRingLane.setCrStat
theorem State.Kept.sendHello {l : Nat} (hs : s.Kept Q C) : (s.sendHello l).Kept Q C := hs.linkSend
theorem State.Kept.beginHello {l : Nat} (hs : s.Kept Q C) : (s.beginHello l).Kept Q C := by
  unfold State.beginHello
  extract_lets
  refine .ite ?_ ?_
  · exact hs
  · split
    · rename_i heq
      have h1 := hs.setHello.draw.snd heq
      exact h1.modRingLane
    · rename_i heq
      have h2 := hs.setHello.draw.snd heq
      exact h2.same.modRingLane.sendHello

theorem State.Kept.ringLaneDown {l : Nat} (hs : s.Kept Q C) : (s.ringLaneDown l).Kept Q C := hs.setHello.modRingLane
theorem State.Kept.ringLaneUp {l : Nat} (hs : s.Kept Q C) : (s.ringLaneUp l).Kept Q C := hs.modRingLane.beginHello
theorem State.Kept.ringQueue {l : Nat} {own : Bool} {type : Nat} {payload : List Byte} (hs : s.Kept Q C) :
    (s.ringQueue l own type payload).Kept Q C := hs.modRingLane

theorem State.Kept.ringSend {type dst : Nat} {body : List Byte} (hs : s.Kept Q C) : (s.ringSend type dst body).Kept Q C := by
  unfold State.ringSend
  extract_lets _ _ s1 _ s2
  have h1 : s1.Kept Q C := hs.same.crBump
  have h2 : s2.Kept Q C := h1.ringQueue.ringQueue
  exact .ite h2.same h2

theorem State.Kept.ringTake {types : List Nat} {e : (Nat × Nat × List Byte) × State} (hs : s.Kept Q C)
    (he : s.ringTake types = some e) : e.2.Kept Q C := by
  unfold State.ringTake at he
  split at he
  · split at he
    · cases he; exact .pair hs.same
    · cases he
  · cases he

theorem State.Kept.sendPresence (hs : s.Kept Q C) : s.sendPresence.Kept Q C := hs.ringSend
theorem State.Kept.tryJoined (hs : s.Kept Q C) : s.tryJoined.Kept Q C := .ite hs.setRingState.sendPresence hs
theorem State.Kept.setMaster {rank : Nat} (hs : s.Kept Q C) : (s.setMaster rank).Kept Q C :=
  .ite hs.setFld.setCrStat.setFld.irq hs.setFld.setCrStat.setFld

theorem State.Kept.electMaster (hs : s.Kept Q C) : s.electMaster.Kept Q C := by
  unfold State.electMaster
  refine .ite ?_ ?_
  · split
    · exact hs.setMaster
    · exact .ite hs.setCrStat.irq hs
  · exact hs

theorem State.Kept.sendProbe (hs : s.Kept Q C) : s.sendProbe.Kept Q C := hs.ringSend
theorem State.Kept.setCounter {i value version : Nat} {known : Bool} (hs : s.Kept Q C) : (s.setCounter i value version known).Kept Q C :=
  hs.setBytes

theorem State.Kept.ctrUnknown (hs : s.Kept Q C) : s.ctrUnknown.Kept Q C := hs.setCrStat
theorem State.Kept.forgetCounters (hs : s.Kept Q C) : s.forgetCounters.Kept Q C := (hs.foldl fun _ _ h1 => h1.setLe).setCrStat
theorem State.Kept.leaseAnswer {a : LeaseAns} (hs : s.Kept Q C) : (s.leaseAnswer a).Kept Q C := by
  unfold State.leaseAnswer
  exact hs.same.ringSend

theorem State.Kept.setLease {e : Nat} {x : Lease} (hs : s.Kept Q C) : (s.setLease e x).Kept Q C := hs.same
theorem State.Kept.leaseApply {m : LeaseMirror} (hs : s.Kept Q C) : (s.leaseApply m).Kept Q C := by
  unfold State.leaseApply
  exact (State.Kept.ite hs.setLease.setCounter.crBump hs.setLease.crBump).leaseAnswer

theorem State.Kept.leaseCommit {m : LeaseMirror} (hs : s.Kept Q C) : (s.leaseCommit m).Kept Q C := by
  unfold State.leaseCommit
  exact .ite hs.same.ringSend hs.leaseApply

theorem State.Kept.mirrorFailed {m : LeaseMirror} (hs : s.Kept Q C) : (s.mirrorFailed m).Kept Q C := hs.crBump.leaseAnswer
theorem State.Kept.desyncDone (hs : s.Kept Q C) : s.desyncDone.Kept Q C := by
  unfold State.desyncDone
  exact hs.same.foldl fun _ _ h1 => h1.mirrorFailed

theorem State.Kept.ringStandbyLost (hs : s.Kept Q C) : s.ringStandbyLost.Kept Q C := by
  unfold State.ringStandbyLost
  exact hs.same.setCrStat.desyncDone

theorem State.Kept.startCtrSync (hs : s.Kept Q C) : s.startCtrSync.Kept Q C := hs.same
theorem State.Kept.leaseResult {q : LeaseReq} {status value version lease expiry : Nat} (hs : s.Kept Q C) :
    (s.leaseResult q status value version lease expiry).Kept Q C := hs.setBytes.completeTicket

theorem State.Kept.leaseSendReq {q : LeaseReq} (hs : s.Kept Q C) : (s.leaseSendReq q).Kept Q C := hs.ringSend
theorem State.Kept.leaseIssue {core tkt : Nat} {block : List Byte} (hs : s.Kept Q C) : (s.leaseIssue core tkt block).Kept Q C := by
  unfold State.leaseIssue
  exact .ite hs.leaseResult (.ite hs.same.leaseSendReq hs.same)

theorem State.Kept.ringOut (hs : s.Kept Q C) : s.ringOut.Kept Q C := by
  unfold State.ringOut
  extract_lets s1
  have h1 : s1.Kept Q C := hs.ringLaneDown.ringLaneDown
  exact h1.same.setRingState

theorem State.Kept.installRingKey {next : Bool} (hs : s.Kept Q C) : (s.installRingKey next).Kept Q C := by
  unfold State.installRingKey
  extract_lets
  split
  · rename_i _ _ s1 heq
    have h1 : s1.Kept Q C := by
      refine State.Kept.sndsnd ?_ heq
      split
      · exact .pairPair hs
      · exact hs.linkKeyOf
    extract_lets s2
    have h2 : s2.Kept Q C := .ite h1 h1.crStatus
    exact .ite h2.same h2.same

/-! ### RngCmds -/

theorem State.Kept.rnStatus {code : Nat} (hs : s.Kept Q C) : (s.rnStatus code).Kept Q C := hs.status
theorem State.Kept.rnBump {k u : Nat} (hs : s.Kept Q C) : (s.rnBump k u).Kept Q C := hs.bump
theorem State.Kept.setNoise {k : Nat} {x : Noise} (hs : s.Kept Q C) : (s.setNoise k x).Kept Q C := hs.same
theorem State.Kept.startTest {k : Nat} {fail : Bool} (hs : s.Kept Q C) : (s.startTest k fail).Kept Q C :=
  .ite hs (.ite (.ite hs.setNoise.setFld.irq hs.setNoise.setFld) hs.setNoise)

theorem State.Kept.startTests {n : Nat} (hs : s.Kept Q C) : (s.startTests n).Kept Q C := hs.foldl fun _ _ h1 => h1.setNoise
theorem State.Kept.rateCheck {k n : Nat} (hs : s.Kept Q C) : (s.rateCheck k n).Kept Q C := .ite hs.setNoise.setFld.irq hs.setNoise
theorem State.Kept.execNoiseSourceSample {k : Nat} {raw : Bool} (hs : s.Kept Q C) : Answers Q C (execNoiseSourceSample k raw s) := by
  unfold Machine.execNoiseSourceSample
  refine .done ?_
  extract_lets
  refine .ite ?_ ?_
  · exact hs
  · split
    · split
      · extract_lets _ _ s1 _ s2 s3 s4 s5
        have h1 : s1.Kept Q C := hs.setNoise
        have h2 : s2.Kept Q C := .ite h1.same h1
        have h3 : s3.Kept Q C := .ite h2.rnBump h2
        have h4 : s4.Kept Q C := .ite h3.rnBump h3
        have h5 : s5.Kept Q C := .ite h4.rateCheck h4
        exact h5.startTest

theorem State.Kept.execHealthRateWindow (hs : s.Kept Q C) : Answers Q C (execHealthRateWindow s) :=
  .done (hs.foldl fun _ _ h1 => (State.Kept.ite h1.setFld h1).setNoise)

theorem State.Kept.execSeedBlockComplete (hs : s.Kept Q C) : Answers Q C (execSeedBlockComplete s) := by
  unfold Machine.execSeedBlockComplete
  refine .done ?_
  extract_lets _ _ _ _ s2 s4 _ s5
  have h2 : s2.Kept Q C := hs.foldl fun _ _ h3 => h3.setNoise
  have h4 : s4.Kept Q C := h2.rnBump
  have h5 : s5.Kept Q C := .ite h4.same h4.rnBump
  exact .ite hs h5.same

theorem State.Kept.seedRequest {i : Nat} (hs : s.Kept Q C) : (s.seedRequest i).Kept Q C := by
  unfold State.seedRequest
  exact .ite hs (.ite hs.same.irq hs.same)

theorem State.Kept.drbgInstantiateDue {i : Nat} (hs : s.Kept Q C) : (s.drbgInstantiateDue i).Kept Q C := hs.setDrbg.seedRequest
theorem State.Kept.drbgOff {i : Nat} (hs : s.Kept Q C) : (s.drbgOff i).Kept Q C := by
  unfold State.drbgOff
  extract_lets s1 _ s2
  have h1 : s1.Kept Q C := hs.setDrbg
  have h2 : s2.Kept Q C := h1.same
  exact .ite h2.same.rnStatus.setFld h2

theorem State.Kept.rnEnd {i code : Nat} (hs : s.Kept Q C) : (s.rnEnd i code).Kept Q C := by
  unfold State.rnEnd
  exact .ite hs.same.rnStatus.setFld hs

theorem State.Kept.waitingHellos (hs : s.Kept Q C) : s.waitingHellos.Kept Q C := by
  unfold State.waitingHellos
  exact hs.foldl fun _ _ h1 => .ite h1.beginHello h1

theorem State.Kept.execDrbgGenerate {i : Nat} (hs : s.Kept Q C) : Answers Q C (execDrbgGenerate i s) := .done (.ite hs.setDrbg hs)
theorem State.Kept.execDrbgDraw {i : Nat} (hs : s.Kept Q C) : Answers Q C (execDrbgDraw i s) := .done (.ite hs.draw hs)
theorem State.Kept.execDrbgReseedDue {i : Nat} (hs : s.Kept Q C) : Answers Q C (execDrbgReseedDue i s) :=
  .done (.ite hs.setDrbg.seedRequest hs)

theorem State.Kept.execDrbgReseedDone {fault : Bool} (hs : s.Kept Q C) : Answers Q C (execDrbgReseedDone fault s) := by
  unfold Machine.execDrbgReseedDone
  refine .done ?_
  extract_lets
  split
  · extract_lets
    refine .ite ?_ ?_
    · exact .ite (.ite hs.same.setDrbg.irq.errInfo.rnEnd hs.same.setDrbg.seedRequest) (.ite hs.same.setDrbg.rnBump.rnEnd.waitingHellos
        hs.same.setDrbg.rnBump.rnEnd)
    · exact hs.same.setDrbg.rnBump.rnEnd
  · exact hs

theorem State.Kept.rnBusy {i : Nat} (hs : s.Kept Q C) : (s.rnBusy i).Kept Q C := by
  unfold State.rnBusy
  exact hs.same.setFld

theorem State.Kept.execReseed {i : Nat} (hs : s.Kept Q C) : Answers Q C (execReseed i s) :=
  .done ((State.Kept.ite hs.rnStatus (.ite hs.rnStatus hs.rnBusy.setDrbg.seedRequest)).took)

theorem State.Kept.execReinstantiate {i : Nat} (hs : s.Kept Q C) : Answers Q C (execReinstantiate i s) :=
  .done ((State.Kept.ite hs.rnStatus hs.rnBusy.drbgInstantiateDue).took)

theorem State.Kept.execTapStart {k : Nat} (hs : s.Kept Q C) : Answers Q C (execTapStart k s) := by
  unfold Machine.execTapStart
  exact .done ((State.Kept.ite hs.rnStatus (.ite hs.rnStatus (.ite hs.rnStatus hs.same.rnStatus))).took)

theorem State.Kept.execTapStop (hs : s.Kept Q C) : Answers Q C (execTapStop s) := by
  unfold Machine.execTapStop
  exact .done hs.same.rnStatus.took

theorem State.Kept.execTapFull (hs : s.Kept Q C) : Answers Q C (execTapFull s) := by
  unfold Machine.execTapFull
  exact .done (.ite hs.same.irq hs)

theorem State.Kept.rnClear (hs : s.Kept Q C) : s.rnClear.Kept Q C :=
  (hs.foldl fun _ _ h1 => h1.clrCtr.clrCtr).foldl fun _ _ h2 => h2.clrCtr

theorem State.Kept.execRngCfgWrite {v : Reg} (hs : s.Kept Q C) : Answers Q C (execRngCfgWrite v s) :=
  .done (.ite ((State.Kept.ite hs.rnClear hs).lockDrop) (.ite hs.rnStatus (((State.Kept.ite hs.rnClear hs).wr).took)))

theorem State.Kept.execRngTpCtlWrite {v : Reg} (hs : s.Kept Q C) : Answers Q C (execRngTpCtlWrite v s) :=
  .done (hs.rwlWrite (fun _ h1 => .ite h1.rnStatus (((h1.foldl fun _ _ h2 => .ite h2.setNoise h2).wr).took)))

/-! ### FlashOps -/

theorem State.Kept.flBump {k n : Nat} (hs : s.Kept Q C) : (s.flBump k n).Kept Q C := hs.bump
theorem State.Kept.setWear {k : Nat} {g : WearGroup} (hs : s.Kept Q C) : (s.setWear k g).Kept Q C := hs.same
theorem State.Kept.setFlWord {w : Nat} {v : Word} (hs : s.Kept Q C) : (s.setFlWord w v).Kept Q C := hs.same
theorem State.Kept.flProgram {w : Nat} {vs : List Word} (hs : s.Kept Q C) : (flProgram w vs s).Kept Q C := by
  induction vs generalizing w s with
  | nil => exact hs
  | cons v vs ih => exact ih hs.setFlWord

theorem State.Kept.erasePhys {p : Nat} (hs : s.Kept Q C) : (s.erasePhys p).Kept Q C := hs.same
theorem State.Kept.gapMove {k : Nat} (hs : s.Kept Q C) : (s.gapMove k).Kept Q C := by
  unfold State.gapMove
  extract_lets _ _ _ _ _ s1 _ s2
  have h1 : s1.Kept Q C := hs.erasePhys
  have h2 : s2.Kept Q C := h1.same
  exact h2.erasePhys.setWear

theorem State.Kept.eraseSector {l : Nat} (hs : s.Kept Q C) : (s.eraseSector l).2.Kept Q C := by
  unfold State.eraseSector
  extract_lets
  refine .itePair ?_ ?_
  · exact .pair hs.erasePhys.setWear
  · exact .pair hs.erasePhys.setWear

theorem State.Kept.eraseCust {l : Nat} (hs : s.Kept Q C) : (s.eraseCust l).Kept Q C := .ite hs.eraseSector.gapMove hs.eraseSector
theorem State.Kept.csStatus {code : Nat} (hs : s.Kept Q C) : (s.csStatus code).Kept Q C := hs.status
theorem State.Kept.eraseBank {b : Nat} (hs : s.Kept Q C) : (s.eraseBank b).Kept Q C := hs.foldl fun _ _ h1 => h1.eraseCust

/-! ### Classify -/

theorem State.Kept.refreshBody {n : Nat} (hs : s.Kept Q C) : (s.refreshBody n).Kept Q C := by
  unfold State.refreshBody
  split
  · exact hs
  · exact .ite hs.setFrame hs

theorem State.Kept.chargeFrame {n : Nat} (hs : s.Kept Q C) : (s.chargeFrame n).Kept Q C := by
  unfold State.chargeFrame
  split
  · exact .ite hs.modCtx.modFrame hs
  · exact hs

/-! ### VerdictOps -/

theorem State.Kept.vmBump {o k : Nat} (hs : s.Kept Q C) : (s.vmBump o k).Kept Q C := hs.bump
theorem State.Kept.setVerdict {v : Nat} {x : Verdict} (hs : s.Kept Q C) : (s.setVerdict v x).Kept Q C := hs.same
theorem State.Kept.modVerdict {v : Nat} {f : Verdict → Verdict} (hs : s.Kept Q C) : (s.modVerdict v f).Kept Q C := hs.same
theorem State.Kept.vinprog {i : Nat} {up : Bool} (hs : s.Kept Q C) : (s.vinprog i up).Kept Q C := hs.modCtx
theorem State.Kept.verdictEnd {v : Nat} (hs : s.Kept Q C) : (s.verdictEnd v).Kept Q C := by
  unfold State.verdictEnd
  split
  · exact hs
  · extract_lets s1
    have h1 : s1.Kept Q C := .ite hs hs.vinprog.modVerdict
    exact .ite hs (.ite h1.same h1)

theorem State.Kept.dispatchTo {m : VMsg} {c : Nat} (hs : s.Kept Q C) : (s.dispatchTo m c).Kept Q C := by
  unfold State.dispatchTo
  extract_lets
  split
  · exact hs
  · extract_lets s1 _ s2
    have h1 : s1.Kept Q C := hs.setCore
    have h2 : s2.Kept Q C := h1.same
    exact h2.setVerdict.vmBump

theorem State.Kept.takeQueued {c : Nat} (hs : s.Kept Q C) : (s.takeQueued c).Kept Q C := by
  unfold State.takeQueued
  extract_lets
  refine .ite ?_ ?_
  · split
    · exact hs
    · exact hs.same.dispatchTo
  · exact hs

theorem State.Kept.keyResult {c : Nat} {block : List Byte} {status engine : Nat} {res : List Byte} (hs : s.Kept Q C) :
    (s.keyResult c block status engine res).Kept Q C := hs.setBytes

theorem State.Kept.keyEnqueue {r : KReq} (hs : s.Kept Q C) : (s.keyEnqueue r).Kept Q C := hs.same
theorem State.Kept.giveApp {k : Nat} {a : App} (hs : s.Kept Q C) : (s.giveApp k a).Kept Q C := hs.setStrand
theorem State.Kept.heldEffect {v : Nat} {x : Verdict} {h : Held} {t : State} (hs : s.Kept Q C)
    (he : s.heldEffect v x h = some t) : t.Kept Q C := by
  unfold State.heldEffect at he
  split at he
  · dsimp only at he
    split at he
    · cases he
    · cases he; exact hs.setStrand.modVerdict
  · cases he; exact hs.same
  · cases he; exact hs.leaseIssue
  · cases he; exact hs.keyEnqueue

theorem State.Kept.drainHeld {v n : Nat} (hs : s.Kept Q C) : (drainHeld v n s).Kept Q C := by
  induction n generalizing s with
  | zero => exact hs
  | succ n ih =>
    unfold Machine.drainHeld
    split
    · exact hs
    · split
      · exact hs
      · split
        · exact hs
        · rename_i heq
          exact ih (hs.heldEffect heq).modVerdict

theorem State.Kept.dropHeld {c : Nat} {h : Held} (hs : s.Kept Q C) : (s.dropHeld c h).Kept Q C := by
  unfold State.dropHeld
  extract_lets
  split
  · exact hs.setStrand
  · exact hs.completeTicket
  · exact hs.completeTicket
  · exact (State.Kept.ite hs.kvBump.keyResult hs.kvBump).completeTicket

theorem State.Kept.freeUnits {o n : Nat} (hs : s.Kept Q C) : (s.freeUnits o n).Kept Q C := hs.same
theorem State.Kept.dropResp {v : Nat} (hs : s.Kept Q C) : (s.dropResp v).Kept Q C := by
  unfold State.dropResp
  split
  · split
    · exact hs.freeUnits.modVerdict
    · exact hs
  · exact hs

theorem State.Kept.enterResponse {o port cls : Nat} {dmac body : List Byte} {tagged : Bool} {vref jseq strand : Nat} (hs : s.Kept Q C) :
    (s.enterResponse o port cls dmac body tagged vref jseq strand).Kept Q C := .ite hs.vmBump hs.newFrame

theorem State.Kept.buildResponse {o ctx port cls : Nat} {dmac env : List Byte} {plynun : Bool} {vref jseq strand : Nat} (hs : s.Kept Q C)
    : (s.buildResponse o ctx port cls dmac env plynun vref jseq strand).Kept Q C := hs.enterResponse

theorem State.Kept.sendFwd {b : List Byte} (hs : s.Kept Q C) : (s.sendFwd b).Kept Q C := hs.same
theorem State.Kept.tryRelease {v : Nat} (hs : s.Kept Q C) : (s.tryRelease v).Kept Q C := by
  unfold State.tryRelease
  split
  · exact hs
  · extract_lets
    split
    · exact hs
    · exact .ite ((State.Kept.ite hs.dropResp.vmBump.sendFwd hs.dropResp.vmBump.buildResponse).verdictEnd) hs

theorem State.Kept.resolveVerdict {v : Nat} {pass : Bool} (hs : s.Kept Q C) : (s.resolveVerdict v pass).Kept Q C := by
  unfold State.resolveVerdict
  extract_lets
  split
  · exact hs
  · extract_lets s2 _ s4
    have h2 : s2.Kept Q C := hs.dropResp.modVerdict.foldl fun _ _ h3 => h3.dropHeld
    have h4 : s4.Kept Q C := .ite h2.vmBump.setEvent h2.vmBump
    exact .ite hs (.ite hs.modVerdict.drainHeld.tryRelease.verdictEnd h4.verdictEnd)

theorem State.Kept.commitFollow {v : Option Nat} (hs : s.Kept Q C) : (s.commitFollow v).Kept Q C := by
  unfold State.commitFollow
  split
  · exact hs
  · exact hs.tryRelease

theorem State.Kept.parseUse {o : Nat} {up : Bool} (hs : s.Kept Q C) : (s.parseUse o up).Kept Q C := hs.same
theorem State.Kept.dropMessage {n o : Nat} (hs : s.Kept Q C) : (s.dropMessage n o).Kept Q C := hs.parseUse.endFrame
theorem State.Kept.tryForward {n : Nat} (hs : s.Kept Q C) : (s.tryForward n).Kept Q C := by
  unfold State.tryForward
  extract_lets
  split
  · exact hs
  · extract_lets
    split
    · extract_lets f1
      have h1 : ∀ t, t.Kept Q C → (f1 t).Kept Q C := fun _ h2 => h2.vmBump.errInfo.dropMessage
      refine .ite ?_ ?_
      · refine .ite ?_ ?_
        · exact h1 _ hs
        · split
          · exact h1 _ hs
          · exact hs.same.sendFwd.vmBump.dropMessage
      · exact hs
    · exact hs

/-! ### Trust -/

theorem State.Kept.scEvent {d type rec ctx : Nat} (hs : s.Kept Q C) : (s.scEvent d type rec ctx).Kept Q C := by
  unfold State.scEvent
  exact .ite hs.same.irq hs.same.irq

theorem State.Kept.popFailed {q n : Nat} (hs : s.Kept Q C) : (popFailed q n s).Kept Q C := by
  induction n generalizing s with
  | zero => exact hs
  | succ n ih =>
    unfold Machine.popFailed
    split
    · exact hs
    · split
      · exact ih hs.leaveQueue
      · exact .ite (ih hs.leaveQueue.endFrame.qBump) hs

theorem State.Kept.newHead {q : Nat} (hs : s.Kept Q C) : (s.newHead q).Kept Q C := hs.popFailed
theorem State.Kept.dropQueued {q n k : Nat} (hs : s.Kept Q C) : (s.dropQueued q n k).Kept Q C := hs.leaveQueue.endFrame.qBump.newHead
theorem State.Kept.endTx {l kind : Nat} (hs : s.Kept Q C) : (s.endTx l kind).Kept Q C := by
  unfold State.endTx
  split
  · exact hs
  · split
    · exact hs.modLane
    · extract_lets _ _ _ _ _ s1 s2 s3
      have h1 : s1.Kept Q C := .ite hs.modLane.lnBump.lnBump hs.modLane.lnBump.lnBump.qBump.qBump
      have h2 : s2.Kept Q C := .ite h1.scBump h1
      have h3 : s3.Kept Q C := .ite hs.modLane (.ite h2.scBump h2)
      exact h3.endFrame

theorem State.Kept.applyOutcome {n : Nat} (hs : s.Kept Q C) : (s.applyOutcome n).Kept Q C := by
  unfold State.applyOutcome
  extract_lets
  split
  · exact hs
  · extract_lets s1
    have h1 : s1.Kept Q C := by
      unfold s1
      split
      · exact hs.modFrame.resolveVerdict
      · exact .ite (hs.modFrame.foldl fun _ _ h2 => by
            extract_lets
            split
            · exact h2
            · exact h2.same.vmBump.vinprog) hs.modFrame
    refine .ite ?_ ?_
    · exact hs
    · split
      · exact hs.modFrame.newHead
      · exact .ite hs.modFrame.dropQueued hs.modFrame
      · exact .ite hs.modFrame.dropQueued hs.modFrame
      · exact hs.modFrame.releaseAll.delFrame
      · exact hs.modFrame.tryForward
      · exact .ite h1 h1.delFrame
      · exact hs.modFrame

theorem State.Kept.resolveTrust {n cause : Nat} (hs : s.Kept Q C) : (s.resolveTrust n cause).Kept Q C := by
  unfold State.resolveTrust
  extract_lets
  split
  · exact hs
  · extract_lets s1 s2
    have h1 : s1.Kept Q C := by
      unfold s1
      refine .ite ?_ ?_
      · split
        · exact hs.modFrame.scBump
        · exact hs.modFrame
      · exact hs.modFrame
    have h2 : s2.Kept Q C := .ite h1.scBump h1
    exact .ite hs (.ite h2.applyOutcome h2)

theorem State.Kept.flushLane {l : Nat} (hs : s.Kept Q C) : (s.flushLane l).Kept Q C := by
  unfold State.flushLane
  extract_lets s1 s3 s7
  have h1 : s1.Kept Q C := hs.endTx
  have h3 : s3.Kept Q C := h1.foldl fun _ _ h4 => by
      split
      · exact h4.endFrame.qBump
      · exact h4
  have h7 : s7.Kept Q C := by
    refine State.Kept.foldl ?_ (fun _ _ h8 => h8.foldl fun _ _ h9 => h9.leaveQueue.endFrame.qBump)
    exact h3
  exact h7.modLane

theorem State.Kept.cutReception {l : Nat} (hs : s.Kept Q C) : (s.cutReception l).Kept Q C := by
  unfold State.cutReception
  extract_lets
  split
  · exact hs.modLane
  · extract_lets
    split
    · exact hs.modLane
    · split
      · exact hs.modLane.modFrame.resolveTrust.endFrame
      · exact hs.modLane.modFrame.resolveTrust.endFrame
      · exact hs.modLane.modFrame.endFrame
      · exact hs.modLane.modFrame.resolveTrust.endFrame
      · exact hs.modLane.modFrame.resolveTrust

/-! ### TwinOps -/

theorem State.Kept.setTwState {v : Nat} (hs : s.Kept Q C) : (s.setTwState v).Kept Q C := hs.setFld
theorem State.Kept.setRoleGen {g : Nat} (hs : s.Kept Q C) : (s.setRoleGen g).Kept Q C := .ite hs hs.wrn.irq
theorem State.Kept.resumeDispatch (hs : s.Kept Q C) : s.resumeDispatch.Kept Q C :=
  hs.foldl fun _ _ h1 => h1.foldl fun _ _ h2 => h2.takeQueued

theorem State.Kept.dropTransfers (hs : s.Kept Q C) : s.dropTransfers.Kept Q C := hs.same
theorem State.Kept.stopMirror (hs : s.Kept Q C) : s.stopMirror.Kept Q C := hs.same
theorem State.Kept.sendSwap {op gen status : Nat} (hs : s.Kept Q C) : (s.sendSwap op gen status).Kept Q C := .ite hs.linkSend hs
theorem State.Kept.sendState (hs : s.Kept Q C) : s.sendState.Kept Q C := hs.sendSwap
theorem State.Kept.mirrorFault (hs : s.Kept Q C) : s.mirrorFault.Kept Q C := by
  unfold State.mirrorFault
  extract_lets s1
  have h1 : s1.Kept Q C := hs.twStatus.twBump.irq
  exact h1.same.setTwState

theorem State.Kept.verifyOne {k : Nat} (hs : s.Kept Q C) : (s.verifyOne k).Kept Q C := by
  unfold State.verifyOne
  extract_lets
  split
  · exact hs
  · exact .ite hs.setBytes.setStrand.ringLeave hs.mirrorFault

theorem State.Kept.verifyAll (hs : s.Kept Q C) : s.verifyAll.Kept Q C := hs.foldl fun _ _ h1 => h1.foldl fun _ _ h2 => h2.verifyOne
theorem State.Kept.applyStone {i : Nat} {b : List Byte} (hs : s.Kept Q C) : (s.applyStone i b).Kept Q C := by
  unfold State.applyStone
  extract_lets
  split
  · exact hs.modCached
  · exact hs.same

theorem State.Kept.applyKey {i : Nat} {b : List Byte} (hs : s.Kept Q C) : (s.applyKey i b).Kept Q C := by
  have e : State.applyKey = State.applyKey := rfl
  conv at e => rhs; delta State.applyKey
  rw [e]
  beta_reduce
  extract_lets _ s1
  have h1 : s1.Kept Q C := hs.setBytes
  clear_value s1
  split
  · exact h1.zeroiseKey
  · exact h1

theorem State.Kept.applyZone {z : Nat} {b : List Byte} (hs : s.Kept Q C) : (s.applyZone z b).Kept Q C := by
  unfold State.applyZone
  extract_lets _ s1 s2
  have h1 : s1.Kept Q C := .ite hs.zeroiseZone hs
  have h2 : s2.Kept Q C := h1.setZone
  exact h2.same

theorem State.Kept.applyDelta {r : List Byte} (hs : s.Kept Q C) : (s.applyDelta r).Kept Q C := by
  unfold State.applyDelta
  extract_lets
  split
  · exact hs.applyStone
  · exact hs.applyKey
  · exact hs.applyZone
  · exact hs.setZone
  · exact hs

theorem State.Kept.startCheckpoint (hs : s.Kept Q C) : s.startCheckpoint.Kept Q C := by
  unfold State.startCheckpoint
  exact .ite hs hs.same.wrn

theorem State.Kept.takeSegment (hs : s.Kept Q C) : s.takeSegment.2.Kept Q C := by
  unfold State.takeSegment
  exact .pair hs.same.wrn

theorem State.Kept.checkpointDone (hs : s.Kept Q C) : s.checkpointDone.Kept Q C := by
  unfold State.checkpointDone
  exact hs.same.wrn.wrn.twBump.irq.foldl fun _ _ h1 => .ite (h1.foldl fun _ _ h2 => h2.commitEntry.commitFollow) h1

theorem State.Kept.paired (hs : s.Kept Q C) : s.paired.Kept Q C := by
  unfold State.paired
  extract_lets s1 _ s2
  have h1 : s1.Kept Q C := hs.setTwState
  have h2 : s2.Kept Q C := .ite h1.same.markers h1
  exact .ite h2.startCtrSync hs

theorem State.Kept.standbyLost (hs : s.Kept Q C) : s.standbyLost.Kept Q C := by
  unfold State.standbyLost
  extract_lets _ _ _ _ s1 s2 s3 _ s4
  have h1 : s1.Kept Q C := hs.same.stopMirror
  have h2 : s2.Kept Q C := .ite h1.setTwState h1
  have h3 : s3.Kept Q C := h2.ringStandbyLost
  have h4 : s4.Kept Q C := .ite h3.same.markers h3
  exact .ite (h4.foldl fun _ _ h5 => h5.commitEntry.commitFollow) h3

theorem State.Kept.takeCeilings (hs : s.Kept Q C) : s.takeCeilings.Kept Q C := by
  unfold State.takeCeilings
  exact hs.foldl fun _ _ h1 => .ite h1.setZone h1

theorem State.Kept.becomeActive {st : Nat} (hs : s.Kept Q C) : (s.becomeActive st).Kept Q C := by
  unfold State.becomeActive
  exact hs.same.dropTransfers.setTwState.resumeDispatch

theorem State.Kept.promote (hs : s.Kept Q C) : s.promote.Kept Q C := by
  unfold State.promote
  extract_lets s1 _ _ s2 s3 s4 s5
  have h1 : s1.Kept Q C := hs.verifyAll
  have h2 : s2.Kept Q C := h1.same
  have h3 : s3.Kept Q C := h2.setTwState.setRoleGen.takeCeilings
  have h4 : s4.Kept Q C := h3.setTwState.markers.twBump
  have h5 : s5.Kept Q C := .ite h4.setCrStat h4.forgetCounters
  exact .ite h5.becomeActive h1.twStatus

theorem State.Kept.declareLoss (hs : s.Kept Q C) : s.declareLoss.Kept Q C := by
  unfold State.declareLoss
  extract_lets _ _ s1 s2
  have h1 : s1.Kept Q C := hs.same.twBump
  have h2 : s2.Kept Q C := h1.irq.sendProbe
  exact .ite hs (.ite h2.standbyLost (.ite h2.same.standbyLost.twStatus.resumeDispatch h2))

theorem State.Kept.twinDown (hs : s.Kept Q C) : s.twinDown.Kept Q C := by
  unfold State.twinDown
  exact .ite hs.same.declareLoss hs

theorem State.Kept.afterProbe {answered act same : Bool} (hs : s.Kept Q C) : (s.afterProbe answered act same).Kept Q C := by
  unfold State.afterProbe
  extract_lets _ s1 _ f2 _ s4
  have h1 : s1.Kept Q C := hs.same
  have h2 : ∀ t, t.Kept Q C → (f2 t).Kept Q C := fun _ h3 => h3.same.setTwState
  have h4 : s4.Kept Q C := h1.same
  refine .ite ?_ ?_
  · exact .ite (h2 _ h1.verifyAll) h1.promote
  · exact .ite (.ite (h2 _ h1) ((h2 _ h1).twStatus)) (.ite (.ite (h2 _ h4) ((h2 _ h4).twStatus)) h1)

theorem State.Kept.requestSwap (hs : s.Kept Q C) : s.requestSwap.Kept Q C := by
  unfold State.requestSwap
  exact hs.same.sendSwap

theorem State.Kept.beginDrain {g : Nat} (hs : s.Kept Q C) : (s.beginDrain g).Kept Q C := by
  unfold State.beginDrain
  exact hs.same.sendSwap.setTwState

theorem State.Kept.tryCommitSwap (hs : s.Kept Q C) : s.tryCommitSwap.Kept Q C := by
  unfold State.tryCommitSwap
  split
  · exact .ite hs.sendSwap.setTwState.setRoleGen.dropTransfers hs
  · exact hs

theorem State.Kept.discardVerdicts (hs : s.Kept Q C) : s.discardVerdicts.Kept Q C := by
  unfold State.discardVerdicts
  exact hs.foldl fun _ _ h1 => by
    extract_lets
    split
    · exact .ite h1 (((h1.dropResp.modVerdict.foldl fun _ _ h2 => h2.dropHeld).twBump).verdictEnd)
    · exact h1

theorem State.Kept.forwardQueued (hs : s.Kept Q C) : s.forwardQueued.Kept Q C := by
  unfold State.forwardQueued
  refine State.Kept.foldl ?_ (fun _ _ h1 => by
      refine State.Kept.foldl ?_ (fun _ _ h2 => by
          extract_lets _ s3
          have h3 : s3.Kept Q C := h2.same
          refine .ite ?_ ?_
          · split
            · exact h3.vmBump.errInfo
            · exact h3.same.sendFwd.vmBump
          · exact h2)
      exact h1)
  exact hs

/-! ### CustodyOps -/

theorem State.Kept.modCus {f : Custody → Custody} (hs : s.Kept Q C) : (s.modCus f).Kept Q C := hs.same
theorem State.Kept.lockFlush (hs : s.Kept Q C) : s.lockFlush.Kept Q C := by
  unfold State.lockFlush
  refine State.Kept.foldl ?_ (fun _ _ h1 => by
      split
      · exact h1
      · split
        · exact .ite h1.dropQueued h1
        · exact h1.dropQueued
        · exact h1.dropQueued
        · exact h1)
  exact hs

theorem State.Kept.lockFollow {was : Bool} (hs : s.Kept Q C) : (s.lockFollow was).Kept Q C := .ite hs.lockFlush hs
theorem State.Kept.cmdStatus {code status : Nat} (hs : s.Kept Q C) : (s.cmdStatus code status).Kept Q C := hs.wrn
theorem State.Kept.endSession {status : Nat} (hs : s.Kept Q C) : (s.endSession status).Kept Q C := by
  unfold State.endSession
  exact (State.Kept.ite hs.modCus.cmdStatus hs.modCus.cmdStatus.bump).irq

theorem State.Kept.failSession (hs : s.Kept Q C) : s.failSession.Kept Q C := .ite hs.endSession hs
theorem State.Kept.unlatch (hs : s.Kept Q C) : s.unlatch.Kept Q C := by
  unfold State.unlatch
  extract_lets _ s1
  have h1 : s1.Kept Q C := .ite hs.modCus.irq hs.modCus.irq.sendState
  exact .ite h1.same.setFld.setFld h1

theorem State.Kept.rootBack (hs : s.Kept Q C) : s.rootBack.Kept Q C := .ite hs hs.setFld
theorem State.Kept.sessionCheck (hs : s.Kept Q C) : s.sessionCheck.Kept Q C := by
  unfold State.sessionCheck
  extract_lets _ _ _ s1 _ s2
  have h1 : s1.Kept Q C := .ite hs.modCus hs
  have h2 : s2.Kept Q C := .ite (.ite h1.bump.unlatch h1.bump.modCus.irq) h1
  exact .ite hs (.ite hs.endSession h2.rootBack.modCus.endSession)

theorem State.Kept.recordAlarm {e : Nat × Nat × Nat × Nat} (hs : s.Kept Q C) : (s.recordAlarm e).Kept Q C := by
  unfold State.recordAlarm
  exact (State.Kept.ite hs.modCus hs.modCus.setFld).modCus

theorem State.Kept.custAck {ch code status : Nat} {res : List Word} (hs : s.Kept Q C) : (s.custAck ch code status res).Kept Q C := by
  unfold State.custAck
  extract_lets _ _ s1 _ s2 s3 s5 s7
  have h1 : s1.Kept Q C := hs.setMbox
  have h2 : s2.Kept Q C := h1.same
  have h3 : s3.Kept Q C := h2.cmdStatus
  have h5 : s5.Kept Q C := h3.foldl fun _ _ h6 => h6.wr64
  have h7 : s7.Kept Q C := .ite h5.mbData.mbDoSend h5
  exact h7.irq.mbNotify

theorem State.Kept.custServe {code : Nat} {f : Nat → List Nat → State → (Nat × List Word) × State} (hs : s.Kept Q C) (hf : ∀ y1 y2 t,
    t.Kept Q C → (f y1 y2 t).2.Kept Q C) : (s.custServe code f).Kept Q C := by
  unfold State.custServe
  refine .ite ?_ ?_
  · exact hs
  · split
    · exact hs
    · exact .ite hs.custAck (.ite hs ((hf _ _ _ hs).custAck))

theorem State.Kept.plainResult {r : Nat × State} (h : r.2.Kept Q C) : (plainResult r).2.Kept Q C := h.pair
theorem State.Kept.zeroiseCustomer (hs : s.Kept Q C) : s.zeroiseCustomer.Kept Q C := by
  unfold State.zeroiseCustomer
  extract_lets s1 _ s2 s3
  have h1 : s1.Kept Q C := hs.modCus
  have h2 : s2.Kept Q C := h1.same
  have h3 : s3.Kept Q C := h2.eraseBank.eraseBank
  exact h3.same

/-! ### CardOps -/

theorem State.Kept.modCard {f : Card → Card} (hs : s.Kept Q C) : (s.modCard f).Kept Q C := hs.same
theorem State.Kept.modRdr {f : Reader → Reader} (hs : s.Kept Q C) : (s.modRdr f).Kept Q C := hs.same
theorem State.Kept.cbBump {k : Nat} (hs : s.Kept Q C) : (s.cbBump k).Kept Q C := hs.bump
theorem State.Kept.cbStatus {code : Nat} (hs : s.Kept Q C) : (s.cbStatus code).Kept Q C := hs.status
theorem State.Kept.setSlow {i : Nat} {x : SlowIn} (hs : s.Kept Q C) : (s.setSlow i x).Kept Q C := hs.same
theorem State.Kept.cbLog {kind purpose status flags code : Nat} {id : List Byte} {c : Nat} (hs : s.Kept Q C) :
    (s.cbLog kind purpose status flags code id c).Kept Q C := by
  unfold State.cbLog
  exact hs.same.irq

theorem State.Kept.cardStart (hs : s.Kept Q C) : s.cardStart.Kept Q C := .ite hs.modCard hs
theorem State.Kept.cardEnd {status : Nat} {counted : Bool} (hs : s.Kept Q C) : (s.cardEnd status counted).Kept Q C := by
  unfold State.cardEnd
  exact (State.Kept.ite hs.cbLog.cbStatus.cmdStatus hs.cbLog.cbStatus).modCard

theorem State.Kept.cardUnknown (hs : s.Kept Q C) : s.cardUnknown.Kept Q C := hs.modCard.irq
theorem State.Kept.cardFinal {status : Nat} (hs : s.Kept Q C) : (s.cardFinal status).Kept Q C :=
  .ite hs.cardEnd (.ite hs.modCard hs.cardEnd)

theorem State.Kept.cardFailNow {status : Nat} {rep : Bool} (hs : s.Kept Q C) : (s.cardFailNow status rep).Kept Q C :=
  .ite hs.cardUnknown.cardEnd.cardStart (.ite hs.modCard hs.cardFinal)

theorem State.Kept.cardFail {status : Nat} {rep : Bool} (hs : s.Kept Q C) : (s.cardFail status rep).Kept Q C :=
  .ite hs.modCard hs.cardFailNow

theorem State.Kept.cardCrc (hs : s.Kept Q C) : s.cardCrc.Kept Q C := hs.cbBump.cardFail
theorem State.Kept.cardGone {status : Nat} (hs : s.Kept Q C) : (s.cardGone status).Kept Q C :=
  .ite ((State.Kept.ite ((State.Kept.ite hs.cbBump hs).cardUnknown) (.ite hs.cbBump hs)).cardEnd) hs

theorem State.Kept.sessionCard {id : Nat} {share : Option (Nat × List Byte)} (hs : s.Kept Q C) : (s.sessionCard id share).Kept Q C :=
  hs.modCus.sessionCheck

theorem State.Kept.genCard {id : Nat} {key : List Byte} (hs : s.Kept Q C) : (s.genCard id key).Kept Q C := by
  unfold State.genCard
  split
  · exact hs
  · exact .ite hs.modCus hs.modCus.rootBack

theorem State.Kept.cardGo {idx : Nat} (hs : s.Kept Q C) : (s.cardGo idx).Kept Q C := hs.modCard
theorem State.Kept.cardIdentified {b : List Byte} (hs : s.Kept Q C) : (s.cardIdentified b).Kept Q C := by
  unfold State.cardIdentified
  extract_lets _ s2 _ _ _ _ _ _ s4
  have h2 : s2.Kept Q C := hs.modCard.foldl fun _ _ h3 => h3.wrn
  have h4 : s4.Kept Q C := .ite h2.modCard.cbLog.cbStatus h2
  refine .ite ?_ ?_
  · exact h2.cardFinal
  · refine .ite ?_ ?_
    · exact h4.modCard.genCard.cardEnd
    · refine .ite ?_ ?_
      · exact h4.cardEnd
      · refine .ite ?_ ?_
        · exact .ite h4.cardFinal h4.modCard.cardGo
        · exact .ite (.ite h4.modCard.cardFinal (.ite h4.modCard.cbBump.cardFinal h4.modCard.cardGo)) h4.cardEnd

theorem State.Kept.cardBlock {b : List Byte} (hs : s.Kept Q C) : (s.cardBlock b).Kept Q C := by
  unfold State.cardBlock
  extract_lets
  refine .ite ?_ ?_
  · exact hs.cardIdentified
  · refine .ite ?_ ?_
    · exact .ite hs.modCard.cardGo hs.cardFinal
    · split
      · exact hs.cardFinal
      · exact hs.cardEnd.sessionCard

theorem State.Kept.cardDone (hs : s.Kept Q C) : s.cardDone.Kept Q C := by
  unfold State.cardDone
  extract_lets
  refine .ite ?_ ?_
  · exact hs.cardGo
  · refine .ite ?_ ?_
    · exact .ite hs.cardGo hs.cardEnd.sessionCard
    · exact .ite hs.cardGo (.ite hs.cardGo (.ite hs.cardGo (.ite hs.modCard.genCard.cardGo hs.cardEnd)))

theorem State.Kept.cardOut (hs : s.Kept Q C) : s.cardOut.2.Kept Q C := by
  unfold State.cardOut
  extract_lets
  refine .itePair ?_ ?_
  · exact .pair hs
  · refine .itePair ?_ ?_
    · exact .pair hs
    · refine .itePair ?_ ?_
      · exact .pair hs
      · split
        · exact .pair hs
        · exact .pair hs.freeBytes

theorem State.Kept.cardSend {idx : Nat} (hs : s.Kept Q C) : (s.cardSend idx).Kept Q C := by
  unfold State.cardSend
  extract_lets
  refine .ite ?_ ?_
  · exact hs
  · split
    · rename_i _ s1 heq
      have h1 : s1.Kept Q C := by
        refine State.Kept.snd ?_ heq
        refine .itePair ?_ ?_
        · exact hs.draw
        · exact .pair hs
      split
      · exact h1.cardFinal
      · exact h1.modCard.cbBump

theorem State.Kept.slotStop (hs : s.Kept Q C) : s.slotStop.Kept Q C := hs.cardGone

/-! ### BadgeOps -/

theorem State.Kept.fieldEnd (hs : s.Kept Q C) : s.fieldEnd.Kept Q C := hs.modRdr
theorem State.Kept.badgeEnd {status : Nat} {counted : Bool} (hs : s.Kept Q C) : (s.badgeEnd status counted).Kept Q C := by
  unfold State.badgeEnd
  extract_lets
  split
  · exact hs
  · extract_lets _ _ s1
    have h1 : s1.Kept Q C := .ite hs.cbLog.cbStatus.wr64.cbBump.cmdStatus hs.cbLog.cbStatus.wr64.cbBump
    exact .ite h1.modRdr.irq h1.modRdr.irq.fieldEnd

theorem State.Kept.badgeGo {code : Nat} (hs : s.Kept Q C) : (s.badgeGo code).Kept Q C := hs.modRdr
theorem State.Kept.badgeSend {code : Nat} {f : Reader → List Byte} (hs : s.Kept Q C) : (s.badgeSend code f).Kept Q C := .ite hs.modRdr hs
theorem State.Kept.badgeAuthFail (hs : s.Kept Q C) : s.badgeAuthFail.Kept Q C := .ite hs.badgeGo hs.badgeEnd
theorem State.Kept.badgeChecked (hs : s.Kept Q C) : s.badgeChecked.Kept Q C := by
  unfold State.badgeChecked
  extract_lets
  refine .ite ?_ ?_
  · exact hs.modRdr.badgeGo
  · refine .ite ?_ ?_
    · refine .ite ?_ ?_
      · exact hs.badgeEnd
      · split
        · rename_i heq
          have h1 := hs.draw.snd heq
          exact h1.badgeEnd
        · rename_i heq
          have h2 := hs.draw.snd heq
          exact h2.modRdr.badgeGo
    · exact .ite hs.badgeEnd hs.badgeGo

theorem State.Kept.sessionBadge {u : Nat} (hs : s.Kept Q C) : (s.sessionBadge u).Kept Q C :=
  .ite hs (.ite hs.cmdStatus hs.modCus.sessionCheck)

theorem State.Kept.badgeAuthed (hs : s.Kept Q C) : s.badgeAuthed.Kept Q C := .ite hs.badgeGo hs.badgeGo
theorem State.Kept.badgeCount {c : Nat} (hs : s.Kept Q C) : (s.badgeCount c).Kept Q C := by
  unfold State.badgeCount
  extract_lets
  refine .ite ?_ ?_
  · exact hs.modCus.modRdr.badgeEnd
  · split
    · exact hs.badgeEnd
    · exact .ite (.ite hs.modRdr.badgeEnd hs.modRdr.badgeGo) (.ite hs.badgeEnd hs.modCus.badgeEnd.sessionBadge)

theorem State.Kept.badgeAnswer {d : List Byte} {ok : Bool} (hs : s.Kept Q C) : (s.badgeAnswer d ok).Kept Q C := by
  unfold State.badgeAnswer
  extract_lets
  refine .ite ?_ ?_
  · exact hs.modRdr.badgeGo
  · refine .ite ?_ ?_
    · exact .ite hs.modRdr.badgeGo hs.badgeAuthFail
    · refine .ite ?_ ?_
      · exact .ite hs.badgeAuthed hs.badgeAuthFail
      · refine .ite ?_ ?_
        · exact .ite hs.modRdr.badgeAuthed hs.badgeAuthFail
        · refine .ite ?_ ?_
          · exact hs.badgeCount
          · exact .ite (.ite hs.modRdr.badgeGo hs.badgeEnd) (.ite (.ite hs.badgeGo hs.badgeEnd) hs.badgeEnd)

theorem State.Kept.readerStop (hs : s.Kept Q C) : s.readerStop.Kept Q C := by
  unfold State.readerStop
  exact (State.Kept.ite hs.badgeEnd hs).modRdr

theorem State.Kept.custodianStop (hs : s.Kept Q C) : s.custodianStop.Kept Q C := hs.slotStop.readerStop
theorem State.Kept.custodianAlarm (hs : s.Kept Q C) : s.custodianAlarm.Kept Q C := .ite hs.custodianStop.modRdr hs.custodianStop
theorem State.Kept.alarm {src unit : Nat} (hs : s.Kept Q C) : (s.alarm src unit).Kept Q C :=
  .ite hs (.ite hs.modCus ((State.Kept.ite hs.modCus.bump.setFld.irq.failSession.custodianAlarm hs.modCus.bump.setFld.irq).lockFollow))

/-! ### CardCmds -/

theorem State.Kept.execCardInsert (hs : s.Kept Q C) : Answers Q C (execCardInsert s) := .done (.ite hs.modCard.cbBump.irq.cardStart hs)
theorem State.Kept.execCardPowerTimer (hs : s.Kept Q C) : Answers Q C (execCardPowerTimer s) :=
  .done (.ite hs.modCard (.ite hs.modCard hs))

theorem State.Kept.execCardReset (hs : s.Kept Q C) : Answers Q C (execCardReset s) := .done hs.cardSend
theorem State.Kept.execIdentify (hs : s.Kept Q C) : Answers Q C (execIdentify s) := .done hs.cardSend
theorem State.Kept.execAuthInit (hs : s.Kept Q C) : Answers Q C (execAuthInit s) := .done hs.cardSend
theorem State.Kept.execAuthProof (hs : s.Kept Q C) : Answers Q C (execAuthProof s) := .done hs.cardSend
theorem State.Kept.execAuthFinish (hs : s.Kept Q C) : Answers Q C (execAuthFinish s) := .done hs.cardSend
theorem State.Kept.execReadShare (hs : s.Kept Q C) : Answers Q C (execReadShare s) := .done hs.cardSend
theorem State.Kept.execBegin (hs : s.Kept Q C) : Answers Q C (execBegin s) := .done hs.cardSend
theorem State.Kept.execEnroll (hs : s.Kept Q C) : Answers Q C (execEnroll s) := .done hs.cardSend
theorem State.Kept.execWriteShare (hs : s.Kept Q C) : Answers Q C (execWriteShare s) := .done hs.cardSend
theorem State.Kept.execCommit (hs : s.Kept Q C) : Answers Q C (execCommit s) := .done hs.cardSend
theorem State.Kept.execAbort (hs : s.Kept Q C) : Answers Q C (execAbort s) := .done hs.cardSend
theorem State.Kept.execCardResponseRx {frame : BitVec 48} (hs : s.Kept Q C) : Answers Q C (execCardResponseRx frame s) := by
  unfold Machine.execCardResponseRx
  refine .done ?_
  extract_lets
  refine .ite ?_ ?_
  · exact hs
  · refine .ite ?_ ?_
    · exact hs.cardFail
    · refine .ite ?_ ?_
      · exact hs.cardCrc
      · refine .ite ?_ ?_
        · exact hs.cardCrc
        · exact .ite hs.modCard.cardFail (.ite hs.cardDone (.ite hs.modCard (.ite hs.cardOut.modCard hs.cardDone)))

theorem State.Kept.execWaitExtensionRx {b : Byte} (hs : s.Kept Q C) : Answers Q C (execWaitExtensionRx b s) :=
  .done (.ite hs (.ite hs.cardFail (.ite hs.cardFail hs.modCard.cbBump)))

theorem State.Kept.execCardResponseDeadline (hs : s.Kept Q C) : Answers Q C (execCardResponseDeadline s) := .done (.ite hs hs.cardFail)
theorem State.Kept.execCardDataBlock {data : List Byte} {crc : List Nat} (hs : s.Kept Q C) : Answers Q C (execCardDataBlock data crc s) :=
  .done (.ite hs (.ite hs.modCard (.ite hs (.ite hs.cardCrc hs.cardBlock))))

theorem State.Kept.execCardRawRemoval {out : Bool} (hs : s.Kept Q C) : Answers Q C (execCardRawRemoval out s) := by
  unfold Machine.execCardRawRemoval
  refine .done ?_
  extract_lets w1 s2
  have h2 : s2.Kept Q C := hs.modCard
  clear_value w1
  refine .ite ?_ ?_
  · exact h2
  · split
    · exact h2
    · exact h2.cardFailNow

theorem State.Kept.execCardRemoval (hs : s.Kept Q C) : Answers Q C (execCardRemoval s) := .done (.ite hs hs.cardGone.cbLog.irq.modCard)
theorem State.Kept.execGenerationTimeout (hs : s.Kept Q C) : Answers Q C (execGenerationTimeout s) := by
  unfold Machine.execGenerationTimeout
  refine .done ?_
  split
  · exact .ite hs hs.modCus
  · exact hs

theorem State.Kept.cbCmd {f : State → Nat × State} (hs : s.Kept Q C) (hf : ∀ t, t.Kept Q C → (f t).2.Kept Q C) : (s.cbCmd f).Kept Q C :=
  by
  unfold State.cbCmd
  refine State.Kept.pageWrite ?_ (fun _ h1 => by
      split
      · rename_i _ s2 heq
        have h2 : s2.Kept Q C := by
          refine State.Kept.snd ?_ heq
          refine .itePair ?_ ?_
          · exact .pair h1
          · exact hf _ h1
        exact h2.cbStatus.took)
  exact hs

theorem State.Kept.execEject (hs : s.Kept Q C) : Answers Q C (execEject s) :=
  .done (hs.pageWrite (fun _ h1 => ((State.Kept.ite h1.cardGone h1.cbStatus).modCard).took))

theorem State.Kept.execClearUnknown (hs : s.Kept Q C) : Answers Q C (execClearUnknown s) :=
  .done (hs.cbCmd (fun _ h1 => .pair h1.modCard))

theorem State.Kept.execRevoke (hs : s.Kept Q C) : Answers Q C (execRevoke s) := by
  unfold Machine.execRevoke
  refine .done ?_
  exact hs.cbCmd (fun _ h1 => by
      extract_lets
      refine .itePair ?_ ?_
      · exact .pair h1
      · refine .itePair ?_ ?_
        · exact .pair h1
        · exact .pair h1.modCus)

theorem State.Kept.execClearLog (hs : s.Kept Q C) : Answers Q C (execClearLog s) := by
  unfold Machine.execClearLog
  exact .done (hs.cbCmd (fun _ h1 => .pair h1.same))

theorem State.Kept.execCbCfgWrite {v : Reg} (hs : s.Kept Q C) : Answers Q C (execCbCfgWrite v s) := by
  unfold Machine.execCbCfgWrite
  refine .done ?_
  extract_lets
  refine State.Kept.pageWrite ?_ (fun _ h1 => by
      extract_lets s3 _ s5 s6
      have h3 : s3.Kept Q C := .ite (h1.foldl fun _ _ h4 => h4.clrCtr) h1
      have h5 : s5.Kept Q C := .ite h3.wrn h3.wrn.slotStop
      have h6 : s6.Kept Q C := .ite (.ite h5.modRdr h5) h5.readerStop
      exact .ite h3.lockDrop h6.took)
  exact hs

theorem State.Kept.execBadgePing {amp : Nat} (hs : s.Kept Q C) : Answers Q C (execBadgePing amp s) :=
  .done (.ite hs (.ite hs.modRdr (.ite hs hs.modRdr)))

theorem State.Kept.execFieldCycleTimeout (hs : s.Kept Q C) : Answers Q C (execFieldCycleTimeout s) := .done (.ite hs.cbBump.fieldEnd hs)
theorem State.Kept.execAnticollRetryTimer (hs : s.Kept Q C) : Answers Q C (execAnticollRetryTimer s) :=
  .done (.ite hs (.ite hs.modRdr hs.cbLog.cbStatus.cbBump.fieldEnd.modRdr))

theorem State.Kept.execWupa (hs : s.Kept Q C) : Answers Q C (execWupa s) := by
  unfold Machine.execWupa
  refine .done ?_
  extract_lets
  refine .ite ?_ ?_
  · exact hs.modRdr
  · refine .ite ?_ ?_
    · split
      · exact hs.fieldEnd
      · exact hs.modRdr
    · exact hs

theorem State.Kept.execHlta {uid atqa sak : Nat} (hs : s.Kept Q C) : Answers Q C (execHlta uid atqa sak s) :=
  .done (.ite hs (.ite hs.modRdr.cbBump (.ite hs.modRdr hs.modRdr.modRdr)))

theorem State.Kept.execOriginRead (hs : s.Kept Q C) : Answers Q C (execOriginRead s) := .done hs.badgeSend
theorem State.Kept.execOriginVerifyDone (hs : s.Kept Q C) : Answers Q C (execOriginVerifyDone s) :=
  .done (.ite hs (.ite hs.badgeChecked hs.badgeEnd))

theorem State.Kept.execAuth1 (hs : s.Kept Q C) : Answers Q C (execAuth1 s) := by
  unfold Machine.execAuth1
  refine .done ?_
  extract_lets
  refine .ite ?_ ?_
  · split
    · rename_i heq
      have h1 := hs.draw.snd heq
      exact h1.badgeEnd
    · rename_i heq
      have h2 := hs.draw.snd heq
      exact h2.modRdr.badgeSend
  · exact hs

theorem State.Kept.execAuth2 (hs : s.Kept Q C) : Answers Q C (execAuth2 s) := .done hs.badgeSend
theorem State.Kept.execPassAuth (hs : s.Kept Q C) : Answers Q C (execPassAuth s) := .done hs.badgeSend
theorem State.Kept.execCountRead (hs : s.Kept Q C) : Answers Q C (execCountRead s) := .done hs.badgeSend
theorem State.Kept.execCountStep (hs : s.Kept Q C) : Answers Q C (execCountStep s) := .done hs.badgeSend
theorem State.Kept.execSetKey (hs : s.Kept Q C) : Answers Q C (execSetKey s) := .done hs.badgeSend
theorem State.Kept.execKill (hs : s.Kept Q C) : Answers Q C (execKill s) := .done hs.badgeSend
theorem State.Kept.execBadgeResponseRx {data : List Byte} {ok : Bool} (hs : s.Kept Q C) : Answers Q C (execBadgeResponseRx data ok s) :=
  .done (.ite hs.badgeAnswer hs)

theorem State.Kept.execBadgeResponseTimeout {left : Bool} (hs : s.Kept Q C) : Answers Q C (execBadgeResponseTimeout left s) := by
  unfold Machine.execBadgeResponseTimeout
  refine .done ?_
  extract_lets
  refine .ite ?_ ?_
  · exact hs
  · exact .ite hs.badgeEnd (.ite hs.badgeEnd (.ite hs.badgeAuthFail (.ite hs.badgeEnd hs.badgeEnd)))

/-! ### ContextCmds -/

theorem State.Kept.ctxStat {o code : Nat} {busy : Bool} (hs : s.Kept Q C) : (s.ctxStat o code busy).Kept Q C := hs.status.setFld
theorem State.Kept.ctxCmd {o : Nat} {f : State → Nat × State} (hs : s.Kept Q C) (hf : ∀ t, t.Kept Q C → (f t).2.Kept Q C) :
    (s.ctxCmd o f).Kept Q C := .ite hs.status ((hf _ hs).ctxStat)

theorem State.Kept.execCreate {o i : Nat} (hs : s.Kept Q C) : Answers Q C (execCreate o i s) := by
  unfold Machine.execCreate
  refine .done ?_
  refine State.Kept.ctxCmd ?_ (fun _ h1 => by
      extract_lets
      refine .itePair ?_ ?_
      · exact .pair h1
      · refine .itePair ?_ ?_
        · exact .pair h1
        · refine .itePair ?_ ?_
          · exact .pair h1
          · refine .itePair ?_ ?_
            · exact .pair h1
            · refine .itePair ?_ ?_
              · exact .pair h1
              · exact .pair (.ite h1.same.reachCtx.ctxDelta.irq h1.same.reachCtx.ctxDelta))
  exact hs

theorem State.Kept.execModify {o i : Nat} (hs : s.Kept Q C) : Answers Q C (execModify o i s) := by
  unfold Machine.execModify
  refine .done ?_
  refine State.Kept.ctxCmd ?_ (fun _ h1 => by
      extract_lets
      refine .itePair ?_ ?_
      · exact .pair h1
      · refine .itePair ?_ ?_
        · exact .pair h1
        · refine .itePair ?_ ?_
          · exact .pair h1
          · refine .itePair ?_ ?_
            · exact .pair h1
            · refine .itePair ?_ ?_
              · exact .pair h1
              · exact .pair h1.reachCtx.modCtx.ctxDelta)
  exact hs

theorem State.Kept.execCtxRead {o i : Nat} (hs : s.Kept Q C) : Answers Q C (execCtxRead o i s) := .done (hs.ctxCmd (fun _ h1 => by
    extract_lets
    refine .itePair ?_ ?_
    · exact .pair h1
    · exact .pair (h1.reachCtx.foldl fun _ _ h2 => h2.wrn)))

theorem State.Kept.execDestroy {o i : Nat} (hs : s.Kept Q C) : Answers Q C (execDestroy o i s) := by
  unfold Machine.execDestroy
  refine .done ?_
  refine State.Kept.ctxCmd ?_ (fun _ h1 => by
      extract_lets
      refine .itePair ?_ ?_
      · exact .pair h1
      · refine .itePair ?_ ?_
        · exact .pair h1
        · exact .pair h1.reachCtx.modCached.ctxDelta)
  exact hs

theorem State.Kept.execResetLimiter {o i : Nat} (hs : s.Kept Q C) : Answers Q C (execResetLimiter o i s) :=
  .done (hs.ctxCmd (fun _ h1 => by
    refine .itePair ?_ ?_
    · exact .pair h1
    · exact .pair h1.reachCtx.modCtx))

theorem State.Kept.execCtxCmdComplete {o : Nat} (hs : s.Kept Q C) : Answers Q C (execCtxCmdComplete o s) := .done hs.setFld
theorem State.Kept.execContextFillDone {i : Nat} (hs : s.Kept Q C) : Answers Q C (execContextFillDone i s) := by
  unfold Machine.execContextFillDone
  refine .done ?_
  extract_lets s1
  have h1 : s1.Kept Q C := hs.fillCtx
  exact h1.same

theorem State.Kept.execContextWriteback {i : Nat} (hs : s.Kept Q C) : Answers Q C (execContextWriteback i s) := by
  unfold Machine.execContextWriteback
  refine .done ?_
  split
  · exact .ite hs.writeBack hs
  · exact hs

theorem State.Kept.dropCtxOp {x : CtxOp} (hs : s.Kept Q C) : (s.dropCtxOp x).Kept Q C := hs.same
theorem State.Kept.execCtxupdStore {c t : Nat} (hs : s.Kept Q C) : Answers Q C (execCtxupdStore c t s) := by
  unfold Machine.execCtxupdStore
  refine .done ?_
  split
  · exact hs
  · exact hs.dropCtxOp.ctxUpdate.completeTicket

theorem State.Kept.execCtxupdAdd {c t : Nat} (hs : s.Kept Q C) : Answers Q C (execCtxupdAdd c t s) := by
  unfold Machine.execCtxupdAdd
  refine .done ?_
  split
  · exact hs
  · exact hs.dropCtxOp.ctxUpdate.completeTicket

theorem State.Kept.execCtxupdRead {c t : Nat} (hs : s.Kept Q C) : Answers Q C (execCtxupdRead c t s) := by
  unfold Machine.execCtxupdRead
  refine .done ?_
  split
  · exact hs
  · exact .ite hs.dropCtxOp.kvBump.completeTicket (.ite hs.dropCtxOp.kvBump.completeTicket
      hs.dropCtxOp.reachCtx.setBytes.kvBump.completeTicket)

/-! ### CoreOps -/

theorem State.Kept.setReg {c r : Nat} {v : Word} (hs : s.Kept Q C) : (s.setReg c r v).Kept Q C := hs.modCore
theorem State.Kept.setRegN {c r v : Nat} (hs : s.Kept Q C) : (s.setRegN c r v).Kept Q C := hs.setReg
theorem State.Kept.coreViolation {c cls k a : Nat} (hs : s.Kept Q C) : (s.coreViolation c cls k a).Kept Q C := hs.violation
theorem State.Kept.lateReport {c a sub : Nat} (hs : s.Kept Q C) : (s.lateReport c a sub).Kept Q C := hs.modCore
theorem State.Kept.pkProd {o q v : Nat} (hs : s.Kept Q C) : (s.pkProd o q v).Kept Q C := .ite hs.status.irq hs.setFld
theorem State.Kept.kickWatchdog (hs : s.Kept Q C) : s.kickWatchdog.Kept Q C := hs.setFld
theorem State.Kept.storeArrives {c a : Nat} {bs : List Byte} {ring : Nat} (hs : s.Kept Q C) : (s.storeArrives c a bs ring).Kept Q C := by
  unfold State.storeArrives
  extract_lets _ _ _ s1
  have h1 : s1.Kept Q C := .ite hs hs.fencedPut
  split
  · exact h1.violation.lateReport
  · refine .ite ?_ (.ite hs.pkProd (.ite (.ite hs.kickWatchdog hs) hs.setBytes))
    split
    rename_i heq
    have h2 := hs.mbCoreStore.snd heq
    exact .ite h2.lateReport h2

theorem State.Kept.drainOne {c : Nat} (hs : s.Kept Q C) : (s.drainOne c).Kept Q C := by
  unfold State.drainOne
  split
  · exact hs
  · exact hs.modCore.storeArrives

theorem State.Kept.drain {c : Nat} (hs : s.Kept Q C) : (s.drain c).Kept Q C := hs.foldl fun _ _ h1 => h1.drainOne
theorem State.Kept.recordExc {c epc code addr status : Nat} (hs : s.Kept Q C) : (s.recordExc c epc code addr status).Kept Q C :=
  hs.wrn.wrn.wr64.wrn

theorem State.Kept.countExc {c cause : Nat} (hs : s.Kept Q C) : (s.countExc c cause).Kept Q C := hs.wrn
theorem State.Kept.enterExc {c cause sub : Nat} {addr : Word} {epc : Nat} {ds async : Bool} (hs : s.Kept Q C) :
    (s.enterExc c cause sub addr epc ds async).Kept Q C := by
  unfold State.enterExc
  extract_lets _ _ s1 s2 s3 _ _ _ s4
  have h1 : s1.Kept Q C := hs.countExc
  have h2 : s2.Kept Q C := h1.setCore.recordExc
  have h3 : s3.Kept Q C := h1.setCore
  have h4 : s4.Kept Q C := h1.setCore
  exact .ite h2.setFld.irq (.ite h3.recordExc.setFld.irq h4.recordExc)

theorem State.Kept.takeLate {c epc : Nat} (hs : s.Kept Q C) : (s.takeLate c epc).Kept Q C := by
  unfold State.takeLate
  split
  · exact hs
  · exact hs.modCore.enterExc

theorem State.Kept.raise {c cause sub : Nat} {addr : Word} {async : Bool} (hs : s.Kept Q C) : (s.raise c cause sub addr async).Kept Q C :=
  by
  unfold State.raise
  split
  · extract_lets s1
    have h1 : s1.Kept Q C := hs.setCore.drain
    exact .ite h1.takeLate h1.enterExc

theorem State.Kept.lateAtDrain {c : Nat} (hs : s.Kept Q C) : (s.lateAtDrain c).Kept Q C := hs.setCore.takeLate
theorem State.Kept.boundary {c : Nat} {t : State} (hs : s.Kept Q C) (he : s.boundary c = some t) : t.Kept Q C := by
  unfold State.boundary at he
  extract_lets x u at he
  have hu : u.Kept Q C := hs.drain
  split at he
  · cases he
  · split at he
    · exact Option.some.inj he ▸ hs.raise
    · split at he
      · split at he
        · exact Option.some.inj he ▸ hu.lateAtDrain
        · exact Option.some.inj he ▸ hu.modCore.raise
      · split at he
        · exact Option.some.inj he ▸ hs.raise
        · cases he

theorem State.Kept.stopIfAsked {c : Nat} (hs : s.Kept Q C) : (s.stopIfAsked c).Kept Q C := .ite hs.drain.modCore hs
theorem State.Kept.coreCounts {c : Nat} {x : Core} (hs : s.Kept Q C) : (s.coreCounts c x).Kept Q C := by
  unfold State.coreCounts
  exact hs.foldl fun _ _ h1 => .ite h1 h1.event

theorem State.Kept.complete {c : Nat} {next : Word} (hs : s.Kept Q C) : (s.complete c next).Kept Q C := hs.setCore.coreCounts.stopIfAsked
theorem State.Kept.issue {c word : Nat} {legal ctl : Bool} {body : Core → State → CoreRes} (hs : s.Kept Q C)
    (hf : ∀ x t, t.Kept Q C → (body x t).state.Kept Q C) : (s.issue c word legal ctl body).Kept Q C := by
  unfold State.issue
  dsimp only
  split
  · exact hs
  · split
    · rename_i heq
      exact hs.boundary heq
    · split
      · exact hs.raise
      · split
        · exact hs.violation.raise
        · split
          · exact hs.raise
          · split
            · exact hs.raise
            · have h1 := hf (s.core c) s hs
              cases e : body (s.core c) s <;> rw [e] at h1
              case ok => exact State.Kept.complete h1
              case goto => exact State.Kept.complete h1
              case xfer => exact State.Kept.coreCounts (State.Kept.modCore h1)
              case trap => exact State.Kept.raise h1
              case stall => exact State.Kept.coreCounts (State.Kept.modCore h1)
              case late => exact State.Kept.lateAtDrain h1

theorem State.Kept.drained {c : Nat} {k : State → CoreRes} (hs : s.Kept Q C) (hf : ∀ t, t.Kept Q C → (k t).state.Kept Q C) :
    (drained c s k).state.Kept Q C := CoreRes.kept_ite (CoreRes.kept_late hs.drain) (hf _ hs.drain)

theorem State.Kept.loadAt {c a n : Nat} {k : List Byte → State → CoreRes} (hs : s.Kept Q C) (hf : ∀ y1 t, t.Kept Q C → (k y1
    t).state.Kept Q C) : (s.loadAt c a n k).state.Kept Q C := by
  unfold State.loadAt
  extract_lets
  refine CoreRes.kept_ite ?_ ?_
  · exact CoreRes.kept_trap hs
  · refine CoreRes.kept_ite ?_ ?_
    · exact CoreRes.kept_trap hs
    · split
      · exact CoreRes.kept_trap hs.coreViolation
      · exact hf _ _ hs

theorem State.Kept.storeAt {c a : Nat} {bs : List Byte} (hs : s.Kept Q C) : (s.storeAt c a bs).state.Kept Q C := by
  unfold State.storeAt
  extract_lets
  refine CoreRes.kept_ite ?_ ?_
  · exact CoreRes.kept_trap hs
  · split
    · exact CoreRes.kept_trap hs
    · exact CoreRes.kept_ite (CoreRes.kept_stall hs) (CoreRes.kept_ok hs.modCore)
    · split
      · split
        · exact CoreRes.kept_ok hs.setBytes
        · exact CoreRes.kept_trap hs.fencedPut.violation

theorem State.Kept.atomicAt {c rd a : Nat} {f : Word → Option Word × Word} (hs : s.Kept Q C) : (s.atomicAt c rd a f).state.Kept Q C := by
  unfold State.atomicAt
  extract_lets
  refine State.Kept.drained ?_ (fun _ h1 => by
      extract_lets
      refine CoreRes.kept_ite ?_ ?_
      · exact CoreRes.kept_trap h1
      · refine CoreRes.kept_ite ?_ ?_
        · exact CoreRes.kept_trap h1
        · split
          · exact CoreRes.kept_trap h1.violation
          · split
            · extract_lets s2
              have h2 : s2.Kept Q C := by
                unfold s2
                split
                · exact h1
                · exact h1.setLe
              exact CoreRes.kept_ok h2.setReg)
  exact hs

/-! ### SlotOps -/

theorem State.Kept.zeroTransient {c k : Nat} (hs : s.Kept Q C) : (s.zeroTransient c k).Kept Q C := hs.same
theorem State.Kept.closeSlot {c k : Nat} (hs : s.Kept Q C) : (s.closeSlot c k).Kept Q C := by
  unfold State.closeSlot
  exact .ite hs.same.zeroTransient.takeQueued hs

theorem State.Kept.closeSlots (hs : s.Kept Q C) : s.closeSlots.Kept Q C := hs.foldl fun _ _ h1 => h1.closeSlot
theorem State.Kept.releaseSlot {c k : Nat} (hs : s.Kept Q C) : (s.releaseSlot c k).Kept Q C := by
  unfold State.releaseSlot
  split
  · exact hs
  · extract_lets s1 _ s2
    have h1 : s1.Kept Q C := hs.modVerdict.modCore
    have h2 : s2.Kept Q C := h1.same
    exact h2.verdictEnd.closeSlot

theorem State.Kept.resetCore {c : Nat} (hs : s.Kept Q C) : (s.resetCore c).Kept Q C :=
  ((((hs.foldl fun _ _ h1 => h1.releaseSlot).setCore).wrn).wrn).setFld

theorem State.Kept.takeTicket {c t : Nat} {rd : BitVec 5} (hs : s.Kept Q C) : (s.takeTicket c t rd).Kept Q C := hs.modCore.setRegN

/-! ### CoreEvents -/

theorem State.Kept.execTicketComplete {c t code : Nat} (hs : s.Kept Q C) : Answers Q C (execTicketComplete c t code s) :=
  .done hs.completeTicket

theorem State.Kept.execInterruptEntry {c : Nat} (hs : s.Kept Q C) : Answers Q C (execInterruptEntry c s) := by
  unfold Machine.execInterruptEntry
  refine .done ?_
  refine .ite ?_ ?_
  · split
    · rename_i heq
      have h1 := hs.boundary heq
      exact h1
    · exact hs
  · exact hs

theorem State.Kept.execTimerCompare {c : Nat} (hs : s.Kept Q C) : Answers Q C (execTimerCompare c s) :=
  .done (.ite hs.setCore.coreCounts hs)

theorem State.Kept.execVbudgetExpiry {c k : Nat} (hs : s.Kept Q C) : Answers Q C (execVbudgetExpiry c k s) := by
  unfold Machine.execVbudgetExpiry
  refine .done ?_
  split
  · exact hs
  · split
    · exact hs
    · exact .ite hs.modVerdict.modCore.coreCounts hs

theorem State.Kept.execWdogStage1 {c : Nat} (hs : s.Kept Q C) : Answers Q C (execWdogStage1 c s) := .done (.ite hs.setCore hs)
theorem State.Kept.execWdogStage2 {c : Nat} (hs : s.Kept Q C) : Answers Q C (execWdogStage2 c s) :=
  .done (.ite (.ite hs.resetCore.status.setFld.irq.modCore hs.resetCore.status.setFld.irq.setFld) hs)

theorem State.Kept.execVcRun {c : Nat} {run : Bool} (hs : s.Kept Q C) : Answers Q C (execVcRun c run s) := by
  unfold Machine.execVcRun
  refine .done ?_
  exact hs.pageWrite (fun _ h1 => .ite (.ite h1.setFld.took.setCore h1.setFld.took.setCore) (.ite (.ite h1.setFld.took.setCore
    h1.setFld.took.drain.modCore) h1.setFld.took))

theorem State.Kept.execVcReset {c : Nat} {run : Bool} (hs : s.Kept Q C) : Answers Q C (execVcReset c run s) :=
  .done (hs.pageWrite (fun _ h1 => .ite h1.status h1.resetCore.setFld.took.endGrant))

/-! ### CoreSpecial -/

theorem State.Kept.execMfs {c : Nat} {rd ra : BitVec 5} {imm : BitVec 16} (hs : s.Kept Q C) : Answers Q C (execMfs c rd ra imm s) :=
  .done (hs.issue (fun _ _ h1 => by
    split
    · exact CoreRes.kept_trap h1
    · exact CoreRes.kept_trap h1
    · exact CoreRes.kept_ok h1.setReg))

theorem State.Kept.execMts {c : Nat} {rd ra : BitVec 5} {imm : BitVec 16} (hs : s.Kept Q C) : Answers Q C (execMts c rd ra imm s) := by
  unfold Machine.execMts
  extract_lets
  refine .done ?_
  refine State.Kept.issue ?_ (fun _ _ h1 => by
      extract_lets
      split
      · exact CoreRes.kept_trap h1
      · exact CoreRes.kept_trap h1
      · exact CoreRes.kept_ite (h1.drained (fun _ h2 => CoreRes.kept_ok h2)) (CoreRes.kept_ok h1)
      · split
        · exact CoreRes.kept_trap h1
        · exact CoreRes.kept_ite (h1.drained (fun _ h3 => CoreRes.kept_ok h3.modCore)) (CoreRes.kept_ok h1.modCore))
  exact hs

/-! ### CoreFlow -/

theorem State.Kept.branch {c major : Nat} {ra : BitVec 5} {off : BitVec 21} {cond : Word → Bool} (hs : s.Kept Q C) :
    (branch c major ra off cond s).Kept Q C := hs.issue (fun _ _ h1 => CoreRes.kept_xfer h1)

theorem State.Kept.execBeqz {c : Nat} {ra : BitVec 5} {off : BitVec 21} (hs : s.Kept Q C) : Answers Q C (execBeqz c ra off s) :=
  .done hs.branch

theorem State.Kept.execBnez {c : Nat} {ra : BitVec 5} {off : BitVec 21} (hs : s.Kept Q C) : Answers Q C (execBnez c ra off s) :=
  .done hs.branch

theorem State.Kept.execBltz {c : Nat} {ra : BitVec 5} {off : BitVec 21} (hs : s.Kept Q C) : Answers Q C (execBltz c ra off s) :=
  .done hs.branch

theorem State.Kept.execBgez {c : Nat} {ra : BitVec 5} {off : BitVec 21} (hs : s.Kept Q C) : Answers Q C (execBgez c ra off s) :=
  .done hs.branch

theorem State.Kept.execBgtz {c : Nat} {ra : BitVec 5} {off : BitVec 21} (hs : s.Kept Q C) : Answers Q C (execBgtz c ra off s) :=
  .done hs.branch

theorem State.Kept.execBlez {c : Nat} {ra : BitVec 5} {off : BitVec 21} (hs : s.Kept Q C) : Answers Q C (execBlez c ra off s) :=
  .done hs.branch

theorem State.Kept.execJ {c : Nat} {off : BitVec 26} (hs : s.Kept Q C) : Answers Q C (execJ c off s) :=
  .done (hs.issue (fun _ _ h1 => CoreRes.kept_xfer h1))

theorem State.Kept.execCall {c : Nat} {off : BitVec 26} (hs : s.Kept Q C) : Answers Q C (execCall c off s) :=
  .done (hs.issue (fun _ _ h1 => CoreRes.kept_xfer h1.setReg))

theorem State.Kept.execJr {c : Nat} {rd ra rb : BitVec 5} (hs : s.Kept Q C) : Answers Q C (execJr c rd ra rb s) :=
  .done (hs.issue (fun _ _ h1 => CoreRes.kept_ite (CoreRes.kept_trap h1) (CoreRes.kept_xfer h1)))

theorem State.Kept.execJalr {c : Nat} {rd ra rb : BitVec 5} (hs : s.Kept Q C) : Answers Q C (execJalr c rd ra rb s) :=
  .done (hs.issue (fun _ _ h1 => CoreRes.kept_ite (CoreRes.kept_trap h1) (CoreRes.kept_xfer h1.setReg)))

theorem State.Kept.execGate {c : Nat} {rd ra : BitVec 5} {imm : BitVec 16} (hs : s.Kept Q C) : Answers Q C (execGate c rd ra imm s) := by
  unfold Machine.execGate
  refine .done ?_
  extract_lets
  refine State.Kept.issue ?_ (fun _ _ h1 => by
      extract_lets
      refine State.Kept.drained ?_ (fun _ h2 => by
          extract_lets
          refine CoreRes.kept_ite ?_ ?_
          · exact CoreRes.kept_trap h2
          · refine CoreRes.kept_ite ?_ ?_
            · exact CoreRes.kept_trap h2
            · refine CoreRes.kept_ite ?_ ?_
              · exact CoreRes.kept_trap h2
              · split
                · exact CoreRes.kept_trap h2
                · exact CoreRes.kept_ite (CoreRes.kept_trap h2) (CoreRes.kept_goto h2.setBytes.modCore))
      exact h1)
  exact hs

theorem State.Kept.execRetg {c : Nat} {rd ra rb : BitVec 5} (hs : s.Kept Q C) : Answers Q C (execRetg c rd ra rb s) :=
  .done (hs.issue (fun _ _ h1 => h1.drained (fun _ h2 => CoreRes.kept_ite (CoreRes.kept_goto h2.modCore) (CoreRes.kept_trap h2))))

theorem State.Kept.execEret {c : Nat} {rd ra rb : BitVec 5} (hs : s.Kept Q C) : Answers Q C (execEret c rd ra rb s) :=
  .done (hs.issue (fun _ _ h1 => CoreRes.kept_ite (CoreRes.kept_trap h1) (h1.drained (fun _ h2 => CoreRes.kept_goto h2.setCore))))

theorem State.Kept.execLoop {c : Nat} {n imm : Bool} {cnt : BitVec 10} {len : BitVec 14} (hs : s.Kept Q C) : Answers Q C (execLoop c n
    imm cnt len s) := .done (hs.issue (fun _ _ h1 => CoreRes.kept_ite (CoreRes.kept_trap h1) (CoreRes.kept_ite (CoreRes.kept_trap h1)
    (CoreRes.kept_goto h1.modCore))))

/-! ### Flags -/

theorem State.Kept.intFlags {c : Nat} {v dz : Bool} (hs : s.Kept Q C) : (s.intFlags c v dz).Kept Q C := .ite hs.setCore hs
theorem State.Kept.intDone {c : Nat} {rd : BitVec 5} {val : Word} {v dz : Bool} (hs : s.Kept Q C) :
    (s.intDone c rd val v dz).state.Kept Q C := CoreRes.kept_ite (CoreRes.kept_trap hs.intFlags) (CoreRes.kept_ite (CoreRes.kept_trap
    hs.intFlags) (CoreRes.kept_ok hs.intFlags.setReg))

/-! ### CoreInt -/

theorem State.Kept.intOp {c func : Nat} {rd ra rb : BitVec 5} {w useB : Bool} {f :
    (n : Nat) → BitVec n → BitVec n → IntRes n} (hs : s.Kept Q C) : (intOp c func rd ra rb w useB f s).Kept Q C := hs.issue (fun _ _ h1
    => CoreRes.kept_ite h1.intDone h1.intDone)

theorem State.Kept.intOp64 {c func : Nat} {rd ra rb : BitVec 5} {useB : Bool} {f : Word → Word → Word} (hs : s.Kept Q C) :
    (intOp64 c func rd ra rb useB f s).Kept Q C := hs.issue (fun _ _ h1 => h1.intDone)

theorem State.Kept.execAdd {c : Nat} {rd ra rb : BitVec 5} {w : Bool} (hs : s.Kept Q C) : Answers Q C (execAdd c rd ra rb w s) :=
  .done hs.intOp

theorem State.Kept.execSub {c : Nat} {rd ra rb : BitVec 5} {w : Bool} (hs : s.Kept Q C) : Answers Q C (execSub c rd ra rb w s) :=
  .done hs.intOp

theorem State.Kept.execAddo {c : Nat} {rd ra rb : BitVec 5} {w : Bool} (hs : s.Kept Q C) : Answers Q C (execAddo c rd ra rb w s) :=
  .done hs.intOp

theorem State.Kept.execSubo {c : Nat} {rd ra rb : BitVec 5} {w : Bool} (hs : s.Kept Q C) : Answers Q C (execSubo c rd ra rb w s) :=
  .done hs.intOp

theorem State.Kept.execNeg {c : Nat} {rd ra rb : BitVec 5} {w : Bool} (hs : s.Kept Q C) : Answers Q C (execNeg c rd ra rb w s) :=
  .done hs.intOp

theorem State.Kept.execAbs {c : Nat} {rd ra rb : BitVec 5} {w : Bool} (hs : s.Kept Q C) : Answers Q C (execAbs c rd ra rb w s) :=
  .done hs.intOp

theorem State.Kept.execAnd {c : Nat} {rd ra rb : BitVec 5} (hs : s.Kept Q C) : Answers Q C (execAnd c rd ra rb s) := .done hs.intOp64
theorem State.Kept.execOr {c : Nat} {rd ra rb : BitVec 5} (hs : s.Kept Q C) : Answers Q C (execOr c rd ra rb s) := .done hs.intOp64
theorem State.Kept.execXor {c : Nat} {rd ra rb : BitVec 5} (hs : s.Kept Q C) : Answers Q C (execXor c rd ra rb s) := .done hs.intOp64
theorem State.Kept.execSll {c : Nat} {rd ra rb : BitVec 5} {w : Bool} (hs : s.Kept Q C) : Answers Q C (execSll c rd ra rb w s) :=
  .done hs.intOp

theorem State.Kept.execSrl {c : Nat} {rd ra rb : BitVec 5} {w : Bool} (hs : s.Kept Q C) : Answers Q C (execSrl c rd ra rb w s) :=
  .done hs.intOp

theorem State.Kept.execSra {c : Nat} {rd ra rb : BitVec 5} {w : Bool} (hs : s.Kept Q C) : Answers Q C (execSra c rd ra rb w s) :=
  .done hs.intOp

theorem State.Kept.execRor {c : Nat} {rd ra rb : BitVec 5} {w : Bool} (hs : s.Kept Q C) : Answers Q C (execRor c rd ra rb w s) :=
  .done hs.intOp

theorem State.Kept.execSlt {c : Nat} {rd ra rb : BitVec 5} (hs : s.Kept Q C) : Answers Q C (execSlt c rd ra rb s) := .done hs.intOp64
theorem State.Kept.execSltu {c : Nat} {rd ra rb : BitVec 5} (hs : s.Kept Q C) : Answers Q C (execSltu c rd ra rb s) := .done hs.intOp64
theorem State.Kept.execSeq {c : Nat} {rd ra rb : BitVec 5} (hs : s.Kept Q C) : Answers Q C (execSeq c rd ra rb s) := .done hs.intOp64
theorem State.Kept.execMin {c : Nat} {rd ra rb : BitVec 5} (hs : s.Kept Q C) : Answers Q C (execMin c rd ra rb s) := .done hs.intOp64
theorem State.Kept.execMax {c : Nat} {rd ra rb : BitVec 5} (hs : s.Kept Q C) : Answers Q C (execMax c rd ra rb s) := .done hs.intOp64
theorem State.Kept.execMul {c : Nat} {rd ra rb : BitVec 5} {w : Bool} (hs : s.Kept Q C) : Answers Q C (execMul c rd ra rb w s) :=
  .done hs.intOp

theorem State.Kept.execMulh {c : Nat} {rd ra rb : BitVec 5} (hs : s.Kept Q C) : Answers Q C (execMulh c rd ra rb s) := .done hs.intOp64
theorem State.Kept.execMulhu {c : Nat} {rd ra rb : BitVec 5} (hs : s.Kept Q C) : Answers Q C (execMulhu c rd ra rb s) := .done hs.intOp64
theorem State.Kept.execMulo {c : Nat} {rd ra rb : BitVec 5} {w : Bool} (hs : s.Kept Q C) : Answers Q C (execMulo c rd ra rb w s) :=
  .done hs.intOp

theorem State.Kept.execDiv {c : Nat} {rd ra rb : BitVec 5} {w : Bool} (hs : s.Kept Q C) : Answers Q C (execDiv c rd ra rb w s) :=
  .done hs.intOp

theorem State.Kept.execDivu {c : Nat} {rd ra rb : BitVec 5} {w : Bool} (hs : s.Kept Q C) : Answers Q C (execDivu c rd ra rb w s) :=
  .done hs.intOp

theorem State.Kept.execRem {c : Nat} {rd ra rb : BitVec 5} {w : Bool} (hs : s.Kept Q C) : Answers Q C (execRem c rd ra rb w s) :=
  .done hs.intOp

theorem State.Kept.execRemu {c : Nat} {rd ra rb : BitVec 5} {w : Bool} (hs : s.Kept Q C) : Answers Q C (execRemu c rd ra rb w s) :=
  .done hs.intOp

theorem State.Kept.execClz {c : Nat} {rd ra rb : BitVec 5} (hs : s.Kept Q C) : Answers Q C (execClz c rd ra rb s) := .done hs.intOp64
theorem State.Kept.execCtz {c : Nat} {rd ra rb : BitVec 5} (hs : s.Kept Q C) : Answers Q C (execCtz c rd ra rb s) := .done hs.intOp64
theorem State.Kept.execPopc {c : Nat} {rd ra rb : BitVec 5} (hs : s.Kept Q C) : Answers Q C (execPopc c rd ra rb s) := .done hs.intOp64
theorem State.Kept.execBswap {c : Nat} {rd ra rb : BitVec 5} (hs : s.Kept Q C) : Answers Q C (execBswap c rd ra rb s) := .done hs.intOp64
theorem State.Kept.execSextb {c : Nat} {rd ra rb : BitVec 5} (hs : s.Kept Q C) : Answers Q C (execSextb c rd ra rb s) := .done hs.intOp64
theorem State.Kept.execSexth {c : Nat} {rd ra rb : BitVec 5} (hs : s.Kept Q C) : Answers Q C (execSexth c rd ra rb s) := .done hs.intOp64
theorem State.Kept.execZextw {c : Nat} {rd ra rb : BitVec 5} (hs : s.Kept Q C) : Answers Q C (execZextw c rd ra rb s) := .done hs.intOp64
theorem State.Kept.condMove {c func : Nat} {rd ra rb : BitVec 5} {zero : Bool} (hs : s.Kept Q C) :
    (condMove c func rd ra rb zero s).Kept Q C := hs.issue (fun _ _ h1 => CoreRes.kept_ite h1.intDone (CoreRes.kept_ok h1))

theorem State.Kept.execCmovz {c : Nat} {rd ra rb : BitVec 5} (hs : s.Kept Q C) : Answers Q C (execCmovz c rd ra rb s) := .done hs.condMove
theorem State.Kept.execCmovn {c : Nat} {rd ra rb : BitVec 5} (hs : s.Kept Q C) : Answers Q C (execCmovn c rd ra rb s) := .done hs.condMove
theorem State.Kept.immOp {c major : Nat} {rd ra : BitVec 5} {imm : BitVec 16} {legal : Bool} {f : Word → Word} (hs : s.Kept Q C) :
    (immOp c major rd ra imm legal f s).Kept Q C := hs.issue (fun _ _ h1 => h1.intDone)

theorem State.Kept.execAddi {c : Nat} {rd ra : BitVec 5} {imm : BitVec 16} (hs : s.Kept Q C) : Answers Q C (execAddi c rd ra imm s) :=
  .done hs.immOp

theorem State.Kept.execAddiw {c : Nat} {rd ra : BitVec 5} {imm : BitVec 16} (hs : s.Kept Q C) : Answers Q C (execAddiw c rd ra imm s) :=
  .done hs.immOp

theorem State.Kept.execAndi {c : Nat} {rd ra : BitVec 5} {imm : BitVec 16} (hs : s.Kept Q C) : Answers Q C (execAndi c rd ra imm s) :=
  .done hs.immOp

theorem State.Kept.execOri {c : Nat} {rd ra : BitVec 5} {imm : BitVec 16} (hs : s.Kept Q C) : Answers Q C (execOri c rd ra imm s) :=
  .done hs.immOp

theorem State.Kept.execXori {c : Nat} {rd ra : BitVec 5} {imm : BitVec 16} (hs : s.Kept Q C) : Answers Q C (execXori c rd ra imm s) :=
  .done hs.immOp

theorem State.Kept.execSlti {c : Nat} {rd ra : BitVec 5} {imm : BitVec 16} (hs : s.Kept Q C) : Answers Q C (execSlti c rd ra imm s) :=
  .done hs.immOp

theorem State.Kept.execSltiu {c : Nat} {rd ra : BitVec 5} {imm : BitVec 16} (hs : s.Kept Q C) : Answers Q C (execSltiu c rd ra imm s) :=
  .done hs.immOp

theorem State.Kept.execLui {c : Nat} {rd ra : BitVec 5} {imm : BitVec 16} (hs : s.Kept Q C) : Answers Q C (execLui c rd ra imm s) :=
  .done hs.immOp

theorem State.Kept.shiftImm {c op : Nat} {rd ra : BitVec 5} {cnt : BitVec 8} {w : Bool} {f :
    (n : Nat) → BitVec n → Nat → BitVec n} (hs : s.Kept Q C) : (shiftImm c op rd ra cnt w f s).Kept Q C := hs.immOp

theorem State.Kept.execSlli {c : Nat} {rd ra : BitVec 5} {cnt : BitVec 8} {w : Bool} (hs : s.Kept Q C) : Answers Q C (execSlli c rd ra
    cnt w s) := .done hs.shiftImm

theorem State.Kept.execSrli {c : Nat} {rd ra : BitVec 5} {cnt : BitVec 8} {w : Bool} (hs : s.Kept Q C) : Answers Q C (execSrli c rd ra
    cnt w s) := .done hs.shiftImm

theorem State.Kept.execSrai {c : Nat} {rd ra : BitVec 5} {cnt : BitVec 8} {w : Bool} (hs : s.Kept Q C) : Answers Q C (execSrai c rd ra
    cnt w s) := .done hs.shiftImm

theorem State.Kept.execRori {c : Nat} {rd ra : BitVec 5} {cnt : BitVec 8} {w : Bool} (hs : s.Kept Q C) : Answers Q C (execRori c rd ra
    cnt w s) := .done hs.shiftImm

/-! ### CoreMem -/

theorem State.Kept.execLoad {c : Nat} {rd ra : BitVec 5} {sub : BitVec 4} {off : BitVec 12} (hs : s.Kept Q C) : Answers Q C (execLoad c
    rd ra sub off s) := .done (hs.issue (fun _ _ h1 => h1.loadAt (fun _ _ h2 => CoreRes.kept_ok h2.setReg)))

theorem State.Kept.execStore {c : Nat} {rs ra : BitVec 5} {sub : BitVec 4} {off : BitVec 12} (hs : s.Kept Q C) : Answers Q C (execStore c
    rs ra sub off s) := .done (hs.issue (fun _ _ h1 => h1.storeAt))

theorem State.Kept.execStoreBufferDrain {c : Nat} (hs : s.Kept Q C) : Answers Q C (execStoreBufferDrain c s) :=
  .done (.ite hs hs.drainOne)

theorem State.Kept.execLateStoreReport {c : Nat} (hs : s.Kept Q C) : Answers Q C (execLateStoreReport c s) := .done (.ite hs.raise hs)
theorem State.Kept.execCas {c : Nat} {rd ra rb : BitVec 5} (hs : s.Kept Q C) : Answers Q C (execCas c rd ra rb s) :=
  .done (hs.issue (fun _ _ h1 => h1.atomicAt))

theorem State.Kept.execAmoadd {c : Nat} {rd ra rb : BitVec 5} (hs : s.Kept Q C) : Answers Q C (execAmoadd c rd ra rb s) :=
  .done (hs.issue (fun _ _ h1 => h1.atomicAt))

theorem State.Kept.execAmoswap {c : Nat} {rd ra rb : BitVec 5} (hs : s.Kept Q C) : Answers Q C (execAmoswap c rd ra rb s) :=
  .done (hs.issue (fun _ _ h1 => h1.atomicAt))

theorem State.Kept.execFence {c : Nat} {rd ra rb : BitVec 5} (hs : s.Kept Q C) : Answers Q C (execFence c rd ra rb s) :=
  .done (hs.issue (fun _ _ h1 => h1.drained (fun _ h2 => CoreRes.kept_ok h2)))

theorem State.Kept.execIsync {c : Nat} {rd ra rb : BitVec 5} (hs : s.Kept Q C) : Answers Q C (execIsync c rd ra rb s) :=
  .done (hs.issue (fun _ _ h1 => h1.drained (fun _ h2 => CoreRes.kept_ok h2)))

theorem State.Kept.execBrk {c : Nat} {rd ra rb : BitVec 5} (hs : s.Kept Q C) : Answers Q C (execBrk c rd ra rb s) :=
  .done (hs.issue (fun _ _ h1 => CoreRes.kept_trap h1))

/-! ### CoreSys -/

theorem State.Kept.execWait {c : Nat} {rd ra rb : BitVec 5} (hs : s.Kept Q C) : Answers Q C (execWait c rd ra rb s) :=
  .done (hs.issue (fun _ _ h1 => CoreRes.kept_ite (CoreRes.kept_ok h1.setRegN) (CoreRes.kept_ite (CoreRes.kept_stall h1) (CoreRes.kept_ok
    h1.modCore.setRegN))))

theorem State.Kept.execPoll {c : Nat} {rd ra rb : BitVec 5} (hs : s.Kept Q C) : Answers Q C (execPoll c rd ra rb s) :=
  .done (hs.issue (fun _ _ h1 => CoreRes.kept_ok h1.setRegN))

theorem State.Kept.execWfe {c : Nat} {rd ra rb : BitVec 5} (hs : s.Kept Q C) : Answers Q C (execWfe c rd ra rb s) :=
  .done (hs.issue (fun _ _ h1 => h1.drained (fun _ h2 => CoreRes.kept_ite (CoreRes.kept_stall h2) (CoreRes.kept_ok h2.setRegN))))

theorem State.Kept.execRdtim {c : Nat} {rd ra rb : BitVec 5} (hs : s.Kept Q C) : Answers Q C (execRdtim c rd ra rb s) :=
  .done (hs.issue (fun _ _ h1 => CoreRes.kept_ok h1.setRegN))

theorem State.Kept.appendRefused {c code : Nat} (hs : s.Kept Q C) : (s.appendRefused c code).Kept Q C := .ite hs.jnBump.irq hs.jnBump
theorem State.Kept.execJapp {c : Nat} {rd ra rb : BitVec 5} (hs : s.Kept Q C) : Answers Q C (execJapp c rd ra rb s) := by
  unfold Machine.execJapp
  refine .done ?_
  extract_lets f1
  have h1 : ∀ y1 t, t.Kept Q C → (f1 y1 t).state.Kept Q C := fun _ _ h2 => CoreRes.kept_ok h2.setRegN
  refine State.Kept.issue ?_ (fun _ _ h3 => by
      extract_lets
      split
      · exact h1 _ _ h3
      · refine CoreRes.kept_ite ?_ ?_
        · exact h1 _ _ h3
        · split
          · exact CoreRes.kept_ite (h1 _ _ h3.appendRefused) (CoreRes.kept_ite (h1 _ _ h3.appendRefused) (CoreRes.kept_ite
              (CoreRes.kept_stall h3) (h1 _ _ h3.giveApp)))
          · split
            · exact h1 _ _ h3
            · refine CoreRes.kept_ite ?_ ?_
              · exact h1 _ _ h3
              · refine CoreRes.kept_ite ?_ ?_
                · exact h1 _ _ h3
                · refine CoreRes.kept_ite ?_ ?_
                  · exact h1 _ _ h3.appendRefused
                  · refine CoreRes.kept_ite ?_ ?_
                    · exact h1 _ _ h3.appendRefused
                    · exact CoreRes.kept_ite (CoreRes.kept_ite (CoreRes.kept_stall h3) (h1 _ _ h3.setStrand.modVerdict))
                        (CoreRes.kept_ite (CoreRes.kept_stall h3) (h1 _ _ h3.giveApp.modVerdict)))
  exact hs

theorem State.Kept.execRespond {c : Nat} {rd ra rb : BitVec 5} (hs : s.Kept Q C) : Answers Q C (execRespond c rd ra rb s) := by
  unfold Machine.execRespond
  refine .done ?_
  extract_lets f1
  have h1 : ∀ y1 t, t.Kept Q C → (f1 y1 t).state.Kept Q C := fun _ _ h2 => CoreRes.kept_ok h2.setRegN
  refine State.Kept.issue ?_ (fun _ _ h3 => by
      extract_lets
      refine CoreRes.kept_ite ?_ ?_
      · exact h1 _ _ h3
      · split
        · extract_lets
          refine CoreRes.kept_ite ?_ ?_
          · exact h1 _ _ h3
          · refine CoreRes.kept_ite ?_ ?_
            · exact h1 _ _ h3
            · refine CoreRes.kept_ite ?_ ?_
              · exact h1 _ _ h3
              · exact CoreRes.kept_ite (h1 _ _ h3) (CoreRes.kept_ite (h1 _ _ h3) (CoreRes.kept_ite (CoreRes.kept_stall h3) (h1 _ _
                  h3.same.modVerdict.tryRelease)))
        · exact h1 _ _ h3)
  exact hs

theorem State.Kept.execLread {c : Nat} {rd ra rb : BitVec 5} (hs : s.Kept Q C) : Answers Q C (execLread c rd ra rb s) := by
  unfold Machine.execLread
  refine .done ?_
  refine State.Kept.issue ?_ (fun _ _ h1 => by
      extract_lets
      refine CoreRes.kept_ite ?_ ?_
      · exact CoreRes.kept_ok h1.setRegN
      · refine CoreRes.kept_ite ?_ ?_
        · exact CoreRes.kept_ok h1.setRegN
        · split
          · exact CoreRes.kept_stall h1
          · exact CoreRes.kept_ok h1.takeTicket.leaseIssue)
  exact hs

theorem State.Kept.execLwrite {c : Nat} {rd ra rb : BitVec 5} (hs : s.Kept Q C) : Answers Q C (execLwrite c rd ra rb s) := by
  unfold Machine.execLwrite
  refine .done ?_
  refine State.Kept.issue ?_ (fun _ _ h1 => by
      extract_lets
      split
      · exact CoreRes.kept_ok h1.setRegN
      · refine CoreRes.kept_ite ?_ ?_
        · exact CoreRes.kept_ok h1.setRegN
        · split
          · extract_lets
            refine CoreRes.kept_ite ?_ ?_
            · exact CoreRes.kept_stall h1
            · split
              · exact CoreRes.kept_stall h1
              · exact CoreRes.kept_ite (CoreRes.kept_ok h1.takeTicket.completeTicket) (CoreRes.kept_ite (CoreRes.kept_ok
                  h1.takeTicket.modVerdict) (CoreRes.kept_ok h1.takeTicket.leaseIssue))
          · split
            · exact CoreRes.kept_stall h1
            · exact CoreRes.kept_ok h1.takeTicket.leaseIssue)
  exact hs

theorem State.Kept.ctxOp {ctx c t : Nat} {b : List Byte} (hs : s.Kept Q C) : (s.ctxOp ctx c t b).Kept Q C := hs.same
theorem State.Kept.execCtxupd {c : Nat} {rd ra rb : BitVec 5} (hs : s.Kept Q C) : Answers Q C (execCtxupd c rd ra rb s) := by
  unfold Machine.execCtxupd
  refine .done ?_
  extract_lets f1
  have h1 : ∀ y1 t, t.Kept Q C → (f1 y1 t).Kept Q C := fun _ _ h2 => h2.kvBump.completeTicket
  refine State.Kept.issue ?_ (fun _ _ h3 => by
      extract_lets
      split
      · exact CoreRes.kept_ok h3.setRegN
      · extract_lets
        refine CoreRes.kept_ite ?_ ?_
        · exact CoreRes.kept_ok h3.setRegN
        · split
          · extract_lets
            refine CoreRes.kept_ite ?_ ?_
            · exact CoreRes.kept_stall h3
            · split
              · exact CoreRes.kept_stall h3
              · extract_lets
                refine CoreRes.kept_ite ?_ ?_
                · exact CoreRes.kept_ok (h1 _ _ h3.takeTicket)
                · exact CoreRes.kept_ite (CoreRes.kept_ok h3.takeTicket.completeTicket) (CoreRes.kept_ite (CoreRes.kept_ok
                    h3.takeTicket.modVerdict) (CoreRes.kept_ok h3.takeTicket.ctxOp))
          · split
            · exact CoreRes.kept_stall h3
            · exact CoreRes.kept_ite (CoreRes.kept_ok (h1 _ _ h3.takeTicket)) (CoreRes.kept_ok h3.takeTicket.ctxOp))
  exact hs

theorem State.Kept.execDma {c : Nat} {rd ra rb : BitVec 5} (hs : s.Kept Q C) : Answers Q C (execDma c rd ra rb s) := by
  unfold Machine.execDma
  refine .done ?_
  extract_lets
  refine State.Kept.issue ?_ (fun _ _ h1 => by
      extract_lets
      refine CoreRes.kept_ite ?_ ?_
      · exact CoreRes.kept_ok h1.setRegN
      · refine CoreRes.kept_ite ?_ ?_
        · exact CoreRes.kept_ok h1.setRegN
        · split
          · exact CoreRes.kept_stall h1
          · extract_lets _ s2
            have h2 : s2.Kept Q C := h1.takeTicket
            exact CoreRes.kept_ok h2.same)
  exact hs

theorem State.Kept.dmaCopy {sf sb sa df db da n : Nat} (hs : s.Kept Q C) : (s.dmaCopy sf sb sa df db da n).Kept Q C := by
  induction n generalizing sa da s with
  | zero => exact hs
  | succ n ih => exact ih (.ite hs.setByte hs)

theorem State.Kept.execDmaComplete {o i : Nat} (hs : s.Kept Q C) : Answers Q C (execDmaComplete o i s) := by
  unfold Machine.execDmaComplete
  refine .done ?_
  extract_lets _ s1
  have h1 : s1.Kept Q C := hs.same
  split
  · exact hs
  · extract_lets
    split
    · extract_lets w2 s3
      have h3 : s3.Kept Q C := .ite h1.dmaCopy h1.dmaCopy
      clear_value w2
      split
      · exact h3.setLe.completeTicket
      · extract_lets _ _ s4
        have h4 : s4.Kept Q C := .ite h3.violation h3.violation
        exact h4.setLe.setLe.completeTicket

theorem State.Kept.execSlrel {c : Nat} {rd ra rb : BitVec 5} (hs : s.Kept Q C) : Answers Q C (execSlrel c rd ra rb s) :=
  .done (hs.issue (fun _ _ h1 => CoreRes.kept_ite (CoreRes.kept_ok h1) (CoreRes.kept_ok h1.releaseSlot)))

theorem State.Kept.refuseKop {c t ring status : Nat} {b : List Byte} (hs : s.Kept Q C) : (s.refuseKop c t ring status b).Kept Q C := by
  unfold State.refuseKop
  exact (State.Kept.ite hs.kvBump.keyResult hs.kvBump).completeTicket

theorem State.Kept.execKop {c : Nat} {rd ra : BitVec 5} {lo : BitVec 16} (hs : s.Kept Q C) : Answers Q C (execKop c rd ra lo s) := by
  unfold Machine.execKop
  refine .done ?_
  refine State.Kept.issue ?_ (fun _ _ h1 => by
      extract_lets
      split
      · exact CoreRes.kept_stall h1
      · extract_lets _ w2 _ f3
        have h3 : ∀ y1, (f3 y1).state.Kept Q C := fun _ => CoreRes.kept_ok h1.takeTicket.refuseKop
        clear_value w2
        refine CoreRes.kept_ite ?_ ?_
        · exact h3 _
        · refine CoreRes.kept_ite ?_ ?_
          · exact h3 _
          · refine CoreRes.kept_ite ?_ ?_
            · exact h3 _
            · refine CoreRes.kept_ite ?_ ?_
              · exact h3 _
              · refine CoreRes.kept_ite ?_ ?_
                · exact h3 _
                · split
                  · refine CoreRes.kept_ite ?_ ?_
                    · exact h3 _
                    · exact CoreRes.kept_ite (CoreRes.kept_ite (CoreRes.kept_stall h1) (CoreRes.kept_ok h1.takeTicket.modVerdict))
                        (CoreRes.kept_ok h1.takeTicket.keyEnqueue)
                  · exact CoreRes.kept_ok h1.takeTicket.keyEnqueue)
  exact hs

/-! ### CustodyCmds -/

theorem State.Kept.execMonitorArm {m : Nat} (hs : s.Kept Q C) : Answers Q C (execMonitorArm m s) :=
  .done ((State.Kept.ite hs.setMonitor.modCus hs.setMonitor).sessionCheck)

theorem State.Kept.execMonitorDeparture {m : Nat} {high : Bool} (hs : s.Kept Q C) : Answers Q C (execMonitorDeparture m high s) :=
  .done (.ite hs hs.setMonitor)

theorem State.Kept.execGlitchAlarm {m : Nat} (hs : s.Kept Q C) : Answers Q C (execGlitchAlarm m s) := .done (.ite hs hs.setMonitor.alarm)
theorem State.Kept.execSlowAlarm {m : Nat} {high : Bool} (hs : s.Kept Q C) : Answers Q C (execSlowAlarm m high s) :=
  .done (.ite hs hs.setMonitor.alarm)

theorem State.Kept.execPowerLossClassify {m : Nat} (hs : s.Kept Q C) : Answers Q C (execPowerLossClassify m s) := by
  unfold Machine.execPowerLossClassify
  refine .done ?_
  extract_lets s2 s5 s7
  have h2 : s2.Kept Q C := hs.foldl fun _ _ h3 => h3.setMonitor
  have h5 : s5.Kept Q C := hs.foldl fun _ _ h6 => h6.setMonitor
  have h7 : s7.Kept Q C := hs.setMonitor
  exact .ite (h2.parts id id (fun _ => tblWf_nil _) id).setFld.setFld (.ite h5.modCus (.ite h7.modCus hs))

theorem State.Kept.execSequenceAlarm {m : Nat} (hs : s.Kept Q C) : Answers Q C (execSequenceAlarm m s) :=
  .done (.ite hs (.ite hs (.ite hs.setMonitor.alarm.modCus hs.setMonitor.alarm)))

theorem State.Kept.execStateAlarm {m : Nat} (hs : s.Kept Q C) : Answers Q C (execStateAlarm m s) :=
  .done (.ite hs (((State.Kept.ite hs.modCus.failSession (.ite hs.modCus.endGrant (.ite (hs.modCus.foldl fun _ _ h1 => h1.zeroiseZone)
    hs.modCus))).lockFollow).alarm))

theorem State.Kept.execLinkAlarm {o : Nat} (hs : s.Kept Q C) : Answers Q C (execLinkAlarm o s) := .done hs.alarm
theorem State.Kept.execLkForce {v : Reg} (hs : s.Kept Q C) : Answers Q C (execLkForce v s) := .done (.ite hs.took.alarm hs.discard)
theorem State.Kept.execAonAlarmLatch (hs : s.Kept Q C) : Answers Q C (execAonAlarmLatch s) := by
  unfold Machine.execAonAlarmLatch
  refine .done ?_
  extract_lets _ _ s3 s6 s7
  have h3 : s3.Kept Q C := hs.foldl fun _ _ h4 => h4.foldl fun _ _ h5 => h5.recordAlarm
  have h6 : s6.Kept Q C := h3.modCus
  have h7 : s7.Kept Q C := .ite h6 h6.irq
  exact .ite hs (.ite h6 h7.endGrant.setFld)

theorem State.Kept.execVbatMeasure {mv : Nat} (hs : s.Kept Q C) : Answers Q C (execVbatMeasure mv s) :=
  .done (.ite hs (.ite hs.setFld.setFld.irq hs.setFld))

theorem State.Kept.execAlarmRead (hs : s.Kept Q C) : Answers Q C (execAlarmRead s) := .done (hs.custServe (fun _ _ _ h1 => by
    extract_lets
    refine .itePair ?_ ?_
    · exact .pair h1
    · exact .pair h1))

theorem State.Kept.execAlarmClear (hs : s.Kept Q C) : Answers Q C (execAlarmClear s) := .done (hs.custServe (fun _ _ _ h1 => by
    refine .plainResult ?_
    refine .itePair ?_ ?_
    · exact .pair h1
    · exact .pair h1.modCus))

theorem State.Kept.execUnlockBegin (hs : s.Kept Q C) : Answers Q C (execUnlockBegin s) := .done (hs.custServe (fun _ _ _ h1 => by
    refine .plainResult ?_
    refine .itePair ?_ ?_
    · exact .pair h1
    · exact .pair h1.modCus.cardStart))

theorem State.Kept.execUnlockEnd (hs : s.Kept Q C) : Answers Q C (execUnlockEnd s) :=
  .done (hs.custServe (fun _ _ _ h1 => .plainResult (.pair h1.failSession)))

theorem State.Kept.execUnlockSessionTimeout (hs : s.Kept Q C) : Answers Q C (execUnlockSessionTimeout s) := .done hs.failSession
theorem State.Kept.execRootGenerate (hs : s.Kept Q C) : Answers Q C (execRootGenerate s) := by
  unfold Machine.execRootGenerate
  refine .done ?_
  refine State.Kept.custServe ?_ (fun _ _ _ h1 => by
      refine .plainResult ?_
      extract_lets
      refine .itePair ?_ ?_
      · exact .pair h1
      · refine .itePair ?_ ?_
        · exact .pair h1
        · split
          · rename_i heq
            have h2 := h1.draw.snd heq
            exact .pair h2
          · rename_i heq
            have h3 := h1.draw.snd heq
            exact .pair h3.modCus.cardStart)
  exact hs

theorem State.Kept.tokenFail (hs : s.Kept Q C) : s.tokenFail.Kept Q C := hs.modCus
theorem State.Kept.execLcAdvance (hs : s.Kept Q C) : Answers Q C (execLcAdvance s) := by
  unfold Machine.execLcAdvance
  refine .done ?_
  refine State.Kept.custServe ?_ (fun _ _ _ h1 => by
      refine .plainResult ?_
      extract_lets
      refine .itePair ?_ ?_
      · exact .pair h1
      · refine .itePair ?_ ?_
        · exact .pair h1
        · refine .itePair ?_ ?_
          · exact .pair h1
          · refine .itePair ?_ ?_
            · exact .pair h1
            · refine .itePair ?_ ?_
              · exact .pair h1
              · refine .itePair ?_ ?_
                · exact .pair h1.tokenFail
                · exact .pair ((State.Kept.ite h1.endGrant.modCus.lockFlush.zeroiseCustomer h1.endGrant.modCus.lockFlush).irq))
  exact hs

theorem State.Kept.execLcSetDigest (hs : s.Kept Q C) : Answers Q C (execLcSetDigest s) := by
  unfold Machine.execLcSetDigest
  refine .done ?_
  refine State.Kept.custServe ?_ (fun _ _ _ h1 => by
      refine .plainResult ?_
      extract_lets
      refine .itePair ?_ ?_
      · exact .pair h1
      · refine .itePair ?_ ?_
        · exact .pair h1
        · refine .itePair ?_ ?_
          · exact .pair h1.modCus
          · refine .itePair ?_ ?_
            · exact .pair h1.modCus
            · exact .pair h1)
  exact hs

theorem State.Kept.zoneCmd16 {code mask : Nat} {f : Nat → List Nat → State → Nat × State} (hs : s.Kept Q C) (hf : ∀ y1 y2 t, t.Kept Q C →
    (f y1 y2 t).2.Kept Q C) : (zoneCmd16 code mask f s).Kept Q C := by
  unfold Machine.zoneCmd16
  refine State.Kept.custServe ?_ (fun _ _ _ h1 => by
      refine .plainResult ?_
      refine .itePair ?_ ?_
      · exact .pair h1
      · refine .itePair ?_ ?_
        · exact .pair h1
        · exact hf _ _ _ h1)
  exact hs

theorem State.Kept.execZoneDigest (hs : s.Kept Q C) : Answers Q C (execZoneDigest s) := by
  unfold Machine.execZoneDigest
  refine .done ?_
  refine State.Kept.zoneCmd16 ?_ (fun _ _ _ h1 => by
      extract_lets
      refine .itePair ?_ ?_
      · exact .pair h1
      · refine .itePair ?_ ?_
        · exact .pair h1
        · exact .pair h1.setZone)
  exact hs

theorem State.Kept.execZoneLc (hs : s.Kept Q C) : Answers Q C (execZoneLc s) := by
  unfold Machine.execZoneLc
  refine .done ?_
  refine State.Kept.zoneCmd16 ?_ (fun _ _ _ h1 => by
      extract_lets
      refine .itePair ?_ ?_
      · exact .pair h1
      · refine .itePair ?_ ?_
        · exact .pair h1
        · refine .itePair ?_ ?_
          · exact .pair h1
          · refine .itePair ?_ ?_
            · exact .pair h1.setZone
            · refine .itePair ?_ ?_
              · split
                · rename_i heq
                  have h2 := h1.draw.snd heq
                  exact .pair h2
                · rename_i heq
                  have h3 := h1.draw.snd heq
                  exact .pair h3.setZone.zoneDelta
              · refine .itePair ?_ ?_
                · exact .pair h1.setZone.zoneDelta
                · exact .pair h1.setZone)
  exact hs

theorem State.Kept.execZoneRecycle (hs : s.Kept Q C) : Answers Q C (execZoneRecycle s) := by
  unfold Machine.execZoneRecycle
  refine .done ?_
  refine State.Kept.zoneCmd16 ?_ (fun _ _ _ h1 => by
      extract_lets
      refine .itePair ?_ ?_
      · exact .pair h1
      · refine .itePair ?_ ?_
        · exact .pair h1
        · exact .pair h1.setZone)
  exact hs

theorem State.Kept.execCertRead (hs : s.Kept Q C) : Answers Q C (execCertRead s) := by
  unfold Machine.execCertRead
  refine .done ?_
  refine State.Kept.custServe ?_ (fun _ _ _ h1 => by
      refine .plainResult ?_
      extract_lets
      refine .itePair ?_ ?_
      · exact .pair h1
      · refine .itePair ?_ ?_
        · exact .pair h1
        · exact .pair h1.setBytes)
  exact hs

theorem State.Kept.execZoneSeedExport (hs : s.Kept Q C) : Answers Q C (execZoneSeedExport s) := by
  unfold Machine.execZoneSeedExport
  refine .done ?_
  refine State.Kept.zoneCmd16 ?_ (fun _ _ _ h1 => by
      extract_lets
      refine .itePair ?_ ?_
      · exact .pair h1
      · refine .itePair ?_ ?_
        · exact .pair h1
        · refine .itePair ?_ ?_
          · exact .pair h1
          · split
            · exact .pair h1
            · extract_lets
              split
              · rename_i heq
                have h2 := h1.draw.snd heq
                exact .pair h2
              · rename_i heq
                have h3 := h1.draw.snd heq
                extract_lets
                split
                · extract_lets
                  split
                  · rename_i heq
                    have h4 := h3.freeBytes.snd heq
                    extract_lets
                    exact .pair h4.setBytes)
  exact hs

theorem State.Kept.execZoneSeedImport (hs : s.Kept Q C) : Answers Q C (execZoneSeedImport s) := by
  unfold Machine.execZoneSeedImport
  refine .done ?_
  refine State.Kept.zoneCmd16 ?_ (fun _ _ _ h1 => by
      extract_lets
      refine .itePair ?_ ?_
      · exact .pair h1
      · refine .itePair ?_ ?_
        · exact .pair h1
        · split
          · exact .pair h1
          · refine .itePair ?_ ?_
            · exact .pair h1
            · split
              · exact .pair h1
              · exact .pair h1.setZone.zoneDelta)
  exact hs

theorem State.Kept.execDbgChallenge (hs : s.Kept Q C) : Answers Q C (execDbgChallenge s) := by
  unfold Machine.execDbgChallenge
  refine .done ?_
  refine State.Kept.custServe ?_ (fun _ _ _ h1 => by
      refine .itePair ?_ ?_
      · exact .pair h1
      · refine .itePair ?_ ?_
        · exact .pair h1
        · split
          · rename_i heq
            have h2 := h1.draw.snd heq
            exact .pair h2
          · rename_i heq
            have h3 := h1.draw.snd heq
            exact .pair h3.modCus)
  exact hs

theorem State.Kept.execDbgResponse (hs : s.Kept Q C) : Answers Q C (execDbgResponse s) := by
  unfold Machine.execDbgResponse
  refine .done ?_
  refine State.Kept.custServe ?_ (fun _ _ _ h1 => by
      refine .plainResult ?_
      refine .itePair ?_ ?_
      · exact .pair h1
      · split
        · exact .pair h1
        · refine .itePair ?_ ?_
          · exact .pair h1
          · refine .itePair ?_ ?_
            · exact .pair h1
            · refine .itePair ?_ ?_
              · exact .pair h1
              · exact .pair h1.modCus.bump.irq)
  exact hs

theorem State.Kept.execDbgClose (hs : s.Kept Q C) : Answers Q C (execDbgClose s) :=
  .done (hs.custServe (fun _ _ _ h1 => .plainResult (.pair h1.endGrant)))

theorem State.Kept.fenceWrite {f r : Nat} {dflt en : Bool} {start last perm : Nat} (hs : s.Kept Q C) :
    (s.fenceWrite f r dflt en start last perm).2.Kept Q C := by
  unfold State.fenceWrite
  refine .itePair ?_ ?_
  · exact .pair hs
  · refine .itePair ?_ ?_
    · exact .pair hs.modCus
    · refine .itePair ?_ ?_
      · exact .pair hs
      · exact .pair hs.modCus

theorem State.Kept.execFenceWrite (hs : s.Kept Q C) : Answers Q C (execFenceWrite s) := by
  unfold Machine.execFenceWrite
  refine .done ?_
  refine State.Kept.custServe ?_ (fun _ _ _ h1 => by
      refine .plainResult ?_
      extract_lets
      refine .itePair ?_ ?_
      · exact .pair h1
      · refine .itePair ?_ ?_
        · exact .pair h1
        · exact h1.fenceWrite)
  exact hs

theorem State.Kept.fnCmd {cust : Bool} {f : State → Nat × State} (hs : s.Kept Q C) (hf : ∀ t, t.Kept Q C → (f t).2.Kept Q C) :
    (s.fnCmd cust f).Kept Q C := by
  unfold State.fnCmd
  extract_lets
  split
  · exact hs.violation.discard
  · exact ((hf _ hs).wrn).took

theorem State.Kept.execWriteRegion {cust : Bool} (hs : s.Kept Q C) : Answers Q C (execWriteRegion cust s) :=
  .done (hs.fnCmd (fun _ h1 => h1.fenceWrite))

theorem State.Kept.execReadRegion {cust : Bool} (hs : s.Kept Q C) : Answers Q C (execReadRegion cust s) := .done (hs.fnCmd (fun _ h1 => by
    extract_lets
    refine .itePair ?_ ?_
    · exact .pair h1
    · exact .pair h1.wr64.wr64.wrn.wrn))

theorem State.Kept.execWriteDefault {cust : Bool} (hs : s.Kept Q C) : Answers Q C (execWriteDefault cust s) :=
  .done (hs.fnCmd (fun _ h1 => h1.fenceWrite))

theorem State.Kept.execReadDefault {cust : Bool} (hs : s.Kept Q C) : Answers Q C (execReadDefault cust s) :=
  .done (hs.fnCmd (fun _ h1 => by
    refine .itePair ?_ ?_
    · exact .pair h1
    · exact .pair h1.wrn))

theorem State.Kept.execLogClear {cust : Bool} (hs : s.Kept Q C) : Answers Q C (execLogClear cust s) :=
  .done (hs.fnCmd (fun _ h1 => .pair h1.modCus))

/-! ### FlashCmds -/

theorem State.Kept.flRefuse {code : Nat} (hs : s.Kept Q C) : (s.flRefuse code).Kept Q C := hs.status.flBump
theorem State.Kept.flTake {x : FlashOp} (hs : s.Kept Q C) : (s.flTake x).Kept Q C := by
  unfold State.flTake
  exact hs.same.setFld

theorem State.Kept.execFlashRead (hs : s.Kept Q C) : Answers Q C (execFlashRead s) :=
  .done ((State.Kept.ite hs.flRefuse (.ite hs.flRefuse (.ite hs.flRefuse hs.flTake))).took)

theorem State.Kept.execFlashProgram (hs : s.Kept Q C) : Answers Q C (execFlashProgram s) := by
  unfold Machine.execFlashProgram
  refine .done ?_
  extract_lets
  refine State.Kept.took ?_
  refine .ite ?_ ?_
  · exact hs.flRefuse
  · exact .ite hs.flRefuse (.ite hs.flRefuse (.ite hs.flRefuse (.ite hs.flRefuse hs.same.flTake)))

theorem State.Kept.execFlashErase (hs : s.Kept Q C) : Answers Q C (execFlashErase s) := by
  unfold Machine.execFlashErase
  exact .done ((State.Kept.ite hs.flRefuse (.ite hs.flRefuse (.ite hs.flRefuse hs.same.flTake))).took)

theorem State.Kept.flProtCmd {op : Nat} {region unlocked : Bool} (hs : s.Kept Q C) : (s.flProtCmd op region unlocked).Kept Q C :=
  .ite hs.flRefuse (.ite hs.flRefuse (.ite hs.flRefuse (.ite hs.flRefuse hs.flTake)))

theorem State.Kept.execFlashProtect (hs : s.Kept Q C) : Answers Q C (execFlashProtect s) := .done hs.flProtCmd.took
theorem State.Kept.execFlashUnprotect (hs : s.Kept Q C) : Answers Q C (execFlashUnprotect s) := .done hs.flProtCmd.took
theorem State.Kept.execFlashUnlock (hs : s.Kept Q C) : Answers Q C (execFlashUnlock s) :=
  .done ((State.Kept.ite hs.flRefuse (.ite hs.flRefuse (.ite hs.flRefuse hs.flProtCmd))).took)

theorem State.Kept.execFlashRelock (hs : s.Kept Q C) : Answers Q C (execFlashRelock s) := .done hs.flProtCmd.took
theorem State.Kept.execFlashSetPassword (hs : s.Kept Q C) : Answers Q C (execFlashSetPassword s) := .done hs.flProtCmd.took
theorem State.Kept.flEnd {code : Nat} (hs : s.Kept Q C) : (s.flEnd code).Kept Q C := by
  unfold State.flEnd
  exact hs.same.status.setFld.irq

theorem State.Kept.flReadEnd {x : FlashOp} {corr uncorr : List Nat} (hs : s.Kept Q C) : (s.flReadEnd x corr uncorr).Kept Q C := by
  unfold State.flReadEnd
  extract_lets w1 s3
  have h3 : s3.Kept Q C := hs.foldl fun _ _ h4 => h4.wr64
  clear_value w1
  split
  · exact h3.flBump.flEnd
  · exact ((h3.flBump.foldl fun _ _ h5 => h5.errInfo.flBump).irq).flEnd

theorem State.Kept.flProgramEnd {x : FlashOp} {fail : Option Nat} (hs : s.Kept Q C) : (s.flProgramEnd x fail).Kept Q C := by
  unfold State.flProgramEnd
  split
  · exact .ite hs.flProgram.free.setFlWord.flBump.flEnd hs.flProgram.flBump.flEnd
  · exact hs.flProgram.flBump.flEnd

theorem State.Kept.execFlashOpDone {corr uncorr : List Nat} {fail : Option Nat} (hs : s.Kept Q C) : Answers Q C (execFlashOpDone corr
    uncorr fail s) := by
  unfold Machine.execFlashOpDone
  refine .done ?_
  extract_lets
  split
  · exact hs
  · refine .ite ?_ ?_
    · exact hs
    · refine .ite ?_ ?_
      · exact hs.flReadEnd
      · refine .ite ?_ ?_
        · exact hs.flProgramEnd
        · refine .ite ?_ ?_
          · split
            · rename_i heq
              have h1 := hs.eraseSector.snd heq
              extract_lets s2 s3
              have h2 : s2.Kept Q C := h1.flBump
              have h3 : s3.Kept Q C := by
                unfold s3
                split
                · exact h2.free.setFlWord
                · exact h2
              exact .ite h3.same h3.flEnd
          · refine .ite ?_ ?_
            · exact hs.same.flEnd
            · exact .ite hs.same.flEnd (.ite (.ite hs.setFld.flEnd hs.setFld.irq.flBump.flEnd) (.ite hs.setFld.flEnd hs.same.flEnd))

theorem State.Kept.execGapMoveDone (hs : s.Kept Q C) : Answers Q C (execGapMoveDone s) := by
  unfold Machine.execGapMoveDone
  refine .done ?_
  split
  · exact hs.gapMove.flEnd
  · exact hs.gapMove.flEnd
  · exact hs

theorem State.Kept.execCsWrite (hs : s.Kept Q C) : Answers Q C (execCsWrite s) := by
  unfold Machine.execCsWrite
  exact .done ((State.Kept.ite hs.csStatus (.ite hs.csStatus (.ite hs.csStatus (.ite hs.csStatus hs.same.setFld)))).took)

theorem State.Kept.csEnd {code : Nat} (hs : s.Kept Q C) : (s.csEnd code).Kept Q C := by
  unfold State.csEnd
  exact hs.same.csStatus.setFld.irq

theorem State.Kept.execCsWriteDone {ok : Bool} (hs : s.Kept Q C) : Answers Q C (execCsWriteDone ok s) := by
  unfold Machine.execCsWriteDone
  refine .done ?_
  extract_lets
  split
  · exact hs
  · exact .ite hs.bump.csEnd (.ite hs.eraseBank.flProgram.flProgram.setFlWord.bump.csEnd
      hs.eraseBank.flProgram.flProgram.setFlWord.bump.csEnd)

theorem State.Kept.execCsRead (hs : s.Kept Q C) : Answers Q C (execCsRead s) := by
  unfold Machine.execCsRead
  refine .done ?_
  refine State.Kept.took ?_
  refine .ite ?_ ?_
  · exact hs.csStatus
  · split
    · exact hs.wrn.csEnd
    · exact hs.setBytes.wrn.csEnd

theorem State.Kept.execEraseBoth (hs : s.Kept Q C) : Answers Q C (execEraseBoth s) :=
  .done ((State.Kept.ite hs.csStatus hs.eraseBank.eraseBank.csEnd).took)

/-! ### HostOps -/

theorem State.Kept.rgRefuse {r code : Nat} (hs : s.Kept Q C) : (s.rgRefuse r code).Kept Q C := hs.status.irq
theorem State.Kept.rgCount {r off n : Nat} (hs : s.Kept Q C) : (s.rgCount r off n).Kept Q C := hs.wr64
theorem State.Kept.rgVector {r : Nat} (hs : s.Kept Q C) : (s.rgVector r).Kept Q C := by
  unfold State.rgVector
  exact .ite hs.same.sendVector hs.same

theorem State.Kept.rgAdvance {r n : Nat} (hs : s.Kept Q C) : (s.rgAdvance r n).Kept Q C := hs.wrn.rgVector
theorem State.Kept.txComplete {r code : Nat} (hs : s.Kept Q C) : (s.txComplete r code).Kept Q C := by
  unfold State.txComplete
  extract_lets
  split
  · exact hs
  · exact (State.Kept.ite hs.same.setBytes.rgCount.rgCount hs.same.setBytes.rgCount).rgAdvance

theorem State.Kept.txEnvelope {n : Nat} (hs : s.Kept Q C) : (s.txEnvelope n).Kept Q C := by
  unfold State.txEnvelope
  split
  · exact hs
  · exact hs.txComplete

theorem State.Kept.setPulls {r : Nat} {l : List RxPull} (hs : s.Kept Q C) : (s.setPulls r l).Kept Q C := hs.same
theorem State.Kept.fillBuffers {r total buf n : Nat} {f : Frame} {d : List Byte} {first : Bool} (hs : s.Kept Q C) :
    (fillBuffers r total buf f n d first s).Kept Q C := by
  induction n generalizing d first s with
  | zero => exact hs
  | succ n ih => exact .ite hs.setBytes.setBytes.wrn (ih hs.setBytes.setBytes.wrn)

/-! ### LinkOps -/

theorem State.Kept.rebond (hs : s.Kept Q C) : s.rebond.Kept Q C := by
  unfold State.rebond
  exact .ite hs.same.twStatus.twinDown hs.same

theorem State.Kept.bondChange (hs : s.Kept Q C) : s.bondChange.Kept Q C := by
  unfold State.bondChange
  exact hs.same.rebond

theorem State.Kept.setLnFlag {n b : Nat} {x : Bool} (hs : s.Kept Q C) : (s.setLnFlag n b x).Kept Q C := hs.setFld
theorem State.Kept.clearLocks {n : Nat} (hs : s.Kept Q C) : (s.clearLocks n).Kept Q C := hs.setFld.setFld
theorem State.Kept.leaveUp {n : Nat} (hs : s.Kept Q C) : (s.leaveUp n).Kept Q C := .ite (.ite hs.cutReception.flushLane hs) hs
theorem State.Kept.afterLeave {n was : Nat} (hs : s.Kept Q C) : (s.afterLeave n was).Kept Q C :=
  .ite (.ite hs.bondChange (.ite hs.ringLaneDown hs)) hs

theorem State.Kept.toState {n v : Nat} (hs : s.Kept Q C) : (s.toState n v).Kept Q C := hs.leaveUp.clearLocks.setLnState.afterLeave
theorem State.Kept.laneOff {n : Nat} (hs : s.Kept Q C) : (s.laneOff n).Kept Q C := hs.toState.modLane
theorem State.Kept.portOff {n : Nat} (hs : s.Kept Q C) : (s.portOff n).Kept Q C := hs.foldl fun _ _ h1 => h1.laneOff
theorem State.Kept.acquire {n : Nat} (hs : s.Kept Q C) : (s.acquire n).Kept Q C := hs.toState.setLnFlag
theorem State.Kept.train {n : Nat} (hs : s.Kept Q C) : (s.train n).Kept Q C := hs.toState.setFld.setLnFlag.setLnFlag.modLane
theorem State.Kept.linkEvent {n : Nat} {down : Bool} (hs : s.Kept Q C) : (s.linkEvent n down).Kept Q C := hs.setFld.irq
theorem State.Kept.linkLoss {n : Nat} (hs : s.Kept Q C) : (s.linkLoss n).Kept Q C := .ite hs.acquire.linkEvent.lnBump hs
theorem State.Kept.hiBer {n : Nat} {set : Bool} (hs : s.Kept Q C) : (s.hiBer n set).Kept Q C :=
  .ite hs.setLnFlag.cutReception.setLnState hs.setLnFlag

/-! ### LaneCmds -/

theorem State.Kept.execTimPllLoss (hs : s.Kept Q C) : Answers Q C (execTimPllLoss s) := by
  unfold Machine.execTimPllLoss
  exact .done hs.same.electMaster

theorem State.Kept.execLrxLossOfLock {n : Nat} (hs : s.Kept Q C) : Answers Q C (execLrxLossOfLock n s) := .done hs.setLnFlag.linkLoss
theorem State.Kept.portmodeBit {d : Nat} {v : Reg} {k : Nat} (hs : s.Kept Q C) : (portmodeBit d v s k).Kept Q C :=
  .ite hs (.ite hs.setFld hs.lnStatus)

theorem State.Kept.execPortmodeWrite {d : Nat} {v : Reg} (hs : s.Kept Q C) : Answers Q C (execPortmodeWrite d v s) :=
  .done (hs.pageWrite (fun _ h1 => (h1.foldl fun _ _ h2 => h2.portmodeBit).took))

theorem State.Kept.lnCfgWrite {n : Nat} {v : Reg} (hs : s.Kept Q C) : (s.lnCfgWrite n v).Kept Q C :=
  .ite hs.portOff.wr.took (.ite hs.lnStatus (.ite hs.lnStatus (.ite hs.wr.lnStatus.took hs.wr.took)))

theorem State.Kept.execLnCfgWrite {n : Nat} {v : Reg} (hs : s.Kept Q C) : Answers Q C (execLnCfgWrite n v s) :=
  .done (hs.pageWrite (fun _ h1 => h1.lnCfgWrite))

theorem State.Kept.execLnTxeqWrite {n : Nat} {v : Reg} (hs : s.Kept Q C) : Answers Q C (execLnTxeqWrite n v s) :=
  .done (hs.pageWrite (fun _ h1 => .ite h1.lnStatus h1.wr.took))

theorem State.Kept.execLnMaxframeWrite {n : Nat} {v : Reg} (hs : s.Kept Q C) : Answers Q C (execLnMaxframeWrite n v s) :=
  .done (hs.pageWrite (fun _ h1 => .ite h1.wrn.took h1))

theorem State.Kept.clearLane {n : Nat} (hs : s.Kept Q C) : (s.clearLane n).Kept Q C := by
  unfold State.clearLane
  extract_lets s2 _ s5 s8
  have h2 : s2.Kept Q C := hs.foldl fun _ _ h3 => h3.clrCtr
  have h5 : s5.Kept Q C := h2.wrn.foldl fun _ _ h6 => h6.clrCtr
  have h8 : s8.Kept Q C := h5.foldl fun _ _ h9 => h9.clrCtr
  exact .ite (h8.foldl fun _ _ h10 => h10.foldl fun _ _ h11 => h11.clrCtr) h2.wrn

theorem State.Kept.laneTest {n : Nat} (hs : s.Kept Q C) : (s.laneTest n).Kept Q C := hs.foldl fun _ _ h1 => h1.toState.wrn
theorem State.Kept.lnCommand {n : Nat} {v : Reg} (hs : s.Kept Q C) : (s.lnCommand n v).Kept Q C := by
  unfold State.lnCommand
  extract_lets f1 s3
  have h1 : ∀ y1 t, t.Kept Q C → (f1 y1 t).Kept Q C := fun _ _ h2 => h2.lnStatus
  have h3 : s3.Kept Q C := by
    unfold s3
    split
    · exact hs
    · refine .ite ?_ ?_
      · exact h1 _ _ hs
      · refine .ite ?_ ?_
        · exact hs.portOff.lnStatus
        · refine .ite ?_ ?_
          · exact .ite (h1 _ _ hs) hs.laneTest.lnStatus
          · exact .ite (.ite hs.acquire.lnStatus (h1 _ _ hs)) (.ite hs.train.lnStatus (h1 _ _ hs))
  exact (State.Kept.ite h3.clearLane h3).took

theorem State.Kept.execLnUp {n : Nat} {v : Reg} (hs : s.Kept Q C) : Answers Q C (execLnUp n v s) :=
  .done (hs.pageWrite (fun _ h1 => h1.lnCommand))

theorem State.Kept.execLnDown {n : Nat} {v : Reg} (hs : s.Kept Q C) : Answers Q C (execLnDown n v s) :=
  .done (hs.pageWrite (fun _ h1 => h1.lnCommand))

theorem State.Kept.execLnRetrain {n : Nat} {v : Reg} (hs : s.Kept Q C) : Answers Q C (execLnRetrain n v s) :=
  .done (hs.pageWrite (fun _ h1 => h1.lnCommand))

theorem State.Kept.execLnClrCnt {n : Nat} {v : Reg} (hs : s.Kept Q C) : Answers Q C (execLnClrCnt n v s) :=
  .done (hs.pageWrite (fun _ h1 => h1.lnCommand))

theorem State.Kept.execLnTest {n : Nat} {v : Reg} (hs : s.Kept Q C) : Answers Q C (execLnTest n v s) :=
  .done (hs.pageWrite (fun _ h1 => h1.lnCommand))

theorem State.Kept.execClause73PageRx {n : Nat} (hs : s.Kept Q C) : Answers Q C (execClause73PageRx n s) := .done (.ite hs.setLnFlag hs)
theorem State.Kept.execSignalLock {n : Nat} (hs : s.Kept Q C) : Answers Q C (execSignalLock n s) :=
  .done (.ite (.ite hs.setLnFlag.setLnFlag.train.setFld hs.setLnFlag.setLnFlag.setLnState) hs)

theorem State.Kept.storeCoeffs {n : Nat} {tx rx : Reg} (hs : s.Kept Q C) : (s.storeCoeffs n tx rx).Kept Q C := hs.wr.setFld
theorem State.Kept.execTrainDone {n : Nat} {tx rx : Reg} (hs : s.Kept Q C) : Answers Q C (execTrainDone n tx rx s) :=
  .done (.ite hs.storeCoeffs.setLnFlag.setLnState hs)

theorem State.Kept.execTrainTimeout {n : Nat} (hs : s.Kept Q C) : Answers Q C (execTrainTimeout n s) :=
  .done (.ite hs.acquire.setLnFlag.lnStatus.lnBump hs)

theorem State.Kept.execEqCoeffUpdate {n : Nat} {tx rx : Reg} (hs : s.Kept Q C) : Answers Q C (execEqCoeffUpdate n tx rx s) :=
  .done (.ite hs.storeCoeffs hs)

theorem State.Kept.execKeepUpTimeout {n : Nat} (hs : s.Kept Q C) : Answers Q C (execKeepUpTimeout n s) := .done (.ite hs.setFld.train hs)
theorem State.Kept.laneLocked {n : Nat} (hs : s.Kept Q C) : (s.laneLocked n).Kept Q C := by
  unfold State.laneLocked
  extract_lets _ s1 s2 s3
  have h1 : s1.Kept Q C := .ite hs.setLnFlag.setLnFlag hs.setLnFlag
  have h2 : s2.Kept Q C := .ite h1.setLnFlag h1
  have h3 : s3.Kept Q C := .ite h2.setLnFlag.modLane h2
  exact h3.setLnState.modLane

theorem State.Kept.laneJoins {n : Nat} (hs : s.Kept Q C) : (s.laneJoins n).Kept Q C := .ite hs.bondChange (.ite hs.ringLaneUp hs)
theorem State.Kept.execAlignLocksReached {n : Nat} (hs : s.Kept Q C) : Answers Q C (execAlignLocksReached n s) :=
  .done (.ite hs.laneLocked.linkEvent.laneJoins hs)

theorem State.Kept.execAlignTimeout {n : Nat} (hs : s.Kept Q C) : Answers Q C (execAlignTimeout n s) :=
  .done (.ite hs.acquire.lnStatus.lnBump hs)

theorem State.Kept.execLinkLoss {n : Nat} (hs : s.Kept Q C) : Answers Q C (execLinkLoss n s) := .done hs.linkLoss
theorem State.Kept.execFaultClearTimeout {n : Nat} (hs : s.Kept Q C) : Answers Q C (execFaultClearTimeout n s) :=
  .done (.ite hs.setLnState hs)

theorem State.Kept.execFaultOrderedSetRx {n : Nat} {remote : Bool} (hs : s.Kept Q C) : Answers Q C (execFaultOrderedSetRx n remote s) :=
  .done (.ite (.ite hs hs.setLnFlag.lnBump) hs)

theorem State.Kept.execFaultCeaseTimeout {n : Nat} (hs : s.Kept Q C) : Answers Q C (execFaultCeaseTimeout n s) :=
  .done hs.setLnFlag.setLnFlag

theorem State.Kept.fecCount {n : Nat} {bad : Bool} {bits : Nat} {syms : List Nat} (hs : s.Kept Q C) :
    (s.fecCount n bad bits syms).Kept Q C := by
  unfold State.fecCount
  exact (State.Kept.ite hs.setLane.lnBump (.ite hs.setLane.lnBump.lnBump hs.setLane)).foldl fun _ _ h1 => h1.lnBump

theorem State.Kept.execFecCodewordDecoded {n : Nat} {bad : Bool} {bits : Nat} {syms : List Nat} (hs : s.Kept Q C) : Answers Q C
    (execFecCodewordDecoded n bad bits syms s) := .done (.ite hs.fecCount.hiBer hs)

theorem State.Kept.execHiBerWindow {n : Nat} {bad : Bool} (hs : s.Kept Q C) : Answers Q C (execHiBerWindow n bad s) :=
  .done (.ite hs hs.hiBer)

theorem State.Kept.cvlNext {n : Nat} (hs : s.Kept Q C) : (s.cvlNext n).Kept Q C := by
  unfold State.cvlNext
  extract_lets
  split
  · exact .ite hs.setLane (.ite hs hs.setLane.dqBump)
  · exact .ite hs.setLane.dqBump hs

theorem State.Kept.execControlSlotTx {n : Nat} (hs : s.Kept Q C) : Answers Q C (execControlSlotTx n s) := by
  unfold Machine.execControlSlotTx
  refine .done ?_
  extract_lets _ _ _ s1
  have h1 : s1.Kept Q C := .ite hs.lnBump.modLane.cvlNext hs.lnBump.modLane
  refine .ite ?_ ?_
  · refine .ite ?_ ?_
    · exact hs.lnBump.modLane
    · split
      · exact .ite h1.modLane h1.modLane
      · exact h1.modLane
  · exact hs

theorem State.Kept.execControlSlotRx {n : Nat} {w : Word} (hs : s.Kept Q C) : Answers Q C (execControlSlotRx n w s) := by
  unfold Machine.execControlSlotRx
  refine .done ?_
  extract_lets
  refine .ite ?_ ?_
  · refine .ite ?_ ?_
    · exact .ite (.ite hs.lnBump.setLane (.ite hs.lnBump.setLane.lnBump.modLane.setLnFlag.linkLoss hs.lnBump.setLane.lnBump))
        hs.lnBump.setLane
    · exact .ite (.ite hs.setLane.setLnFlag hs.setLane) hs.setLane
  · exact hs

/-! ### LinkProt -/

theorem State.Kept.preOpenDrop (hs : s.Kept Q C) : s.preOpenDrop.Kept Q C := by
  unfold State.preOpenDrop
  extract_lets s1
  have h1 : s1.Kept Q C := hs.bump
  exact .ite h1 h1.same.irq

theorem State.Kept.eraseFrame {n : Nat} (hs : s.Kept Q C) : (s.eraseFrame n).Kept Q C := by
  unfold State.eraseFrame
  split
  · exact hs
  · exact hs.releaseAll.delFrame

theorem State.Kept.overflow {n : Nat} (hs : s.Kept Q C) : (s.overflow n).Kept Q C := by
  unfold State.overflow
  split
  · exact hs
  · exact .ite hs.eraseFrame.scBump hs

theorem State.Kept.startDrop {n code : Nat} {d : List Byte} (hs : s.Kept Q C) : (s.startDrop n code d).Kept Q C := hs.modLane
theorem State.Kept.admitFrame {n : Nat} {f : Frame} (hs : s.Kept Q C) : (s.admitFrame n f).Kept Q C :=
  .ite hs.takeCells.newFrame.modLane.overflow hs.dqBump.modLane

theorem State.Kept.execRxFrameStart {n : Nat} {d : List Byte} (hs : s.Kept Q C) : Answers Q C (execRxFrameStart n d s) := by
  unfold Machine.execRxFrameStart
  refine .done ?_
  extract_lets
  refine .ite ?_ ?_
  · refine .ite ?_ ?_
    · exact hs.startDrop
    · refine .ite ?_ ?_
      · exact hs.startDrop
      · refine .ite ?_ ?_
        · exact hs.admitFrame
        · refine .ite ?_ ?_
          · exact hs.admitFrame
          · refine .ite ?_ ?_
            · exact hs.startDrop
            · split
              · exact hs.startDrop
              · extract_lets
                split
                · exact hs.startDrop
                · exact hs.kvBump.admitFrame
  · exact hs

theorem State.Kept.endDropped {n code : Nat} {d : List Byte} {err : Bool} (hs : s.Kept Q C) : (s.endDropped n code d err).Kept Q C := by
  unfold State.endDropped
  extract_lets f1
  have h1 : ∀ t, t.Kept Q C → (f1 t).Kept Q C := fun _ h2 => .ite h2.lnBump (.ite h2.preOpenDrop h2.scBump)
  refine .ite ?_ ?_
  · exact .ite hs.lnBump ((h1 _ hs).lnBump)
  · exact .ite hs.lnBump (.ite (.ite hs.lnBump (h1 _ hs)) (h1 _ hs))

theorem State.Kept.oversize {k : Nat} (hs : s.Kept Q C) : (s.oversize k).Kept Q C := by
  unfold State.oversize
  split
  · exact hs
  · extract_lets
    refine .ite ?_ ?_
    · exact hs.modFrame.resolveTrust
    · split
      · exact hs.scBump.parseUse.eraseFrame
      · exact .ite hs.scBump.modFrame.resolveTrust hs.scBump.eraseFrame

theorem State.Kept.fitCells {k : Nat} (hs : s.Kept Q C) : (s.fitCells k).Kept Q C := by
  unfold State.fitCells
  split
  · exact hs
  · exact .ite hs (.ite hs.takeCells.modFrame hs)

theorem State.Kept.finishFrame {n k : Nat} {f : Frame} {rest : List Byte} {err : Bool} (hs : s.Kept Q C) :
    (s.finishFrame n k f rest err).Kept Q C := by
  unfold State.finishFrame
  extract_lets _ _ s1 s2 s3 _ s4 s5
  have h1 : s1.Kept Q C := hs.modFrame
  have h2 : s2.Kept Q C := .ite h1.lnBump (.ite h1.lnBump (.ite h1.lnBump (.ite h1 h1.lnBump.lnBump)))
  have h3 : s3.Kept Q C := h2.eraseFrame
  have h4 : s4.Kept Q C := h2.refreshBody.fitCells.chargeFrame
  have h5 : s5.Kept Q C := h4.resolveTrust
  refine .ite ?_ ?_
  · exact .ite h3.same h3
  · refine .ite ?_ ?_
    · split
      · exact h5.endFrame
      · exact h5.endFrame
      · exact h5.endFrame
      · exact h5
    · exact .ite h4.overflow h4.resolveTrust

theorem State.Kept.execRxFrameEnd {n : Nat} {rest : List Byte} {err : Bool} (hs : s.Kept Q C) : Answers Q C (execRxFrameEnd n rest err s)
    := by
  unfold Machine.execRxFrameEnd
  refine .done ?_
  extract_lets _ f1
  have h1 : ∀ t, t.Kept Q C → (f1 t).Kept Q C := fun _ h2 => h2.modLane
  split
  · split
    · exact h1 _ hs
    · exact .ite ((h1 _ hs).oversize) ((h1 _ hs).finishFrame)
  · exact .ite (.ite ((h1 _ hs).scBump) ((h1 _ hs).endDropped)) (h1 _ hs)

theorem State.Kept.execRxOversizeDetect {n : Nat} (hs : s.Kept Q C) : Answers Q C (execRxOversizeDetect n s) := by
  unfold Machine.execRxOversizeDetect
  refine .done ?_
  extract_lets _ f1
  have h1 : ∀ t, t.Kept Q C → (f1 t).Kept Q C := fun _ h2 => h2.modLane
  split
  · exact (h1 _ hs).oversize
  · exact .ite ((h1 _ hs).scBump) hs

theorem State.Kept.takeGrains {k n : Nat} (hs : s.Kept Q C) : (s.takeGrains k n).Kept Q C := hs.setGrainDir
theorem State.Kept.dispatchIn {n : Nat} {f : Frame} (hs : s.Kept Q C) : (s.dispatchIn n f).Kept Q C := by
  unfold State.dispatchIn
  extract_lets
  split
  · exact hs.eraseFrame.scBump
  · exact .ite hs ((State.Kept.ite hs.takeGrains.modFrame.parseUse.vmBump hs.takeGrains.modFrame).refreshBody)

theorem State.Kept.execGrainDispatch {n : Nat} (hs : s.Kept Q C) : Answers Q C (execGrainDispatch n s) := by
  unfold Machine.execGrainDispatch
  refine .done ?_
  split
  · exact hs
  · split
    · exact .ite hs.dispatchIn hs
    · exact .ite hs.takeGrains.modFrame hs
    · exact hs

theorem State.Kept.execIcvResult {n : Nat} (hs : s.Kept Q C) : Answers Q C (execIcvResult n s) := by
  unfold Machine.execIcvResult
  refine .done ?_
  split
  · exact hs
  · exact .ite hs.freeGrains.modFrame hs

theorem State.Kept.markPn {i a pn : Nat} (hs : s.Kept Q C) : (s.markPn i a pn).Kept Q C :=
  .ite hs.modCtx.modCtx.leaveService.scEvent hs.modCtx

theorem State.Kept.execCommitCheck {n : Nat} (hs : s.Kept Q C) : Answers Q C (execCommitCheck n s) := by
  unfold Machine.execCommitCheck
  refine .done ?_
  split
  · exact hs
  · extract_lets
    refine .ite ?_ ?_
    · exact .ite hs.resolveTrust (.ite hs.resolveTrust (.ite (.ite hs.resolveTrust hs.markPn.resolveTrust) hs.resolveTrust))
    · exact hs

theorem State.Kept.execTrustOutcomeArrival {n : Nat} (hs : s.Kept Q C) : Answers Q C (execTrustOutcomeArrival n s) := by
  unfold Machine.execTrustOutcomeArrival
  refine .done ?_
  split
  · exact hs
  · exact .ite hs.applyOutcome hs

theorem State.Kept.rollRec {i : Nat} (hs : s.Kept Q C) : (s.rollRec i).Kept Q C := hs.modCached
theorem State.Kept.takePn {i : Nat} (hs : s.Kept Q C) : (s.takePn i).Kept Q C :=
  .ite ((((State.Kept.ite hs.modCtx.modCtx.scEvent hs.modCtx).leaveService).modCtx).scEvent) (.ite hs.modCtx.modCtx.scEvent hs.modCtx)

theorem State.Kept.startProtected {l n : Nat} {f : Frame} (hs : s.Kept Q C) : (s.startProtected l n f).Kept Q C := by
  unfold State.startProtected
  extract_lets f1 f3
  have h1 : ∀ t y2, t.Kept Q C → (f1 t y2).Kept Q C := fun _ _ h2 => h2.setFrame.modLane
  have h3 : ∀ t, t.Kept Q C → (f3 t).Kept Q C := fun _ h4 => h4.endFrame.scBump
  split
  · exact h3 _ hs
  · extract_lets
    split
    · exact h3 _ hs.reachCtx
    · extract_lets s5
      have h5 : s5.Kept Q C := .ite hs.reachCtx.rollRec hs.reachCtx
      split
      · exact h3 _ hs.reachCtx
      · exact .ite (h1 _ _ h5.takePn) h5.writeBack

theorem State.Kept.growCvl {l : Nat} (hs : s.Kept Q C) : (s.growCvl l).Kept Q C := hs.setLane
theorem State.Kept.execTxFrameStart {l : Nat} (hs : s.Kept Q C) : Answers Q C (execTxFrameStart l s) := by
  unfold Machine.execTxFrameStart
  refine .done ?_
  extract_lets
  refine .ite ?_ ?_
  · split
    · exact .ite hs.growCvl.newFrame.setLane.startProtected hs.growCvl.newFrame.setLane.setFrame.modLane
    · split
      · exact hs.growCvl
      · exact .ite hs.growCvl (.ite (.ite hs.growCvl hs.growCvl.startProtected) hs.growCvl.setFrame.modLane)
  · exact hs

theorem State.Kept.execEgressIcvEmit {l : Nat} (hs : s.Kept Q C) : Answers Q C (execEgressIcvEmit l s) := by
  unfold Machine.execEgressIcvEmit
  refine .done ?_
  split
  · exact hs
  · split
    · exact hs
    · exact .ite hs (.ite hs.endTx (.ite hs.endTx (.ite hs.endTx hs.event.irq.endTx)))

theorem State.Kept.katStat {k v : Nat} (hs : s.Kept Q C) : (s.katStat k v).Kept Q C := hs.setFld
theorem State.Kept.execKatSlotExpiry {k : Nat} (hs : s.Kept Q C) : Answers Q C (execKatSlotExpiry k s) := .done (.ite hs.setGrainDir hs)
theorem State.Kept.execKatTestEnter {k : Nat} (hs : s.Kept Q C) : Answers Q C (execKatTestEnter k s) :=
  .done (.ite hs.setGrainDir.katStat hs)

theorem State.Kept.degrade {k : Nat} (hs : s.Kept Q C) : (s.degrade k).Kept Q C := .ite hs.setFld.irq hs
theorem State.Kept.execGrainKatVector {k : Nat} {pass : Bool} (hs : s.Kept Q C) : Answers Q C (execGrainKatVector k pass s) :=
  .done (.ite (.ite (.ite hs.setGrainDir.setFld hs.setGrainDir) hs.setFld.setFld.setGrainDir.katStat.irq.errInfo.degrade) hs)

theorem State.Kept.execScKatCtlWrite {d : Nat} {v : Reg} (hs : s.Kept Q C) : Answers Q C (execScKatCtlWrite d v s) :=
  .done (hs.rwlWrite (fun _ h1 => .ite h1.status (.ite h1.wrn.took (h1.wrn.took.foldl fun _ _ h2 => .ite h2 (.ite h2.setGrainDir.katStat
    h2.setGrainDir.katStat)))))

theorem State.Kept.execScPortWrite {n : Nat} {v : Reg} (hs : s.Kept Q C) : Answers Q C (execScPortWrite n v s) :=
  .done (hs.pageWrite (fun _ h1 => .ite h1 (.ite h1.lnStatus h1.wr.took)))

theorem State.Kept.saDone {d code : Nat} (hs : s.Kept Q C) : (s.saDone d code).Kept Q C := hs.status.setFld
theorem State.Kept.saCheck {d i r : Nat} {st : SaRec} (hs : s.Kept Q C) : (s.saCheck d i r st).2.Kept Q C := by
  unfold State.saCheck
  extract_lets
  refine .itePair ?_ ?_
  · exact .pair hs
  · refine .itePair ?_ ?_
    · exact .pair hs
    · refine .itePair ?_ ?_
      · exact .pair hs
      · refine .itePair ?_ ?_
        · exact .pair hs
        · refine .itePair ?_ ?_
          · exact .pair hs
          · split
            · rename_i heq
              have h1 := hs.resolve.snd heq
              exact .pair h1
            · rename_i heq
              have h2 := hs.resolve.snd heq
              refine .itePair ?_ ?_
              · exact .pair h2
              · refine .itePair ?_ ?_
                · exact .pair h2
                · refine .itePair ?_ ?_
                  · exact .pair h2
                  · exact .pair h2

theorem State.Kept.saInstall {d i r : Nat} (hs : s.Kept Q C) : (s.saInstall d i r).Kept Q C := by
  unfold State.saInstall
  extract_lets
  split
  · rename_i heq
    have h1 := hs.saCheck.snd heq
    exact h1.saDone
  · rename_i heq
    have h2 := hs.saCheck.snd heq
    exact h2.reachCtx.modCached.setRefcnt.saDone

theorem State.Kept.saDisable {d i r : Nat} (hs : s.Kept Q C) : (s.saDisable d i r).Kept Q C := by
  unfold State.saDisable
  exact ((State.Kept.ite hs.reachCtx.leaveService hs.reachCtx).modCtx).saDone

theorem State.Kept.saRead {d i r : Nat} (hs : s.Kept Q C) : (s.saRead d i r).Kept Q C := (hs.reachCtx.foldl fun _ _ h1 => h1.wrn).saDone
theorem State.Kept.saCommand {d op r i : Nat} (hs : s.Kept Q C) : (s.saCommand d op r i).Kept Q C := by
  unfold State.saCommand
  refine State.Kept.pageWrite ?_ (fun _ h1 => by
      extract_lets
      refine .ite ?_ ?_
      · exact h1.status
      · refine .ite ?_ ?_
        · exact h1.status
        · exact .ite h1.status (.ite h1.status (.ite h1.took.saInstall (.ite h1.took.saDisable h1.took.saRead))))
  exact hs

theorem State.Kept.execSaInstall {d r i : Nat} (hs : s.Kept Q C) : Answers Q C (execSaInstall d r i s) := .done hs.saCommand
theorem State.Kept.execSaDisable {d r i : Nat} (hs : s.Kept Q C) : Answers Q C (execSaDisable d r i s) := .done hs.saCommand
theorem State.Kept.execSaRead {d r i : Nat} (hs : s.Kept Q C) : Answers Q C (execSaRead d r i s) := .done hs.saCommand
theorem State.Kept.execSaCmdComplete {d : Nat} (hs : s.Kept Q C) : Answers Q C (execSaCmdComplete d s) := .done hs.setFld
theorem State.Kept.execScEventRead {d : Nat} (hs : s.Kept Q C) : Answers Q C (execScEventRead d s) := by
  unfold Machine.execScEventRead
  exact .done (.ite hs.same hs.same)

/-! ### QueueCmds -/

theorem State.Kept.execFirstBlocksClassify {n : Nat} (hs : s.Kept Q C) : Answers Q C (execFirstBlocksClassify n s) := by
  unfold Machine.execFirstBlocksClassify
  refine .done ?_
  extract_lets
  split
  · exact hs.refreshBody
  · extract_lets
    refine .ite ?_ ?_
    · exact hs.refreshBody
    · refine .ite ?_ ?_
      · exact hs.refreshBody
      · refine .ite ?_ ?_
        · exact hs.refreshBody.endFrame.scBump
        · refine .ite ?_ ?_
          · exact hs.refreshBody.endFrame.vmBump
          · split
            · exact hs.refreshBody.endFrame.dqBump
            · exact hs.refreshBody.modFrame.chargeFrame

theorem State.Kept.ftStatus {code busy : Nat} (hs : s.Kept Q C) : (s.ftStatus code busy).Kept Q C :=
  hs.foldl fun _ _ h1 => h1.status.setFld

theorem State.Kept.ftApply {o : Nat} {op : FtOp} (hs : s.Kept Q C) : (s.ftApply o op).Kept Q C := hs.same
theorem State.Kept.ftCommand {o op : Nat} (hs : s.Kept Q C) : (s.ftCommand o op).Kept Q C := by
  unfold State.ftCommand
  extract_lets _ w1 _ f2
  have h2 : ∀ y1 t, t.Kept Q C → (f2 y1 t).Kept Q C := fun _ _ h3 => h3.same.ftApply.ftStatus
  clear_value w1
  refine .ite ?_ ?_
  · exact hs.status
  · refine .ite ?_ ?_
    · exact hs.status
    · refine .ite ?_ ?_
      · exact .ite hs.status (.ite hs.status (h2 _ _ hs))
      · split
        · exact hs.status
        · exact .ite (h2 _ _ hs) ((h2 _ _ hs).wrn)

theorem State.Kept.execFtAdd {o : Nat} (hs : s.Kept Q C) : Answers Q C (execFtAdd o s) := .done hs.ftCommand.took
theorem State.Kept.execFtDelete {o : Nat} (hs : s.Kept Q C) : Answers Q C (execFtDelete o s) := .done hs.ftCommand.took
theorem State.Kept.execFtLookup {o : Nat} (hs : s.Kept Q C) : Answers Q C (execFtLookup o s) := .done hs.ftCommand.took
theorem State.Kept.execFtCmdComplete (hs : s.Kept Q C) : Answers Q C (execFtCmdComplete s) := by
  unfold Machine.execFtCmdComplete
  refine .done ?_
  split
  · exact hs
  · extract_lets s2
    have h2 : s2.Kept Q C := hs.foldl fun _ _ h3 => h3.ftApply
    exact h2.same.ftStatus

theorem State.Kept.execCongMapPropagate {o b : Nat} (hs : s.Kept Q C) : Answers Q C (execCongMapPropagate o b s) := by
  unfold Machine.execCongMapPropagate
  exact .done hs.same

theorem State.Kept.dqStatus {d code : Nat} (hs : s.Kept Q C) : (s.dqStatus d code).Kept Q C := hs.status
theorem State.Kept.execDqQcfgWrite {q : Nat} {v : Reg} (hs : s.Kept Q C) : Answers Q C (execDqQcfgWrite q v s) :=
  .done (hs.pageWrite (fun _ h1 => .ite h1.dqStatus h1.wr.updateCong.took))

theorem State.Kept.execDqPortWrite {n : Nat} {v : Reg} (hs : s.Kept Q C) : Answers Q C (execDqPortWrite n v s) :=
  .done (hs.pageWrite (fun _ h1 => .ite h1.dqStatus h1.wr.took))

theorem State.Kept.execEnqueueNotice {n : Nat} (hs : s.Kept Q C) : Answers Q C (execEnqueueNotice n s) := by
  unfold Machine.execEnqueueNotice
  refine .done ?_
  split
  · exact hs
  · split
    · exact .ite hs.endFrame.qBump hs.modFrame.setQueue.updateCong.newHead
    · exact hs

theorem State.Kept.oversizeDrop {l : Nat} (hs : s.Kept Q C) : (s.oversizeDrop l).Kept Q C := hs.event
theorem State.Kept.stamp {q n : Nat} {f : Frame} (hs : s.Kept Q C) : (s.stamp q n f).Kept Q C := hs.setLastTag.modFrame
theorem State.Kept.execQueueHeadStamp {q : Nat} (hs : s.Kept Q C) : Answers Q C (execQueueHeadStamp q s) := by
  unfold Machine.execQueueHeadStamp
  refine .done ?_
  extract_lets
  split
  · exact hs
  · extract_lets f1
    have h1 : ∀ t, t.Kept Q C → (f1 t).Kept Q C := fun _ h2 => h2.leaveQueue.endFrame.newHead
    split
    · exact hs
    · refine .ite ?_ ?_
      · exact hs
      · refine .ite ?_ ?_
        · split
          · exact (h1 _ hs).scBump
          · split
            · exact (h1 _ hs).scBump
            · exact .ite ((h1 _ hs).oversizeDrop) (.ite hs.writeBack.stamp hs.stamp)
        · exact hs.stamp

theorem State.Kept.execEndNotice {n : Nat} (hs : s.Kept Q C) : Answers Q C (execEndNotice n s) := by
  unfold Machine.execEndNotice
  refine .done ?_
  extract_lets
  split
  · exact hs
  · extract_lets _ f1 _ f3
    have h1 : ∀ y1 t, t.Kept Q C → (f1 y1 t).Kept Q C := fun _ _ h2 => .ite h2 h2.setLastTag
    have h3 : ∀ y1 t, t.Kept Q C → (f3 y1 t).Kept Q C := fun _ _ h4 => h4.modLane.modFrame
    refine .ite ?_ ?_
    · exact hs
    · split
      · exact .ite ((((((h1 _ _ hs.modFrame).updateCong).leaveQueue).endFrame).newHead).oversizeDrop) ((h1 _ _ hs.modFrame).updateCong)
      · exact .ite (((h3 _ _ (h1 _ _ hs.modFrame)).endFrame).oversizeDrop) (h3 _ _ (h1 _ _ hs.modFrame))
      · exact .ite (((h3 _ _ (h1 _ _ hs.modFrame)).endFrame).oversizeDrop) (h3 _ _ (h1 _ _ hs.modFrame))
      · exact .ite (((h3 _ _ (h1 _ _ hs.modFrame)).endTx).oversizeDrop) (h3 _ _ (h1 _ _ hs.modFrame))
      · exact hs.modFrame

theorem State.Kept.execHoldExpiry {q : Nat} (hs : s.Kept Q C) : Answers Q C (execHoldExpiry q s) := by
  unfold Machine.execHoldExpiry
  refine .done ?_
  extract_lets
  split
  · exact hs
  · extract_lets
    split
    · exact hs
    · exact .ite (.ite hs.dropQueued.irq hs.dropQueued) hs

theorem State.Kept.execLevel1Nominate {l : Nat} (hs : s.Kept Q C) : Answers Q C (execLevel1Nominate l s) := by
  unfold Machine.execLevel1Nominate
  refine .done ?_
  extract_lets
  split
  · exact .ite hs hs.modLane
  · exact .ite hs.modLane hs

theorem State.Kept.execPullGrant {d : Nat} (hs : s.Kept Q C) : Answers Q C (execPullGrant d s) := by
  unfold Machine.execPullGrant
  refine .done ?_
  split
  · exact hs
  · exact hs.leaveQueue.modFrame.modLane.newHead

theorem State.Kept.execInputDramGrant {src : Nat} (hs : s.Kept Q C) : Answers Q C (execInputDramGrant src s) := by
  unfold Machine.execInputDramGrant
  refine .done ?_
  split
  · exact hs
  · extract_lets s1
    have h1 : s1.Kept Q C := .ite hs.freeCells hs
    split
    · exact h1.modFrame
    · exact hs

theorem State.Kept.execEgressDramGrant {d : Nat} (hs : s.Kept Q C) : Answers Q C (execEgressDramGrant d s) := by
  unfold Machine.execEgressDramGrant
  refine .done ?_
  split
  · exact hs
  · split
    · exact hs.modFrame
    · exact hs

theorem State.Kept.setLink {a b : Nat} {x : LinkDir} (hs : s.Kept Q C) : (s.setLink a b x).Kept Q C := hs.same
theorem State.Kept.execLinkGrant {a b : Nat} (hs : s.Kept Q C) : Answers Q C (execLinkGrant a b s) := by
  unfold Machine.execLinkGrant
  refine .done ?_
  extract_lets
  refine .ite ?_ ?_
  · exact hs
  · split
    · exact hs
    · exact hs.setLink.modFrame

theorem State.Kept.execLinkCellRx {a b ch : Nat} {bad : Bool} (hs : s.Kept Q C) : Answers Q C (execLinkCellRx a b ch bad s) := by
  unfold Machine.execLinkCellRx
  refine .done ?_
  extract_lets
  refine .ite ?_ ?_
  · exact hs
  · refine .ite ?_ ?_
    · exact hs.setLink.errInfo
    · refine .ite ?_ ?_
      · split
        · exact hs.setLink
        · exact hs.setLink.modFrame
      · exact hs.setLink

theorem State.Kept.execLinkCreditReturn {a b ch : Nat} (hs : s.Kept Q C) : Answers Q C (execLinkCreditReturn a b ch s) :=
  .done (.ite hs hs.setLink)

theorem State.Kept.cvlAuthFail {n : Nat} (hs : s.Kept Q C) : (s.cvlAuthFail n).Kept Q C := hs.dqBump.errInfo.irq
theorem State.Kept.cvlReceive {n type lo hi ctr : Nat} {pay : List Word} {tag : Word} {k : State → State} (hs : s.Kept Q C) (hf : ∀ t,
    t.Kept Q C → (k t).Kept Q C) : (s.cvlReceive n type lo hi ctr pay tag k).Kept Q C := .ite hs (.ite hs.modLane.dqBump (.ite (hf _
    hs.dqBump.modLane) (.ite hs.modLane.cvlAuthFail (hf _ hs.modLane.modLane.dqBump))))

theorem State.Kept.cvlPush {n : Nat} {m : List Word} (hs : s.Kept Q C) : (s.cvlPush n m).Kept Q C := hs.modLane
theorem State.Kept.cvlFirmware {n type : Nat} {pay : List Word} (hs : s.Kept Q C) : (s.cvlFirmware n type pay).Kept Q C := by
  unfold State.cvlFirmware
  exact (State.Kept.ite hs.same hs.same).irq

theorem State.Kept.execCvlCreditRx {n ctr : Nat} {pay : List Word} {tag : Word} (hs : s.Kept Q C) : Answers Q C (execCvlCreditRx n ctr
    pay tag s) := .done (hs.cvlReceive (fun _ h1 => h1.modLane))

theorem State.Kept.execCvlEchoReqRx {n : Nat} {pay : List Word} (hs : s.Kept Q C) : Answers Q C (execCvlEchoReqRx n pay s) :=
  .done (hs.cvlReceive (fun _ h1 => .ite h1.cvlPush h1))

theorem State.Kept.execCvlEchoRspRx {n : Nat} {pay : List Word} (hs : s.Kept Q C) : Answers Q C (execCvlEchoRspRx n pay s) :=
  .done (hs.cvlReceive (fun _ h1 => h1.cvlFirmware))

theorem State.Kept.quenchCtx {i : Nat} {q : Option (Nat × Nat)} (hs : s.Kept Q C) : (s.quenchCtx i q).Kept Q C := hs.modCtx
theorem State.Kept.quenchAll {n sci : Nat} {q : Option (Nat × Nat)} (hs : s.Kept Q C) : (s.quenchAll n sci q).Kept Q C := by
  unfold State.quenchAll
  refine .ite ?_ ?_
  · exact hs
  · split
    · exact hs.errInfo
    · exact (hs.foldl fun _ _ h1 => h1.quenchCtx).irq

theorem State.Kept.execCvlQuenchRx {n ctr : Nat} {pay : List Word} {tag : Word} (hs : s.Kept Q C) : Answers Q C (execCvlQuenchRx n ctr
    pay tag s) := .done (hs.cvlReceive (fun _ h1 => h1.quenchAll))

theorem State.Kept.execCvlResumeRx {n ctr : Nat} {pay : List Word} {tag : Word} (hs : s.Kept Q C) : Answers Q C (execCvlResumeRx n ctr
    pay tag s) := .done (hs.cvlReceive (fun _ h1 => h1.quenchAll))

theorem State.Kept.execCvlFirmwareRx {n type ctr : Nat} {pay : List Word} {tag : Word} (hs : s.Kept Q C) : Answers Q C (execCvlFirmwareRx
    n type ctr pay tag s) := .done (.ite (hs.cvlReceive (fun _ h1 => h1.cvlFirmware)) (.ite hs.dqBump hs))

theorem State.Kept.execQuenchExpiry {i : Nat} (hs : s.Kept Q C) : Answers Q C (execQuenchExpiry i s) := .done (.ite hs.quenchCtx hs)
theorem State.Kept.execCvlTxMessage {d : Nat} {v : Reg} (hs : s.Kept Q C) : Answers Q C (execCvlTxMessage d v s) :=
  .done (hs.pageWrite (fun _ h1 => .ite h1.dqStatus h1.cvlPush.took))

theorem State.Kept.execCvlTxFrame {d : Nat} {v : Reg} (hs : s.Kept Q C) : Answers Q C (execCvlTxFrame d v s) := by
  unfold Machine.execCvlTxFrame
  refine .done ?_
  extract_lets
  refine State.Kept.pageWrite ?_ (fun _ h1 => by
      extract_lets
      refine .ite ?_ ?_
      · exact h1.dqStatus
      · split
        · exact h1.violation.dqStatus
        · exact .ite h1.dqStatus h1.modLane.took)
  exact hs

theorem State.Kept.execCvlKeyInstall {n : Nat} {v : Reg} (hs : s.Kept Q C) : Answers Q C (execCvlKeyInstall n v s) := by
  unfold Machine.execCvlKeyInstall
  refine .done ?_
  refine State.Kept.rwlWrite ?_ (fun _ h1 => by
      extract_lets
      split
      · rename_i _ s2 heq
        have h2 : s2.Kept Q C := by
          refine State.Kept.snd ?_ heq
          refine .itePair ?_ ?_
          · exact .pair h1.wr.took
          · split
            · rename_i heq
              have h3 := h1.wr.took.resolve.snd heq
              exact .pair h3
            · rename_i heq
              have h4 := h1.wr.took.resolve.snd heq
              exact .pair h4
        exact h2.modLane)
  exact hs

theorem State.Kept.execCvlRxstatRead {d : Nat} (hs : s.Kept Q C) : Answers Q C (execCvlRxstatRead d s) := by
  unfold Machine.execCvlRxstatRead
  refine .done ?_
  extract_lets
  refine .ite ?_ ?_
  · split
    · exact hs.same
    · extract_lets _ s2
      have h2 : s2.Kept Q C := hs.same.foldl fun _ _ h3 => h3.wr64
      exact h2.same
  · exact hs.same

/-! ### HostCmds -/

theorem State.Kept.hostReset {down : Bool} (hs : s.Kept Q C) : (s.hostReset down).Kept Q C := by
  unfold State.hostReset
  extract_lets s2 _ s5 _ s7 s8 s9 _ s10 s12
  have h2 : s2.Kept Q C := hs.foldl fun _ _ h3 => h3.setFld
  have h5 : s5.Kept Q C := h2.foldl fun _ _ h6 => h6.endFrame
  have h7 : s7.Kept Q C := h5.same
  have h8 : s8.Kept Q C := (h7.parts (filter_wf _ _ _) id id id)
  have h9 : s9.Kept Q C := h8.setFld
  have h10 : s10.Kept Q C := .ite h9.same.setFld h9
  have h12 : s12.Kept Q C := h10.foldl fun _ _ h13 => .ite h13.mbDoTake h13
  exact h12.rawSet.endGrant

theorem State.Kept.execPcieReset {down : Bool} (hs : s.Kept Q C) : Answers Q C (execPcieReset down s) := .done hs.hostReset
theorem State.Kept.execPcieResetEnd {width speed : Nat} (hs : s.Kept Q C) : Answers Q C (execPcieResetEnd width speed s) := by
  unfold Machine.execPcieResetEnd
  exact .done (.ite hs.same.setFld hs)

theorem State.Kept.flushVector {v : Nat} (hs : s.Kept Q C) : (s.flushVector v).Kept Q C :=
  .ite (.ite hs.setPending.sendVector hs.setPending) hs

theorem State.Kept.execMsixUnmask {v : Nat} (hs : s.Kept Q C) : Answers Q C (execMsixUnmask v s) := .done (.ite hs.setFld.flushVector hs)
theorem State.Kept.writeCommand {v : Reg} (hs : s.Kept Q C) : (s.writeCommand v).Kept Q C :=
  .ite (hs.wr.setFld.foldl fun _ _ h1 => h1.flushVector) hs.wr.setFld

theorem State.Kept.execRgProdWrite {r : Nat} {v : Reg} (hs : s.Kept Q C) : Answers Q C (execRgProdWrite r v s) :=
  .done (.ite hs.rgRefuse hs.wrn)

theorem State.Kept.execRgCfgWrite {r : Nat} {v : Reg} (hs : s.Kept Q C) : Answers Q C (execRgCfgWrite r v s) :=
  .done (.ite hs.rgRefuse (.ite hs.wr.wr64.wr64.wr64 hs.wr))

theorem State.Kept.writeRgBase {r h : Nat} {v : Reg} (hs : s.Kept Q C) : (s.writeRgBase r h v).Kept Q C := .ite hs.rgRefuse hs.wr
theorem State.Kept.execRingIrqModeration {r : Nat} (hs : s.Kept Q C) : Answers Q C (execRingIrqModeration r s) :=
  .done (.ite hs.rgVector hs)

theorem State.Kept.execTxDescriptorTake (hs : s.Kept Q C) : Answers Q C (execTxDescriptorTake s) := by
  unfold Machine.execTxDescriptorTake
  refine .done ?_
  extract_lets
  refine .ite ?_ ?_
  · exact hs
  · split
    · exact hs
    · exact .ite hs hs.same

theorem State.Kept.hostFrame {r : Nat} {d frame : List Byte} (hs : s.Kept Q C) : (s.hostFrame r d frame).Kept Q C := by
  unfold State.hostFrame
  extract_lets _ _ _ w1
  clear_value w1
  split
  · exact hs.txComplete
  · exact .ite hs.txComplete hs.newFrame.txComplete

theorem State.Kept.execTxFrameReadDone {r : Nat} {err : Bool} (hs : s.Kept Q C) : Answers Q C (execTxFrameReadDone r err s) := by
  unfold Machine.execTxFrameReadDone
  refine .done ?_
  extract_lets
  split
  · exact hs
  · extract_lets
    refine .ite ?_ ?_
    · exact hs
    · refine .ite ?_ ?_
      · exact hs.txComplete
      · refine .ite ?_ ?_
        · exact hs.txComplete
        · exact .ite (.ite hs.vmBump.txComplete (.ite hs.txComplete (.ite hs hs.same.parseUse.vmBump.newFrame))) hs.hostFrame

theorem State.Kept.execHostRxPull (hs : s.Kept Q C) : Answers Q C (execHostRxPull s) := by
  unfold Machine.execHostRxPull
  refine .done ?_
  refine .ite ?_ ?_
  · exact hs
  · split
    · exact hs
    · exact hs.setPulls.modFrame.modLane.leaveQueue.newHead

theorem State.Kept.execHostRxComplete {r : Nat} (hs : s.Kept Q C) : Answers Q C (execHostRxComplete r s) := by
  unfold Machine.execHostRxComplete
  refine .done ?_
  split
  · exact hs
  · extract_lets
    split
    · exact hs.setPulls
    · split
      · exact hs.refreshBody
      · exact .ite hs.refreshBody hs.refreshBody.fillBuffers.rgCount.rgCount.setPulls.qBump.endFrame.rgVector

theorem State.Kept.mbWrite {cust : Bool} {ch r : Nat} {v : Reg} (hs : s.Kept Q C) : (s.mbWrite cust ch r v).Kept Q C :=
  .ite hs.mbCustWrite (.ite hs.mbHostWrite hs)

theorem State.Kept.execMbDataWrite {cust : Bool} {ch k : Nat} {v : Reg} (hs : s.Kept Q C) : Answers Q C (execMbDataWrite cust ch k v s) :=
  .done (.ite hs.mbWrite hs)

theorem State.Kept.execMbSend {cust : Bool} {ch : Nat} {v : Reg} (hs : s.Kept Q C) : Answers Q C (execMbSend cust ch v s) :=
  .done hs.mbWrite

theorem State.Kept.execMbTake {cust : Bool} {ch : Nat} {v : Reg} (hs : s.Kept Q C) : Answers Q C (execMbTake cust ch v s) :=
  .done hs.mbWrite

theorem State.Kept.execMbAck {cust : Bool} {ch : Nat} {v : Reg} (hs : s.Kept Q C) : Answers Q C (execMbAck cust ch v s) :=
  .done hs.mbWrite

theorem State.Kept.execMbOvfClear {ch : Nat} (hs : s.Kept Q C) : Answers Q C (execMbOvfClear ch s) := .done hs.mbWrite
theorem State.Kept.execMbChCfgWrite {ch : Nat} {v : Reg} (hs : s.Kept Q C) : Answers Q C (execMbChCfgWrite ch v s) :=
  .done (.ite hs.status hs.wr.took)

/-! ### PkOps -/

theorem State.Kept.pkBump {o k : Nat} (hs : s.Kept Q C) : (s.pkBump o k).Kept Q C := hs.bump
theorem State.Kept.pkWrite {o sp a : Nat} {bs : List Byte} (hs : s.Kept Q C) : (s.pkWrite o sp a bs).Kept Q C := by
  unfold State.pkWrite
  split
  · exact hs.setBytes
  · extract_lets
    split
    · exact hs.fencedPut
    · exact hs.fencedPut.violation

theorem State.Kept.pkChecks {o : Nat} {x : PkRun} (hs : s.Kept Q C) : (s.pkChecks o x).2.Kept Q C := by
  unfold State.pkChecks
  extract_lets
  split
  · exact .pair hs
  · extract_lets
    refine .itePair ?_ ?_
    · exact .pair hs
    · refine .itePair ?_ ?_
      · exact .pair hs
      · refine .itePair ?_ ?_
        · exact .pair hs
        · refine .itePair ?_ ?_
          · exact .pair hs
          · refine .itePair ?_ ?_
            · exact .pair hs
            · split
              · rename_i _ s1 heq
                have h1 : s1.Kept Q C := by
                  refine State.Kept.snd ?_ heq
                  refine .itePair ?_ ?_
                  · split
                    · rename_i heq
                      have h2 := hs.resolve.snd heq
                      exact .pair h2
                    · rename_i heq
                      have h3 := hs.resolve.snd heq
                      refine .itePair ?_ ?_
                      · exact .pair h3
                      · refine .itePair ?_ ?_
                        · exact .pair h3
                        · exact .pair h3
                  · exact .pair hs
                split
                · exact .pair h1
                · split
                  · exact .pair h1
                  · extract_lets
                    split
                    · exact .pair h1
                    · exact .pair h1.violation

theorem State.Kept.pkFinish {o : Nat} {x : PkRun} {status rlen : Nat} (hs : s.Kept Q C) : (s.pkFinish o x status rlen).Kept Q C := by
  unfold State.pkFinish
  split
  · extract_lets _ _ _ s1
    have h1 : s1.Kept Q C := .ite hs.pkWrite.pkWrite.pkBump.pkBump (.ite hs.pkWrite.pkWrite.pkBump.pkBump hs.pkWrite.pkWrite.pkBump)
    exact .ite h1.setFld.irq h1.setFld

theorem State.Kept.pkIssue {o : Nat} {x : PkRun} {status : Nat} (hs : s.Kept Q C) : (s.pkIssue o x status).Kept Q C := by
  unfold State.pkIssue
  extract_lets _ _ _ _ s1 _ _ s2
  have h1 : s1.Kept Q C := .ite hs.pkWrite hs
  have h2 : s2.Kept Q C := .ite hs.pkWrite hs.zeroBytes
  exact .ite (.ite (.ite h1.pkWrite.pkFinish h1.pkWrite.pkFinish) h2.pkFinish) hs.pkFinish

theorem State.Kept.pkAbort {o : Nat} (hs : s.Kept Q C) : (s.pkAbort o).Kept Q C := by
  unfold State.pkAbort
  exact hs.same.foldl fun _ _ h1 => h1.pkIssue.pkBump

/-! ### JournalCmds -/

theorem State.Kept.refillStrand {k : Nat} (hs : s.Kept Q C) : (s.refillStrand k).Kept Q C := by
  unfold State.refillStrand
  exact hs.foldl fun _ _ h1 => .ite h1.drainHeld.verdictEnd h1

theorem State.Kept.execStrandAdmit {k : Nat} (hs : s.Kept Q C) : Answers Q C (execStrandAdmit k s) := by
  unfold Machine.execStrandAdmit
  refine .done ?_
  extract_lets
  split
  · exact hs
  · exact .ite hs hs.setStrand.chainEntry.commitFollow.refillStrand

theorem State.Kept.execJournalExport {o r : Nat} (hs : s.Kept Q C) : Answers Q C (execJournalExport o r s) := by
  unfold Machine.execJournalExport
  refine .done ?_
  extract_lets
  split
  · exact hs
  · extract_lets s1 s2
    have h1 : s1.Kept Q C := hs.setBytes
    have h2 : s2.Kept Q C := h1.wrn.jnBump.irq
    exact .ite hs (.ite h2.setStrand.ringLeave h2.same)

theorem State.Kept.execJnXconsWrite {o r : Nat} {v : Reg} (hs : s.Kept Q C) : Answers Q C (execJnXconsWrite o r v s) :=
  .done (.ite hs.wr.took hs.status)

theorem State.Kept.setSeal {o : Nat} {x : Seal} (hs : s.Kept Q C) : (s.setSeal o x).Kept Q C := hs.same
theorem State.Kept.sealTrigger {o : Nat} (hs : s.Kept Q C) : (s.sealTrigger o).Kept Q C :=
  .ite hs (.ite hs.setSeal (hs.setSeal.setFld.foldl fun _ _ h1 => h1.setStrand))

theorem State.Kept.execSealTrigger {o : Nat} (hs : s.Kept Q C) : Answers Q C (execSealTrigger o s) := .done (.ite hs.sealTrigger hs)
theorem State.Kept.execSealNow {o : Nat} (hs : s.Kept Q C) : Answers Q C (execSealNow o s) := .done (.ite hs.sealTrigger.took hs.status)
theorem State.Kept.execSealRequest {o : Nat} (hs : s.Kept Q C) : Answers Q C (execSealRequest o s) := .done (.ite hs.setSeal hs)
theorem State.Kept.sealSign {o : Nat} {d : List Byte} (hs : s.Kept Q C) : (s.sealSign o d).2.2.Kept Q C := by
  unfold State.sealSign
  extract_lets
  split
  · exact .pairPair hs
  · split
    · rename_i _ s1 heq
      have h1 : s1.Kept Q C := by
        refine State.Kept.snd ?_ heq
        split
        · rename_i heq
          have h2 := hs.draw.snd heq
          exact .pair h2
        · rename_i heq
          have h3 := hs.draw.snd heq
          exact h3.freeBytes
      split
      · exact .pairPair h1
      · exact .pairPair h1

theorem State.Kept.sealFinish {o status : Nat} {head d sig : List Byte} (hs : s.Kept Q C) : (s.sealFinish o status head d sig).Kept Q C :=
  by
  unfold State.sealFinish
  extract_lets _ _ s1 s2 _ s3 s4
  have h1 : s1.Kept Q C := hs.setSeal
  have h2 : s2.Kept Q C := h1.setFld.wr64
  have h3 : s3.Kept Q C := .ite h2.same h2
  have h4 : s4.Kept Q C := .ite h3.jnBump.pkBump h3.jnBump.status.irq.irq
  exact .ite h4.sealTrigger h4

theorem State.Kept.execSealComplete {o : Nat} {fault : Bool} (hs : s.Kept Q C) : Answers Q C (execSealComplete o fault s) := by
  unfold Machine.execSealComplete
  refine .done ?_
  extract_lets
  split
  · exact hs
  · refine .ite ?_ ?_
    · exact hs
    · split
      · rename_i _ _ s1 heq
        have h1 : s1.Kept Q C := by
          refine State.Kept.sndsnd ?_ heq
          split
          · exact .pairPair hs
          · exact hs.sealSign
        exact .ite h1.sealFinish (.ite h1.setSeal h1.sealFinish)

theorem State.Kept.execGenesis {o : Nat} (hs : s.Kept Q C) : Answers Q C (execGenesis o s) :=
  .done (.ite hs.status ((((hs.foldl fun _ _ h1 => h1.setStrand).foldl fun _ _ h2 => h2.setSeal.wr64).markers).took))

/-! ### NorCmds -/

theorem State.Kept.blockErr {n : Nat} (hs : s.Kept Q C) : (s.blockErr n).Kept Q C := hs.lnBump
theorem State.Kept.linkAccept {i type flags seq : Nat} {payload : List Byte} (hs : s.Kept Q C) :
    (s.linkAccept i type flags seq payload).Kept Q C := hs.modNlink

theorem State.Kept.execNoriolysFrameRx {n : Nat} {b : List Byte} (hs : s.Kept Q C) : Answers Q C (execNoriolysFrameRx n b s) := by
  unfold Machine.execNoriolysFrameRx
  refine .done ?_
  extract_lets _ _ _ _ _ _ _ _ _ w1
  clear_value w1
  refine .ite ?_ ?_
  · exact hs
  · refine .ite ?_ ?_
    · exact .ite hs.linkAccept hs.blockErr
    · refine .ite ?_ ?_
      · exact .ite (.ite hs.modNlink hs.linkAccept) hs.blockErr.sendNak
      · refine .ite ?_ ?_
        · exact hs
        · split
          · exact hs.blockErr.sendNak
          · exact .ite hs.sendNak (.ite hs.setNlink.blockErr (.ite hs.setNlink.crBump hs.setNlink.linkAccept))

theorem State.Kept.execNakRx {i : Nat} (hs : s.Kept Q C) : Answers Q C (execNakRx i s) := by
  unfold Machine.execNakRx
  refine .done ?_
  split
  · exact hs
  · rename_i heq
    have h1 := hs.linkTake heq
    exact .ite h1 (.ite h1.setNlink (.ite h1.twinDown h1.linkLoss))

theorem State.Kept.execBondRx (hs : s.Kept Q C) : Answers Q C (execBondRx s) := by
  unfold Machine.execBondRx
  refine .done ?_
  split
  · exact hs
  · rename_i heq
    have h1 := hs.linkTake heq
    exact h1.same.rebond

theorem State.Kept.resendNext {i seq : Nat} (hs : s.Kept Q C) : (s.resendNext i seq).Kept Q C := by
  unfold State.resendNext
  extract_lets
  split
  · exact hs.setNlink
  · exact hs.setNlink.linkSent

theorem State.Kept.sendControl {i type seq : Nat} (hs : s.Kept Q C) : (s.sendControl i type seq).Kept Q C := by
  unfold State.sendControl
  extract_lets
  split
  · exact hs.linkSent
  · exact hs

theorem State.Kept.sendCtl {i : Nat} {key : List Byte} {c : Nat × Nat × List Byte} (hs : s.Kept Q C) : (s.sendCtl i key c).Kept Q C :=
  .ite hs.sendControl (.ite hs.linkSent hs.sendSequenced)

theorem State.Kept.keyExp (hs : s.Kept Q C) : s.keyExp.Kept Q C := .ite hs.twBump.irq hs
theorem State.Kept.twinNext (hs : s.Kept Q C) : s.twinNext.Kept Q C := by
  unfold State.twinNext
  extract_lets
  split
  · exact .ite hs.setNlink hs.setNlink.sendCtl.keyExp
  · refine .ite ?_ ?_
    · exact hs
    · split
      · split
        · extract_lets s1
          have h1 : s1.Kept Q C := hs.sendSequenced
          exact h1.same.twBump.keyExp
      · split
        · exact hs.same.sendSequenced.keyExp
        · exact .ite hs.takeSegment.sendSequenced.keyExp hs

theorem State.Kept.ctrSyncNext (hs : s.Kept Q C) : s.ctrSyncNext.Kept Q C := by
  unfold State.ctrSyncNext
  extract_lets _ _ f1 _ f3 f6
  have h1 : ∀ t y2 y3 y4 y5, t.Kept Q C → (f1 t y2 y3 y4 y5).Kept Q C := fun _ _ _ _ _ h2 => h2.same.ringSend
  have h3 : ∀ t, t.Kept Q C → (f3 t).Kept Q C := fun _ h4 => by
      unfold f3
      extract_lets s5
      have h5 : s5.Kept Q C := h1 _ _ _ _ _ h4
      split
      · exact h1 _ _ _ _ _ h4
      · exact h5.same
  have h6 : ∀ t, t.Kept Q C → (f6 t).Kept Q C := fun _ h7 => by
      unfold f6
      split
      · exact h1 _ _ _ _ _ h7
      · exact h3 _ h7
  exact .ite hs (.ite (h1 _ _ _ _ _ hs) (.ite (h6 _ hs) (h3 _ hs)))

theorem State.Kept.ringNext {l : Nat} (hs : s.Kept Q C) : (s.ringNext l).Kept Q C := by
  unfold State.ringNext
  extract_lets _ _ s1
  have h1 : s1.Kept Q C := .ite hs hs.ctrSyncNext
  split
  · exact hs.setNlink.sendCtl
  · refine .ite ?_ ?_
    · exact hs
    · refine .ite ?_ ?_
      · exact hs.beginHello
      · split
        · exact h1
        · exact h1.setRingLane.sendSequenced

theorem State.Kept.execNoriolysFrameTx {i : Nat} (hs : s.Kept Q C) : Answers Q C (execNoriolysFrameTx i s) := by
  unfold Machine.execNoriolysFrameTx
  refine .done ?_
  extract_lets
  refine .ite ?_ ?_
  · exact hs
  · split
    · exact hs.resendNext
    · exact .ite hs.twinNext hs.ringNext

/-! ### PayOps -/

theorem State.Kept.operandKey {r : KReq} {off : Nat} (hs : s.Kept Q C) : (s.operandKey r off).2.Kept Q C := by
  unfold State.operandKey
  extract_lets _ f1
  have h1 : ∀ y1 t, t.Kept Q C → (f1 y1 t).2.Kept Q C := fun _ _ h2 => by
      refine .itePair ?_ ?_
      · exact .pair h2
      · refine .itePair ?_ ?_
        · exact .pair h2
        · exact .pair h2
  refine .itePair ?_ ?_
  · refine .itePair ?_ ?_
    · exact .pair hs
    · refine .itePair ?_ ?_
      · exact .pair hs
      · exact h1 _ _ hs
  · refine .itePair ?_ ?_
    · exact .pair hs
    · split
      · rename_i heq
        have h3 := hs.resolve.snd heq
        exact .pair h3
      · rename_i heq
        have h4 := hs.resolve.snd heq
        exact h1 _ _ h4

theorem State.Kept.operandKeys {r : KReq} {os : List Nat} (hs : s.Kept Q C) : (operandKeys r os s).2.Kept Q C := by
  induction os generalizing s with
  | nil => exact hs
  | cons o os ih =>
    unfold Machine.operandKeys
    split
    · rename_i heq
      exact hs.operandKey.snd heq
    · rename_i heq
      have h1 := ih (hs.operandKey.snd heq)
      split
      · rename_i heq
        exact h1.snd heq
      · rename_i heq
        exact h1.snd heq

theorem State.Kept.startChecks {r : KReq} (hs : s.Kept Q C) : (s.startChecks r).2.Kept Q C := by
  unfold State.startChecks
  extract_lets
  refine .itePair ?_ ?_
  · exact .pair hs
  · refine .itePair ?_ ?_
    · exact .pair hs
    · refine .itePair ?_ ?_
      · exact .pair hs
      · split
        · rename_i heq
          have h1 := hs.operandKeys.snd heq
          exact .pair h1
        · rename_i heq
          have h2 := hs.operandKeys.snd heq
          extract_lets
          refine .itePair ?_ ?_
          · exact .pair h2
          · refine .itePair ?_ ?_
            · exact .pair h2
            · exact .pair h2

theorem State.Kept.setEngRun {o e : Nat} {x : KRun} (hs : s.Kept Q C) : (s.setEngRun o e x).Kept Q C := hs.same
theorem State.Kept.engCompute {o e : Nat} {fns : List Nat} {f : KRun →
  State → Nat × List Byte × Option KeyVal × State} (hs : s.Kept Q C) (hf : ∀ y1 t, t.Kept Q C → (f y1 t).2.2.2.Kept Q C) : (s.engCompute
    o e fns f).Kept Q C := by
  unfold State.engCompute
  split
  · exact hs
  · exact .ite hs ((hf _ _ hs).setEngRun)

theorem State.Kept.engRandom {o blocks n : Nat} {e : List Byte × State} (hs : s.Kept Q C) (he : s.engRandom o blocks n = some e) :
    e.2.Kept Q C := by
  unfold State.engRandom at he
  split at he
  · cases he
  · rename_i heq
    cases he; exact .pair (hs.draw.snd heq).freeBytes

/-! ### PayCmds -/

theorem State.Kept.refuseReq {r : KReq} {code engine : Nat} (hs : s.Kept Q C) : (s.refuseReq r code engine).Kept Q C := by
  unfold State.refuseReq
  exact ((State.Kept.ite ((State.Kept.ite hs.kvBump.kvBump hs.kvBump).keyResult) (.ite hs.kvBump.kvBump
    hs.kvBump)).completeTicket).closeSlots

theorem State.Kept.execKeyEngineTake {o : Nat} (hs : s.Kept Q C) : Answers Q C (execKeyEngineTake o s) := by
  unfold Machine.execKeyEngineTake
  refine .done ?_
  extract_lets
  split
  · exact hs
  · extract_lets f1
    have h1 : ∀ t, t.Kept Q C → (f1 t).Kept Q C := fun _ h2 => h2.same
    refine .ite ?_ ?_
    · exact hs
    · refine .ite ?_ ?_
      · exact (h1 _ hs).refuseReq
      · split
        · exact hs
        · split
          · rename_i heq
            have h3 := ((h1 _ hs).startChecks).snd heq
            exact h3.refuseReq
          · rename_i heq
            have h4 := ((h1 _ hs).startChecks).snd heq
            exact h4.setEngRun

theorem State.Kept.execPinXlate {o e : Nat} (hs : s.Kept Q C) : Answers Q C (execPinXlate o e s) := by
  unfold Machine.execPinXlate
  refine .done ?_
  split
  · exact hs
  · extract_lets _ _ f1
    have h1 : ∀ y1 t, t.Kept Q C → (f1 y1 t).Kept Q C := fun _ _ h2 => h2.engCompute (fun _ _ h3 => by
        split
        · exact .pairPairPair h3
        · exact .pairPairPair h3)
    refine .ite ?_ ?_
    · exact hs
    · refine .ite ?_ ?_
      · exact h1 _ _ hs
      · split
        · exact hs
        · rename_i heq
          have h4 := hs.engRandom heq
          exact h1 _ _ h4

theorem State.Kept.execMacGen {o e : Nat} (hs : s.Kept Q C) : Answers Q C (execMacGen o e s) :=
  .done (hs.engCompute (fun _ _ h1 => .pairPairPair h1))

theorem State.Kept.execMacVer {o e : Nat} (hs : s.Kept Q C) : Answers Q C (execMacVer o e s) :=
  .done (hs.engCompute (fun _ _ h1 => .pairPairPair h1))

theorem State.Kept.execDukptDerive {o e : Nat} (hs : s.Kept Q C) : Answers Q C (execDukptDerive o e s) :=
  .done (hs.engCompute (fun _ _ h1 => .pairPairPair h1.freeBytes))

theorem State.Kept.execArqcVerify {o e : Nat} (hs : s.Kept Q C) : Answers Q C (execArqcVerify o e s) :=
  .done (hs.engCompute (fun _ _ h1 => .pairPairPair h1))

theorem State.Kept.execFf1Enc {o e : Nat} (hs : s.Kept Q C) : Answers Q C (execFf1Enc o e s) :=
  .done (hs.engCompute (fun _ _ h1 => .pairPairPair h1))

theorem State.Kept.execFf1Dec {o e : Nat} (hs : s.Kept Q C) : Answers Q C (execFf1Dec o e s) :=
  .done (hs.engCompute (fun _ _ h1 => .pairPairPair h1))

theorem State.Kept.execKbImport {o e : Nat} (hs : s.Kept Q C) : Answers Q C (execKbImport o e s) := by
  unfold Machine.execKbImport
  refine .done ?_
  refine State.Kept.engCompute ?_ (fun _ _ h1 => by
      extract_lets
      split
      · exact .pairPairPair h1
      · extract_lets
        split
        · exact .pairPairPair h1
        · extract_lets
          split
          · rename_i _ s2 heq
            have h2 : s2.Kept Q C := by
              refine State.Kept.snd ?_ heq
              refine .itePair ?_ ?_
              · exact h1.freeBytes
              · exact .pair h1
            exact .pairPairPair h2)
  exact hs

theorem State.Kept.exportOpts {aes : Bool} {opts alg : Nat} {key : List Byte} (hs : s.Kept Q C) :
    (s.exportOpts aes opts alg key).2.2.Kept Q C := by
  unfold State.exportOpts
  extract_lets
  split
  · rename_i _ s1 heq
    have h1 : s1.Kept Q C := by
      refine State.Kept.snd ?_ heq
      refine .itePair ?_ ?_
      · exact hs.freeBytes
      · exact .pair hs
    exact .pairPair h1.freeBytes.freeBytes

theorem State.Kept.execKbExport {o e : Nat} (hs : s.Kept Q C) : Answers Q C (execKbExport o e s) := by
  unfold Machine.execKbExport
  refine .done ?_
  split
  · exact hs
  · refine .ite ?_ ?_
    · exact hs
    · split
      · exact hs
      · rename_i heq
        have h1 := hs.engRandom heq
        exact h1.engCompute (fun _ _ h2 => .pairPairPair h2.exportOpts)

theorem State.Kept.storeOut {x : KRun} (hs : s.Kept Q C) : (s.storeOut x).2.Kept Q C := by
  unfold State.storeOut
  extract_lets
  split
  · exact .pair hs
  · refine .itePair ?_ ?_
    · exact .pair hs.same
    · exact hs.storeKey

theorem State.Kept.keyOpEnds {o e : Nat} {x : KRun} (hs : s.Kept Q C) : (s.keyOpEnds o e x).Kept Q C := by
  unfold State.keyOpEnds
  split
  · rename_i heq
    have h1 := hs.storeOut.snd heq
    extract_lets _ _ _ _ s2 _ s3
    have h2 : s2.Kept Q C := by
      unfold s2
      split
      · exact h1.same.kvBump.kvBump
      · exact h1.same.kvBump
    have h3 : s3.Kept Q C := .ite h2.keyResult h2
    exact h3.completeTicket.closeSlots

theorem State.Kept.execKeyOpComplete {o e : Nat} (hs : s.Kept Q C) : Answers Q C (execKeyOpComplete o e s) := by
  unfold Machine.execKeyOpComplete
  refine .done ?_
  split
  · exact hs
  · exact .ite hs (.ite hs.raiseCeil hs.keyOpEnds)

theorem State.Kept.execKeSelfTest {o e : Nat} {pass : Bool} (hs : s.Kept Q C) : Answers Q C (execKeSelfTest o e pass s) :=
  .done (.ite hs (.ite hs.kvBump hs.setFld.status.irq))

theorem State.Kept.execKvPcfCfgWrite {o : Nat} {v : Reg} (hs : s.Kept Q C) : Answers Q C (execKvPcfCfgWrite o v s) :=
  .done (hs.rwlWrite (fun _ h1 => .ite h1.status h1.wrAll.took))

theorem State.Kept.execKvPcfClrCnt {o : Nat} (hs : s.Kept Q C) : Answers Q C (execKvPcfClrCnt o s) :=
  .done ((hs.foldl fun _ _ h1 => h1.clrCtr).took)

/-! ### PipelineCmds -/

theorem State.Kept.execEnvelopeCheck {n : Nat} (hs : s.Kept Q C) : Answers Q C (execEnvelopeCheck n s) := by
  unfold Machine.execEnvelopeCheck
  refine .done ?_
  extract_lets
  split
  · exact hs.refreshBody
  · split
    · exact .ite hs.refreshBody (.ite hs.refreshBody.vmBump.dropMessage.txEnvelope hs.refreshBody.modFrame.txEnvelope.tryForward)
    · exact hs.refreshBody

theorem State.Kept.vpStatus {o code : Nat} (hs : s.Kept Q C) : (s.vpStatus o code).Kept Q C := hs.status
theorem State.Kept.diaAdvance {o : Nat} (hs : s.Kept Q C) : (s.diaAdvance o).Kept Q C := hs.setFld
theorem State.Kept.diaWrite {t w : Nat} {v : Reg} (hs : s.Kept Q C) : (s.diaWrite t w v).Kept Q C := by
  unfold State.diaWrite
  exact hs.foldl fun _ _ h1 => h1.same

theorem State.Kept.execDiaDataAccess {o : Nat} {write : Bool} {v : Reg} (hs : s.Kept Q C) : Answers Q C (execDiaDataAccess o write v s) :=
  by
  unfold Machine.execDiaDataAccess
  refine .done ?_
  extract_lets s1
  have h1 : s1.Kept Q C := hs.diaAdvance
  exact .ite h1.same (.ite h1.vpStatus h1.diaWrite.took)

theorem State.Kept.execDiaEnWrite {o h : Nat} {v : Reg} (hs : s.Kept Q C) : Answers Q C (execDiaEnWrite o h v s) :=
  .done (.ite hs.wrAll.took hs.wrAll.took.vpStatus)

theorem State.Kept.placeMessage {m : VMsg} {status : Nat} (hs : s.Kept Q C) : (s.placeMessage m status).2.Kept Q C := by
  unfold State.placeMessage
  extract_lets _ _ _ f1 _ f3 _ s5
  have h1 : ∀ y1 y2, (f1 y1 y2).2.Kept Q C := fun _ _ => .pair hs.vmBump.errInfo
  have h3 : ∀ t, t.Kept Q C → (f3 t).Kept Q C := fun _ h4 => .ite h4.vinprog h4.vinprog.vmBump
  have h5 : s5.Kept Q C := h3 _ hs
  refine .itePair ?_ ?_
  · exact h1 _ _
  · refine .itePair ?_ ?_
    · exact h1 _ _
    · split
      · exact .pair ((h3 _ hs).dispatchTo)
      · refine .itePair ?_ ?_
        · exact h1 _ _
        · exact .pair h5.same

theorem State.Kept.execRecordComplete {n : Nat} (hs : s.Kept Q C) : Answers Q C (execRecordComplete n s) := by
  unfold Machine.execRecordComplete
  refine .done ?_
  extract_lets
  split
  · exact hs.refreshBody
  · split
    · refine .ite ?_ ?_
      · exact hs.refreshBody
      · refine .ite ?_ ?_
        · exact hs.refreshBody.vmBump.dropMessage
        · refine .ite ?_ ?_
          · exact hs.refreshBody.vmBump.dropMessage
          · exact .ite (.ite hs.refreshBody.placeMessage.parseUse.releaseRoom.modFrame hs.refreshBody.placeMessage.parseUse.endFrame)
              hs.refreshBody.placeMessage.dropMessage
    · exact hs.refreshBody

theorem State.Kept.execSlotFilled {v : Nat} (hs : s.Kept Q C) : Answers Q C (execSlotFilled v s) := by
  unfold Machine.execSlotFilled
  refine .done ?_
  split
  · exact hs
  · exact .ite hs hs.setBytes.setBytes.modVerdict.setEvent

theorem State.Kept.execHeldAppendRoom {v : Nat} (hs : s.Kept Q C) : Answers Q C (execHeldAppendRoom v s) := by
  unfold Machine.execHeldAppendRoom
  refine .done ?_
  split
  · exact hs
  · exact .ite hs.drainHeld.tryRelease.verdictEnd hs

theorem State.Kept.execRespTmoExpiry {v : Nat} (hs : s.Kept Q C) : Answers Q C (execRespTmoExpiry v s) := by
  unfold Machine.execRespTmoExpiry
  refine .done ?_
  split
  · exact hs
  · extract_lets
    split
    · exact hs
    · exact .ite hs.dropResp.vmBump.errInfo.verdictEnd hs

theorem State.Kept.fwdJoin {dir : Nat} {piece : List Byte} {last : Bool} (hs : s.Kept Q C) : (s.fwdJoin dir piece last).2.Kept Q C := by
  unfold State.fwdJoin
  extract_lets _ _ f1
  have h1 : ∀ y1, (f1 y1).Kept Q C := fun _ => hs.same
  refine .itePair ?_ ?_
  · exact .pair (h1 _)
  · exact .pair (h1 _)

theorem State.Kept.takeFwd {dir : Nat} {e : (List Byte × Bool) × State} (hs : s.Kept Q C) (he : s.takeFwd dir = some e) :
    e.2.Kept Q C := by
  unfold State.takeFwd at he
  split at he
  · cases he
  · rename_i heq
    extract_lets d at he
    split at he
    · cases he; exact .pair (hs.linkTake heq)
    · cases he

theorem State.Kept.execVerdictFwdRequestRx (hs : s.Kept Q C) : Answers Q C (execVerdictFwdRequestRx s) := by
  unfold Machine.execVerdictFwdRequestRx
  refine .done ?_
  split
  · rename_i _ s1 heq
    have h1 : s1.Kept Q C := by
      refine State.Kept.snd ?_ heq
      split
      · exact .pair hs
      · rename_i heq
        have h2 := hs.takeFwd heq
        exact h2.fwdJoin
    extract_lets
    split
    · exact h1
    · exact .ite h1.vmBump (.ite h1.vmBump.vmBump h1.vmBump.parseUse.newFrame)

theorem State.Kept.execVerdictFwdResponseRx (hs : s.Kept Q C) : Answers Q C (execVerdictFwdResponseRx s) := by
  unfold Machine.execVerdictFwdResponseRx
  refine .done ?_
  split
  · rename_i _ s1 heq
    have h1 : s1.Kept Q C := by
      refine State.Kept.snd ?_ heq
      split
      · exact .pair hs
      · rename_i heq
        have h2 := hs.takeFwd heq
        exact h2.fwdJoin
    extract_lets
    split
    · exact h1
    · extract_lets
      split
      · exact h1.vmBump
      · exact h1.same.buildResponse

theorem State.Kept.execFwdEntryTimeout {i : Nat} (hs : s.Kept Q C) : Answers Q C (execFwdEntryTimeout i s) := by
  unfold Machine.execFwdEntryTimeout
  refine .done ?_
  extract_lets
  split
  · exact hs
  · exact .ite hs.same hs

theorem State.Kept.execOzVpCfgWrite {o : Nat} {v : Reg} (hs : s.Kept Q C) : Answers Q C (execOzVpCfgWrite o v s) :=
  .done (((State.Kept.ite (hs.foldl fun _ _ h1 => h1.foldl fun _ _ h2 => h2.clrCtr) hs).wrAll).took)

theorem State.Kept.execVpServiceRegWrite {o off : Nat} {v : Reg} (hs : s.Kept Q C) : Answers Q C (execVpServiceRegWrite o off v s) :=
  .done (.ite hs (.ite hs.vpStatus hs.wrAll.took))

/-! ### PkCmds -/

theorem State.Kept.execPkQProdWrite {o q v : Nat} (hs : s.Kept Q C) : Answers Q C (execPkQProdWrite o q v s) := .done hs.pkProd.took
theorem State.Kept.execPkDoorbellStore {c k : Nat} {v : Word} (hs : s.Kept Q C) : Answers Q C (execPkDoorbellStore c k v s) :=
  .done (.ite hs.storeArrives hs)

theorem State.Kept.pkStart {o : Nat} {x : PkRun} {e : Nat × Option Nat} (hs : s.Kept Q C) : (s.pkStart o x e).Kept Q C := hs.same
theorem State.Kept.execPkDescriptorTake {o : Nat} (hs : s.Kept Q C) : Answers Q C (execPkDescriptorTake o s) := by
  unfold Machine.execPkDescriptorTake
  refine .done ?_
  extract_lets
  refine .ite ?_ ?_
  · exact hs
  · split
    · split
      · exact hs
      · exact hs.same.pkStart
    · refine .ite ?_ ?_
      · exact hs
      · split
        · exact hs
        · extract_lets _ f1
          have h1 : ∀ t, t.Kept Q C → (f1 t).Kept Q C := fun _ h2 => by
              unfold f1
              extract_lets s3
              have h3 : s3.Kept Q C := h2.setFld
              exact h3.same
          refine .ite ?_ ?_
          · exact hs
          · split
            · rename_i heq
              have h4 := hs.pkChecks.snd heq
              exact ((h1 _ h4).pkBump).pkFinish
            · rename_i heq
              have h5 := hs.pkChecks.snd heq
              split
              · exact hs
              · exact (h1 _ h5).pkStart

theorem State.Kept.setPkRun {o e : Nat} {x : PkRun} (hs : s.Kept Q C) : (s.setPkRun o e x).Kept Q C := hs.same
theorem State.Kept.execPkOperandsReady {o e : Nat} (hs : s.Kept Q C) : Answers Q C (execPkOperandsReady o e s) := by
  unfold Machine.execPkOperandsReady
  refine .done ?_
  split
  · exact hs
  · exact .ite hs hs.setPkRun

theorem State.Kept.pkCompute {o e fn : Nat} {f : PkRun → State → PkRes × State} (hs : s.Kept Q C) (hf : ∀ y1 t, t.Kept Q C → (f y1
    t).2.Kept Q C) : (s.pkCompute o e fn f).Kept Q C := by
  unfold State.pkCompute
  split
  · exact hs
  · refine .ite ?_ ?_
    · exact hs
    · split
      · rename_i heq
        have h1 := (hf _ _ hs).snd heq
        exact h1.setPkRun
      · rename_i heq
        have h2 := (hf _ _ hs).snd heq
        exact h2.setPkRun
      · rename_i heq
        have h3 := (hf _ _ hs).snd heq
        exact h3.setPkRun
      · rename_i heq
        have h4 := (hf _ _ hs).snd heq
        exact h4

theorem State.Kept.pkRandom {o n : Nat} {k : List Byte → State → PkRes × State} (hs : s.Kept Q C) (hf : ∀ y1 t, t.Kept Q C → (k y1
    t).2.Kept Q C) : (s.pkRandom o n k).2.Kept Q C := by
  unfold State.pkRandom
  split
  · rename_i heq
    have h1 := hs.draw.snd heq
    exact .pair hs
  · rename_i heq
    have h2 := hs.draw.snd heq
    exact hf _ _ h2.freeBytes

theorem State.Kept.execModexp {o e : Nat} (hs : s.Kept Q C) : Answers Q C (execModexp o e s) := .done (hs.pkCompute (fun _ _ h1 => by
    extract_lets
    refine .itePair ?_ ?_
    · exact .pair h1
    · exact .pair h1))

theorem State.Kept.execRsaVerify {o e : Nat} (hs : s.Kept Q C) : Answers Q C (execRsaVerify o e s) := by
  unfold Machine.execRsaVerify
  refine .done ?_
  refine State.Kept.pkCompute ?_ (fun _ _ h1 => by
      extract_lets
      split
      · exact .pair h1
      · extract_lets
        refine .itePair ?_ ?_
        · exact .pair h1
        · exact .pair h1)
  exact hs

theorem State.Kept.execRsaSign {o e : Nat} (hs : s.Kept Q C) : Answers Q C (execRsaSign o e s) := by
  unfold Machine.execRsaSign
  refine .done ?_
  refine State.Kept.pkCompute ?_ (fun _ _ h1 => by
      extract_lets
      split
      · exact .pair h1
      · refine .itePair ?_ ?_
        · exact .pair h1
        · refine .itePair ?_ ?_
          · exact .pair h1
          · exact h1.pkRandom (fun _ _ h2 => by
                split
                · exact .pair h2
                · exact .pair h2))
  exact hs

theorem State.Kept.execRsaEncrypt {o e : Nat} (hs : s.Kept Q C) : Answers Q C (execRsaEncrypt o e s) := by
  unfold Machine.execRsaEncrypt
  refine .done ?_
  refine State.Kept.pkCompute ?_ (fun _ _ h1 => by
      extract_lets
      split
      · exact .pair h1
      · refine .itePair ?_ ?_
        · exact .pair h1
        · exact h1.pkRandom (fun _ _ h2 => .pair h2))
  exact hs

theorem State.Kept.execRsaDecrypt {o e : Nat} (hs : s.Kept Q C) : Answers Q C (execRsaDecrypt o e s) := by
  unfold Machine.execRsaDecrypt
  refine .done ?_
  refine State.Kept.pkCompute ?_ (fun _ _ h1 => by
      extract_lets
      split
      · exact .pair h1
      · refine .itePair ?_ ?_
        · exact .pair h1
        · split
          · exact .pair h1
          · exact .pair h1)
  exact hs

theorem State.Kept.execEcdsaVerify {o e : Nat} (hs : s.Kept Q C) : Answers Q C (execEcdsaVerify o e s) := by
  unfold Machine.execEcdsaVerify
  refine .done ?_
  refine State.Kept.pkCompute ?_ (fun _ _ h1 => by
      extract_lets
      refine .itePair ?_ ?_
      · exact .pair h1
      · split
        · exact .pair h1
        · refine .itePair ?_ ?_
          · exact .pair h1
          · exact .pair h1)
  exact hs

theorem State.Kept.execEcdsaSign {o e : Nat} (hs : s.Kept Q C) : Answers Q C (execEcdsaSign o e s) := by
  unfold Machine.execEcdsaSign
  refine .done ?_
  refine State.Kept.pkCompute ?_ (fun _ _ h1 => by
      extract_lets
      refine .itePair ?_ ?_
      · exact .pair h1
      · split
        · exact .pair h1
        · exact h1.pkRandom (fun _ _ h2 => by
              split
              · exact .pair h2
              · exact .pair h2))
  exact hs

theorem State.Kept.execEcdh {o e : Nat} (hs : s.Kept Q C) : Answers Q C (execEcdh o e s) := by
  unfold Machine.execEcdh
  refine .done ?_
  refine State.Kept.pkCompute ?_ (fun _ _ h1 => by
      extract_lets
      refine .itePair ?_ ?_
      · exact .pair h1
      · split
        · split
          · exact .pair h1
          · exact .pair h1
        · exact .pair h1)
  exact hs

theorem State.Kept.execEd25519Verify {o e : Nat} (hs : s.Kept Q C) : Answers Q C (execEd25519Verify o e s) :=
  .done (hs.pkCompute (fun _ _ h1 => by
    refine .itePair ?_ ?_
    · exact .pair h1
    · split
      · exact .pair h1
      · exact .pair h1))

theorem State.Kept.execEd25519Sign {o e : Nat} (hs : s.Kept Q C) : Answers Q C (execEd25519Sign o e s) :=
  .done (hs.pkCompute (fun _ _ h1 => by
    refine .itePair ?_ ?_
    · exact .pair h1
    · split
      · exact .pair h1
      · exact .pair h1))

theorem State.Kept.execX25519 {o e : Nat} (hs : s.Kept Q C) : Answers Q C (execX25519 o e s) := by
  unfold Machine.execX25519
  refine .done ?_
  refine State.Kept.pkCompute ?_ (fun _ _ h1 => by
      refine .itePair ?_ ?_
      · exact .pair h1
      · split
        · exact .pair h1
        · extract_lets
          refine .itePair ?_ ?_
          · exact .pair h1
          · exact .pair h1)
  exact hs

theorem State.Kept.pkBlob {x : PkRun} {k : PkKey} {pub : List Byte} (hs : s.Kept Q C) : (s.pkBlob x k pub).2.Kept Q C := by
  unfold State.pkBlob
  refine .itePair ?_ ?_
  · exact .pair hs.raiseCeil
  · refine .itePair ?_ ?_
    · exact .pair hs
    · exact .pair hs.nextGen

theorem State.Kept.execPkgen {o e : Nat} (hs : s.Kept Q C) : Answers Q C (execPkgen o e s) := by
  unfold Machine.execPkgen
  refine .done ?_
  refine State.Kept.pkCompute ?_ (fun _ _ h1 => by
      extract_lets
      refine .itePair ?_ ?_
      · exact .pair h1
      · refine .itePair ?_ ?_
        · exact .pair h1.raiseCeil
        · exact h1.pkRandom (fun _ _ h2 => by
              extract_lets
              refine .itePair ?_ ?_
              · exact h2.pkBlob
              · exact h2.pkBlob))
  exact hs

theorem State.Kept.execPkImport {o e : Nat} (hs : s.Kept Q C) : Answers Q C (execPkImport o e s) := .done (hs.pkCompute (fun _ _ h1 => by
    refine .itePair ?_ ?_
    · exact .pair h1
    · split
      · exact .pair h1
      · exact h1.pkBlob))

theorem State.Kept.execPkRewrap {o e : Nat} (hs : s.Kept Q C) : Answers Q C (execPkRewrap o e s) := .done (hs.pkCompute (fun _ _ h1 => by
    refine .itePair ?_ ?_
    · exact .pair h1
    · split
      · exact .pair h1
      · exact h1.pkBlob))

theorem State.Kept.execPkResultIssue {o e : Nat} {agree : Bool} (hs : s.Kept Q C) : Answers Q C (execPkResultIssue o e agree s) := by
  unfold Machine.execPkResultIssue
  refine .done ?_
  extract_lets _ s1 s2
  have h1 : s1.Kept Q C := hs.same
  have h2 : s2.Kept Q C := h1.pkBump.irq
  split
  · exact hs
  · extract_lets _ s3
    have h3 : s3.Kept Q C := h2.same
    refine .ite ?_ ?_
    · exact hs
    · refine .ite ?_ ?_
      · exact h1.pkIssue
      · refine .ite ?_ ?_
        · exact h3.pkIssue
        · split
          · exact h3.same
          · exact h3.pkStart

theorem State.Kept.execPkSelfTest {o : Nat} {seals : Bool} (hs : s.Kept Q C) : Answers Q C (execPkSelfTest o seals s) := by
  unfold Machine.execPkSelfTest
  refine .done ?_
  extract_lets f1
  have h1 : ∀ y1 t, t.Kept Q C → (f1 y1 t).Kept Q C := fun _ _ h2 => h2.same
  refine .ite ?_ ?_
  · exact hs
  · refine .ite ?_ ?_
    · split
      · exact hs
      · exact .ite hs (h1 _ _ hs)
    · refine .ite ?_ ?_
      · exact hs
      · split
        · exact hs
        · extract_lets s3
          have h3 : s3.Kept Q C := h1 _ _ hs
          exact h3.same

theorem State.Kept.execPkSelfTestEnd {o e : Nat} {pass : Bool} (hs : s.Kept Q C) : Answers Q C (execPkSelfTestEnd o e pass s) := by
  unfold Machine.execPkSelfTestEnd
  exact .done (.ite hs (.ite hs.same.pkBump hs.same.setFld.status.irq))

theorem State.Kept.execPkCfgWrite {o : Nat} {v : Reg} (hs : s.Kept Q C) : Answers Q C (execPkCfgWrite o v s) := by
  unfold Machine.execPkCfgWrite
  refine .done ?_
  extract_lets f1
  have h1 : ∀ t, t.Kept Q C → (f1 t).Kept Q C := fun _ h2 => .ite (h2.foldl fun _ _ h3 => h3.clrCtr) h2
  exact .ite (h1 _ hs.lockDrop) (.ite (((h1 _ hs.setFld).took).status) (((h1 _ hs.setFld).took).setFld))

theorem State.Kept.execPkQCfgWrite {o q off : Nat} {v : Reg} (hs : s.Kept Q C) : Answers Q C (execPkQCfgWrite o q off v s) :=
  .done (.ite (.ite hs.status hs.wr.took) (.ite hs.status hs.wr.took))

theorem State.Kept.execPkBfloorWrite {o : Nat} {v : Reg} (hs : s.Kept Q C) : Answers Q C (execPkBfloorWrite o v s) := by
  unfold Machine.execPkBfloorWrite
  exact .done (hs.rwlWrite (fun _ h1 => .ite h1.status h1.same.zoneDelta.took))

/-! ### PowerOps -/

theorem State.Kept.domTo {d v : Nat} (hs : s.Kept Q C) : (s.domTo d v).Kept Q C := by
  unfold State.domTo
  extract_lets s1
  have h1 : s1.Kept Q C := hs.setDomain
  exact h1.same

theorem State.Kept.dropPage {p : Nat} {keep : Nat → Bool} (hs : s.Kept Q C) : (s.dropPage p keep).Kept Q C :=
  hs.parts (filter_wf _ _ _) (filter_wf _ _ _) id id

theorem State.Kept.drTo {d v : Nat} (hs : s.Kept Q C) : (s.drTo d v).Kept Q C := hs.setFld.irq
theorem State.Kept.drStatus {d code : Nat} (hs : s.Kept Q C) : (s.drStatus d code).Kept Q C := hs.status
theorem State.Kept.drainDram {d : Nat} (hs : s.Kept Q C) : (s.drainDram d).Kept Q C :=
  .ite ((hs.foldl fun _ _ h1 => h1.laneOff.flushLane).drTo) hs

theorem State.Kept.closeDram {d : Nat} (hs : s.Kept Q C) : (s.closeDram d).Kept Q C := hs.drTo.domTo
theorem State.Kept.dropDram {d : Nat} (hs : s.Kept Q C) : (s.dropDram d).Kept Q C := by
  unfold State.dropDram
  extract_lets s1
  have h1 : s1.Kept Q C := by
    refine State.Kept.foldl ?_ (fun _ _ h2 => by
        split
        · exact h2
        · split
          · exact h2.dropQueued
          · exact h2.dropQueued
          · exact h2.dropQueued
          · exact h2.endTx.qBump
          · exact h2.endFrame.qBump
          · exact h2.endFrame)
    exact hs
  exact h1.drStatus.irq.closeDram

theorem State.Kept.dramClosed {d : Nat} (hs : s.Kept Q C) : (s.dramClosed d).Kept Q C := (hs.foldl fun _ _ h1 => h1.evictCtx).domTo
theorem State.Kept.moveQueue {o : Nat} (hs : s.Kept Q C) : (s.moveQueue o).Kept Q C := by
  unfold State.moveQueue
  extract_lets
  refine State.Kept.foldl ?_ (fun _ _ h1 => by
      extract_lets
      refine .ite ?_ ?_
      · exact h1.same
      · split
        · exact h1.vmBump.errInfo.vinprog.delFrame
        · exact h1.vmBump.errInfo.vinprog)
  exact hs.same

theorem State.Kept.discardCluster {o : Nat} (hs : s.Kept Q C) : (s.discardCluster o).Kept Q C := by
  unfold State.discardCluster
  refine State.Kept.foldl ?_ (fun _ _ h1 => by
      extract_lets
      split
      · exact h1
      · exact (State.Kept.ite ((h1.dropResp.modVerdict.foldl fun _ _ h2 => h2.dropHeld).releaseSlot) ((h1.dropResp.modVerdict.foldl fun _
          _ h3 => h3.dropHeld).verdictEnd)).bump)
  exact hs

theorem State.Kept.clusterLost {o : Nat} (hs : s.Kept Q C) : (s.clusterLost o).Kept Q C := by
  unfold State.clusterLost
  extract_lets s2
  have h2 : s2.Kept Q C := by
    refine State.Kept.foldl ?_ (fun _ _ h3 => h3.resetCore.modCore.zeroBytes.zeroBytes)
    exact hs
  exact h2.zeroBytes.dropPage

theorem State.Kept.keyLost {o : Nat} (hs : s.Kept Q C) : (s.keyLost o).Kept Q C := by
  unfold State.keyLost
  extract_lets s1 _ _ s2
  have h1 : s1.Kept Q C := hs.pkAbort
  have h2 : s2.Kept Q C := h1.same
  exact h2.closeSlots.drbgOff

theorem State.Kept.domainLost {d : Nat} (hs : s.Kept Q C) : (s.domainLost d).Kept Q C := by
  unfold State.domainLost
  extract_lets s1 s3 _ _ s5 s7 _ _ s9 s10 _ s11
  have h1 : s1.Kept Q C := hs.domTo
  have h3 : s3.Kept Q C := h1.foldl fun _ _ h4 => h4.laneOff.flushLane
  have h5 : s5.Kept Q C := h3.same
  have h7 : s7.Kept Q C := h1.foldl fun _ _ h8 => h8.laneOff
  have h9 : s9.Kept Q C := h7.same
  have h10 : s10.Kept Q C := h9.ringOut
  have h11 : s11.Kept Q C := h10.same
  refine .ite ?_ ?_
  · exact h5.dropPage.dropPage.dropPage
  · refine .ite ?_ ?_
    · exact h1.clusterLost
    · refine .ite ?_ ?_
      · exact h1.keyLost
      · refine .ite ?_ ?_
        · exact h1.hostReset
        · exact .ite h11.dropPage (.ite (h1.parts id id id (filter_wf _ _ _)) (.ite h1.same (.ite h1.custodianStop.dropPage h1)))

theorem State.Kept.loadFirmware {c : Nat} (hs : s.Kept Q C) : (s.loadFirmware c).Kept Q C := by
  unfold State.loadFirmware
  exact hs.foldl fun _ _ h1 => .ite h1.setLe h1

theorem State.Kept.domainUp {d : Nat} (hs : s.Kept Q C) : (s.domainUp d).Kept Q C := by
  unfold State.domainUp
  extract_lets s1 _ s2 _ _ _ s4 _ s6 _ s7
  have h1 : s1.Kept Q C := hs.domTo
  have h2 : s2.Kept Q C := h1.same
  have h4 : s4.Kept Q C := h2.same.foldl fun _ _ h5 => h5.setEvent
  have h6 : s6.Kept Q C := h2.wrn.wrn
  have h7 : s7.Kept Q C := h2.same
  refine .ite ?_ ?_
  · exact h2.drTo
  · refine .ite ?_ ?_
    · exact h4.foldl fun _ _ h8 => h8.loadFirmware
    · exact .ite h6.drbgInstantiateDue (.ite h2.startTests (.ite (.ite h7.modRdr h7) h2))

theorem State.Kept.beginClose {d : Nat} (hs : s.Kept Q C) : (s.beginClose d).Kept Q C :=
  .ite hs.drainDram (.ite hs.domTo.moveQueue (.ite hs.domTo.pkAbort (.ite hs.custodianStop.domTo hs.domTo)))

theorem State.Kept.moveDomain {w : Nat × Bool} (hs : s.Kept Q C) : (s.moveDomain w).Kept Q C :=
  .ite (.ite (.ite hs.drTo.domTo hs.domTo) hs) (.ite hs.beginClose hs)

theorem State.Kept.powerStep (hs : s.Kept Q C) : s.powerStep.Kept Q C := by
  unfold State.powerStep
  extract_lets s2 _ s4 _ s5 s6
  have h2 : s2.Kept Q C := hs.foldl fun _ _ h3 => h3.moveDomain
  have h4 : s4.Kept Q C := h2.same
  have h5 : s5.Kept Q C := h4.setFld.setFld
  have h6 : s6.Kept Q C := h5.status
  exact .ite h6.same.irq h4

theorem State.Kept.wantAll {ds : List Nat} {on : Bool} (hs : s.Kept Q C) : (s.wantAll ds on).Kept Q C := hs.same
theorem State.Kept.serveWake (hs : s.Kept Q C) : s.serveWake.Kept Q C := by
  unfold State.serveWake
  extract_lets
  refine .ite ?_ ?_
  · exact hs
  · split
    · exact hs
    · exact hs.same.wantAll.powerStep

theorem State.Kept.pwRefuse {d code : Nat} (hs : s.Kept Q C) : (s.pwRefuse d code).Kept Q C := hs.setFld.status.bump.irq
theorem State.Kept.pwRequest {bits : Nat} {on cust : Bool} (hs : s.Kept Q C) : (s.pwRequest bits on cust).2.Kept Q C := by
  unfold State.pwRequest
  extract_lets _ _ s1 _ s2
  have h1 : s1.Kept Q C := hs.setFld.setFld
  have h2 : s2.Kept Q C := h1.same.wantAll
  refine .itePair ?_ ?_
  · exact .pair hs.pwRefuse
  · split
    · exact .pair hs.pwRefuse
    · refine .itePair ?_ ?_
      · exact .pair hs.pwRefuse
      · exact .pair h2.powerStep

theorem State.Kept.isoBegin {o : Nat} {forced : Bool} (hs : s.Kept Q C) : (s.isoBegin o forced).Kept Q C := by
  unfold State.isoBegin
  extract_lets _ _ s1 _ s2
  have h1 : s1.Kept Q C := hs.wrn.wrn
  have h2 : s2.Kept Q C := h1.same
  exact (State.Kept.ite h2.irq h2).powerStep

theorem State.Kept.forceIso {o cause : Nat} (hs : s.Kept Q C) : (s.forceIso o cause).Kept Q C := by
  unfold State.forceIso
  exact .ite hs.same.isoBegin hs.same.setFld

theorem State.Kept.isoDram {forced : Bool} {d : Nat} (hs : s.Kept Q C) : (s.isoDram forced d).Kept Q C :=
  .ite ((State.Kept.ite hs.drTo hs.drainDram).dropDram) (.ite hs.drTo hs.drainDram)

theorem State.Kept.isoStep {o : Nat} (hs : s.Kept Q C) : (s.isoStep o).Kept Q C := by
  unfold State.isoStep
  extract_lets _ _ _ s1 s2 s3 s4
  have h1 : s1.Kept Q C := .ite hs.beginClose hs
  have h2 : s2.Kept Q C := .ite hs hs.domTo
  have h3 : s3.Kept Q C := .ite hs hs.domainLost
  have h4 : s4.Kept Q C := .ite h3 h3.domainLost
  refine .ite ?_ ?_
  · exact hs
  · refine .ite ?_ ?_
    · exact (State.Kept.ite h1.discardCluster h1).setFld
    · refine .ite ?_ ?_
      · exact .ite hs ((State.Kept.ite hs.domTo.pkAbort hs).setFld)
      · exact .ite ((hs.foldl fun _ _ h5 => h5.isoDram).setFld) (.ite (.ite (hs.foldl fun _ _ h6 => h6.isoDram) ((State.Kept.ite h2
          h2.domTo).setFld)) h4.setFld.setFld.irq)

theorem State.Kept.restoreCheck {o : Nat} (hs : s.Kept Q C) : (s.restoreCheck o).Kept Q C := .ite hs.wrn.irq hs
theorem State.Kept.allOff (hs : s.Kept Q C) : s.allOff.Kept Q C := by
  unfold State.allOff
  extract_lets s2 s5
  have h2 : s2.Kept Q C := hs.foldl fun _ _ h3 => h3.domainLost
  have h5 : s5.Kept Q C := h2.foldl fun _ _ h6 => .ite h6 h6.setFld
  exact h5.same.setFld

/-! ### TwinCmds -/

theorem State.Kept.acked {m : Mirror} (hs : s.Kept Q C) : (s.acked m).Kept Q C := by
  unfold State.acked
  split
  · exact hs.commitEntry.commitFollow
  · exact hs
  · exact .ite hs.setZone hs

theorem State.Kept.execTwinAckRx (hs : s.Kept Q C) : Answers Q C (execTwinAckRx s) := by
  unfold Machine.execTwinAckRx
  refine .done ?_
  split
  · exact hs
  · rename_i heq
    have h1 := hs.linkTake heq
    extract_lets
    split
    · exact h1
    · exact h1.same.twBump.acked.tryCommitSwap

theorem State.Kept.sendAck (hs : s.Kept Q C) : s.sendAck.Kept Q C := hs.linkSend
theorem State.Kept.acceptSeal {b : List Byte} (hs : s.Kept Q C) : (s.acceptSeal b).Kept Q C :=
  .ite ((hs.setSeal.wr64.foldl fun _ _ h1 => h1.setStrand).sendAck) hs.mirrorFault

theorem State.Kept.acceptEntry {b : List Byte} (hs : s.Kept Q C) : (s.acceptEntry b).Kept Q C := .ite hs.setStrand.sendAck hs.mirrorFault
theorem State.Kept.execJournalFrameRx (hs : s.Kept Q C) : Answers Q C (execJournalFrameRx s) := by
  unfold Machine.execJournalFrameRx
  refine .done ?_
  split
  · exact hs
  · rename_i heq
    have h1 := hs.linkTake heq
    exact .ite h1 (.ite h1.acceptSeal h1.acceptEntry)

theorem State.Kept.execStandbyChainVerify {k : Nat} (hs : s.Kept Q C) : Answers Q C (execStandbyChainVerify k s) :=
  .done (.ite hs.verifyOne hs)

theorem State.Kept.execSealRecordRx (hs : s.Kept Q C) : Answers Q C (execSealRecordRx s) := by
  unfold Machine.execSealRecordRx
  refine .done ?_
  split
  · exact hs
  · rename_i heq
    have h1 := hs.linkTake heq
    exact .ite (.ite h1.acceptSeal h1) hs

theorem State.Kept.fingerprintFault (hs : s.Kept Q C) : s.fingerprintFault.Kept Q C := by
  unfold State.fingerprintFault
  exact hs.same.twStatus.setTwState

theorem State.Kept.execDeltaFrameRx (hs : s.Kept Q C) : Answers Q C (execDeltaFrameRx s) := by
  unfold Machine.execDeltaFrameRx
  refine .done ?_
  split
  · exact hs
  · rename_i heq
    have h1 := hs.linkTake heq
    extract_lets
    refine .ite ?_ ?_
    · exact h1
    · refine .ite ?_ ?_
      · exact h1.fingerprintFault
      · exact (h1.foldl fun _ _ h2 => by
            extract_lets _ s3
            have h3 : s3.Kept Q C := h2.same.wr64.applyDelta
            exact .ite (.ite h3.same h3) h2).sendAck

theorem State.Kept.execCheckpointTimer (hs : s.Kept Q C) : Answers Q C (execCheckpointTimer s) := .done (.ite hs.startCheckpoint hs)
theorem State.Kept.checkpointFail {code : Nat} (hs : s.Kept Q C) : (s.checkpointFail code).Kept Q C := by
  unfold State.checkpointFail
  exact .ite hs.same.wrn.twStatus.twBump.irq.setTwState hs.same.wrn.twStatus.twBump.irq

theorem State.Kept.putShadow {region i n : Nat} {d : List Byte} (hs : s.Kept Q C) : (s.putShadow region i n d).Kept Q C := by
  unfold State.putShadow
  exact hs.foldl fun _ _ h1 => h1.same

theorem State.Kept.takeHeads {d : List Byte} (hs : s.Kept Q C) : (s.takeHeads d).Kept Q C :=
  (hs.foldl fun _ _ h1 => h1.setStrand).foldl fun _ _ h2 => h2.setSeal

theorem State.Kept.execCheckpointSegmentRx (hs : s.Kept Q C) : Answers Q C (execCheckpointSegmentRx s) := by
  unfold Machine.execCheckpointSegmentRx
  refine .done ?_
  split
  · exact hs
  · rename_i heq
    have h1 := hs.linkTake heq
    extract_lets _ _ _ _ _ _ _ _ s2
    have h2 : s2.Kept Q C := .ite (.ite h1.same.setTwState (.ite h1.same.setTwState h1.same)) h1
    refine .ite ?_ ?_
    · exact hs
    · refine .ite ?_ ?_
      · exact h2
      · exact .ite h2.checkpointFail (.ite h2.checkpointFail (.ite (.ite h2.same.wrn.takeHeads h2.same.wrn) h2.same.wrn.putShadow))

theorem State.Kept.shadowLive (hs : s.Kept Q C) : s.shadowLive.Kept Q C := by
  unfold State.shadowLive
  extract_lets _ s2 s5
  have h2 : s2.Kept Q C := hs.foldl fun _ _ h3 => .ite h3.applyZone (.ite h3.applyStone h3.applyKey)
  have h5 : s5.Kept Q C := h2.foldl fun _ _ h6 => h6.applyDelta
  exact h5.same.wr64.wrn

theorem State.Kept.execCheckpointEndRx (hs : s.Kept Q C) : Answers Q C (execCheckpointEndRx s) := by
  unfold Machine.execCheckpointEndRx
  refine .done ?_
  split
  · exact hs
  · rename_i heq
    have h1 := hs.linkTake heq
    exact .ite hs (.ite h1 (.ite (.ite h1.shadowLive.wrn.twBump.irq.setTwState h1.shadowLive.wrn.twBump.irq) h1.checkpointFail))

theorem State.Kept.execHeartbeatTx (hs : s.Kept Q C) : Answers Q C (execHeartbeatTx s) := .done (.ite hs.linkSend hs)
theorem State.Kept.execHeartbeatRx {st ckpt : Nat} (hs : s.Kept Q C) : Answers Q C (execHeartbeatRx st ckpt s) := by
  unfold Machine.execHeartbeatRx
  refine .done ?_
  split
  · exact hs
  · rename_i heq
    have h1 := hs.linkTake heq
    extract_lets _ _ s2 _ s3
    have h2 : s2.Kept Q C := h1.same
    have h3 : s3.Kept Q C := .ite (.ite h2.checkpointDone (.ite h2.same.twBump.irq.startCheckpoint h2)) h2
    exact .ite h1 (.ite h2 (.ite h2.same.standbyLost (.ite h3.paired h3)))

theorem State.Kept.execHeartbeatLoss (hs : s.Kept Q C) : Answers Q C (execHeartbeatLoss s) := .done (.ite hs.bump.declareLoss hs)
theorem State.Kept.execProbeTimeout (hs : s.Kept Q C) : Answers Q C (execProbeTimeout s) := .done (.ite hs.afterProbe hs)
theorem State.Kept.execProbeRspRx (hs : s.Kept Q C) : Answers Q C (execProbeRspRx s) := by
  unfold Machine.execProbeRspRx
  refine .done ?_
  split
  · exact hs
  · rename_i heq
    have h1 := hs.ringTake heq
    exact .ite h1 h1.same.afterProbe

theorem State.Kept.execTwinLinkUp (hs : s.Kept Q C) : Answers Q C (execTwinLinkUp s) := by
  unfold Machine.execTwinLinkUp
  exact .done (.ite hs hs.same.sendState)

theorem State.Kept.standbyJoins {p : TwinPos} (hs : s.Kept Q C) : (s.standbyJoins p).Kept Q C := by
  unfold State.standbyJoins
  extract_lets _ s1
  have h1 : s1.Kept Q C := hs.same
  exact .ite h1.same.twBump.paired.sendState h1.twStatus.startCheckpoint

theorem State.Kept.forked {gen : Nat} {p : TwinPos} (hs : s.Kept Q C) : (s.forked gen p).Kept Q C := by
  unfold State.forked
  extract_lets _ s1 _ s2
  have h1 : s1.Kept Q C := hs.twStatus.irq.bump
  have h2 : s2.Kept Q C := h1.same.stopMirror
  exact h2.setRoleGen.dropTransfers.setTwState

theorem State.Kept.execSwapStateRx {p : TwinPos} (hs : s.Kept Q C) : Answers Q C (execSwapStateRx p s) := by
  unfold Machine.execSwapStateRx
  refine .done ?_
  split
  · exact hs
  · rename_i heq
    have h1 := hs.linkTake heq
    extract_lets _ _ _ _ s2 _ _ _ s3 s4 _ s5
    have h2 : s2.Kept Q C := h1.same
    have h3 : s3.Kept Q C := h2.same
    have h4 : s4.Kept Q C := h3.setRoleGen
    have h5 : s5.Kept Q C := .ite h4.same.setTwState h4
    refine .ite ?_ ?_
    · exact hs
    · refine .ite ?_ ?_
      · exact .ite (.ite h2.forked (.ite h2.forked h2.same)) (.ite h2.standbyJoins h2.same)
      · exact .ite (.ite h5.setTwState h5) h2.same

theorem State.Kept.takeSwap {op : Nat} {e : (Nat × Nat) × State} (hs : s.Kept Q C) (he : s.takeSwap op = some e) :
    e.2.Kept Q C := by
  unfold State.takeSwap at he
  split at he
  · rename_i heq
    split at he
    · cases he; exact .pair (hs.linkTake heq)
    · cases he
  · cases he

theorem State.Kept.rejectSwap {g code : Nat} (hs : s.Kept Q C) : (s.rejectSwap g code).Kept Q C := hs.sendSwap.twBump.irq
theorem State.Kept.execSwapReqRx (hs : s.Kept Q C) : Answers Q C (execSwapReqRx s) := by
  unfold Machine.execSwapReqRx
  refine .done ?_
  split
  · exact hs
  · rename_i heq
    have h1 := hs.takeSwap heq
    extract_lets
    refine .ite ?_ ?_
    · exact h1.rejectSwap
    · exact .ite h1.rejectSwap (.ite h1.rejectSwap (.ite h1.beginDrain (.ite h1 h1.same.sendSwap)))

theorem State.Kept.execSwapAcceptRx (hs : s.Kept Q C) : Answers Q C (execSwapAcceptRx s) := by
  unfold Machine.execSwapAcceptRx
  refine .done ?_
  split
  · exact hs
  · rename_i heq
    have h1 := hs.takeSwap heq
    exact .ite h1.beginDrain (.ite h1.same h1)

theorem State.Kept.execSwapCommitRx (hs : s.Kept Q C) : Answers Q C (execSwapCommitRx s) := by
  unfold Machine.execSwapCommitRx
  refine .done ?_
  split
  · exact hs
  · rename_i heq
    have h1 := hs.takeSwap heq
    extract_lets s2 _ _ s3
    have h2 : s2.Kept Q C := .ite h1.verifyAll h1
    have h3 : s3.Kept Q C := h2.same.setRoleGen.takeCeilings.setTwState
    exact .ite h3.sendSwap.twBump.irq.becomeActive h2

theorem State.Kept.execSwapDoneRx (hs : s.Kept Q C) : Answers Q C (execSwapDoneRx s) := by
  unfold Machine.execSwapDoneRx
  refine .done ?_
  split
  · exact hs
  · rename_i heq
    have h1 := hs.takeSwap heq
    exact .ite ((((((h1.same.foldl fun _ _ h2 => h2.setStrand).foldl fun _ _ h3 => h3.setSeal).setTwState).twBump).irq).forwardQueued) h1

theorem State.Kept.execSwapRejectRx (hs : s.Kept Q C) : Answers Q C (execSwapRejectRx s) := by
  unfold Machine.execSwapRejectRx
  refine .done ?_
  split
  · exact hs
  · rename_i heq
    have h1 := hs.takeSwap heq
    exact .ite h1.same.twStatus.irq h1

theorem State.Kept.execSwapDrainEnd (hs : s.Kept Q C) : Answers Q C (execSwapDrainEnd s) := by
  unfold Machine.execSwapDrainEnd
  refine .done ?_
  extract_lets s1
  have h1 : s1.Kept Q C := hs.discardVerdicts.markers
  exact .ite h1.same.tryCommitSwap hs

theorem State.Kept.execTwActivate (hs : s.Kept Q C) : Answers Q C (execTwActivate s) := by
  unfold Machine.execTwActivate
  exact .done (.ite hs.twStatus hs.same.setRoleGen.setTwState.markers.becomeActive.twStatus.took)

theorem State.Kept.execTwStandby (hs : s.Kept Q C) : Answers Q C (execTwStandby s) := by
  unfold Machine.execTwStandby
  exact .done (.ite hs.twStatus hs.same.setRoleGen.setTwState.sendState.twStatus.took)

theorem State.Kept.execTwSwap (hs : s.Kept Q C) : Answers Q C (execTwSwap s) :=
  .done (.ite hs.twStatus (.ite hs.twStatus.requestSwap.took hs.twStatus))

theorem State.Kept.execTwCheckpoint (hs : s.Kept Q C) : Answers Q C (execTwCheckpoint s) :=
  .done (.ite hs.twStatus.startCheckpoint.took hs.twStatus)

theorem State.Kept.detach (hs : s.Kept Q C) : s.detach.Kept Q C := by
  unfold State.detach
  exact hs.same.stopMirror.setTwState

theorem State.Kept.execTwDetach (hs : s.Kept Q C) : Answers Q C (execTwDetach s) := .done hs.detach.twStatus.took
theorem State.Kept.execTwCfgWrite {off : Nat} {v : Reg} (hs : s.Kept Q C) : Answers Q C (execTwCfgWrite off v s) := by
  unfold Machine.execTwCfgWrite
  refine .done ?_
  extract_lets _ s2
  have h2 : s2.Kept Q C := .ite (hs.foldl fun _ _ h3 => h3.clrCtr) hs
  exact .ite (.ite hs.twStatus (h2.rwlWrite (fun _ h4 => h4.wr.took))) (.ite (hs.rwlWrite (fun _ h5 => .ite h5.twStatus h5.wr.took)) hs)

theorem State.Kept.execTwLinkKeyWrite {v : Reg} (hs : s.Kept Q C) : Answers Q C (execTwLinkKeyWrite v s) := by
  unfold Machine.execTwLinkKeyWrite
  refine .done ?_
  refine State.Kept.rwlWrite ?_ (fun _ h1 => by
      extract_lets
      split
      · rename_i heq
        have h2 := h1.wr.took.linkKeyOf.sndsnd heq
        extract_lets _ s3
        have h3 : s3.Kept Q C := .ite h2 h2.twStatus
        exact h3.same)
  exact hs

/-! ### StartOps -/

theorem State.Kept.setStart {hi lo v : Nat} (hs : s.Kept Q C) : (s.setStart hi lo v).Kept Q C := hs.setFld
theorem State.Kept.startCause {c : Nat} (hs : s.Kept Q C) : (s.startCause c).Kept Q C := hs.setStart.setStart
theorem State.Kept.startStatus {step code : Nat} (hs : s.Kept Q C) : (s.startStatus step code).Kept Q C := hs.wrn
theorem State.Kept.enterStep {k : Nat} (hs : s.Kept Q C) : (s.enterStep k).Kept Q C := by
  unfold State.enterStep
  extract_lets
  refine .ite ?_ ?_
  · exact .ite hs.same.setStart.startTests hs.same.setStart.setDomain.startTests.drbgInstantiateDue
  · exact .ite (.ite hs.same.setStart.sendState hs.same.setStart) hs.same.setStart

theorem State.Kept.recordStep {k : Nat} (hs : s.Kept Q C) : (s.recordStep k).Kept Q C := hs.wrn
theorem State.Kept.flashCut (hs : s.Kept Q C) : s.flashCut.Kept Q C := by
  unfold State.flashCut
  extract_lets f1 s4
  have h1 : ∀ t y2 y3, t.Kept Q C → (f1 t y2 y3).Kept Q C := fun _ _ _ h2 => h2.foldl fun _ _ h3 => h3.free.setFlWord
  have h4 : s4.Kept Q C := by
    unfold s4
    split
    · exact .ite hs (.ite (h1 _ _ _ hs) (.ite (h1 _ _ _ hs) hs))
    · exact hs
  split
  · exact h1 _ _ _ h4.eraseBank
  · exact h4

theorem State.Kept.startShown {kind : Nat} (hs : s.Kept Q C) : (s.startShown kind).Kept Q C := by
  unfold State.startShown
  extract_lets s2
  have h2 : s2.Kept Q C := hs.foldl fun _ _ h3 => h3.wrn
  exact h2.same.setStart.setStart.setStart

theorem State.Kept.coldReset {cause : Nat} (hs : s.Kept Q C) : (s.coldReset cause).Kept Q C := by
  unfold State.coldReset
  extract_lets s1 _ _ _ s2 s3
  have h1 : s1.Kept Q C := hs.flashCut
  have h2 : s2.Kept Q C := (h1.parts (filter_wf _ _ _) (filter_wf _ _ _) (fun _ => tblWf_nil _) (filter_wf _ _ _))
  have h3 : s3.Kept Q C := h2.startCause.setFld
  exact h3.startShown.setStart.bump

theorem State.Kept.coldStart {cause : Nat} (hs : s.Kept Q C) : (s.coldStart cause).Kept Q C := hs.coldReset
theorem State.Kept.warmReset {cause : Nat} (hs : s.Kept Q C) : (s.warmReset cause).Kept Q C := by
  unfold State.warmReset
  extract_lets s2 _ _ _ _ _ s4 s6 s9 s12 s15 s17
  have h2 : s2.Kept Q C := hs.foldl fun _ _ h3 => h3.setFld
  have h4 : s4.Kept Q C := (h2.parts (filter_wf _ _ _) (filter_wf _ _ _) id (filter_wf _ _ _))
  have h6 : s6.Kept Q C := h4.foldl fun _ _ h7 => h7.setFld
  have h9 : s9.Kept Q C := h6.foldl fun _ _ h10 => h10.setFld
  have h12 : s12.Kept Q C := h9.foldl fun _ _ h13 => .ite h13.modLane h13
  have h15 : s15.Kept Q C := by
    refine State.Kept.foldl ?_ (fun _ _ h16 => .ite h16.drbgOff.drbgInstantiateDue h16.drbgOff)
    exact h12
  have h17 : s17.Kept Q C := h15.endGrant
  exact h17.startCause.startShown.setFld.bump

theorem State.Kept.warmPrep {cause : Nat} (hs : s.Kept Q C) : (s.warmPrep cause).Kept Q C := by
  unfold State.warmPrep
  exact hs.same.foldl fun _ _ h1 => .ite h1.endTx h1

theorem State.Kept.warmBegin {cause : Nat} (hs : s.Kept Q C) : (s.warmBegin cause).Kept Q C :=
  (hs.foldl fun _ _ h1 => h1.evictCtx).warmReset

theorem State.Kept.enterHeld (hs : s.Kept Q C) : s.enterHeld.Kept Q C := by
  unfold State.enterHeld
  exact ((((hs.foldl fun _ _ h1 => h1.domainLost).foldl fun _ _ h2 => .ite h2 h2.domainUp).setStart).setStart).irq

theorem State.Kept.startFail {code : Nat} (hs : s.Kept Q C) : (s.startFail code).Kept Q C := by
  unfold State.startFail
  extract_lets _ s1 _ _ s2
  have h1 : s1.Kept Q C := hs.startStatus.bump.irq
  have h2 : s2.Kept Q C := h1.same.setStart.setStart
  exact .ite h1.startStatus.coldStart (.ite h2.startStatus.enterHeld h2.same)

theorem State.Kept.goOff (hs : s.Kept Q C) : s.goOff.Kept Q C := by
  unfold State.goOff
  extract_lets s1 _ s2
  have h1 : s1.Kept Q C := hs.allOff
  have h2 : s2.Kept Q C := h1.same
  exact h2.setStart.setStart

theorem State.Kept.csApplied {n m : Nat} (hs : s.Kept Q C) : (s.csApplied n m).Kept Q C := hs.setFld.setFld
theorem State.Kept.step1 (hs : s.Kept Q C) : s.step1.2.Kept Q C := by
  unfold State.step1
  extract_lets
  refine .itePair ?_ ?_
  · exact .pair hs
  · refine .itePair ?_ ?_
    · exact .pair hs
    · refine .itePair ?_ ?_
      · refine .itePair ?_ ?_
        · exact .pair hs.same.wrn.csApplied
        · exact .pair hs
      · split
        · exact .pair hs
        · exact .pair (((State.Kept.ite hs.same.wrn.wrn.wr64.irq hs.same.wrn.wrn.wr64).wrn).csApplied)

theorem State.Kept.step3 (hs : s.Kept Q C) : s.step3.Kept Q C := by
  unfold State.step3
  extract_lets s1
  have h1 : s1.Kept Q C := .ite hs.unlatch hs
  refine .ite ?_ ?_
  · split
    · rename_i heq
      have h2 := h1.draw.snd heq
      exact h2.modCus
    · rename_i heq
      have h3 := h1.draw.snd heq
      exact h3
  · exact h1

theorem State.Kept.step4 (hs : s.Kept Q C) : s.step4.Kept Q C := by
  unfold State.step4
  extract_lets _ _ _ _ s2
  have h2 : s2.Kept Q C := hs.same.foldl fun _ _ h3 => .ite h3.domainUp h3
  exact h2.same.csApplied

theorem State.Kept.keepLanes {d : Nat} (hs : s.Kept Q C) : (s.keepLanes d).Kept Q C := by
  unfold State.keepLanes
  exact hs.foldl fun _ _ h1 => .ite h1.modLane h1

theorem State.Kept.dramIn {d : Nat} (hs : s.Kept Q C) : (s.dramIn d).Kept Q C := hs.keepLanes.drTo
theorem State.Kept.dramFailed {d sram : Nat} (hs : s.Kept Q C) : (s.dramFailed d sram).Kept Q C :=
  hs.domainLost.drTo.drStatus.wrn.bump.irq

theorem State.Kept.step5 {bad : List Nat} (hs : s.Kept Q C) : (s.step5 bad).Kept Q C := by
  unfold State.step5
  exact hs.foldl fun _ _ h1 => by
    refine .ite ?_ ?_
    · split
      · exact h1.dramFailed
      · exact h1.dramIn
    · exact h1

theorem State.Kept.step7 (hs : s.Kept Q C) : s.step7.Kept Q C := by
  unfold State.step7
  exact hs.foldl fun _ _ h1 => .ite h1.acquire h1

theorem State.Kept.releaseCores (hs : s.Kept Q C) : s.releaseCores.Kept Q C := by
  unfold State.releaseCores
  exact hs.foldl fun _ _ h1 => .ite h1.setFld.modCore h1

theorem State.Kept.step8 {write : Nat → Reg → State → Bool × State} (hs : s.Kept Q C) (hf : ∀ y1 y2 t, t.Kept Q C → (write y1 y2
    t).2.Kept Q C) : (s.step8 write).Kept Q C := by
  unfold State.step8
  extract_lets s2 s4
  have h2 : s2.Kept Q C := hs.foldl fun _ _ h3 => .ite h3.loadFirmware h3
  have h4 : s4.Kept Q C := .ite h2 h2.releaseCores
  exact h4.csApplied.foldl fun _ _ h5 => .ite h5.csApplied (.ite (hf _ _ _ h5) ((hf _ _ _ h5).csApplied))

theorem State.Kept.step11 {write : Nat → Reg → State → Bool × State} (hs : s.Kept Q C) (hf : ∀ y1 y2 t, t.Kept Q C → (write y1 y2
    t).2.Kept Q C) : (s.step11 write).Kept Q C := by
  unfold State.step11
  extract_lets _ s1 s2
  have h1 : s1.Kept Q C := by
    unfold s1
    split
    · exact (hf _ _ _ hs).csApplied
    · exact hs
  have h2 : s2.Kept Q C := by
    unfold s2
    split
    · exact (hf _ _ _ h1).csApplied
    · exact h1
  exact .ite (hf _ _ _ h2) h2

theorem State.Kept.portOpen (hs : s.Kept Q C) : s.portOpen.Kept Q C := by
  unfold State.portOpen
  extract_lets s1 s2
  have h1 : s1.Kept Q C := .ite hs hs.releaseCores
  have h2 : s2.Kept Q C := h1.setStart.setStart.setStart.setStart
  exact h2.same.kickWatchdog.irq.serveWake

/-! ### PowerCmds -/

theorem State.Kept.powerOn {keep : Bool} (hs : s.Kept Q C) : (s.powerOn keep).Kept Q C := by
  unfold State.powerOn
  extract_lets _ s1 _ s2 s3 s4 s5
  have h1 : s1.Kept Q C := hs.flashCut
  have h2 : s2.Kept Q C := (h1.parts (filter_wf _ _ _) (filter_wf _ _ _) id id)
  have h3 : s3.Kept Q C := h2.modCus
  have h4 : s4.Kept Q C := .ite h3.modCus h3
  have h5 : s5.Kept Q C := h4.coldStart.setStart
  refine .ite ?_ ?_
  · split
    · exact h5
    · extract_lets s6 s7
      have h6 : s6.Kept Q C := h5.wrn.irq
      have h7 : s7.Kept Q C := .ite h6.gapMove h6
      exact h7.same
  · exact hs.coldStart

theorem State.Kept.execPowerOn {keep : Bool} (hs : s.Kept Q C) : Answers Q C (execPowerOn keep s) := .done hs.powerOn
theorem State.Kept.execSysResetAssert (hs : s.Kept Q C) : Answers Q C (execSysResetAssert s) := by
  unfold Machine.execSysResetAssert
  exact .done hs.same.coldStart

theorem State.Kept.execSysResetDeassert (hs : s.Kept Q C) : Answers Q C (execSysResetDeassert s) := by
  unfold Machine.execSysResetDeassert
  exact .done (.ite hs.same hs)

theorem State.Kept.execStartCold (hs : s.Kept Q C) : Answers Q C (execStartCold s) := by
  unfold Machine.execStartCold
  refine .done ?_
  extract_lets s1
  have h1 : s1.Kept Q C := hs.took
  exact h1.same.coldStart

theorem State.Kept.startWarm {cause : Nat} (hs : s.Kept Q C) : (s.startWarm cause).Kept Q C := .ite hs.startStatus hs.warmPrep
theorem State.Kept.execStartWarm (hs : s.Kept Q C) : Answers Q C (execStartWarm s) := .done hs.took.startWarm
theorem State.Kept.execFwLoad (hs : s.Kept Q C) : Answers Q C (execFwLoad s) := by
  unfold Machine.execFwLoad
  refine .done ?_
  extract_lets s1
  have h1 : s1.Kept Q C := hs.took
  exact .ite h1.startWarm h1.same.startWarm

theorem State.Kept.execWarmPrepDone (hs : s.Kept Q C) : Answers Q C (execWarmPrepDone s) := by
  unfold Machine.execWarmPrepDone
  refine .done ?_
  split
  · exact hs
  · exact hs.warmBegin

theorem State.Kept.execWarmPrepTimeout (hs : s.Kept Q C) : Answers Q C (execWarmPrepTimeout s) := by
  unfold Machine.execWarmPrepTimeout
  refine .done ?_
  split
  · exact hs
  · exact hs.startStatus.coldStart

theorem State.Kept.execColdRetryTimer (hs : s.Kept Q C) : Answers Q C (execColdRetryTimer s) := .done (.ite hs.coldStart hs)
theorem State.Kept.execCustodyWdExpiry (hs : s.Kept Q C) : Answers Q C (execCustodyWdExpiry s) := .done hs.coldStart
theorem State.Kept.execDeviceWdExpiry (hs : s.Kept Q C) : Answers Q C (execDeviceWdExpiry s) := .done (.ite hs.setFld.warmPrep hs)
theorem State.Kept.execGlbWdKick {v : Reg} (hs : s.Kept Q C) : Answers Q C (execGlbWdKick v s) :=
  .done (.ite hs.took.kickWatchdog hs.took)

theorem State.Kept.execWdKickStore {c : Nat} {v : Word} (hs : s.Kept Q C) : Answers Q C (execWdKickStore c v s) :=
  .done (.ite hs.storeArrives hs)

theorem State.Kept.execThermalSample {temps : List Nat} (hs : s.Kept Q C) : Answers Q C (execThermalSample temps s) := by
  unfold Machine.execThermalSample
  exact .done (.ite hs.same.setFld.setFld.setFld.irq hs.same.setFld.setFld.setFld)

theorem State.Kept.execThermalTrip (hs : s.Kept Q C) : Answers Q C (execThermalTrip s) := by
  unfold Machine.execThermalTrip
  refine .done ?_
  extract_lets s1
  have h1 : s1.Kept Q C := hs.goOff.startCause.startStatus
  exact .ite h1.same hs

theorem State.Kept.execThermalRestartTimer (hs : s.Kept Q C) : Answers Q C (execThermalRestartTimer s) :=
  .done (.ite hs.coldStart.setStart hs)

theorem State.Kept.execUndervoltageDetect {rail : Nat} (hs : s.Kept Q C) : Answers Q C (execUndervoltageDetect rail s) := by
  unfold Machine.execUndervoltageDetect
  exact .done (.ite hs (.ite hs.same hs.same.goOff.startStatus))

theorem State.Kept.execPwOn {cust : Bool} (hs : s.Kept Q C) : Answers Q C (execPwOn cust s) := .done hs.took.pwRequest
theorem State.Kept.execPwOff {cust : Bool} (hs : s.Kept Q C) : Answers Q C (execPwOff cust s) := .done hs.took.pwRequest
theorem State.Kept.powerFollow (hs : s.Kept Q C) : s.powerFollow.Kept Q C := hs.powerStep.serveWake.foldl fun _ _ h1 => h1.restoreCheck
theorem State.Kept.execDomainTransitionDone {d : Nat} (hs : s.Kept Q C) : Answers Q C (execDomainTransitionDone d s) := by
  unfold Machine.execDomainTransitionDone
  refine .done ?_
  extract_lets _ _ s1 _ s2
  have h1 : s1.Kept Q C := .ite hs.domainLost hs.domainLost.drTo
  have h2 : s2.Kept Q C := .ite (.ite h1.same.wantAll h1) hs.domainLost
  exact .ite hs.domainUp.powerFollow (.ite (.ite hs hs.domTo) (.ite h2.powerFollow hs))

theorem State.Kept.execWakeEvent {d src : Nat} (hs : s.Kept Q C) : Answers Q C (execWakeEvent d src s) :=
  .done ((State.Kept.ite hs.wake hs).serveWake)

theorem State.Kept.execSlowInputAccept {i : Nat} {active : Bool} (hs : s.Kept Q C) : Answers Q C (execSlowInputAccept i active s) := by
  unfold Machine.execSlowInputAccept
  refine .done ?_
  extract_lets
  refine .ite ?_ ?_
  · exact hs.setSlow
  · refine .ite ?_ ?_
    · exact hs.setSlow.setSlow
    · refine .ite ?_ ?_
      · exact hs.setSlow
      · refine .ite ?_ ?_
        · exact hs.setSlow.setSlow
        · refine .ite ?_ ?_
          · exact .ite hs.setSlow.setSlow.requestSwap hs.setSlow.setSlow
          · exact .ite (.ite hs.setSlow.setSlow hs.setSlow.setSlow.wake.serveWake) (.ite (.ite hs.setSlow.setSlow
              hs.setSlow.setSlow.wake.serveWake) hs.setSlow.setSlow)

theorem State.Kept.execSlowInputChatter {i : Nat} (hs : s.Kept Q C) : Answers Q C (execSlowInputChatter i s) :=
  .done (.ite hs hs.setSlow.bump)

/-! ### ServiceCmds -/

theorem State.Kept.prbsInject {n : Nat} (hs : s.Kept Q C) : (s.prbsInject n).Kept Q C := .ite hs.wrn hs
theorem State.Kept.execLnTestCfgWrite {n : Nat} {v : Reg} (hs : s.Kept Q C) : Answers Q C (execLnTestCfgWrite n v s) :=
  .done (hs.pageWrite (fun _ h1 => .ite h1.prbsInject.took (.ite h1.lnStatus h1.wrn.took)))

theorem State.Kept.execPrbsInject {n : Nat} (hs : s.Kept Q C) : Answers Q C (execPrbsInject n s) :=
  .done (hs.pageWrite (fun _ h1 => .ite h1.prbsInject.took h1.lnStatus))

theorem State.Kept.execPrbsLockChange {n : Nat} {lock : Bool} {bits errs : Nat} (hs : s.Kept Q C) : Answers Q C (execPrbsLockChange n
    lock bits errs s) := .done (.ite hs (.ite (((State.Kept.ite hs.wr64.wrn hs).setFld).setFld) ((State.Kept.ite hs.wr64.wrn hs).setFld)))

theorem State.Kept.dramCmd {d : Nat} {st : List Nat} {f : State → State} (hs : s.Kept Q C) (hf : ∀ t, t.Kept Q C → (f t).Kept Q C) :
    (s.dramCmd d st f).Kept Q C := .ite hs.drStatus.took ((hf _ hs.drStatus).took)

theorem State.Kept.execDramOut {d : Nat} (hs : s.Kept Q C) : Answers Q C (execDramOut d s) :=
  .done (hs.dramCmd (fun _ h1 => h1.drainDram))

theorem State.Kept.execDramIn {d : Nat} (hs : s.Kept Q C) : Answers Q C (execDramIn d s) :=
  .done (hs.dramCmd (fun _ h1 => .ite h1.wantAll.powerStep h1.drStatus))

theorem State.Kept.execDramCycle {d : Nat} (hs : s.Kept Q C) : Answers Q C (execDramCycle d s) := by
  unfold Machine.execDramCycle
  exact .done (hs.dramCmd (fun _ h1 => h1.same.drainDram.bump))

theorem State.Kept.execDramDrainDone {d : Nat} (hs : s.Kept Q C) : Answers Q C (execDramDrainDone d s) := .done (.ite hs.closeDram hs)
theorem State.Kept.execDramDrainTimeout {d : Nat} (hs : s.Kept Q C) : Answers Q C (execDramDrainTimeout d s) :=
  .done (.ite hs.dropDram hs)

theorem State.Kept.execDramCloseDone {d : Nat} (hs : s.Kept Q C) : Answers Q C (execDramCloseDone d s) := .done (.ite hs.dramClosed hs)
theorem State.Kept.execDramBistDone {d sram : Nat} (hs : s.Kept Q C) : Answers Q C (execDramBistDone d sram s) :=
  .done (.ite ((State.Kept.ite hs.wrn.dramIn hs.dramFailed).powerFollow) hs)

theorem State.Kept.coreTest {o k op : Nat} (hs : s.Kept Q C) : (s.coreTest o k op).Kept Q C := by
  unfold State.coreTest
  extract_lets _ _ s1
  have h1 : s1.Kept Q C := hs.took
  exact .ite h1.status h1.same.wrn

theorem State.Kept.execCoreBist {o k : Nat} (hs : s.Kept Q C) : Answers Q C (execCoreBist o k s) := .done hs.coreTest
theorem State.Kept.execReload {o k : Nat} (hs : s.Kept Q C) : Answers Q C (execReload o k s) := .done hs.coreTest
theorem State.Kept.execCoreTestDone {o : Nat} {pass : Bool} (hs : s.Kept Q C) : Answers Q C (execCoreTestDone o pass s) := by
  unfold Machine.execCoreTestDone
  refine .done ?_
  extract_lets
  split
  · exact hs
  · exact ((State.Kept.ite hs.same.resetCore.zeroBytes.zeroBytes hs.same.loadFirmware).wrn).irq

theorem State.Kept.execVerdictDrainTimeout {o : Nat} (hs : s.Kept Q C) : Answers Q C (execVerdictDrainTimeout o s) :=
  .done (.ite hs.discardCluster hs)

theorem State.Kept.isoStatus {o code : Nat} (hs : s.Kept Q C) : (s.isoStatus o code).Kept Q C := hs.status.took
theorem State.Kept.execIsolate {o : Nat} (hs : s.Kept Q C) : Answers Q C (execIsolate o s) :=
  .done (.ite hs.isoStatus (.ite hs.isoStatus (.ite hs.isoStatus hs.isoStatus.isoBegin)))

theorem State.Kept.execRestore {o : Nat} (hs : s.Kept Q C) : Answers Q C (execRestore o s) :=
  .done (.ite hs.isoStatus hs.isoStatus.setFld.wantAll.powerFollow)

theorem State.Kept.execIsolationStepDone {o : Nat} (hs : s.Kept Q C) : Answers Q C (execIsolationStepDone o s) :=
  .done hs.isoStep.powerFollow

theorem State.Kept.linkFall {a b : Nat} (hs : s.Kept Q C) : (s.linkFall a b).Kept Q C := by
  unfold State.linkFall
  extract_lets _ _ _ s2
  have h2 : s2.Kept Q C := hs.same.errInfo.errInfo.foldl fun _ _ h3 => h3.forceIso
  exact .ite hs (.ite h2.same.detach h2)

theorem State.Kept.execLinkDeliveryTimeout {a b : Nat} (hs : s.Kept Q C) : Answers Q C (execLinkDeliveryTimeout a b s) :=
  .done hs.linkFall

theorem State.Kept.causeEnds {o cause : Nat} (hs : s.Kept Q C) : (s.causeEnds o cause).Kept Q C := hs.same
theorem State.Kept.execCrossOunceLinkRestored {a b : Nat} (hs : s.Kept Q C) : Answers Q C (execCrossOunceLinkRestored a b s) := by
  unfold Machine.execCrossOunceLinkRestored
  refine .done ?_
  extract_lets _ _ s2
  have h2 : s2.Kept Q C := hs.same.foldl fun _ _ h3 => h3.causeEnds
  exact .ite hs (.ite h2 h2.same)

theorem State.Kept.pllLoss {o bit : Nat} (hs : s.Kept Q C) : (s.pllLoss o bit).Kept Q C := hs.setFld.setFld.irq
theorem State.Kept.execRndVckPllLoss {o : Nat} {vck : Bool} (hs : s.Kept Q C) : Answers Q C (execRndVckPllLoss o vck s) :=
  .done (.ite hs hs.pllLoss.errInfo.forceIso)

theorem State.Kept.execXozPllLoss {o k : Nat} (hs : s.Kept Q C) : Answers Q C (execXozPllLoss o k s) :=
  .done (.ite hs hs.pllLoss.linkFall)

theorem State.Kept.execFabPllLoss {o : Nat} (hs : s.Kept Q C) : Answers Q C (execFabPllLoss o s) := by
  unfold Machine.execFabPllLoss
  refine .done ?_
  extract_lets s1
  have h1 : s1.Kept Q C := hs.pllLoss
  exact .ite hs h1.same

theorem State.Kept.execFabRelockTimeout {o : Nat} (hs : s.Kept Q C) : Answers Q C (execFabRelockTimeout o s) := by
  unfold Machine.execFabRelockTimeout
  exact .done (.ite hs.same.coldStart.startStatus hs)

theorem State.Kept.execPllRelock {o pll : Nat} (hs : s.Kept Q C) : Answers Q C (execPllRelock o pll s) := by
  unfold Machine.execPllRelock
  refine .done ?_
  extract_lets _ s1 _ s2
  have h1 : s1.Kept Q C := hs.setFld
  have h2 : s2.Kept Q C := h1.same
  exact .ite hs.same (.ite hs (.ite h2.causeEnds h2))

theorem State.Kept.tap {ir dr : Nat} (hs : s.Kept Q C) : (s.tap ir dr).Kept Q C := hs.same
theorem State.Kept.tapBypass (hs : s.Kept Q C) : s.tapBypass.Kept Q C := hs.tap
theorem State.Kept.tapPins {ir : Nat} (hs : s.Kept Q C) : (s.tapPins ir).Kept Q C := hs.free.tap
theorem State.Kept.tapBoundary {ir : Nat} {scan : Bool} (hs : s.Kept Q C) : (s.tapBoundary ir scan).Kept Q C := by
  unfold State.tapBoundary
  extract_lets s1
  have h1 : s1.Kept Q C := .ite hs.tapPins hs.tap
  exact .ite hs.tapBypass (.ite (hs.tapBypass.foldl fun _ _ h2 => h2.setFld) h1.same)

theorem State.Kept.execTestLogicReset (hs : s.Kept Q C) : Answers Q C (execTestLogicReset s) := .done hs.tap
theorem State.Kept.execExtest (hs : s.Kept Q C) : Answers Q C (execExtest s) := .done hs.tapBoundary

theorem State.Kept.execIdcode (hs : s.Kept Q C) : Answers Q C (execIdcode s) := .done hs.tap
theorem State.Kept.execSamplePreload (hs : s.Kept Q C) : Answers Q C (execSamplePreload s) := .done (.ite hs.tapPins hs.tapBypass)
theorem State.Kept.execHighz (hs : s.Kept Q C) : Answers Q C (execHighz s) := .done hs.tapBoundary

theorem State.Kept.execClamp (hs : s.Kept Q C) : Answers Q C (execClamp s) := .done hs.tapBoundary

theorem State.Kept.execExtestPulse (hs : s.Kept Q C) : Answers Q C (execExtestPulse s) := .done hs.tapBoundary

theorem State.Kept.execExtestTrain (hs : s.Kept Q C) : Answers Q C (execExtestTrain s) := .done hs.tapBoundary

theorem State.Kept.execCustDbg (hs : s.Kept Q C) : Answers Q C (execCustDbg s) := by
  unfold Machine.execCustDbg
  refine .done ?_
  extract_lets s1
  have h1 : s1.Kept Q C := hs.tap
  exact .ite h1.same hs.tapBypass

theorem State.Kept.execBypass (hs : s.Kept Q C) : Answers Q C (execBypass s) := .done hs.tapBypass
theorem State.Kept.execCoreSel {c : Nat} (hs : s.Kept Q C) : Answers Q C (execCoreSel c s) := by
  unfold Machine.execCoreSel
  refine .done ?_
  extract_lets s1
  have h1 : s1.Kept Q C := hs.tap
  exact .ite h1.same hs.tapBypass

theorem State.Kept.coreAccess {op a : Nat} {f : Nat → State → Nat × State} (hs : s.Kept Q C) (hf : ∀ y1 t, t.Kept Q C → (f y1 t).2.Kept Q
    C) : (s.coreAccess op a f).Kept Q C := .ite hs.tapBypass (.ite hs.tap ((hf _ _ hs).tap))

theorem State.Kept.execCoreAccessRead {a : Nat} (hs : s.Kept Q C) : Answers Q C (execCoreAccessRead a s) := by
  unfold Machine.execCoreAccessRead
  refine .done ?_
  extract_lets
  refine State.Kept.coreAccess ?_ (fun _ _ h1 => by
      extract_lets
      refine .itePair ?_ ?_
      · exact .pair h1
      · refine .itePair ?_ ?_
        · exact .pair h1
        · refine .itePair ?_ ?_
          · exact .pair h1
          · refine .pair ?_
            split
            · exact h1.coreViolation
            · exact h1)
  exact hs

theorem State.Kept.execCoreAccessWrite {a : Nat} {v : Word} (hs : s.Kept Q C) : Answers Q C (execCoreAccessWrite a v s) := by
  unfold Machine.execCoreAccessWrite
  refine .done ?_
  extract_lets
  refine State.Kept.coreAccess ?_ (fun _ _ h1 => by
      extract_lets s2
      have h2 : s2.Kept Q C := by
        unfold s2
        refine .ite ?_ ?_
        · exact .ite h1.setReg h1
        · refine .ite ?_ ?_
          · exact .ite h1.modCore h1
          · split
            · extract_lets
              refine .ite ?_ ?_
              · exact h1
              · refine .ite ?_ ?_
                · exact h1.storeArrives
                · split
                  · exact h1.fencedPut.violation
                  · exact h1.fencedPut
      exact .pair h2)
  exact hs

theorem State.Kept.jtagRun {run : Bool} (hs : s.Kept Q C) : (s.jtagRun run).Kept Q C := by
  unfold State.jtagRun
  split
  · exact hs.tapBypass
  · dsimp only
    split
    · rename_i heq
      exact (hs.execVcRun _ heq).tap
    · exact hs

theorem State.Kept.execCoreAccessHalt (hs : s.Kept Q C) : Answers Q C (execCoreAccessHalt s) := .done hs.jtagRun
theorem State.Kept.execCoreAccessRun (hs : s.Kept Q C) : Answers Q C (execCoreAccessRun s) := .done hs.jtagRun

/-! ### RingCmds -/

theorem State.Kept.execJoin (hs : s.Kept Q C) : Answers Q C (execJoin s) := by
  unfold Machine.execJoin
  exact .done (.ite hs.crStatus (.ite hs.crStatus (((hs.same.setRingState.foldl fun _ _ h1 => .ite h1.beginHello h1).crStatus).took)))

theorem State.Kept.execLeave (hs : s.Kept Q C) : Answers Q C (execLeave s) :=
  .done (.ite hs.setRingState.sendPresence.crStatus.took hs.crStatus)

theorem State.Kept.execKeyArm (hs : s.Kept Q C) : Answers Q C (execKeyArm s) := by
  unfold Machine.execKeyArm
  exact .done hs.same.crStatus.took

theorem State.Kept.execLeaveTimeout (hs : s.Kept Q C) : Answers Q C (execLeaveTimeout s) := .done (.ite hs.setRingState hs)
theorem State.Kept.execJoinTimeout (hs : s.Kept Q C) : Answers Q C (execJoinTimeout s) := .done (.ite hs.setRingState.crStatus hs)
theorem State.Kept.execRingIsolateTimeout (hs : s.Kept Q C) : Answers Q C (execRingIsolateTimeout s) :=
  .done (.ite hs.setRingState.crStatus hs)

theorem State.Kept.execRingHelloRx {l : Nat} (hs : s.Kept Q C) : Answers Q C (execRingHelloRx l s) := by
  unfold Machine.execRingHelloRx
  refine .done ?_
  split
  · exact hs
  · rename_i heq
    have h1 := hs.linkTake heq
    exact .ite h1.lnBump (.ite ((((State.Kept.ite h1.modRingLane.sendHello h1.modRingLane).modRingLane).setHello).tryJoined) (.ite
      h1.modRingLane.sendHello h1.modRingLane))

theorem State.Kept.ringDeliver {type l : Nat} {p : List Byte} (hs : s.Kept Q C) : (s.ringDeliver type l p).Kept Q C := by
  unfold State.ringDeliver
  extract_lets s1
  have h1 : s1.Kept Q C := hs.crBump
  exact .ite h1 h1.same

theorem State.Kept.ringOnce {type l src : Nat} {p : List Byte} (hs : s.Kept Q C) : (s.ringOnce type l src p).Kept Q C := by
  unfold State.ringOnce
  extract_lets
  split
  · exact hs.crBump
  · exact hs.same.ringDeliver

theorem State.Kept.execRingFrameRx {l : Nat} (hs : s.Kept Q C) : Answers Q C (execRingFrameRx l s) := by
  unfold Machine.execRingFrameRx
  refine .done ?_
  extract_lets
  split
  · exact hs
  · rename_i heq
    have h1 := hs.linkTake heq
    extract_lets _ _ _ _ _ _ s2
    have h2 : s2.Kept Q C := .ite h1.ringOnce h1
    refine .ite ?_ ?_
    · exact h1
    · refine .ite ?_ ?_
      · exact h1.crBump
      · refine .ite ?_ ?_
        · exact .ite h1.ringDeliver h1
        · exact .ite h1.crBump (.ite h1.ringDeliver (.ite h2 h2.ringQueue))

theorem State.Kept.execPresenceTx (hs : s.Kept Q C) : Answers Q C (execPresenceTx s) := .done (.ite hs.sendPresence hs)
theorem State.Kept.execPresenceRx (hs : s.Kept Q C) : Answers Q C (execPresenceRx s) := by
  unfold Machine.execPresenceRx
  refine .done ?_
  split
  · exact hs
  · rename_i heq
    have h1 := hs.ringTake heq
    exact .ite (.ite h1.setRingState.crStatus.irq h1) (.ite h1.same.electMaster h1.same.electMaster)

theorem State.Kept.execPresenceExpiry {p : Nat} (hs : s.Kept Q C) : Answers Q C (execPresenceExpiry p s) := by
  unfold Machine.execPresenceExpiry
  exact .done hs.same.electMaster

theorem State.Kept.execSegDownTimeout {l : Nat} (hs : s.Kept Q C) : Answers Q C (execSegDownTimeout l s) :=
  .done (.ite hs.modRingLane.crBump.irq hs)

theorem State.Kept.execTimeSyncTx {t0 t1 : Nat} (hs : s.Kept Q C) : Answers Q C (execTimeSyncTx t0 t1 s) := by
  unfold Machine.execTimeSyncTx
  exact .done (.ite hs.same.crBump.ringQueue.ringQueue hs)

theorem State.Kept.stepTim {off : ℤ} (hs : s.Kept Q C) : (s.stepTim off).Kept Q C := by
  unfold State.stepTim
  exact .ite hs.same hs

theorem State.Kept.checkTime (hs : s.Kept Q C) : s.checkTime.Kept Q C := .ite hs.setCrStat hs
theorem State.Kept.useOffset {off : ℤ} {again : Bool} (hs : s.Kept Q C) : (s.useOffset off again).Kept Q C := by
  unfold State.useOffset
  exact hs.same.wr.setCrStat.crBump.stepTim.checkTime.electMaster.tryJoined

theorem State.Kept.execTimeSyncRx {tin tout : Nat} (hs : s.Kept Q C) : Answers Q C (execTimeSyncRx tin tout s) := by
  unfold Machine.execTimeSyncRx
  refine .done ?_
  split
  · exact hs
  · rename_i heq
    have h1 := hs.ringTake heq
    extract_lets _ _ _ _ _ _ _ _ s2 _ _ _ _ s3 s4 s5
    have h2 : s2.Kept Q C := h1.ringQueue
    have h3 : s3.Kept Q C := h2.same
    have h4 : s4.Kept Q C := h3.setFld
    have h5 : s5.Kept Q C := .ite h4 h4.setMaster
    exact .ite h2 h5.useOffset

theorem State.Kept.execPdelayReqTx {l t1 : Nat} (hs : s.Kept Q C) : Answers Q C (execPdelayReqTx l t1 s) :=
  .done (.ite hs.modRingLane.linkSend hs)

theorem State.Kept.execPdelayReqRx {l t2 t3 : Nat} (hs : s.Kept Q C) : Answers Q C (execPdelayReqRx l t2 t3 s) := by
  unfold Machine.execPdelayReqRx
  refine .done ?_
  split
  · exact hs
  · rename_i heq
    have h1 := hs.linkTake heq
    exact h1.linkSend

theorem State.Kept.execPdelayRspRx {l t4 : Nat} (hs : s.Kept Q C) : Answers Q C (execPdelayRspRx l t4 s) := by
  unfold Machine.execPdelayRspRx
  refine .done ?_
  split
  · exact hs
  · rename_i heq
    have h1 := hs.linkTake heq
    split
    · exact h1
    · exact .ite h1.modRingLane.setFld h1.modRingLane.setFld

theorem State.Kept.execMasterSelfElect (hs : s.Kept Q C) : Answers Q C (execMasterSelfElect s) :=
  .done (.ite hs.setCrStat.setMaster.tryJoined hs)

theorem State.Kept.execHoldoverEntry (hs : s.Kept Q C) : Answers Q C (execHoldoverEntry s) := .done (.ite hs.setCrStat.crBump.irq hs)
theorem State.Kept.execTimeValidLoss (hs : s.Kept Q C) : Answers Q C (execTimeValidLoss s) := .done (.ite hs.setCrStat.electMaster hs)
theorem State.Kept.execKeySwitchTime (hs : s.Kept Q C) : Answers Q C (execKeySwitchTime s) := by
  unfold Machine.execKeySwitchTime
  exact .done (.ite hs.same hs)

theorem State.Kept.execKeySwitchCommit (hs : s.Kept Q C) : Answers Q C (execKeySwitchCommit s) := by
  unfold Machine.execKeySwitchCommit
  refine .done ?_
  extract_lets s1
  have h1 : s1.Kept Q C := hs.wr.wr
  exact .ite h1.same hs

theorem State.Kept.execRingMgmtRx (hs : s.Kept Q C) : Answers Q C (execRingMgmtRx s) := by
  unfold Machine.execRingMgmtRx
  refine .done ?_
  split
  · exact hs
  · rename_i heq
    have h1 := hs.ringTake heq
    exact .ite h1.same.crBump h1.same.irq

theorem State.Kept.execCrTxSend {v : Reg} (hs : s.Kept Q C) : Answers Q C (execCrTxSend v s) :=
  .done (.ite hs.crStatus (.ite hs.crStatus (.ite hs.crStatus hs.ringSend.crStatus.took)))

theorem State.Kept.execCrRxRead (hs : s.Kept Q C) : Answers Q C (execCrRxRead s) := by
  unfold Machine.execCrRxRead
  refine .done ?_
  extract_lets
  split
  · exact hs.same
  · exact hs.same.setFld.foldl fun _ _ h1 => h1.wrn

theorem State.Kept.execRingProbeRx (hs : s.Kept Q C) : Answers Q C (execRingProbeRx s) := by
  unfold Machine.execRingProbeRx
  refine .done ?_
  split
  · exact hs
  · rename_i heq
    have h1 := hs.ringTake heq
    exact .ite h1.ringSend h1

theorem State.Kept.leaseRefuse {req tag code : Nat} (hs : s.Kept Q C) : (s.leaseRefuse req tag code).Kept Q C := hs.crBump.leaseAnswer
theorem State.Kept.leaseRequest {wop : Nat} {f : Nat → List Byte → State → State} (hs : s.Kept Q C) (hf : ∀ y1 y2 t, t.Kept Q C → (f y1
    y2 t).Kept Q C) : (s.leaseRequest wop f).Kept Q C := by
  unfold State.leaseRequest
  split
  · exact hs
  · rename_i heq
    have h1 := hs.ringTake heq
    extract_lets
    refine .ite ?_ ?_
    · exact hs
    · refine .ite ?_ ?_
      · exact h1
      · split
        · exact h1.ringSend
        · exact .ite h1 (hf _ _ _ h1)

theorem State.Kept.execLeaseReqReadRx (hs : s.Kept Q C) : Answers Q C (execLeaseReqReadRx s) := by
  unfold Machine.execLeaseReqReadRx
  refine .done ?_
  refine State.Kept.leaseRequest ?_ (fun _ _ _ h1 => by
      extract_lets
      split
      · exact h1.leaseRefuse
      · extract_lets
        refine .ite ?_ ?_
        · exact h1.leaseRefuse
        · split
          · exact h1.leaseRefuse
          · exact h1.leaseCommit)
  exact hs

theorem State.Kept.leaseWrite {req : Nat} {b : List Byte} {add : Bool} (hs : s.Kept Q C) : (s.leaseWrite req b add).Kept Q C := by
  unfold State.leaseWrite
  extract_lets
  split
  · exact hs.leaseRefuse
  · exact .ite hs.leaseRefuse (.ite hs (.ite hs.leaseRefuse (.ite hs.leaseRefuse hs.leaseCommit)))

theorem State.Kept.execLeaseReqSetRx (hs : s.Kept Q C) : Answers Q C (execLeaseReqSetRx s) :=
  .done (hs.leaseRequest (fun _ _ _ h1 => h1.leaseWrite))

theorem State.Kept.execLeaseReqAddRx (hs : s.Kept Q C) : Answers Q C (execLeaseReqAddRx s) :=
  .done (hs.leaseRequest (fun _ _ _ h1 => h1.leaseWrite))

theorem State.Kept.execLeaseExpiry {e : Nat} (hs : s.Kept Q C) : Answers Q C (execLeaseExpiry e s) := .done (.ite hs.setLease hs)
theorem State.Kept.execResultEntryExpiry {req tag : Nat} (hs : s.Kept Q C) : Answers Q C (execResultEntryExpiry req tag s) := by
  unfold Machine.execResultEntryExpiry
  exact .done hs.same

theorem State.Kept.sendMack {n : Nat} (hs : s.Kept Q C) : (s.sendMack n).Kept Q C := hs.ringSend
theorem State.Kept.ctrDesync (hs : s.Kept Q C) : s.ctrDesync.Kept Q C := hs.setCrStat.irq
theorem State.Kept.execLeaseMirrorRx (hs : s.Kept Q C) : Answers Q C (execLeaseMirrorRx s) := by
  unfold Machine.execLeaseMirrorRx
  refine .done ?_
  split
  · exact hs
  · rename_i heq
    have h1 := hs.ringTake heq
    extract_lets _ _ s2
    have h2 : s2.Kept Q C := .ite h1.setLease.setCounter h1.setLease
    exact .ite h1 (.ite h1.ctrDesync h2.same.sendMack)

theorem State.Kept.execLeaseMackRx (hs : s.Kept Q C) : Answers Q C (execLeaseMackRx s) := by
  unfold Machine.execLeaseMackRx
  refine .done ?_
  split
  · exact hs
  · rename_i heq
    have h1 := hs.ringTake heq
    extract_lets
    refine .ite ?_ ?_
    · exact h1
    · refine .ite ?_ ?_
      · exact .ite h1.desyncDone.startCtrSync h1.desyncDone
      · refine .ite ?_ ?_
        · exact .ite h1.same.setCrStat h1
        · split
          · exact h1
          · exact h1.same.leaseApply

theorem State.Kept.execMirrorTmoExpiry {n : Nat} (hs : s.Kept Q C) : Answers Q C (execMirrorTmoExpiry n s) := by
  unfold Machine.execMirrorTmoExpiry
  refine .done ?_
  extract_lets
  split
  · exact hs
  · exact .ite hs.same.setCrStat.irq.crBump.ringSend hs.same.setCrStat.irq.crBump.desyncDone

theorem State.Kept.syncRecord {kind i : Nat} {d : List Byte} (hs : s.Kept Q C) : (s.syncRecord kind i d).Kept Q C := by
  unfold State.syncRecord
  exact .ite (.ite hs.setBytes hs) (.ite (.ite hs.setLease hs) hs.same)

theorem State.Kept.execCtrSyncRx (hs : s.Kept Q C) : Answers Q C (execCtrSyncRx s) := by
  unfold Machine.execCtrSyncRx
  refine .done ?_
  split
  · exact hs
  · rename_i heq
    have h1 := hs.ringTake heq
    extract_lets _ _ _ _ _ s3
    have h3 : s3.Kept Q C := h1.foldl fun _ _ h4 => h4.syncRecord
    refine .ite ?_ ?_
    · exact h1
    · exact .ite h3.same (.ite (.ite h1.same.setCrStat.ctrUnknown.sendMack h1.same) (.ite h1.same.ctrDesync.sendMack h1))

theorem State.Kept.execLeaseRspRx (hs : s.Kept Q C) : Answers Q C (execLeaseRspRx s) := by
  unfold Machine.execLeaseRspRx
  refine .done ?_
  split
  · exact hs
  · rename_i heq
    have h1 := hs.ringTake heq
    extract_lets
    split
    · exact h1
    · extract_lets s2 _ s3
      have h2 : s2.Kept Q C := h1.same
      have h3 : s3.Kept Q C := .ite h2.same h2
      exact h3.leaseResult

theorem State.Kept.execLeaseRetry {tag : Nat} (hs : s.Kept Q C) : Answers Q C (execLeaseRetry tag s) := by
  unfold Machine.execLeaseRetry
  refine .done ?_
  split
  · exact hs
  · exact .ite hs.leaseSendReq hs

theorem State.Kept.leaseGiveUp {tag : Nat} {write : Bool} {code : Nat} (hs : s.Kept Q C) : (s.leaseGiveUp tag write code).Kept Q C := by
  unfold State.leaseGiveUp
  extract_lets
  split
  · exact hs
  · exact .ite hs.same.leaseResult hs

theorem State.Kept.execLeaseReadDeadline {tag : Nat} (hs : s.Kept Q C) : Answers Q C (execLeaseReadDeadline tag s) := .done hs.leaseGiveUp
theorem State.Kept.execLeaseWriteDeadline {tag : Nat} (hs : s.Kept Q C) : Answers Q C (execLeaseWriteDeadline tag s) := by
  unfold Machine.execLeaseWriteDeadline
  refine .done ?_
  split
  · exact hs
  · exact .ite hs hs.crBump.leaseGiveUp

theorem State.Kept.ctrStatus {code : Nat} {known : Bool} (hs : s.Kept Q C) : (s.ctrStatus code known).Kept Q C := hs.wrn
theorem State.Kept.ctrCmd {f : State → State} (hs : s.Kept Q C) (hf : ∀ t, t.Kept Q C → (f t).Kept Q C) : (s.ctrCmd f).Kept Q C :=
  .ite hs.crStatus ((hf _ hs).took)

theorem State.Kept.execCtrRead (hs : s.Kept Q C) : Answers Q C (execCtrRead s) :=
  .done (hs.ctrCmd (fun _ h1 => .ite h1.ctrStatus h1.wr64.wr64.ctrStatus))

theorem State.Kept.execCtrSet (hs : s.Kept Q C) : Answers Q C (execCtrSet s) :=
  .done (hs.ctrCmd (fun _ h1 => .ite h1.ctrStatus h1.setCounter.ctrStatus.ctrUnknown))

theorem State.Kept.execClearAll (hs : s.Kept Q C) : Answers Q C (execClearAll s) :=
  .done (hs.ctrCmd (fun _ h1 => ((h1.foldl fun _ _ h2 => h2.setCounter).ctrStatus).setCrStat))

theorem State.Kept.execCrCfgWrite {off : Nat} {v : Reg} (hs : s.Kept Q C) : Answers Q C (execCrCfgWrite off v s) := by
  unfold Machine.execCrCfgWrite
  refine .done ?_
  extract_lets s2
  have h2 : s2.Kept Q C := .ite (hs.foldl fun _ _ h3 => h3.clrCtr) hs
  refine .ite ?_ ?_
  · exact .ite hs.crStatus (h2.rwlWrite (fun _ h4 => h4.wr.took))
  · exact .ite (.ite hs.crStatus hs.wr.took) (.ite (hs.rwlWrite (fun _ h5 => .ite h5.crStatus h5.wr.took)) hs)

/-! ### VaultCmds -/

theorem State.Kept.execVaultFill {o h : Nat} (hs : s.Kept Q C) : Answers Q C (execVaultFill o h s) := by
  unfold Machine.execVaultFill
  exact .done (.ite hs.same hs)

theorem State.Kept.execVaultFillDone {o h : Nat} (hs : s.Kept Q C) : Answers Q C (execVaultFillDone o h s) := by
  unfold Machine.execVaultFillDone
  refine .done ?_
  extract_lets
  split
  · exact hs
  · exact .ite hs.same (.ite hs.same.fill hs.same.resolve)

theorem State.Kept.keyStat {o code : Nat} {busy : Bool} (hs : s.Kept Q C) : (s.keyStat o code busy).Kept Q C := hs.status.setFld
theorem State.Kept.keyCmd {o : Nat} {f : Nat → State → Nat × State} (hs : s.Kept Q C) (hf : ∀ y1 t, t.Kept Q C → (f y1 t).2.Kept Q C) :
    (s.keyCmd o f).Kept Q C := .ite hs.status (.ite hs.keyStat (.ite hs.keyStat ((hf _ _ hs).keyStat)))

theorem State.Kept.spoilFills {h : Nat} (hs : s.Kept Q C) : (s.spoilFills h).Kept Q C := hs.same
theorem State.Kept.execReadAttr {o : Nat} (hs : s.Kept Q C) : Answers Q C (execReadAttr o s) := by
  unfold Machine.execReadAttr
  refine .done ?_
  refine State.Kept.keyCmd ?_ (fun _ _ h1 => by
      extract_lets
      refine .itePair ?_ ?_
      · exact .pair h1
      · split
        · exact .pair h1
        · exact .pair ((h1.wrn.foldl fun _ _ h2 => h2.wrn).wrn))
  exact hs

theorem State.Kept.retireKey {h : Nat} {k : KeyVal} (hs : s.Kept Q C) : (s.retireKey h k).Kept Q C := hs.writeKey.modResident.spoilFills
theorem State.Kept.execRetire {o : Nat} (hs : s.Kept Q C) : Answers Q C (execRetire o s) := by
  unfold Machine.execRetire
  refine .done ?_
  refine State.Kept.keyCmd ?_ (fun _ _ h1 => by
      extract_lets _ _ s2
      have h2 : s2.Kept Q C := h1.raiseCeil
      refine .itePair ?_ ?_
      · exact .pair h1
      · refine .itePair ?_ ?_
        · exact .pair h1
        · split
          · exact .pair h1
          · refine .itePair ?_ ?_
            · exact .pair h1
            · refine .itePair ?_ ?_
              · exact .pair h1.retireKey
              · exact .pair h2.same)
  exact hs

theorem State.Kept.execDelete {o : Nat} (hs : s.Kept Q C) : Answers Q C (execDelete o s) := by
  unfold Machine.execDelete
  refine .done ?_
  refine State.Kept.keyCmd ?_ (fun _ _ h1 => by
      extract_lets
      refine .itePair ?_ ?_
      · exact .pair h1
      · refine .itePair ?_ ?_
        · exact .pair h1
        · refine .itePair ?_ ?_
          · exact .pair h1
          · exact .pair h1.putRecord.zeroiseKey)
  exact hs

theorem State.Kept.execEvict {o : Nat} (hs : s.Kept Q C) : Answers Q C (execEvict o s) :=
  .done (hs.keyCmd (fun _ _ h1 => .pair h1.zeroiseKey))

theorem State.Kept.execKeyCmdComplete {o : Nat} (hs : s.Kept Q C) : Answers Q C (execKeyCmdComplete o s) := by
  unfold Machine.execKeyCmdComplete
  refine .done ?_
  extract_lets
  split
  · exact hs.setFld
  · extract_lets s1
    have h1 : s1.Kept Q C := by
      unfold s1
      split
      · exact hs.same.retireKey
      · exact hs.same.status
    exact .ite hs h1.setFld

theorem State.Kept.zoneDone {code : Nat} {busy : Bool} (hs : s.Kept Q C) : (s.zoneDone code busy).Kept Q C := hs.wrAll
theorem State.Kept.zoneCmd {o : Nat} {f : Nat → State → Nat × State} (hs : s.Kept Q C) (hf : ∀ y1 t, t.Kept Q C → (f y1 t).2.Kept Q C) :
    (s.zoneCmd o f).Kept Q C := .ite hs.status (.ite hs.status (.ite ((hf _ _ hs).zoneDone) ((hf _ _ hs).status)))

theorem State.Kept.execZoneStart {o : Nat} (hs : s.Kept Q C) : Answers Q C (execZoneStart o s) := by
  unfold Machine.execZoneStart
  refine .done ?_
  refine State.Kept.zoneCmd ?_ (fun _ _ h1 => by
      extract_lets
      refine .itePair ?_ ?_
      · exact .pair h1
      · refine .itePair ?_ ?_
        · exact .pair h1
        · refine .itePair ?_ ?_
          · exact .pair h1
          · refine .itePair ?_ ?_
            · exact .pair h1
            · exact .pair h1.setZone.zoneDelta)
  exact hs

theorem State.Kept.execZoneStop {o : Nat} (hs : s.Kept Q C) : Answers Q C (execZoneStop o s) := .done (hs.zoneCmd (fun _ _ h1 => by
    extract_lets
    refine .itePair ?_ ?_
    · exact .pair h1
    · exact .pair h1.setZone.zeroiseZone.zoneDelta))

theorem State.Kept.execZoneRekey {o : Nat} (hs : s.Kept Q C) : Answers Q C (execZoneRekey o s) := by
  unfold Machine.execZoneRekey
  refine .done ?_
  refine State.Kept.zoneCmd ?_ (fun _ _ h1 => by
      extract_lets
      refine .itePair ?_ ?_
      · exact .pair h1
      · refine .itePair ?_ ?_
        · exact .pair h1
        · refine .itePair ?_ ?_
          · exact .pair h1
          · exact .pair h1.setZone.zoneDelta)
  exact hs

theorem State.Kept.rewrap {h : Nat} (hs : s.Kept Q C) : (s.rewrap h).Kept Q C := by
  unfold State.rewrap
  split
  · exact hs
  · exact .ite (.ite hs.writeKey hs.raiseCeil) hs

theorem State.Kept.execRekeyWalkEnd {z : Nat} (hs : s.Kept Q C) : Answers Q C (execRekeyWalkEnd z s) := by
  unfold Machine.execRekeyWalkEnd
  refine .done ?_
  exact .ite (.ite (hs.foldl fun _ _ h1 => h1.rewrap) (((((hs.foldl fun _ _ h2 => h2.rewrap).setZone).zoneDelta).foldl fun _ _ h3 =>
    h3.setFld).foldl fun _ _ h4 => h4.irq)) hs

theorem State.Kept.execZoneExport {o : Nat} (hs : s.Kept Q C) : Answers Q C (execZoneExport o s) := by
  unfold Machine.execZoneExport
  refine .done ?_
  refine State.Kept.zoneCmd ?_ (fun _ _ h1 => by
      extract_lets _ s2
      have h2 : s2.Kept Q C := h1.setZone
      refine .itePair ?_ ?_
      · exact .pair h1
      · refine .itePair ?_ ?_
        · exact .pair h1
        · exact .pair h2.same)
  exact hs

theorem State.Kept.execZoneLoad {o : Nat} (hs : s.Kept Q C) : Answers Q C (execZoneLoad o s) := by
  unfold Machine.execZoneLoad
  refine .done ?_
  refine State.Kept.zoneCmd ?_ (fun _ _ h1 => by
      extract_lets _ s2
      have h2 : s2.Kept Q C := h1.setZone
      refine .itePair ?_ ?_
      · exact .pair h1
      · refine .itePair ?_ ?_
        · exact .pair h1
        · exact .pair h2.same)
  exact hs

theorem State.Kept.copyRange {src dst n : Nat} (hs : s.Kept Q C) : (s.copyRange src dst n).Kept Q C :=
  hs.zeroBytes.foldl fun _ _ h1 => h1.setByte

theorem State.Kept.execZoneTransferDone {z : Nat} (hs : s.Kept Q C) : Answers Q C (execZoneTransferDone z s) := by
  unfold Machine.execZoneTransferDone
  refine .done ?_
  extract_lets _ _ _ _ _ s2 _ _ _ _ s5
  have h2 : s2.Kept Q C := hs.setZone.setBytes.copyRange.foldl fun _ _ h3 => h3.setLe
  have h5 : s5.Kept Q C := hs.setZone.foldl fun _ _ h6 => h6.putRecord
  exact .ite hs (.ite (h2.zoneDone.foldl fun _ _ h7 => h7.irq) (.ite hs.setZone.zoneDone (h5.zoneDelta.zoneDone.foldl fun _ _ h8 =>
    h8.irq)))

theorem State.Kept.kvRefuse {o : Nat} (hs : s.Kept Q C) : (s.kvRefuse o).Kept Q C := hs.status
theorem State.Kept.execZoneRangeWrite {o : Nat} {isCount : Bool} {v : Reg} (hs : s.Kept Q C) : Answers Q C (execZoneRangeWrite o isCount
    v s) := .done (hs.rwlWrite (fun _ h1 => .ite h1.setZone.took h1.kvRefuse))

theorem State.Kept.execKvBaseWrite {o off : Nat} {v : Reg} (hs : s.Kept Q C) : Answers Q C (execKvBaseWrite o off v s) :=
  .done (hs.rwlWrite (fun _ h1 => .ite h1.kvRefuse h1.wrAll.took))

theorem State.Kept.execKvCfgWrite {o : Nat} {v : Reg} (hs : s.Kept Q C) : Answers Q C (execKvCfgWrite o v s) :=
  .done (.ite (.ite (hs.lockDrop.foldl fun _ _ h1 => h1.clrCtr) hs.lockDrop) (.ite hs.kvRefuse ((State.Kept.ite (hs.wrAll.foldl fun _ _
    h2 => h2.clrCtr) hs.wrAll).took)))

/-! ### PageOps -/

theorem State.Kept.irqWritten {p old : Nat} (hs : s.Kept Q C) : (s.irqWritten p old).Kept Q C :=
  .ite hs ((State.Kept.ite hs.event hs).pageMsix)

theorem State.Kept.rawClear {p : Nat} {v : Reg} (hs : s.Kept Q C) : (s.rawClear p v).Kept Q C := hs.wr.irqWritten
theorem State.Kept.enWrite {p : Nat} {v : Reg} (hs : s.Kept Q C) : (s.enWrite p v).Kept Q C := hs.wr.irqWritten
theorem State.Kept.forceWrite {p : Nat} {v : Reg} (hs : s.Kept Q C) : (s.forceWrite p v).Kept Q C := hs.foldl fun _ _ h1 => h1.rawSet
theorem State.Kept.errClear {p : Nat} {v : Reg} (hs : s.Kept Q C) : (s.errClear p v).Kept Q C := .ite hs.wr (.ite hs.setFld hs)
theorem State.Kept.evcZero {p n : Nat} (hs : s.Kept Q C) : (s.evcZero p n).Kept Q C := hs.setFld.wr64
theorem State.Kept.selWrite {p n : Nat} {v : Reg} (hs : s.Kept Q C) : (s.selWrite p n v).Kept Q C := by
  unfold State.selWrite
  extract_lets s1
  have h1 : s1.Kept Q C := hs.wr.wr64
  split
  · exact .ite h1.same h1
  · exact h1

theorem State.Kept.evcClear {p : Nat} (hs : s.Kept Q C) : (s.evcClear p).Kept Q C := hs.foldl fun _ _ h1 => h1.evcZero
theorem State.Kept.snapTake (hs : s.Kept Q C) : s.snapTake.Kept Q C := by
  unfold State.snapTake
  extract_lets _ s1 s2
  have h1 : s1.Kept Q C := hs.setFld.setFld
  have h2 : s2.Kept Q C := h1.wr64
  exact .ite hs.setFld h2.same

theorem State.Kept.snapOne {p n : Nat} (hs : s.Kept Q C) : (s.snapOne p n).Kept Q C := hs.same
theorem State.Kept.snapPage {p : Nat} (hs : s.Kept Q C) : (s.snapPage p).Kept Q C := by
  unfold State.snapPage
  extract_lets s2 _ s4
  have h2 : s2.Kept Q C := .ite (hs.foldl fun _ _ h3 => h3.snapOne) hs
  have h4 : s4.Kept Q C := h2.same
  exact .ite hs (.ite h4.same.setFld h4)

theorem State.Kept.headerWrite {p off : Nat} {v : Reg} (hs : s.Kept Q C) : (s.headerWrite p off v).Kept Q C := by
  unfold State.headerWrite
  extract_lets
  refine .ite ?_ ?_
  · exact (State.Kept.ite hs.evcClear hs).wr
  · refine .ite ?_ ?_
    · exact hs.rawClear
    · refine .ite ?_ ?_
      · exact hs.enWrite
      · refine .ite ?_ ?_
        · exact hs.forceWrite
        · refine .ite ?_ ?_
          · exact hs.errClear
          · exact .ite (.ite hs.selWrite (.ite hs.wr hs)) (.ite hs hs.discard)

theorem State.Kept.after {o : Outcome} (hs : s.Kept Q C) (ho : Answers Q C o) : (s.after o).Kept Q C := by
  cases o with
  | next t => exact ho t rfl
  | fault r => exact hs
  | refused r => exact hs

theorem State.Kept.writeGLB {off : Nat} {v : Reg} (hs : s.Kept Q C) : (s.writeGLB off v).Kept Q C := by
  unfold State.writeGLB
  extract_lets s1
  have h1 : s1.Kept Q C := .ite hs.setFld hs
  refine .ite ?_ ?_
  · exact (State.Kept.ite h1.snapTake h1).took
  · refine .ite ?_ ?_
    · exact .ite (hs.after hs.execStartWarm) (.ite (hs.after hs.execStartCold) (.ite (hs.after hs.execFwLoad) hs.startStatus))
    · exact .ite ((State.Kept.ite hs.setFld hs).took) (.ite hs.wrn.took (hs.after hs.execGlbWdKick))

theorem State.Kept.writeOZ {o off : Nat} {v : Reg} (hs : s.Kept Q C) : (s.writeOZ o off v).Kept Q C := by
  unfold State.writeOZ
  extract_lets
  refine .ite ?_ ?_
  · exact .ite (hs.after hs.execIsolate) (.ite (hs.after hs.execRestore) hs.isoStatus)
  · refine .ite ?_ ?_
    · exact hs.ftCommand.took
    · exact .ite (hs.after hs.execOzVpCfgWrite) (.ite (hs.after hs.execDiaDataAccess) (.ite (hs.after hs.execDiaEnWrite) (hs.after
        hs.execVpServiceRegWrite)))

theorem State.Kept.writeDR {d : Nat} {v : Reg} (hs : s.Kept Q C) : (s.writeDR d v).Kept Q C := by
  unfold State.writeDR
  split
  · exact hs.after hs.execDramOut
  · exact hs.after hs.execDramIn
  · exact hs.after hs.execDramCycle
  · exact hs.drStatus.took

theorem State.Kept.writeDQ {d off : Nat} {v : Reg} (hs : s.Kept Q C) : (s.writeDQ d off v).Kept Q C := by
  unfold State.writeDQ
  split
  · exact hs.after hs.execDqPortWrite
  · split
    · exact hs.after hs.execCvlKeyInstall
    · split
      · split
        · exact hs.after hs.execCvlTxFrame
        · exact hs.after hs.execCvlTxMessage
      · exact hs.after hs.execDqQcfgWrite

theorem State.Kept.writeLN {i off : Nat} {v : Reg} (hs : s.Kept Q C) : (s.writeLN i off v).Kept Q C := by
  unfold State.writeLN
  extract_lets
  refine .ite ?_ ?_
  · exact hs.after hs.execPortmodeWrite
  · refine .ite ?_ ?_
    · exact hs.wr.took
    · split
      · exact hs.after hs.execLnCfgWrite
      · exact hs.after hs.execLnTxeqWrite
      · exact hs.after hs.execLnMaxframeWrite
      · exact hs.lnCommand
      · exact hs.after hs.execLnTestCfgWrite

theorem State.Kept.writeSC {d off : Nat} {v : Reg} (hs : s.Kept Q C) : (s.writeSC d off v).Kept Q C :=
  .ite (hs.after hs.execScKatCtlWrite) (.ite (hs.after hs.execScPortWrite) hs.saCommand)

theorem State.Kept.writeVC {o off : Nat} {v : Reg} (hs : s.Kept Q C) : (s.writeVC o off v).Kept Q C := by
  unfold State.writeVC
  split
  · dsimp only
    split
    · exact hs.after hs.execVcReset
    · exact hs.after hs.execVcRun
  · exact hs.wr.took

theorem State.Kept.writeKV {o off : Nat} {v : Reg} (hs : s.Kept Q C) : (s.writeKV o off v).Kept Q C := by
  unfold State.writeKV
  extract_lets
  refine .ite ?_ ?_
  · exact hs.after hs.execKvCfgWrite
  · refine .ite ?_ ?_
    · exact hs.after hs.execKvBaseWrite
    · refine .ite ?_ ?_
      · exact hs.after hs.execZoneRangeWrite
      · refine .ite ?_ ?_
        · exact hs.after hs.execZoneRangeWrite
        · refine .ite ?_ ?_
          · split
            · exact hs.after hs.execZoneStart
            · exact hs.after hs.execZoneStop
            · exact hs.after hs.execZoneRekey
            · exact hs.after hs.execZoneExport
            · exact hs.after hs.execZoneLoad
            · exact hs.status
          · refine .ite ?_ ?_
            · split
              · exact hs.after hs.execReadAttr
              · exact hs.after hs.execRetire
              · exact hs.after hs.execDelete
              · exact hs.after hs.execEvict
              · exact hs.status
            · refine .ite ?_ ?_
              · split
                · exact hs.after hs.execCreate
                · exact hs.after hs.execModify
                · exact hs.after hs.execCtxRead
                · exact hs.after hs.execDestroy
                · exact hs.after hs.execResetLimiter
                · exact hs.status
              · exact .ite (hs.after hs.execKvPcfCfgWrite) (.ite (hs.after hs.execKvPcfClrCnt) hs)

theorem State.Kept.writePK {o off : Nat} {v : Reg} (hs : s.Kept Q C) : (s.writePK o off v).Kept Q C :=
  .ite (hs.after hs.execPkCfgWrite) (.ite (hs.after hs.execPkBfloorWrite) (.ite (hs.after hs.execPkQProdWrite) (hs.after
    hs.execPkQCfgWrite)))

theorem State.Kept.jnRefuse {o : Nat} (hs : s.Kept Q C) : (s.jnRefuse o).Kept Q C := hs.status
theorem State.Kept.jnCfgWrite {o : Nat} {v : Reg} (hs : s.Kept Q C) : (s.jnCfgWrite o v).Kept Q C := by
  unfold State.jnCfgWrite
  exact (State.Kept.ite (hs.foldl fun _ _ h2 => h2.clrCtr) hs).rwlWrite (fun _ h1 => h1.wrAll.took)

theorem State.Kept.writeJN {o off : Nat} {v : Reg} (hs : s.Kept Q C) : (s.writeJN o off v).Kept Q C := by
  unfold State.writeJN
  extract_lets
  refine .ite ?_ ?_
  · exact hs.jnCfgWrite
  · refine .ite ?_ ?_
    · split
      · exact hs.after hs.execGenesis
      · exact hs.after hs.execSealNow
      · exact hs.jnRefuse
    · refine .ite ?_ ?_
      · exact hs.rwlWrite (fun _ h1 => .ite h1.jnRefuse h1.wrAll.took)
      · refine .ite ?_ ?_
        · exact hs.rwlWrite (fun _ h2 => .ite h2.jnRefuse h2.wrAll.took)
        · exact .ite (hs.after hs.execJnXconsWrite) (.ite (hs.rwlWrite (fun _ h3 => .ite h3.jnRefuse h3.wr.took)) (hs.rwlWrite (fun _ h4
            => .ite h4.jnRefuse h4.wr.took)))

theorem State.Kept.writeTW {off : Nat} {v : Reg} (hs : s.Kept Q C) : (s.writeTW off v).Kept Q C := by
  unfold State.writeTW
  refine .ite ?_ ?_
  · split
    · exact hs.after hs.execTwActivate
    · exact hs.after hs.execTwStandby
    · exact hs.after hs.execTwSwap
    · exact hs.after hs.execTwCheckpoint
    · exact hs.after hs.execTwDetach
    · exact hs.twStatus
  · exact .ite (hs.after hs.execTwLinkKeyWrite) (.ite (.ite hs.wrn.took hs.twStatus) (hs.after hs.execTwCfgWrite))

theorem State.Kept.writeCR {off : Nat} {v : Reg} (hs : s.Kept Q C) : (s.writeCR off v).Kept Q C := by
  unfold State.writeCR
  refine .ite ?_ ?_
  · split
    · exact hs.after hs.execJoin
    · exact hs.after hs.execLeave
    · exact hs.after hs.execKeyArm
    · exact hs.crStatus
  · refine .ite ?_ ?_
    · exact hs.rwlWrite (fun _ h1 => h1.wr.took.installRingKey)
    · refine .ite ?_ ?_
      · split
        · exact hs.after hs.execCtrRead
        · exact hs.after hs.execCtrSet
        · exact hs.after hs.execClearAll
        · exact hs.crStatus
      · exact .ite (hs.after hs.execCrTxSend) (hs.after hs.execCrCfgWrite)

theorem State.Kept.writeHI {off : Nat} {v : Reg} (hs : s.Kept Q C) : (s.writeHI off v).Kept Q C :=
  .ite hs.wr.took (.ite hs.status hs.wr.updateCong.took)

theorem State.Kept.writeCD {cust : Bool} {i off : Nat} {v : Reg} (hs : s.Kept Q C) : (s.writeCD cust i off v).Kept Q C := by
  unfold State.writeCD
  extract_lets _ w1 s2
  have h2 : s2.Kept Q C := .ite (hs.after hs.execLogClear) hs
  clear_value w1
  split
  · exact .ite hs.wr.took (hs.after hs.execLkForce)
  · refine .ite ?_ ?_
    · exact hs.fnCmd (fun _ h3 => .pair h3)
    · split
      · exact h2.after h2.execWriteRegion
      · exact h2.after h2.execReadRegion
      · exact h2.after h2.execWriteDefault
      · exact h2.after h2.execReadDefault
      · exact h2
  · refine .ite ?_ ?_
    · exact (State.Kept.ite hs.setFld hs).took
    · split
      · exact hs.after hs.execFlashRead
      · exact hs.after hs.execFlashProgram
      · exact hs.after hs.execFlashErase
      · exact hs.after hs.execFlashProtect
      · exact hs.after hs.execFlashUnprotect
      · exact hs.after hs.execFlashUnlock
      · exact hs.after hs.execFlashRelock
      · exact hs.after hs.execFlashSetPassword
      · exact hs.flRefuse
  · split
    · exact hs.after hs.execCsWrite
    · exact hs.after hs.execCsRead
    · exact hs.after hs.execEraseBoth
    · exact hs.csStatus
  · refine .ite ?_ ?_
    · exact hs.after hs.execRngCfgWrite
    · refine .ite ?_ ?_
      · split
        · exact hs.after hs.execReseed
        · exact hs.after hs.execReinstantiate
        · exact hs.after hs.execTapStart
        · exact hs.after hs.execTapStop
        · exact hs.rnStatus
      · exact .ite (hs.rwlWrite (fun _ h4 => .ite h4.rnStatus h4.wr.took)) (hs.after hs.execRngTpCtlWrite)
  · refine .ite ?_ ?_
    · exact hs.after hs.execCbCfgWrite
    · split
      · exact hs.after hs.execEject
      · exact hs.after hs.execClearUnknown
      · exact hs.after hs.execRevoke
      · exact hs.after hs.execClearLog
      · exact hs.cbStatus.took

theorem State.Kept.writePW {cust : Bool} {off : Nat} {v : Reg} (hs : s.Kept Q C) : (s.writePW cust off v).Kept Q C := by
  unfold State.writePW
  refine .ite ?_ ?_
  · split
    · exact hs.after hs.execPwOn
    · exact hs.after hs.execPwOff
    · exact hs.pwRefuse
  · refine State.Kept.rwlWrite ?_ (fun _ h1 => by
        extract_lets s2 _ _ _ s3
        have h2 : s2.Kept Q C := h1.wr.took
        have h3 : s3.Kept Q C := h2.same
        exact (State.Kept.ite h3 h3.rawSet).serveWake)
    exact hs

theorem State.Kept.writeTS {o off : Nat} {v : Reg} (hs : s.Kept Q C) : (s.writeTS o off v).Kept Q C := by
  unfold State.writeTS
  refine .ite ?_ ?_
  · split
    · exact hs.after hs.execCoreBist
    · exact hs.after hs.execReload
    · exact hs.status
  · exact hs.wr.took

theorem State.Kept.writeAct {cust : Bool} {t i off : Nat} {v : Reg} (hs : s.Kept Q C) : (s.writeAct cust t i off v).Kept Q C := by
  unfold State.writeAct
  split
  · exact hs.writeGLB
  · exact hs.writeOZ
  · exact hs.writeDR
  · exact hs.writeDQ
  · exact hs.writeLN
  · exact hs.writeSC
  · exact hs.writeVC
  · exact hs.writeKV
  · exact hs.writePK
  · exact hs.writeJN
  · exact hs.writeTW
  · exact hs.writeCR
  · exact hs.writeHI
  · exact hs.after hs.execMbChCfgWrite
  · exact hs.writeCD
  · exact hs.writePW
  · exact hs.writeTS
  · exact hs

theorem State.Kept.masked {a : Nat} {m v : Reg} (hs : s.Kept Q C) : (s.masked a m v).Kept Q C := hs.wr
theorem State.Kept.writePage {cust : Bool} {t i off : Nat} {v : Reg} (hs : s.Kept Q C) : (s.writePage cust t i off v).Kept Q C := by
  unfold State.writePage
  extract_lets
  refine .ite ?_ ?_
  · exact hs
  · refine .ite ?_ ?_
    · exact hs.headerWrite
    · refine .ite ?_ ?_
      · exact hs.discard
      · split
        · exact hs.discard
        · exact hs
        · exact hs.masked.took
        · exact hs.masked.took
        · exact hs.rwlWrite (fun _ h1 => h1.masked.took)
        · exact hs.wrAll.took
        · exact hs.rwlWrite (fun _ h2 => h2.wrAll.took)
        · exact hs.writeAct
        · exact hs.writeAct

theorem State.Kept.writeBar2 {cust : Bool} {x : Nat} {v : Reg} (hs : s.Kept Q C) : (s.writeBar2 cust x v).Kept Q C := by
  unfold State.writeBar2
  extract_lets
  refine .ite ?_ ?_
  · exact hs.mbWrite
  · refine .ite ?_ ?_
    · split
      · exact hs.writeRgBase
      · exact hs.writeRgBase
      · exact hs.after hs.execRgCfgWrite
      · exact hs.after hs.execRgProdWrite
      · exact hs
    · exact hs

theorem State.Kept.writeBar4 {x : Nat} {v : Reg} (hs : s.Kept Q C) : (s.writeBar4 x v).Kept Q C :=
  .ite (.ite (.ite hs.wr (hs.after hs.execMsixUnmask)) hs.wr) hs

theorem State.Kept.writeConfig {x : Nat} {v : Reg} (hs : s.Kept Q C) : (s.writeConfig x v).Kept Q C := by
  unfold State.writeConfig
  extract_lets s1
  have h1 : s1.Kept Q C := hs.wr
  exact .ite hs.writeCommand (.ite (.ite h1.same h1) (.ite hs.wr hs))

theorem State.Kept.writeReg {cust : Bool} {a : Nat} {v : Reg} (hs : s.Kept Q C) : (s.writeReg cust a v).Kept Q C :=
  .ite hs (.ite hs.writePage (.ite hs.writeBar2 (.ite hs.writeBar4 hs.writeConfig)))

theorem State.Kept.writePreset {a : Nat} {v : Reg} (hs : s.Kept Q C) : (State.writePreset a v s).2.Kept Q C := .pair hs.writeReg
theorem State.Kept.wideArrive {cust : Bool} {a : Nat} {v : Reg} (hs : s.Kept Q C) : (s.wideArrive cust a v).Kept Q C := by
  unfold State.wideArrive
  extract_lets _ _ _ u w u1 u2
  have hu : u.Kept Q C := hs.writeReg
  have h1 : u1.Kept Q C := ⟨hu.queue, fun c => (canon_iff _).2 ⟨canon_regs (s := u) (hu.canon c), canon_ctrs (s := s) (hs.canon c),
    canon_dom (s := u) (hu.canon c), canon_mem (s := u) (hu.canon c)⟩⟩
  have h2 : u2.Kept Q C := h1.foldl fun _ _ h2 => h2.wr
  exact .ite hu h2.same

theorem State.Kept.wideApply (hs : s.Kept Q C) : s.wideApply.Kept Q C := by
  unfold State.wideApply
  extract_lets
  split
  · exact hs
  · extract_lets
    split
    · exact hs.same
    · exact (State.Kept.ite (hs.same.foldl fun _ _ h1 => h1.clrCtr) (.ite (hs.same.foldl fun _ _ h2 => h2.clrCtr) hs.same)).wr

theorem State.Kept.readAct {t i off : Nat} {u : State} (hs : s.Kept Q C) (he : s.readAct t i off = some u) : u.Kept Q C := by
  unfold State.readAct at he
  split at he
  · cases he
  · split at he
    · cases he; exact hs.after hs.execScEventRead
    · split at he
      · cases he; exact hs.after hs.execCvlRxstatRead
      · split at he
        · cases he; exact hs.after hs.execCrRxRead
        · split at he
          · cases he; exact hs.after hs.execDiaDataAccess
          · cases he

theorem State.Kept.plain {a : Nat} {put : Nat → State → State} (hs : s.Kept Q C) (hf : ∀ y t, t.Kept Q C → (put y t).Kept Q C) :
    (State.readReg.plain a put s).Kept Q C := by
  unfold State.readReg.plain
  split
  · rename_i heq
    split at heq
    · exact hs.readAct heq
    · cases heq
  · split
    · exact hf _ _ hs.free
    · exact .ite ((hf _ _ hs).same) (hf _ _ hs)

theorem State.Kept.readReg {a : Nat} (hs : s.Kept Q C) : (s.readReg a).Kept Q C := by
  unfold State.readReg
  extract_lets f1
  have h1 : ∀ y1 t, t.Kept Q C → (f1 y1 t).Kept Q C := fun _ _ h2 => h2.same
  split
  · extract_lets s3
    have h3 : s3.Kept Q C := h1 _ _ hs
    exact .ite h3.same (hs.plain (fun _ _ h4 => h1 _ _ h4))
  · exact hs.plain (fun _ _ h5 => h1 _ _ h5)

/-! ### PageCmds -/

theorem State.Kept.regViolation {cust : Bool} {acc a x : Nat} (hs : s.Kept Q C) : (s.regViolation cust acc a x).Kept Q C := hs.violation
theorem State.Kept.pageDiscard {a : Nat} (hs : s.Kept Q C) : (s.pageDiscard a).Kept Q C := .ite hs.discard hs
theorem State.Kept.arrive {cust : Bool} {be : BitVec 4} {a : Nat} {f : State → State} (hs : s.Kept Q C) (hf : ∀ t, t.Kept Q C → (f
    t).Kept Q C) : (s.arrive cust be a f).Kept Q C := by
  unfold State.arrive
  refine .ite ?_ ?_
  · exact hs
  · refine .ite ?_ ?_
    · exact hs.bump.irq.pageDiscard
    · refine .ite ?_ ?_
      · exact hs.pageDiscard
      · split
        · exact hs.regViolation.pageDiscard
        · exact hf _ hs

theorem State.Kept.execRegisterWrite {cust : Bool} {be : BitVec 4} {a : Nat} {v : Reg} (hs : s.Kept Q C) : Answers Q C (execRegisterWrite
    cust be a v s) := .done (hs.arrive (fun _ h1 => h1.writeReg))

theorem State.Kept.fencedRead {cust : Bool} {a : Nat} (hs : s.Kept Q C) : (s.fencedRead cust a).2.Kept Q C := by
  unfold State.fencedRead
  refine .itePair ?_ ?_
  · exact .pair hs.same
  · split
    · extract_lets s1
      have h1 : s1.Kept Q C := hs.regViolation
      exact .pair h1.same
    · exact .pair hs.readReg

theorem State.Kept.execLoReadLatch {cust : Bool} {a : Nat} (hs : s.Kept Q C) : Answers Q C (execLoReadLatch cust a s) :=
  .done (.ite hs hs.fencedRead)

theorem State.Kept.execDeviceWideWrite {cust : Bool} {a : Nat} {v : Reg} (hs : s.Kept Q C) : Answers Q C (execDeviceWideWrite cust a v s)
    := .done (hs.arrive (fun _ h1 => .ite h1.wideArrive h1.writeReg))

theorem State.Kept.execDeviceWideApply (hs : s.Kept Q C) : Answers Q C (execDeviceWideApply s) := .done hs.wideApply

theorem State.Kept.execPgIrqRawWrite {p : Nat} {v : Reg} (hs : s.Kept Q C) : Answers Q C (execPgIrqRawWrite p v s) :=
  .done (.ite hs.rawClear hs)

theorem State.Kept.execPgIrqEnWrite {p : Nat} {v : Reg} (hs : s.Kept Q C) : Answers Q C (execPgIrqEnWrite p v s) :=
  .done (.ite hs.enWrite hs)

theorem State.Kept.execPgIrqForceWrite {p : Nat} {v : Reg} (hs : s.Kept Q C) : Answers Q C (execPgIrqForceWrite p v s) :=
  .done (.ite hs.forceWrite hs)

theorem State.Kept.execPgErrInfoClear {p : Nat} {v : Reg} (hs : s.Kept Q C) : Answers Q C (execPgErrInfoClear p v s) :=
  .done (.ite hs.errClear hs)

theorem State.Kept.execEvcSelWrite {p n : Nat} {v : Reg} (hs : s.Kept Q C) : Answers Q C (execEvcSelWrite p n v s) :=
  .done (.ite hs.selWrite hs)

theorem State.Kept.execEvcClr {p : Nat} (hs : s.Kept Q C) : Answers Q C (execEvcClr p s) := .done (.ite hs.evcClear hs)
theorem State.Kept.execSnapshotTake (hs : s.Kept Q C) : Answers Q C (execSnapshotTake s) := .done hs.snapTake
theorem State.Kept.execSnapshotCapture {p : Nat} (hs : s.Kept Q C) : Answers Q C (execSnapshotCapture p s) := .done (.ite hs.snapPage hs)
theorem State.Kept.execCustodyRegRead (hs : s.Kept Q C) : Answers Q C (execCustodyRegRead s) := by
  unfold Machine.execCustodyRegRead
  refine .done ?_
  refine State.Kept.custServe ?_ (fun _ _ _ h1 => by
      extract_lets
      refine .itePair ?_ ?_
      · exact .pair h1
      · split
        · rename_i heq
          have h2 := h1.fencedRead.snd heq
          exact .pair h2
        · rename_i heq
          have h3 := h1.fencedRead.snd heq
          exact .pair h3)
  exact hs

theorem State.Kept.execCustodyRegWrite (hs : s.Kept Q C) : Answers Q C (execCustodyRegWrite s) := by
  unfold Machine.execCustodyRegWrite
  refine .done ?_
  refine State.Kept.custServe ?_ (fun _ _ _ h1 => by
      refine .plainResult ?_
      extract_lets
      refine .itePair ?_ ?_
      · exact .pair h1
      · split
        · exact .pair h1.regViolation.pageDiscard
        · exact .pair h1.writeReg)
  exact hs

theorem State.Kept.execCustodyPower (hs : s.Kept Q C) : Answers Q C (execCustodyPower s) := by
  unfold Machine.execCustodyPower
  refine .done ?_
  refine State.Kept.custServe ?_ (fun _ _ _ h1 => by
      refine .plainResult ?_
      extract_lets
      refine .itePair ?_ ?_
      · exact h1.pwRequest
      · refine .itePair ?_ ?_
        · exact h1.pwRequest
        · exact .pair h1.pwRefuse)
  exact hs

/-! ### StartCmds -/

theorem State.Kept.goStep {k : Nat} (hs : s.Kept Q C) : (s.goStep k).Kept Q C :=
  .ite (hs.enterStep.step11 (fun _ _ _ h1 => h1.writePreset)) hs.enterStep

theorem State.Kept.stepEnds {k : Nat} (hs : s.Kept Q C) : (s.stepEnds k).Kept Q C :=
  .ite hs.recordStep.step3.goStep (.ite hs.recordStep.goStep hs.recordStep.goStep)

theorem State.Kept.stepDone {ok : Bool} {bad : List Nat} (hs : s.Kept Q C) : (s.stepDone ok bad).Kept Q C := by
  unfold State.stepDone
  extract_lets w1
  clear_value w1
  refine .ite ?_ ?_
  · exact hs.startFail
  · split
    · exact .ite hs.step1.startFail hs.step1.stepEnds
    · exact .ite hs.startFail (.ite hs.startFail hs.stepEnds)
    · exact .ite hs.startFail (.ite hs.step3.setStart hs.step3.stepEnds)
    · exact .ite hs.startFail ((State.Kept.ite hs hs.step4).stepEnds)
    · exact .ite hs.startFail hs.step5.stepEnds
    · exact hs.step7.stepEnds
    · exact .ite hs.startFail ((hs.step8 (fun _ _ _ h2 => h2.writePreset)).stepEnds)
    · exact .ite hs.stepEnds (.ite (hs.after hs.execTwStandby) hs)
    · exact .ite hs (.ite hs.recordStep.setStart hs.stepEnds)
    · exact .ite hs.startFail hs.recordStep.portOpen
    · exact .ite hs.startFail hs.stepEnds

theorem State.Kept.execStartStepDone {ok : Bool} {bad : List Nat} (hs : s.Kept Q C) : Answers Q C (execStartStepDone ok bad s) :=
  .done (.ite hs hs.stepDone)

theorem State.Kept.execStartStepTimeout (hs : s.Kept Q C) : Answers Q C (execStartStepTimeout s) := by
  unfold Machine.execStartStepTimeout
  refine .done ?_
  extract_lets
  refine .ite ?_ ?_
  · exact hs
  · exact .ite hs.step7.stepEnds (.ite hs.stepEnds (.ite (.ite hs.recordStep.setStart hs.stepEnds) hs.startFail))

theorem State.Kept.execTwinSyncTimeout (hs : s.Kept Q C) : Answers Q C (execTwinSyncTimeout s) := .done (.ite hs hs.stepEnds)

/-! ### Idle -/

theorem State.Kept.evcTime {a : Nat} (hs : s.Kept Q C) : (evcTime s a).Kept Q C := .ite ((State.Kept.ite hs.setFld hs).wr64) hs
theorem State.Kept.wdTick (hs : s.Kept Q C) : s.wdTick.Kept Q C := .ite hs.setFld hs
theorem State.Kept.tick (hs : s.Kept Q C) : s.tick.Kept Q C := by
  unfold State.tick
  exact hs.same.wdTick.foldl fun _ _ h1 => h1.evcTime


/-! ### Every command, and every step -/

theorem State.Kept.exec {i : Instr} (hs : s.Kept Q C) : Answers Q C (exec i s) :=
  match i with
  | .registerWrite .. => hs.execRegisterWrite
  | .loReadLatch .. => hs.execLoReadLatch
  | .rndVckPllLoss .. => hs.execRndVckPllLoss
  | .xozPllLoss .. => hs.execXozPllLoss
  | .fabPllLoss .. => hs.execFabPllLoss
  | .fabRelockTimeout .. => hs.execFabRelockTimeout
  | .timPllLoss => hs.execTimPllLoss
  | .lrxLossOfLock .. => hs.execLrxLossOfLock
  | .portmodeWrite .. => hs.execPortmodeWrite
  | .clause73PageRx .. => hs.execClause73PageRx
  | .rxFrameStart .. => hs.execRxFrameStart
  | .rxFrameEnd .. => hs.execRxFrameEnd
  | .rxOversizeDetect .. => hs.execRxOversizeDetect
  | .fecCodewordDecoded .. => hs.execFecCodewordDecoded
  | .controlSlotTx .. => hs.execControlSlotTx
  | .controlSlotRx .. => hs.execControlSlotRx
  | .signalLock .. => hs.execSignalLock
  | .trainDone .. => hs.execTrainDone
  | .trainTimeout .. => hs.execTrainTimeout
  | .eqCoeffUpdate .. => hs.execEqCoeffUpdate
  | .keepUpTimeout .. => hs.execKeepUpTimeout
  | .alignLocksReached .. => hs.execAlignLocksReached
  | .alignTimeout .. => hs.execAlignTimeout
  | .linkLoss .. => hs.execLinkLoss
  | .faultClearTimeout .. => hs.execFaultClearTimeout
  | .faultOrderedSetRx .. => hs.execFaultOrderedSetRx
  | .faultCeaseTimeout .. => hs.execFaultCeaseTimeout
  | .lnUp .. => hs.execLnUp
  | .lnDown .. => hs.execLnDown
  | .lnTest .. => hs.execLnTest
  | .lnRetrain .. => hs.execLnRetrain
  | .lnClrCnt .. => hs.execLnClrCnt
  | .lnCfgWrite .. => hs.execLnCfgWrite
  | .lnTxeqWrite .. => hs.execLnTxeqWrite
  | .lnMaxframeWrite .. => hs.execLnMaxframeWrite
  | .noriolysFrameRx .. => hs.execNoriolysFrameRx
  | .nakRx .. => hs.execNakRx
  | .bondRx => hs.execBondRx
  | .saInstall .. => hs.execSaInstall
  | .saDisable .. => hs.execSaDisable
  | .saRead .. => hs.execSaRead
  | .saCmdComplete .. => hs.execSaCmdComplete
  | .scEventRead .. => hs.execScEventRead
  | .grainDispatch .. => hs.execGrainDispatch
  | .icvResult .. => hs.execIcvResult
  | .commitCheck .. => hs.execCommitCheck
  | .trustOutcomeArrival .. => hs.execTrustOutcomeArrival
  | .egressIcvEmit .. => hs.execEgressIcvEmit
  | .txFrameStart .. => hs.execTxFrameStart
  | .katSlotExpiry .. => hs.execKatSlotExpiry
  | .katTestEnter .. => hs.execKatTestEnter
  | .grainKatVector .. => hs.execGrainKatVector
  | .scKatCtlWrite .. => hs.execScKatCtlWrite
  | .scPortWrite .. => hs.execScPortWrite
  | .firstBlocksClassify .. => hs.execFirstBlocksClassify
  | .ftAdd .. => hs.execFtAdd
  | .ftDelete .. => hs.execFtDelete
  | .ftLookup .. => hs.execFtLookup
  | .ftCmdComplete => hs.execFtCmdComplete
  | .congMapPropagate .. => hs.execCongMapPropagate
  | .dqQcfgWrite .. => hs.execDqQcfgWrite
  | .dqPortWrite .. => hs.execDqPortWrite
  | .enqueueNotice .. => hs.execEnqueueNotice
  | .queueHeadStamp .. => hs.execQueueHeadStamp
  | .endNotice .. => hs.execEndNotice
  | .level1Nominate .. => hs.execLevel1Nominate
  | .pullGrant .. => hs.execPullGrant
  | .inputDramGrant .. => hs.execInputDramGrant
  | .linkGrant .. => hs.execLinkGrant
  | .egressDramGrant .. => hs.execEgressDramGrant
  | .linkCellRx .. => hs.execLinkCellRx
  | .linkCreditReturn .. => hs.execLinkCreditReturn
  | .linkDeliveryTimeout .. => hs.execLinkDeliveryTimeout
  | .holdExpiry .. => hs.execHoldExpiry
  | .cvlCreditRx .. => hs.execCvlCreditRx
  | .cvlEchoReqRx .. => hs.execCvlEchoReqRx
  | .cvlEchoRspRx .. => hs.execCvlEchoRspRx
  | .cvlQuenchRx .. => hs.execCvlQuenchRx
  | .cvlResumeRx .. => hs.execCvlResumeRx
  | .cvlFirmwareRx .. => hs.execCvlFirmwareRx
  | .quenchExpiry .. => hs.execQuenchExpiry
  | .cvlTxMessage .. => hs.execCvlTxMessage
  | .cvlTxFrame .. => hs.execCvlTxFrame
  | .cvlKeyInstall .. => hs.execCvlKeyInstall
  | .cvlRxstatRead .. => hs.execCvlRxstatRead
  | .envelopeCheck .. => hs.execEnvelopeCheck
  | .diaDataAccess .. => hs.execDiaDataAccess
  | .diaEnWrite .. => hs.execDiaEnWrite
  | .recordComplete .. => hs.execRecordComplete
  | .slotFilled .. => hs.execSlotFilled
  | .heldAppendRoom .. => hs.execHeldAppendRoom
  | .respTmoExpiry .. => hs.execRespTmoExpiry
  | .verdictFwdRequestRx => hs.execVerdictFwdRequestRx
  | .verdictFwdResponseRx => hs.execVerdictFwdResponseRx
  | .fwdEntryTimeout .. => hs.execFwdEntryTimeout
  | .ozVpCfgWrite .. => hs.execOzVpCfgWrite
  | .vpServiceRegWrite .. => hs.execVpServiceRegWrite
  | .keyEngineTake .. => hs.execKeyEngineTake
  | .pinXlate .. => hs.execPinXlate
  | .macGen .. => hs.execMacGen
  | .macVer .. => hs.execMacVer
  | .dukptDerive .. => hs.execDukptDerive
  | .arqcVerify .. => hs.execArqcVerify
  | .ff1Enc .. => hs.execFf1Enc
  | .ff1Dec .. => hs.execFf1Dec
  | .kbImport .. => hs.execKbImport
  | .kbExport .. => hs.execKbExport
  | .keyOpComplete .. => hs.execKeyOpComplete
  | .keSelfTest .. => hs.execKeSelfTest
  | .kvPcfCfgWrite .. => hs.execKvPcfCfgWrite
  | .kvPcfClrCnt .. => hs.execKvPcfClrCnt
  | .add .. => hs.execAdd
  | .sub .. => hs.execSub
  | .addo .. => hs.execAddo
  | .subo .. => hs.execSubo
  | .neg .. => hs.execNeg
  | .abs .. => hs.execAbs
  | .and .. => hs.execAnd
  | .or .. => hs.execOr
  | .xor .. => hs.execXor
  | .sll .. => hs.execSll
  | .srl .. => hs.execSrl
  | .sra .. => hs.execSra
  | .ror .. => hs.execRor
  | .slt .. => hs.execSlt
  | .sltu .. => hs.execSltu
  | .seq .. => hs.execSeq
  | .min .. => hs.execMin
  | .max .. => hs.execMax
  | .mul .. => hs.execMul
  | .mulh .. => hs.execMulh
  | .mulhu .. => hs.execMulhu
  | .mulo .. => hs.execMulo
  | .div .. => hs.execDiv
  | .divu .. => hs.execDivu
  | .rem .. => hs.execRem
  | .remu .. => hs.execRemu
  | .clz .. => hs.execClz
  | .ctz .. => hs.execCtz
  | .popc .. => hs.execPopc
  | .bswap .. => hs.execBswap
  | .sextb .. => hs.execSextb
  | .sexth .. => hs.execSexth
  | .zextw .. => hs.execZextw
  | .cmovz .. => hs.execCmovz
  | .cmovn .. => hs.execCmovn
  | .addi .. => hs.execAddi
  | .addiw .. => hs.execAddiw
  | .andi .. => hs.execAndi
  | .ori .. => hs.execOri
  | .xori .. => hs.execXori
  | .slti .. => hs.execSlti
  | .sltiu .. => hs.execSltiu
  | .lui .. => hs.execLui
  | .slli .. => hs.execSlli
  | .srli .. => hs.execSrli
  | .srai .. => hs.execSrai
  | .rori .. => hs.execRori
  | .mfs .. => hs.execMfs
  | .mts .. => hs.execMts
  | .load .. => hs.execLoad
  | .store .. => hs.execStore
  | .storeBufferDrain .. => hs.execStoreBufferDrain
  | .lateStoreReport .. => hs.execLateStoreReport
  | .cas .. => hs.execCas
  | .amoadd .. => hs.execAmoadd
  | .amoswap .. => hs.execAmoswap
  | .fence .. => hs.execFence
  | .isync .. => hs.execIsync
  | .brk .. => hs.execBrk
  | .beqz .. => hs.execBeqz
  | .bnez .. => hs.execBnez
  | .bltz .. => hs.execBltz
  | .bgez .. => hs.execBgez
  | .bgtz .. => hs.execBgtz
  | .blez .. => hs.execBlez
  | .j .. => hs.execJ
  | .call .. => hs.execCall
  | .jr .. => hs.execJr
  | .jalr .. => hs.execJalr
  | .gate .. => hs.execGate
  | .retg .. => hs.execRetg
  | .eret .. => hs.execEret
  | .loop .. => hs.execLoop
  | .wait .. => hs.execWait
  | .poll .. => hs.execPoll
  | .wfe .. => hs.execWfe
  | .rdtim .. => hs.execRdtim
  | .japp .. => hs.execJapp
  | .lread .. => hs.execLread
  | .lwrite .. => hs.execLwrite
  | .respond .. => hs.execRespond
  | .ctxupd .. => hs.execCtxupd
  | .dma .. => hs.execDma
  | .slrel .. => hs.execSlrel
  | .kop .. => hs.execKop
  | .ticketComplete .. => hs.execTicketComplete
  | .dmaComplete .. => hs.execDmaComplete
  | .interruptEntry .. => hs.execInterruptEntry
  | .timerCompare .. => hs.execTimerCompare
  | .vbudgetExpiry .. => hs.execVbudgetExpiry
  | .wdogStage1 .. => hs.execWdogStage1
  | .wdogStage2 .. => hs.execWdogStage2
  | .vcRun .. => hs.execVcRun
  | .vcReset .. => hs.execVcReset
  | .vaultFill .. => hs.execVaultFill
  | .vaultFillDone .. => hs.execVaultFillDone
  | .readAttr .. => hs.execReadAttr
  | .retire .. => hs.execRetire
  | .delete .. => hs.execDelete
  | .evict .. => hs.execEvict
  | .keyCmdComplete .. => hs.execKeyCmdComplete
  | .zoneStart .. => hs.execZoneStart
  | .zoneStop .. => hs.execZoneStop
  | .zoneRekey .. => hs.execZoneRekey
  | .rekeyWalkEnd .. => hs.execRekeyWalkEnd
  | .zoneExport .. => hs.execZoneExport
  | .zoneLoad .. => hs.execZoneLoad
  | .zoneTransferDone .. => hs.execZoneTransferDone
  | .zoneRangeWrite .. => hs.execZoneRangeWrite
  | .kvBaseWrite .. => hs.execKvBaseWrite
  | .kvCfgWrite .. => hs.execKvCfgWrite
  | .create .. => hs.execCreate
  | .modify .. => hs.execModify
  | .ctxRead .. => hs.execCtxRead
  | .destroy .. => hs.execDestroy
  | .resetLimiter .. => hs.execResetLimiter
  | .ctxCmdComplete .. => hs.execCtxCmdComplete
  | .contextFillDone .. => hs.execContextFillDone
  | .contextWriteback .. => hs.execContextWriteback
  | .ctxupdStore .. => hs.execCtxupdStore
  | .ctxupdAdd .. => hs.execCtxupdAdd
  | .ctxupdRead .. => hs.execCtxupdRead
  | .pkQProdWrite .. => hs.execPkQProdWrite
  | .pkDoorbellStore .. => hs.execPkDoorbellStore
  | .pkDescriptorTake .. => hs.execPkDescriptorTake
  | .modexp .. => hs.execModexp
  | .rsaVerify .. => hs.execRsaVerify
  | .rsaSign .. => hs.execRsaSign
  | .rsaEncrypt .. => hs.execRsaEncrypt
  | .rsaDecrypt .. => hs.execRsaDecrypt
  | .ecdsaVerify .. => hs.execEcdsaVerify
  | .ecdsaSign .. => hs.execEcdsaSign
  | .ecdh .. => hs.execEcdh
  | .ed25519Verify .. => hs.execEd25519Verify
  | .ed25519Sign .. => hs.execEd25519Sign
  | .x25519 .. => hs.execX25519
  | .pkgen .. => hs.execPkgen
  | .pkImport .. => hs.execPkImport
  | .pkRewrap .. => hs.execPkRewrap
  | .pkOperandsReady .. => hs.execPkOperandsReady
  | .pkResultIssue .. => hs.execPkResultIssue
  | .sealRequest .. => hs.execSealRequest
  | .sealComplete .. => hs.execSealComplete
  | .pkSelfTest .. => hs.execPkSelfTest
  | .pkSelfTestEnd .. => hs.execPkSelfTestEnd
  | .pkCfgWrite .. => hs.execPkCfgWrite
  | .pkQCfgWrite .. => hs.execPkQCfgWrite
  | .pkBfloorWrite .. => hs.execPkBfloorWrite
  | .strandAdmit .. => hs.execStrandAdmit
  | .journalExport .. => hs.execJournalExport
  | .jnXconsWrite .. => hs.execJnXconsWrite
  | .sealTrigger .. => hs.execSealTrigger
  | .genesis .. => hs.execGenesis
  | .sealNow .. => hs.execSealNow
  | .twinAckRx => hs.execTwinAckRx
  | .journalFrameRx => hs.execJournalFrameRx
  | .standbyChainVerify .. => hs.execStandbyChainVerify
  | .sealRecordRx => hs.execSealRecordRx
  | .deltaFrameRx => hs.execDeltaFrameRx
  | .checkpointTimer => hs.execCheckpointTimer
  | .checkpointSegmentRx => hs.execCheckpointSegmentRx
  | .checkpointEndRx => hs.execCheckpointEndRx
  | .heartbeatTx => hs.execHeartbeatTx
  | .heartbeatRx .. => hs.execHeartbeatRx
  | .heartbeatLoss => hs.execHeartbeatLoss
  | .probeTimeout => hs.execProbeTimeout
  | .probeRspRx => hs.execProbeRspRx
  | .twinLinkUp => hs.execTwinLinkUp
  | .swapStateRx .. => hs.execSwapStateRx
  | .swapReqRx => hs.execSwapReqRx
  | .swapAcceptRx => hs.execSwapAcceptRx
  | .swapCommitRx => hs.execSwapCommitRx
  | .swapDoneRx => hs.execSwapDoneRx
  | .swapRejectRx => hs.execSwapRejectRx
  | .swapDrainEnd => hs.execSwapDrainEnd
  | .twActivate => hs.execTwActivate
  | .twStandby => hs.execTwStandby
  | .twSwap => hs.execTwSwap
  | .twCheckpoint => hs.execTwCheckpoint
  | .twDetach => hs.execTwDetach
  | .twCfgWrite .. => hs.execTwCfgWrite
  | .twLinkKeyWrite .. => hs.execTwLinkKeyWrite
  | .join => hs.execJoin
  | .leave => hs.execLeave
  | .keyArm => hs.execKeyArm
  | .leaveTimeout => hs.execLeaveTimeout
  | .joinTimeout => hs.execJoinTimeout
  | .ringIsolateTimeout => hs.execRingIsolateTimeout
  | .ringHelloRx .. => hs.execRingHelloRx
  | .ringFrameRx .. => hs.execRingFrameRx
  | .presenceTx => hs.execPresenceTx
  | .presenceRx => hs.execPresenceRx
  | .presenceExpiry .. => hs.execPresenceExpiry
  | .segDownTimeout .. => hs.execSegDownTimeout
  | .timeSyncTx .. => hs.execTimeSyncTx
  | .timeSyncRx .. => hs.execTimeSyncRx
  | .pdelayReqTx .. => hs.execPdelayReqTx
  | .pdelayReqRx .. => hs.execPdelayReqRx
  | .pdelayRspRx .. => hs.execPdelayRspRx
  | .masterSelfElect => hs.execMasterSelfElect
  | .holdoverEntry => hs.execHoldoverEntry
  | .timeValidLoss => hs.execTimeValidLoss
  | .keySwitchTime => hs.execKeySwitchTime
  | .keySwitchCommit => hs.execKeySwitchCommit
  | .ringMgmtRx => hs.execRingMgmtRx
  | .crTxSend .. => hs.execCrTxSend
  | .crRxRead => hs.execCrRxRead
  | .ringProbeRx => hs.execRingProbeRx
  | .leaseReqReadRx => hs.execLeaseReqReadRx
  | .leaseReqSetRx => hs.execLeaseReqSetRx
  | .leaseReqAddRx => hs.execLeaseReqAddRx
  | .leaseRspRx => hs.execLeaseRspRx
  | .leaseMirrorRx => hs.execLeaseMirrorRx
  | .leaseMackRx => hs.execLeaseMackRx
  | .mirrorTmoExpiry .. => hs.execMirrorTmoExpiry
  | .ctrSyncRx => hs.execCtrSyncRx
  | .leaseRetry .. => hs.execLeaseRetry
  | .leaseReadDeadline .. => hs.execLeaseReadDeadline
  | .leaseWriteDeadline .. => hs.execLeaseWriteDeadline
  | .leaseExpiry .. => hs.execLeaseExpiry
  | .resultEntryExpiry .. => hs.execResultEntryExpiry
  | .ctrRead => hs.execCtrRead
  | .ctrSet => hs.execCtrSet
  | .clearAll => hs.execClearAll
  | .crCfgWrite .. => hs.execCrCfgWrite
  | .pcieReset .. => hs.execPcieReset
  | .msixUnmask .. => hs.execMsixUnmask
  | .rgProdWrite .. => hs.execRgProdWrite
  | .txDescriptorTake => hs.execTxDescriptorTake
  | .txFrameReadDone .. => hs.execTxFrameReadDone
  | .hostRxPull => hs.execHostRxPull
  | .hostRxComplete .. => hs.execHostRxComplete
  | .ringIrqModeration .. => hs.execRingIrqModeration
  | .rgCfgWrite .. => hs.execRgCfgWrite
  | .mbDataWrite .. => hs.execMbDataWrite
  | .mbSend .. => hs.execMbSend
  | .mbTake .. => hs.execMbTake
  | .mbAck .. => hs.execMbAck
  | .mbOvfClear .. => hs.execMbOvfClear
  | .mbChCfgWrite .. => hs.execMbChCfgWrite
  | .deviceWideWrite .. => hs.execDeviceWideWrite
  | .deviceWideApply => hs.execDeviceWideApply
  | .pgIrqRawWrite .. => hs.execPgIrqRawWrite
  | .pgIrqEnWrite .. => hs.execPgIrqEnWrite
  | .pgIrqForceWrite .. => hs.execPgIrqForceWrite
  | .pgErrInfoClear .. => hs.execPgErrInfoClear
  | .evcSelWrite .. => hs.execEvcSelWrite
  | .evcClr .. => hs.execEvcClr
  | .snapshotTake => hs.execSnapshotTake
  | .snapshotCapture .. => hs.execSnapshotCapture
  | .powerOn .. => hs.execPowerOn
  | .sysResetAssert => hs.execSysResetAssert
  | .startWarm => hs.execStartWarm
  | .startCold => hs.execStartCold
  | .fwLoad => hs.execFwLoad
  | .warmPrepDone => hs.execWarmPrepDone
  | .warmPrepTimeout => hs.execWarmPrepTimeout
  | .startStepDone .. => hs.execStartStepDone
  | .startStepTimeout => hs.execStartStepTimeout
  | .twinSyncTimeout => hs.execTwinSyncTimeout
  | .coldRetryTimer => hs.execColdRetryTimer
  | .custodyWdExpiry => hs.execCustodyWdExpiry
  | .deviceWdExpiry => hs.execDeviceWdExpiry
  | .glbWdKick .. => hs.execGlbWdKick
  | .wdKickStore .. => hs.execWdKickStore
  | .thermalSample .. => hs.execThermalSample
  | .thermalTrip => hs.execThermalTrip
  | .thermalRestartTimer => hs.execThermalRestartTimer
  | .undervoltageDetect .. => hs.execUndervoltageDetect
  | .pwOn .. => hs.execPwOn
  | .pwOff .. => hs.execPwOff
  | .domainTransitionDone .. => hs.execDomainTransitionDone
  | .wakeEvent .. => hs.execWakeEvent
  | .slowInputAccept .. => hs.execSlowInputAccept
  | .slowInputChatter .. => hs.execSlowInputChatter
  | .monitorArm .. => hs.execMonitorArm
  | .monitorDeparture .. => hs.execMonitorDeparture
  | .glitchAlarm .. => hs.execGlitchAlarm
  | .slowAlarm .. => hs.execSlowAlarm
  | .powerLossClassify .. => hs.execPowerLossClassify
  | .sequenceAlarm .. => hs.execSequenceAlarm
  | .stateAlarm .. => hs.execStateAlarm
  | .linkAlarm .. => hs.execLinkAlarm
  | .lkForce .. => hs.execLkForce
  | .aonAlarmLatch => hs.execAonAlarmLatch
  | .vbatMeasure .. => hs.execVbatMeasure
  | .custodyRegRead => hs.execCustodyRegRead
  | .custodyRegWrite => hs.execCustodyRegWrite
  | .custodyPower => hs.execCustodyPower
  | .fenceWrite => hs.execFenceWrite
  | .alarmRead => hs.execAlarmRead
  | .alarmClear => hs.execAlarmClear
  | .unlockBegin => hs.execUnlockBegin
  | .unlockEnd => hs.execUnlockEnd
  | .unlockSessionTimeout => hs.execUnlockSessionTimeout
  | .rootGenerate => hs.execRootGenerate
  | .lcAdvance => hs.execLcAdvance
  | .lcSetDigest => hs.execLcSetDigest
  | .zoneDigest => hs.execZoneDigest
  | .zoneLc => hs.execZoneLc
  | .zoneRecycle => hs.execZoneRecycle
  | .zoneSeedExport => hs.execZoneSeedExport
  | .zoneSeedImport => hs.execZoneSeedImport
  | .certRead => hs.execCertRead
  | .dbgChallenge => hs.execDbgChallenge
  | .dbgResponse => hs.execDbgResponse
  | .dbgClose => hs.execDbgClose
  | .writeRegion .. => hs.execWriteRegion
  | .readRegion .. => hs.execReadRegion
  | .writeDefault .. => hs.execWriteDefault
  | .readDefault .. => hs.execReadDefault
  | .logClear .. => hs.execLogClear
  | .flashRead => hs.execFlashRead
  | .flashProgram => hs.execFlashProgram
  | .flashErase => hs.execFlashErase
  | .flashProtect => hs.execFlashProtect
  | .flashUnprotect => hs.execFlashUnprotect
  | .flashUnlock => hs.execFlashUnlock
  | .flashRelock => hs.execFlashRelock
  | .flashSetPassword => hs.execFlashSetPassword
  | .flashOpDone .. => hs.execFlashOpDone
  | .gapMoveDone => hs.execGapMoveDone
  | .csWrite => hs.execCsWrite
  | .csRead => hs.execCsRead
  | .eraseBoth => hs.execEraseBoth
  | .csWriteDone .. => hs.execCsWriteDone
  | .seedBlockComplete => hs.execSeedBlockComplete
  | .healthRateWindow => hs.execHealthRateWindow
  | .drbgGenerate .. => hs.execDrbgGenerate
  | .drbgDraw .. => hs.execDrbgDraw
  | .drbgReseedDue .. => hs.execDrbgReseedDue
  | .drbgReseedDone .. => hs.execDrbgReseedDone
  | .reseed .. => hs.execReseed
  | .reinstantiate .. => hs.execReinstantiate
  | .tapStart .. => hs.execTapStart
  | .tapStop => hs.execTapStop
  | .tapFull => hs.execTapFull
  | .rngCfgWrite .. => hs.execRngCfgWrite
  | .rngTpCtlWrite .. => hs.execRngTpCtlWrite
  | .cardInsert => hs.execCardInsert
  | .cardPowerTimer => hs.execCardPowerTimer
  | .cardReset => hs.execCardReset
  | .identify => hs.execIdentify
  | .authInit => hs.execAuthInit
  | .authProof => hs.execAuthProof
  | .authFinish => hs.execAuthFinish
  | .readShare => hs.execReadShare
  | .begin => hs.execBegin
  | .enroll => hs.execEnroll
  | .writeShare => hs.execWriteShare
  | .commit => hs.execCommit
  | .abort => hs.execAbort
  | .cardResponseRx .. => hs.execCardResponseRx
  | .waitExtensionRx .. => hs.execWaitExtensionRx
  | .cardResponseDeadline => hs.execCardResponseDeadline
  | .cardDataBlock .. => hs.execCardDataBlock
  | .cardRawRemoval .. => hs.execCardRawRemoval
  | .cardRemoval => hs.execCardRemoval
  | .generationTimeout => hs.execGenerationTimeout
  | .eject => hs.execEject
  | .clearUnknown => hs.execClearUnknown
  | .revoke => hs.execRevoke
  | .clearLog => hs.execClearLog
  | .cbCfgWrite .. => hs.execCbCfgWrite
  | .badgePing .. => hs.execBadgePing
  | .fieldCycleTimeout => hs.execFieldCycleTimeout
  | .anticollRetryTimer => hs.execAnticollRetryTimer
  | .wupa => hs.execWupa
  | .hlta .. => hs.execHlta
  | .originRead => hs.execOriginRead
  | .originVerifyDone => hs.execOriginVerifyDone
  | .auth1 => hs.execAuth1
  | .auth2 => hs.execAuth2
  | .passAuth => hs.execPassAuth
  | .countRead => hs.execCountRead
  | .countStep => hs.execCountStep
  | .setKey => hs.execSetKey
  | .kill => hs.execKill
  | .badgeResponseRx .. => hs.execBadgeResponseRx
  | .badgeResponseTimeout .. => hs.execBadgeResponseTimeout
  | .lnTestCfgWrite .. => hs.execLnTestCfgWrite
  | .prbsInject .. => hs.execPrbsInject
  | .dramOut .. => hs.execDramOut
  | .dramIn .. => hs.execDramIn
  | .dramCycle .. => hs.execDramCycle
  | .dramDrainDone .. => hs.execDramDrainDone
  | .dramDrainTimeout .. => hs.execDramDrainTimeout
  | .dramCloseDone .. => hs.execDramCloseDone
  | .dramBistDone .. => hs.execDramBistDone
  | .coreBist .. => hs.execCoreBist
  | .reload .. => hs.execReload
  | .coreTestDone .. => hs.execCoreTestDone
  | .verdictDrainTimeout .. => hs.execVerdictDrainTimeout
  | .isolate .. => hs.execIsolate
  | .restore .. => hs.execRestore
  | .isolationStepDone .. => hs.execIsolationStepDone
  | .testLogicReset => hs.execTestLogicReset
  | .extest => hs.execExtest
  | .idcode => hs.execIdcode
  | .samplePreload => hs.execSamplePreload
  | .highz => hs.execHighz
  | .clamp => hs.execClamp
  | .extestPulse => hs.execExtestPulse
  | .extestTrain => hs.execExtestTrain
  | .coreSel .. => hs.execCoreSel
  | .coreAccessRead .. => hs.execCoreAccessRead
  | .coreAccessWrite .. => hs.execCoreAccessWrite
  | .coreAccessHalt => hs.execCoreAccessHalt
  | .coreAccessRun => hs.execCoreAccessRun
  | .custDbg => hs.execCustDbg
  | .bypass => hs.execBypass
  | .noriolysFrameTx .. => hs.execNoriolysFrameTx
  | .noiseSourceSample .. => hs.execNoiseSourceSample
  | .prbsLockChange .. => hs.execPrbsLockChange
  | .pllRelock .. => hs.execPllRelock
  | .crossOunceLinkRestored .. => hs.execCrossOunceLinkRestored
  | .hiBerWindow .. => hs.execHiBerWindow
  | .sysResetDeassert => hs.execSysResetDeassert
  | .pcieResetEnd .. => hs.execPcieResetEnd

end
end Sys2Proof.Machine
end

section
/-!
PROOFS. The canonical form, the queue, and the step (O57, O59, O60), from what every command keeps.
-/
namespace Sys2Proof.Machine

theorem step_cons {s : State} {i : Instr} {rest : List Instr} (h : s.pending = i :: rest) : step s = exec i { s with pending := rest } := by
  unfold step
  rw [h]

theorem step_nil {s : State} (h : s.pending = []) : step s = .next s.tick := by
  unfold step
  rw [h]

/-- A command keeps the queue and, where the tables are canonical, their canonical form. -/
theorem exec_kept {i : Instr} {s t : State} (h : exec i s = .next t) : t.Kept s.pending (s.canon = true) :=
  State.Kept.exec ⟨rfl, id⟩ t h

theorem tick_kept {s : State} : s.tick.Kept s.pending (s.canon = true) := State.Kept.tick ⟨rfl, id⟩

/-- The canonical form does not speak of the queue. -/
theorem canon_pending {s : State} {q : List Instr} : State.canon { s with pending := q } = s.canon := canon_congr rfl rfl rfl rfl

/-- Settles O59: a step is a command on the state with the queue's rest, or the idle step, and both keep the canonical form. -/
theorem stepKeepsTheCanonicalForm : Obligations.StepKeepsTheCanonicalForm := by
  unfold Obligations.StepKeepsTheCanonicalForm
  intro s t hs ht
  cases hq : s.pending with
  | nil =>
    rw [step_nil hq] at ht
    exact Host.Outcome.next.inj ht ▸ tick_kept.canon hs
  | cons i rest =>
    rw [step_cons hq] at ht
    exact (exec_kept ht).canon (canon_pending.trans hs)

/-- Settles O60: every command keeps the queue, so what a step leaves is what stood behind the command it took. -/
theorem commandsLeaveTheQueueAlone : Obligations.CommandsLeaveTheQueueAlone := by
  unfold Obligations.CommandsLeaveTheQueueAlone
  refine ⟨fun c s t h => (exec_kept h).queue, fun s t c rest hq h => ?_⟩
  rw [step_cons hq] at h
  exact (exec_kept h).queue

theorem exec_next (i : Instr) (s : State) : ∃ t, exec i s = .next t := by
  cases i <;> exact ⟨_, rfl⟩

theorem step_safe (s : State) : Sys2Proof.Safe (step s) := by
  cases hq : s.pending with
  | nil => exact ⟨_, step_nil hq⟩
  | cons i rest =>
    obtain ⟨t, ht⟩ := exec_next i { s with pending := rest }
    exact ⟨t, (step_cons hq).trans ht⟩

section
variable (s : State)

/-- What an event counter writes in a nanosecond: nothing, or its two words and, at the end of its range, its flag. -/
theorem evcTime_eq (a : Nat) :
    evcTime s a = s ∨ ∃ n, evcTime s a = s.wr64 (a + 4) n ∨ evcTime s a = (s.setFld a 31 31 1).wr64 (a + 4) n := by
  unfold evcTime
  extract_lets _ _ _ n t
  split
  · refine .inr ⟨min n (2 ^ 48 - 1), ?_⟩
    unfold t
    split
    · exact .inr rfl
    · exact .inl rfl
  · exact .inl rfl

theorem evcTime_mem_clk (a : Nat) : (evcTime s a).mem = s.mem ∧ (evcTime s a).clk = s.clk := by
  obtain h | ⟨n, h | h⟩ := evcTime_eq s a <;> rw [h]
  · exact ⟨rfl, rfl⟩
  · simp
  · simp

theorem wdTick_mem_clk : s.wdTick.mem = s.mem ∧ s.wdTick.clk = s.clk := by
  unfold State.wdTick
  split <;> simp

theorem foldl_evcTime_mem_clk (l : List Nat) : (l.foldl evcTime s).mem = s.mem ∧ (l.foldl evcTime s).clk = s.clk := by
  induction l generalizing s with
  | nil => exact ⟨rfl, rfl⟩
  | cons a l ih => exact ⟨(ih _).1.trans (evcTime_mem_clk s a).1, (ih _).2.trans (evcTime_mem_clk s a).2⟩

theorem tick_mem : s.tick.mem = s.mem :=
  (foldl_evcTime_mem_clk _ _).1.trans (wdTick_mem_clk _).1

theorem tick_ns : s.tick.clk.ns = s.clk.ns + 1 :=
  congrArg Clock.ns ((foldl_evcTime_mem_clk _ _).2.trans (wdTick_mem_clk _).2)

end

/-- Settles O57: `exec` ends every command in a next state, and `step` is its two equations. -/
theorem stepRunsTheFrontCommand : Obligations.StepRunsTheFrontCommand := by
  unfold Obligations.StepRunsTheFrontCommand
  exact ⟨exec_next, step_safe, fun _ _ _ => rfl,
    fun s hq => ⟨step_nil hq, tick_ns s, tick_kept.queue.trans hq, tick_mem s⟩, fun _ _ => rfl⟩

end Sys2Proof.Machine
end


section
/-!
PROOFS. The integer operations of a ready core (O12, O13, O14): what an operation that ends with a result, a flag or ARITH comes to, and the
arithmetic of the flags.
-/
namespace Sys2Proof.Machine

/-- How an integer operation with result `r` and flags `v` and `dz` ends (R235): rd written, or ARITH raised. -/
def IntEnds (s : State) (c : Nat) (rd : BitVec 5) (v dz : Bool) (r : Word) (o : Outcome) : Prop :=
  (s.untrapped c v dz = true → o = .next ((s.intFlags c v dz).writesBack c rd r)) ∧
  (v = true → s.untrapped c v dz = false → o = .next ((s.intFlags c v dz).raise c 8 0 0 false)) ∧
  (v = false → s.untrapped c v dz = false → o = .next ((s.intFlags c v dz).raise c 8 1 0 false))

/-- A core that is not the default core reads back as it was written. -/
theorem core_setCore {s : State} {c : Nat} {x : Core} (hx : x.st ≠ 0) : (s.setCore c x).core c = x :=
  tget_tput_new _ _ _ _ fun e => hx (congrArg Core.st e)

theorem core_setCore_ne {s : State} {c d : Nat} {x : Core} (hd : d ≠ c) : (s.setCore c x).core d = s.core d :=
  tget_tput_ne _ _ _ _ _ hd

/-- A core that runs is not in RESET. -/
theorem ready_st {s : State} {c : Nat} (h : s.ready c = true) : (s.core c).st ≠ 0 := by
  have hr := (ready_iff.mp h).1
  simp only [State.coreRuns, Bool.and_eq_true, decide_eq_true_eq] at hr
  omega

/-- Setting the flags leaves PC. -/
theorem intFlags_pc {s : State} {c : Nat} {v dz : Bool} (h : (s.core c).st ≠ 0) : ((s.intFlags c v dz).core c).pc = (s.core c).pc := by
  unfold State.intFlags
  extract_lets x
  split
  · rw [core_setCore]
    exact h
  · rfl

section
variable {s : State} {c : Nat} {rd ra rb : BitVec 5} {word : Nat} {w : Bool}

theorem intDone_ok {v dz : Bool} {r : Word} (h : s.untrapped c v dz = true) :
    s.intDone c rd r v dz = .ok ((s.intFlags c v dz).setReg c rd.toNat r) := by
  simp only [State.untrapped, Bool.and_eq_true, Bool.not_eq_true'] at h
  unfold State.intDone
  rw [if_neg (by simp [h.1]), if_neg (by simp [h.2])]

theorem intDone_trap {v dz : Bool} {r : Word} (hvd : v = false ∨ dz = false) (h : s.untrapped c v dz = false) :
    s.intDone c rd r v dz = .trap (s.intFlags c v dz) 8 (if v then 0 else 1) 0 := by
  simp only [State.untrapped, Bool.and_eq_false_iff, Bool.not_eq_false'] at h
  unfold State.intDone
  cases v with
  | true =>
    cases hvd.resolve_left (by decide)
    rw [if_pos (by simpa using h), if_pos rfl]
  | false => rw [if_neg (by simp), if_pos (by simpa using h), if_neg (by decide)]

theorem issue_intDone {v dz : Bool} {r : Word} {body : Core → State → CoreRes} (h : s.ready c = true) (hvd : v = false ∨ dz = false)
    (hb : body (s.core c) s = s.intDone c rd r v dz) : IntEnds s c rd v dz r (done (s.issue c word true false body)) := by
  refine ⟨fun hu => ?_, fun hv hu => ?_, fun hv hu => ?_⟩
  · rw [issue_ok h (hb.trans (intDone_ok hu)), State.writesBack, intFlags_pc (ready_st h)]
    rfl
  · rw [issue_trap h (hb.trans (intDone_trap hvd hu)), if_pos hv]
    rfl
  · rw [issue_trap h (hb.trans (intDone_trap hvd hu)), if_neg (by simp [hv])]
    rfl

theorem IntEnds.next {r : Word} {o : Outcome} (h : IntEnds s c rd false false r o) : o = .next (s.writesBack c rd r) := h.1 rfl

/-- An operation of Table 7.4: its two forms end with the results and flags they compute. -/
theorem intOp_ends {func : Nat} {useB v dz : Bool} {x : Word} {y : BitVec 32} {f : (n : Nat) → BitVec n → BitVec n → IntRes n}
    (h : s.ready c = true) (hvd : v = false ∨ dz = false) (hl : (useB || decide (rb = 0)) = true)
    (h64 : w = false → f 64 ((s.core c).rv ra) ((s.core c).rv rb) = ⟨x, v, dz⟩)
    (h32 : w = true → f 32 (((s.core c).rv ra).setWidth 32) (((s.core c).rv rb).setWidth 32) = ⟨y, v, dz⟩) :
    IntEnds s c rd v dz (if w then y.signExtend 64 else x) (done (intOp c func rd ra rb w useB f s)) := by
  unfold intOp
  rw [hl]
  refine issue_intDone h hvd ?_
  cases w with
  | false => simp [h64 rfl]
  | true => simp [h32 rfl]

/-- The same, for a result that is one number in both forms. -/
theorem intOp_ends_const {func : Nat} {v dz : Bool} {x r : Word} {y : BitVec 32} {f : (n : Nat) → BitVec n → BitVec n → IntRes n}
    (h : s.ready c = true) (hvd : v = false ∨ dz = false) (hr : (if w then y.signExtend 64 else x) = r)
    (h64 : w = false → f 64 ((s.core c).rv ra) ((s.core c).rv rb) = ⟨x, v, dz⟩)
    (h32 : w = true → f 32 (((s.core c).rv ra).setWidth 32) (((s.core c).rv rb).setWidth 32) = ⟨y, v, dz⟩) :
    IntEnds s c rd v dz r (done (intOp c func rd ra rb w true f s)) :=
  hr ▸ intOp_ends h hvd rfl h64 h32

/-- An operation of Table 7.4 that sets no flag. -/
theorem intOp_next {func : Nat} {useB : Bool} {x : Word} {y : BitVec 32} {f : (n : Nat) → BitVec n → BitVec n → IntRes n}
    (h : s.ready c = true) (hl : (useB || decide (rb = 0)) = true)
    (h64 : f 64 ((s.core c).rv ra) ((s.core c).rv rb) = ⟨x, false, false⟩)
    (h32 : f 32 (((s.core c).rv ra).setWidth 32) (((s.core c).rv rb).setWidth 32) = ⟨y, false, false⟩) :
    done (intOp c func rd ra rb w useB f s) = .next (s.writesBack c rd (if w then y.signExtend 64 else x)) :=
  (intOp_ends h (.inl rfl) hl (fun _ => h64) fun _ => h32).next

/-- An operation with no W form. -/
theorem intOp64_next {func : Nat} {useB : Bool} {f : Word → Word → Word} (h : s.ready c = true) (hl : (useB || decide (rb = 0)) = true) :
    done (intOp64 c func rd ra rb useB f s) = .next (s.writesBack c rd (f ((s.core c).rv ra) ((s.core c).rv rb))) := by
  unfold intOp64
  rw [hl]
  exact (issue_intDone h (.inl rfl) rfl).next

/-- An immediate operation. -/
theorem immOp_next {major : Nat} {imm : BitVec 16} {legal : Bool} {f : Word → Word} (h : s.ready c = true) (hl : legal = true) :
    done (immOp c major rd ra imm legal f s) = .next (s.writesBack c rd (f ((s.core c).rv ra))) := by
  unfold immOp
  rw [hl]
  exact (issue_intDone h (.inl rfl) rfl).next

/-- A conditional move whose condition holds. -/
theorem condMove_moves {func : Nat} {zero : Bool} (h : s.ready c = true) (hz : ((s.core c).rv rb = 0) = (zero = true)) :
    done (condMove c func rd ra rb zero s) = .next (s.writesBack c rd ((s.core c).rv ra)) :=
  (issue_intDone h (.inl rfl) (if_pos hz)).next

/-- A conditional move whose condition fails. -/
theorem condMove_stays {func : Nat} {zero : Bool} (h : s.ready c = true) (hz : ¬ ((s.core c).rv rb = 0) = (zero = true)) :
    done (condMove c func rd ra rb zero s) = .next (s.complete c ((s.core c).pc + 4)) :=
  congrArg done (issue_ok h (if_neg hz))

end

/-! ### The flags -/

section
variable {n : Nat} (a b : BitVec n)

theorem notFits_add : notFits n (a.toInt + b.toInt) = a.saddOverflow b := by
  simp [notFits, BitVec.saddOverflow, Bool.or_comm]
theorem notFits_sub : notFits n (a.toInt - b.toInt) = a.ssubOverflow b := by
  simp [notFits, BitVec.ssubOverflow, Bool.or_comm]
theorem notFits_mul : notFits n (a.toInt * b.toInt) = a.smulOverflow b := by
  simp [notFits, BitVec.smulOverflow, Bool.or_comm]
theorem isMin_eq_negOverflow (hn : 0 < n) : isMin a = a.negOverflow := by
  rw [Bool.eq_iff_iff]
  simp [isMin, BitVec.negOverflow, ← BitVec.toInt_inj, BitVec.toInt_intMin_of_pos hn]
theorem sdivOverflow_eq_isMin (hn : 0 < n) : a.sdivOverflow b = (isMin a && decide (b = BitVec.allOnes n)) := by
  simp [isMin, BitVec.sdivOverflow_eq, hn]
theorem zero_sub_eq_neg : 0 - a = -a := by simp
theorem abs_eq_ite : (if a.msb then 0 - a else a) = a.abs := by
  simp [BitVec.abs]


variable {a b} {rem signed : Bool}

theorem divide_zero (h : b = 0) : divide signed rem a b = ⟨if rem then a else BitVec.allOnes n, false, true⟩ := if_pos h

theorem divide_unsigned (h : b ≠ 0) : divide false rem a b = ⟨if rem then a % b else a / b, false, false⟩ := by
  unfold divide
  rw [if_neg h, if_neg (by simp), if_neg (by simp)]

theorem divide_signed (hn : 0 < n) (h : b ≠ 0) (ho : a.sdivOverflow b = false) :
    divide true rem a b = ⟨if rem then a.srem b else a.sdiv b, false, false⟩ := by
  rw [sdivOverflow_eq_isMin a b hn] at ho
  unfold divide
  rw [if_neg h, if_neg (by simpa using ho), if_pos rfl]

theorem divide_overflow (hn : 0 < n) (ho : a.sdivOverflow b = true) : divide true rem a b = ⟨if rem then 0 else a, true, false⟩ := by
  rw [sdivOverflow_eq_isMin a b hn] at ho
  have hb : b ≠ 0 := by
    obtain ⟨-, h⟩ := (Bool.and_eq_true _ _).mp ho
    rw [of_decide_eq_true h]
    simp [BitVec.allOnes_eq_zero_iff]
    omega
  unfold divide
  rw [if_neg hb, if_pos (by simpa using ho)]

end

/-- The shift of MULH is by a natural number where the model stands without Mathlib, and by an integer beside it; either is a division. -/
theorem shiftRight_nat_64 (i : Int) : i >>> (64 : Nat) = i / 2 ^ 64 := Int.shiftRight_eq_div_pow i 64

theorem shiftRight_64 (i : Int) : i >>> (64 : Int) = i / 2 ^ 64 := by
  cases i with
  | ofNat m =>
    have h : (m : Int) >>> ((64 : Nat) : Int) = _ := Int.shiftRight_natCast m 64
    rw [Nat.shiftRight_eq_div_pow] at h
    exact_mod_cast h
  | negSucc m =>
    have h : Int.negSucc m >>> ((64 : Nat) : Int) = _ := Int.shiftRight_negSucc m 64
    rw [Nat.shiftRight_eq_div_pow] at h
    refine Eq.trans h ?_
    omega

theorem setWidth_sub (a b : Word) : (a - b).setWidth 32 = a.setWidth 32 - b.setWidth 32 := by
  rw [BitVec.sub_eq_add_neg, BitVec.setWidth_add _ _ (by decide), BitVec.setWidth_neg_of_le (by decide), ← BitVec.sub_eq_add_neg]

/-- Bits [127:64] of a signed product. -/
theorem toInt_mulh (a b : Word) : (BitVec.ofInt 64 (a.toInt * b.toInt / 2 ^ 64)).toInt = a.toInt * b.toInt / 2 ^ 64 := by
  have ha := BitVec.two_mul_toInt_lt (x := a)
  have ha' := BitVec.le_two_mul_toInt (x := a)
  have hb := BitVec.two_mul_toInt_lt (x := b)
  have hb' := BitVec.le_two_mul_toInt (x := b)
  rw [BitVec.toInt_ofInt]
  have h1 : a.toInt * b.toInt ≤ 2 ^ 126 := by nlinarith
  have h2 : - 2 ^ 126 ≤ a.toInt * b.toInt := by nlinarith
  apply Int.bmod_eq_of_le <;> omega

/-- Bits [127:64] of an unsigned product. -/
theorem toNat_mulhu (a b : Word) : (BitVec.ofNat 64 (a.toNat * b.toNat / 2 ^ 64)).toNat = a.toNat * b.toNat / 2 ^ 64 := by
  rw [BitVec.toNat_ofNat, Nat.mod_eq_of_lt]
  exact Nat.div_lt_of_lt_mul (Nat.mul_lt_mul'' a.isLt b.isLt)

/-- Settles O12: each operation is `intOp` or `intOp64` on its own arithmetic, and the flags are the overflow predicates of bit vectors. -/
theorem integerArithmeticComputesItsResult : Obligations.IntegerArithmeticComputesItsResult := by
  unfold Obligations.IntegerArithmeticComputesItsResult
  intro s c rd ra rb w h a b p q ends sel
  refine ⟨?_, ?_, ?_, ?_, ?_, ?_, ?_, ?_, fun hb hq ho => ⟨?_, ?_⟩, fun ho => ⟨?_, ?_⟩, fun hb hq => ⟨?_, ?_⟩, fun hz => ⟨?_, ?_, ?_, ?_⟩,
    ⟨_, ?_, intOp64_next h rfl⟩, ⟨_, toNat_mulhu a b, intOp64_next h rfl⟩⟩
  · exact intOp_next h rfl rfl (congrArg (IntRes.mk · false false) (BitVec.setWidth_add (i := 32) a b (by decide)).symm)
  · exact intOp_next h rfl rfl (congrArg (IntRes.mk · false false) (setWidth_sub a b).symm)
  · exact intOp_next h rfl rfl (congrArg (IntRes.mk · false false) (BitVec.setWidth_mul (i := 32) a b (by decide)).symm)
  · exact intOp_ends h (.inr rfl) rfl (fun hw => by rw [notFits_add, if_neg (by simp [hw])]) fun hw => by rw [notFits_add, if_pos hw]
  · exact intOp_ends h (.inr rfl) rfl (fun hw => by rw [notFits_sub, if_neg (by simp [hw])]) fun hw => by rw [notFits_sub, if_pos hw]
  · exact intOp_ends h (.inr rfl) rfl (fun hw => by rw [notFits_mul, if_neg (by simp [hw])]) fun hw => by rw [notFits_mul, if_pos hw]
  · exact intOp_ends h (.inr rfl) rfl
      (fun hw => by rw [isMin_eq_negOverflow _ (by decide), if_neg (by simp [hw]), zero_sub_eq_neg])
      fun hw => by rw [isMin_eq_negOverflow _ (by decide), if_pos hw, zero_sub_eq_neg]
  · exact intOp_ends h (.inr rfl) rfl
      (fun hw => by rw [isMin_eq_negOverflow _ (by decide), abs_eq_ite, if_neg (by simp [hw])])
      fun hw => by rw [isMin_eq_negOverflow _ (by decide), abs_eq_ite, if_pos hw]
  · exact intOp_ends h (.inl rfl) rfl (fun hw => divide_signed (by decide) hb (by simpa [hw] using ho))
      fun hw => divide_signed (by decide) (hq hw) (by simpa [hw] using ho)
  · exact intOp_ends h (.inl rfl) rfl (fun hw => divide_signed (by decide) hb (by simpa [hw] using ho))
      fun hw => divide_signed (by decide) (hq hw) (by simpa [hw] using ho)
  · exact intOp_ends h (.inr rfl) rfl (fun hw => divide_overflow (by decide) (by simpa [hw] using ho))
      fun hw => divide_overflow (by decide) (by simpa [hw] using ho)
  · exact intOp_ends_const h (.inr rfl) (by cases w <;> rfl) (fun hw => divide_overflow (by decide) (by simpa [hw] using ho))
      fun hw => divide_overflow (by decide) (by simpa [hw] using ho)
  · exact intOp_ends h (.inl rfl) rfl (fun hw => divide_unsigned hb) fun hw => divide_unsigned (hq hw)
  · exact intOp_ends h (.inl rfl) rfl (fun hw => divide_unsigned hb) fun hw => divide_unsigned (hq hw)
  · exact intOp_ends_const h (.inl rfl) (by cases w <;> rfl) (fun hw => divide_zero (by simpa [hw] using hz))
      fun hw => divide_zero (by simpa [hw] using hz)
  · exact intOp_ends_const h (.inl rfl) (by cases w <;> rfl) (fun hw => divide_zero (by simpa [hw] using hz))
      fun hw => divide_zero (by simpa [hw] using hz)
  · exact intOp_ends h (.inl rfl) rfl (fun hw => divide_zero (by simpa [hw] using hz)) fun hw => divide_zero (by simpa [hw] using hz)
  · exact intOp_ends h (.inl rfl) rfl (fun hw => divide_zero (by simpa [hw] using hz)) fun hw => divide_zero (by simpa [hw] using hz)
  · simp only [shiftRight_64, shiftRight_nat_64]
    exact toInt_mulh a b

end Sys2Proof.Machine
end


section
/-!
PROOFS. Logic, shifts, bit counts and immediate operations of a ready core (O13, O14).
-/
namespace Sys2Proof.Machine

theorem min_toInt (a b : Word) : (if a.slt b then a else b).toInt = Min.min a.toInt b.toInt := by
  rw [BitVec.slt_eq_decide]
  by_cases h : a.toInt < b.toInt
  · simp [h, Int.min_eq_left h.le]
  · simp [h, Int.min_eq_right (not_lt.mp h)]

theorem max_toInt (a b : Word) : (if a.slt b then b else a).toInt = Max.max a.toInt b.toInt := by
  rw [BitVec.slt_eq_decide]
  by_cases h : a.toInt < b.toInt
  · simp [h, Int.max_eq_right h.le]
  · simp [h, Int.max_eq_left (not_lt.mp h)]

theorem flagWord_slt (a b : Word) : flagWord (a.slt b) = if a.toInt < b.toInt then 1 else 0 := by
  simp [flagWord, BitVec.slt_eq_decide]

theorem flagWord_ult (a b : Word) : flagWord (a.ult b) = if a.toNat < b.toNat then 1 else 0 := by
  simp [flagWord, BitVec.ult_eq_decide]

theorem flagWord_eq (a b : Word) : flagWord (decide (a = b)) = if a = b then 1 else 0 := by
  simp [flagWord]

/-- The first index below 64 at which a predicate holds, 64 where there is none. -/
theorem firstOf_spec (p : Nat → Bool) (k : Nat) (hk : k = ((List.range 64).find? p).getD 64) :
    k ≤ 64 ∧ (∀ i < k, p i = false) ∧ (k < 64 → p k = true) := by
  cases h : (List.range 64).find? p with
  | none =>
    rw [h] at hk
    subst hk
    rw [List.find?_eq_none] at h
    exact ⟨le_rfl, fun i hi => by simpa using h i (List.mem_range.mpr hi), fun hc => absurd hc (lt_irrefl _)⟩
  | some j =>
    rw [h] at hk
    subst hk
    rw [List.find?_range_eq_some] at h
    obtain ⟨hp, hj, hlow⟩ := h
    exact ⟨(List.mem_range.mp hj).le, fun i hi => by simpa using hlow i hi, fun _ => hp⟩

/-- A byte ahead of others is the most significant one. -/
theorem ofBe_cons (b : Byte) (bs : List Byte) : ofBe (b :: bs) = b.toNat * 256 ^ bs.length + ofBe bs := by
  have key : ∀ (bs : List Byte) (x : Nat), bs.foldl (fun a b => a * 256 + b.toNat) x = x * 256 ^ bs.length + ofBe bs := by
    intro bs
    induction bs with
    | nil => intro x; simp [ofBe]
    | cons b bs ih =>
      intro x
      have e : ofBe (b :: bs) = (0 * 256 + b.toNat) * 256 ^ bs.length + ofBe bs := ih _
      rw [List.foldl_cons, ih, e, List.length_cons, pow_succ]
      ring
  exact (key bs _).trans (by simp)

theorem ofBe_lt (bs : List Byte) : ofBe bs < 256 ^ bs.length := by
  induction bs with
  | nil => simp [ofBe]
  | cons b bs ih =>
    rw [ofBe_cons, List.length_cons, pow_succ]
    have hb := b.isLt
    nlinarith

/-- Bit `i` of the number whose bytes are those of `v` in reverse order. -/
theorem testBit_ofBe_leBytes (n v i : Nat) (hi : i < 8 * n) : (ofBe (leBytes n v)).testBit i = v.testBit (8 * (n - 1 - i / 8) + i % 8) := by
  induction n generalizing v with
  | zero => omega
  | succ n ih =>
    have hlt : ofBe (leBytes n (v >>> 8)) < 2 ^ (8 * n) := by
      have := ofBe_lt (leBytes n (v >>> 8))
      rwa [leBytes_length, show (256 : Nat) = 2 ^ 8 from rfl, ← pow_mul] at this
    rw [leBytes, ofBe_cons, leBytes_length, show (256 : Nat) = 2 ^ 8 from rfl, ← pow_mul, mul_comm, Nat.testBit_two_pow_mul_add _ hlt]
    split
    · rw [ih _ (by omega), Nat.testBit_shiftRight]
      congr 1
      omega
    · have e : 8 * (n + 1 - 1 - i / 8) + i % 8 = i - 8 * n := by omega
      rw [e, BitVec.toNat_ofNat, Nat.testBit_mod_two_pow]
      simp
      omega

theorem getLsbD_bswap (a : Word) (i : Nat) (hi : i < 64) :
    (BitVec.ofNat 64 (ofBe (leBytes 8 a.toNat))).getLsbD i = a.getLsbD (8 * (7 - i / 8) + i % 8) := by
  rw [BitVec.getLsbD_ofNat, testBit_ofBe_leBytes 8 _ i hi]
  simp [hi, BitVec.testBit_toNat]

theorem setWidth_setWidth_and (a : Word) : (a.setWidth 32).setWidth 64 = a &&& 0xFFFFFFFF := by
  apply BitVec.eq_of_toNat_eq
  have h : a.toNat &&& (2 ^ 32 - 1) = a.toNat % 2 ^ 32 := Nat.and_two_pow_sub_one_eq_mod _ _
  simp only [BitVec.toNat_setWidth, BitVec.toNat_and]
  rw [show (0xFFFFFFFF : Word).toNat = 2 ^ 32 - 1 from rfl, h]
  omega

theorem shiftCount_setWidth (b : Word) : shiftCount (b.setWidth 32) = b.toNat % 256 := by
  rw [shiftCount, BitVec.toNat_setWidth]
  omega

theorem rotate_eq {n : Nat} (a : BitVec n) (k : Nat) : rotate a k = a.rotateRight k := BitVec.rotateRight_mod_eq_rotateRight

/-- Settles O13: each operation is `intOp`, `intOp64` or a conditional move that sets no flag. -/
theorem logicShiftsAndBitCountsCompute : Obligations.LogicShiftsAndBitCountsCompute := by
  unfold Obligations.LogicShiftsAndBitCountsCompute
  intro s c rd ra rb w h a b p n sel truth
  have count : shiftCount (b.setWidth 32) = n := shiftCount_setWidth b
  have one {func : Nat} {f : Word → Word → Word} {r : Word} (e : f a b = r) :
      done (intOp64 c func rd ra rb true f s) = .next (s.writesBack c rd r) := e ▸ intOp64_next h rfl
  refine ⟨one rfl, one rfl, one rfl, ?_, ?_, ?_, ?_, one (flagWord_slt a b), one (flagWord_ult a b), one (flagWord_eq a b),
    ⟨_, min_toInt a b, one rfl⟩, ⟨_, max_toInt a b, one rfl⟩, ?_, ?_, ?_, ⟨_, getLsbD_bswap a, intOp64_next h rfl⟩,
    intOp64_next h rfl, intOp64_next h rfl, ?_, fun hb => ⟨condMove_moves h (propext ⟨fun _ => rfl, fun _ => hb⟩),
      condMove_stays h fun e => Bool.false_ne_true (e.mp hb)⟩,
    fun hb => ⟨condMove_moves h (propext ⟨fun e => absurd e hb, fun e => absurd e Bool.false_ne_true⟩),
      condMove_stays h fun e => hb (e.mpr rfl)⟩⟩
  · exact intOp_next h rfl rfl (congrArg (fun k => IntRes.mk (p <<< k) false false) count)
  · exact intOp_next h rfl rfl (congrArg (fun k => IntRes.mk (p >>> k) false false) count)
  · exact intOp_next h rfl rfl (congrArg (fun k => IntRes.mk (p.sshiftRight k) false false) count)
  · exact intOp_next h rfl (congrArg (IntRes.mk · false false) (rotate_eq a n))
      (congrArg (IntRes.mk · false false) ((rotate_eq p _).trans (congrArg p.rotateRight count)))
  · obtain ⟨hle, hlow, hbit⟩ := firstOf_spec (fun i => a.getLsbD (63 - i)) _ rfl
    exact ⟨_, hle, hlow, hbit, intOp64_next h rfl⟩
  · obtain ⟨hle, hlow, hbit⟩ := firstOf_spec (fun i => a.getLsbD i) _ rfl
    exact ⟨_, hle, hlow, hbit, intOp64_next h rfl⟩
  · rw [List.countP_eq_length_filter]
    exact intOp64_next h rfl
  · rw [← setWidth_setWidth_and]
    exact intOp64_next h rfl

theorem setWidth_immS (imm : BitVec 16) : (immS imm).setWidth 32 = imm.signExtend 32 := by
  ext i hi
  rw [immS, BitVec.getElem_setWidth, BitVec.getLsbD_signExtend, BitVec.getElem_signExtend]
  by_cases h : i < 16 <;> simp [h] <;> omega

theorem sext32_immZ_shift (imm : BitVec 16) : sext32 (immZ imm <<< 16) = (imm ++ (0 : BitVec 16)).signExtend 64 := by
  refine congrArg (BitVec.signExtend 64) ?_
  ext i hi
  rw [immZ, BitVec.getElem_setWidth, BitVec.getLsbD_shiftLeft, BitVec.getElem_append]
  by_cases h : i < 16
  · simp [h]
  · simp [h, BitVec.getLsbD_eq_getElem (show i - 16 < 16 by omega), show i < 64 by omega, show i - 16 < 64 by omega]

theorem sext32_add_immS (a : Word) (imm : BitVec 16) : sext32 (a + immS imm) = (a.setWidth 32 + imm.signExtend 32).signExtend 64 := by
  rw [sext32, BitVec.setWidth_add _ _ (by decide), setWidth_immS]

theorem slti_eq (a : Word) (imm : BitVec 16) : flagWord (a.slt (immS imm)) = if a.toInt < imm.toInt then 1 else 0 := by
  rw [flagWord_slt, immS, BitVec.toInt_signExtend_of_le (by decide)]

/-- Settles O14: each operation is `immOp` on its own arithmetic. -/
theorem immediateOperationsCompute : Obligations.ImmediateOperationsCompute := by
  unfold Obligations.ImmediateOperationsCompute
  intro s c rd ra imm cnt w h a p n sel
  have one {major : Nat} {i : BitVec 16} {f : Word → Word} {r : Word} (e : f a = r) :
      done (immOp c major rd ra i true f s) = .next (s.writesBack c rd r) := e ▸ immOp_next h rfl
  refine ⟨one rfl, one (sext32_add_immS a imm), one rfl, one rfl, one rfl, one (slti_eq a imm), one (flagWord_ult a _), ?_, one rfl, one rfl, one rfl, one ?_⟩
  · exact (immOp_next h rfl).trans (congrArg (fun v => Host.Outcome.next (s.writesBack c rd v)) (sext32_immZ_shift imm))
  · simp only [rotate_eq]
    rfl

end Sys2Proof.Machine
end


section
/-!
PROOFS. What exception entry and the completion of an instruction make of a core (O54, O55).
-/
namespace Sys2Proof.Machine

/-! ### Cores -/

section
variable {s t : State} {c : Nat}

theorem core_congr (h : t.vc = s.vc) : t.core c = s.core c := by rw [State.core, State.core, h]

/-- Writing a core back as it is leaves every core as it was. -/
theorem core_setCore_self (d : Nat) (h : (s.core c).st ≠ 0) : (s.setCore c (s.core c)).core d = s.core d := by
  by_cases e : d = c
  · rw [e, core_setCore h]
  · exact core_setCore_ne e

theorem core_modCore {f : Core → Core} (h : (f (s.core c)).st ≠ 0) : (s.modCore c f).core c = f (s.core c) := core_setCore h

theorem core_modCore_ne {d : Nat} {f : Core → Core} (h : d ≠ c) : (s.modCore c f).core d = s.core d := core_setCore_ne h

/-- An empty store buffer drains to nothing. -/
theorem drain_of_sbuf_nil (h : (s.core c).sbuf = []) : s.drain c = s := by
  have one : s.drainOne c = s := by
    unfold State.drainOne
    rw [h]
  unfold State.drain
  induction List.range 8 with
  | nil => rfl
  | cons _ l ih => rw [List.foldl_cons, one, ih]

end

/-! ### Exception entry -/

/-- The core as exception entry leaves it (R277, R281, R282). -/
def Core.entered (x : Core) (cause sub : Nat) (addr : Word) (epc : Nat) (ds async : Bool) : Core :=
  if x.dxl then { x with st := 4, ds := none, sbuf := [] }
  else if x.exl then
    { x with depc := epc % 2 ^ 17, dcause := causeCode cause sub ds async, daddr := addr, dxl := true, ring := 0,
             pc := BitVec.ofNat 64 (x.evec0 + 0xC0), ds := none, st := 1 }
  else
    { x with
      epc := epc % 2 ^ 17, ecause := causeCode cause sub ds async, eaddr := addr, pring := x.ring, xloops := x.loops,
      loops := { x.loops with lc0 := 0, lc1 := 0 }, exl := true, ring := handlerRing x cause sub, ds := none, st := 1,
      pc := BitVec.ofNat 64 ((if handlerRing x cause sub = 0 then x.evec0 else x.evec1) +
        if cause = cINTR ∨ cause = cWDOG then 0x40 else if cause = cLATE then 0x80 else 0) }

theorem countExc_vc (s : State) (c cause : Nat) : (s.countExc c cause).vc = s.vc := rfl
theorem recordExc_vc (s : State) (c epc code addr status : Nat) : (s.recordExc c epc code addr status).vc = s.vc := rfl

theorem enterExc_core (s : State) (c cause sub : Nat) (addr : Word) (epc : Nat) (ds async : Bool) :
    (s.enterExc c cause sub addr epc ds async).core c = (s.core c).entered cause sub addr epc ds async := by
  have entry {x : Core} {t : State} (hx : x.st ≠ 0) (ht : t.vc = ((s.countExc c cause).setCore c x).vc) : t.core c = x :=
    (core_congr ht).trans (core_setCore hx)
  unfold State.enterExc Core.entered
  by_cases hd : (s.core c).dxl
  · simp only [hd, if_true]
    exact entry (by simp) (by simp only [State.irq_vc, State.setFld_vc, recordExc_vc])
  · by_cases he : (s.core c).exl
    · simp only [hd, he, if_true, if_false, Bool.false_eq_true]
      exact entry (by simp) (by simp only [State.irq_vc, State.setFld_vc, recordExc_vc])
    · simp only [hd, he, if_false, Bool.false_eq_true]
      exact entry (by simp) (recordExc_vc ..)

/-- An exception of a core with an empty store buffer and no late store due enters at once. -/
theorem raise_core {s : State} {c cause sub : Nat} {addr : Word} {async : Bool} {epc : Nat} {ds : Bool} {x : Core}
    (hb : (s.core c).backOut = (epc, ds, x)) (hst : x.st ≠ 0) (hsb : x.sbuf = []) (hl : x.late = none) :
    (s.raise c cause sub addr async).core c = x.entered cause sub addr epc ds async := by
  have hx : (s.setCore c x).core c = x := core_setCore hst
  unfold State.raise
  rw [hb]
  dsimp only
  rw [drain_of_sbuf_nil (by rw [hx, hsb]), hx, hl, if_neg (by simp), enterExc_core, hx]

theorem backOut_of_ds_none {x : Core} (h : x.ds = none) : x.backOut = (x.pc.toNat, false, x) := by
  unfold Core.backOut
  rw [h]

theorem backOut_of_ds_some {x : Core} {d : Slot} (h : x.ds = some d) (hl : d.link = 0) :
    x.backOut = (d.src.toNat, true, { x with ds := none, pc := d.src }) := by
  unfold Core.backOut
  rw [h]
  dsimp only
  rw [if_pos hl]

/-- Settles O54: the exception enters at once, and the entered core shows what was saved and where it goes on. -/
theorem exceptionEntrySavesAndRedirects : Obligations.ExceptionEntrySavesAndRedirects := by
  unfold Obligations.ExceptionEntrySavesAndRedirects
  intro s c cause sub addr async d x y quiet h
  have straight (hq : quiet) (hd : x.ds = none) : y = x.entered cause sub addr x.pc.toNat false async :=
    raise_core (backOut_of_ds_none hd) (by have := hq.1; omega) hq.2.1 hq.2.2
  refine ⟨fun hq hd he hx => ?_, fun hq hd hl he hx => ?_, fun hq hd he hx => ?_, fun hq hd hx => ?_⟩
  · rw [straight hq hd]
    simp [Core.entered, he, hx, h]
  · have hy : y = Core.entered { x with ds := none, pc := d.src } cause sub addr d.src.toNat true async :=
      raise_core (backOut_of_ds_some hd hl) (by have := hq.1; show x.st ≠ 0; omega) hq.2.1 hq.2.2
    rw [hy]
    simp [Core.entered, he, hx]
  · rw [straight hq hd]
    simp [Core.entered, he, hx]
  · rw [straight hq hd]
    simp [Core.entered, hx]

end Sys2Proof.Machine
end


section
/-!
PROOFS. The frame of the stores (O56): the statement does not ask for a memory in canonical form, and without it a stored zero need not read back.
-/
namespace Sys2Proof.Machine

/-- Core 0 runs in ring 0 behind open fences, and memory lists byte 0 of its data SRAM twice. -/
def twiceListed : State :=
  { State.reset with
    dom := [(64, 2)], cus := { State.reset.cus with defaults := [(0, 2 ^ 24 - 1), (128, 2 ^ 24 - 1)] },
    vc := { State.reset.vc with cores := [(0, { st := 1 })] }, mem := [(spData 0, 1), (spData 0, 1)] }

/-- Refutes O56: a byte store of 0 takes the first of two entries of the byte out of the table, and the second still reads 1. -/
theorem not_storesChangeOnlyTheirBytes : ¬ Obligations.StoresChangeOnlyTheirBytes := by
  unfold Obligations.StoresChangeOnlyTheirBytes
  intro h
  have bytes := (h twiceListed _ 0 0 0 0 0 (by decide +kernel) (by decide +kernel) (by decide) (by decide) (by decide +kernel)
    (by decide +kernel) (by decide +kernel) rfl).1
  exact absurd (bytes 0 (by decide)) (by decide +kernel)

end Sys2Proof.Machine
end


section
/-!
PROOFS. What the completion of an instruction leaves alone (O55).
-/
namespace Sys2Proof.Machine

/-! ### Events write registers only -/

/-- `t` is `s` with some events counted: only registers differ. -/
def State.Counted (s t : State) : Prop := ∃ r, t = { s with regs := r }

section
variable {s t : State}

theorem State.Counted.refl (s : State) : s.Counted s := ⟨_, rfl⟩

theorem State.Counted.trans {u : State} (h : s.Counted t) (h' : t.Counted u) : s.Counted u := by
  obtain ⟨_, rfl⟩ := h
  obtain ⟨_, rfl⟩ := h'
  exact ⟨_, rfl⟩

theorem State.Counted.ite {c : Prop} [Decidable c] {u : State} (h : s.Counted t) (h' : s.Counted u) : s.Counted (if c then t else u) := by
  split <;> assumption

theorem State.Counted.setFld (h : s.Counted t) (a hi lo x : Nat) : s.Counted (t.setFld a hi lo x) := h.trans ⟨_, rfl⟩
theorem State.Counted.wr64 (h : s.Counted t) (a n : Nat) : s.Counted (t.wr64 a n) := h.trans ⟨_, rfl⟩

theorem evcStep_counted (p ev unit amt edge : Nat) (s : State) (e : Nat) : s.Counted (evcStep p ev unit amt edge s e) := by
  unfold evcStep
  exact .ite (.wr64 (.ite ((State.Counted.refl s).setFld ..) (.refl s)) ..) (.refl s)

theorem event_counted (s : State) (p ev unit amt edge : Nat) : s.Counted (s.event p ev unit amt edge) := by
  unfold State.event
  exact (((evcStep_counted ..).trans (evcStep_counted ..)).trans (evcStep_counted ..)).trans (evcStep_counted ..)

theorem coreCounts_counted (s : State) (c : Nat) (x : Core) : s.Counted (s.coreCounts c x) := by
  unfold State.coreCounts
  extract_lets y
  generalize [(0, y.cycle - x.cycle), (1, y.instret - x.instret), (2, y.stallMem - x.stallMem), (3, y.stallTkt - x.stallTkt)] = l
  clear_value y
  induction l generalizing s with
  | nil => exact .refl s
  | cons e l ih => exact .trans (.ite (.refl s) (event_counted ..)) (ih _)

end

/-! ### Completion -/

/-- The address that follows an instruction and the loop counts it leaves (R243, R248). -/
def Core.successor (x : Core) (n : Word) : Word × Core :=
  match x.ds with
  | none => x.loopBack x.pc.toNat n
  | some d => (x.loopBack d.src.toNat d.target).2.loopBack x.pc.toNat (x.loopBack d.src.toNat d.target).1

theorem complete_successor (s : State) (c : Nat) (n : Word) :
    s.complete c n = ((s.setCore c { ((s.core c).successor n).2.tick with pc := ((s.core c).successor n).1, ds := none }).coreCounts c
      ((s.core c).successor n).2).stopIfAsked c := by
  cases h : (s.core c).ds with
  | none => simp only [State.complete, Core.successor, h]
  | some d => simp only [State.complete, Core.successor, h]

/-- Two cores that differ in their loop counts only. -/
def Core.SameButLoops (x y : Core) : Prop := ∃ l, y = { x with loops := l }

theorem loopBack_sameButLoops (x : Core) (pc : Nat) (n : Word) : x.SameButLoops (x.loopBack pc n).2 := by
  unfold Core.loopBack
  extract_lets l
  split
  · split <;> exact ⟨_, rfl⟩
  · split
    · split <;> exact ⟨_, rfl⟩
    · exact ⟨x.loops, rfl⟩

theorem successor_sameButLoops (x : Core) (n : Word) : x.SameButLoops (x.successor n).2 := by
  unfold Core.successor
  split
  · exact loopBack_sameButLoops ..
  · rename_i d _
    obtain ⟨l, hl⟩ := loopBack_sameButLoops x d.src.toNat d.target
    obtain ⟨m, hm⟩ := loopBack_sameButLoops (x.loopBack d.src.toNat d.target).2 x.pc.toNat (x.loopBack d.src.toNat d.target).1
    exact ⟨m, by rw [hm, hl]⟩

theorem State.Counted.core {s t : State} (h : s.Counted t) (c : Nat) : t.core c = s.core c := by
  obtain ⟨_, rfl⟩ := h
  rfl

theorem stopIfAsked_of_not_stopping {s : State} {c : Nat} (h : (s.core c).stopping = false) : s.stopIfAsked c = s := by
  unfold State.stopIfAsked
  exact if_neg (by simp [h])

/-- Completion of a core that is not told to stop: only PC, the loop counts and the counters of the core change, and events are counted. -/
theorem complete_counted {s : State} {c : Nat} {n : Word} (hs : (s.core c).stopping = false) :
    ∃ pc l, (s.setCore c { (s.core c).tick with pc := pc, loops := l, ds := none }).Counted (s.complete c n) := by
  obtain ⟨l, hl⟩ := successor_sameButLoops (s.core c) n
  refine ⟨((s.core c).successor n).1, l, ?_⟩
  rw [complete_successor, hl]
  have h := coreCounts_counted (s.setCore c { (s.core c).tick with pc := ((s.core c).successor n).1, loops := l, ds := none }) c
    { s.core c with loops := l }
  have stop := (congrArg Core.stopping ((h.core c).trans (core_setCore (show (1 : Nat) ≠ 0 by decide)))).trans hs
  exact (stopIfAsked_of_not_stopping stop).symm ▸ h

/-! ### What an integer operation ends with -/

/-- `u` is `s` with at most register `rd` of core `c` written. -/
structure OnlyReg (s u : State) (c : Nat) (rd : BitVec 5) : Prop where
  core : ∃ g sp, u.core c = { s.core c with g := g, sp := sp }
  rv : ∀ r ≠ rd, (u.core c).rv r = (s.core c).rv r
  others : ∀ d ≠ c, u.core d = s.core d
  rest : ∃ v, u = { s with vc := v }

section
variable {s t : State} {c : Nat} {rd : BitVec 5}

theorem rv_setReg_ne {x : Core} {r : BitVec 5} {v : Word} (h : r ≠ rd) : (x.setReg rd.toNat v).rv r = x.rv r := by
  have hn : rd.toNat ≠ r.toNat := fun e => h (BitVec.eq_of_toNat_eq e.symm)
  unfold Core.setReg Core.rv Core.reg
  by_cases h0 : rd.toNat = 0
  · rw [if_pos h0]
  · by_cases h30 : rd.toNat = 30
    · rw [if_neg h0, if_pos h30]
      have hr : r.toNat ≠ 30 := fun e => hn (h30.trans e.symm)
      simp only [hr, if_false]
    · rw [if_neg h0, if_neg h30]
      simp only [nth, setNth, List.getD_eq_getElem?_getD, List.getElem?_set_ne hn]

theorem setReg_eq (x : Core) (r : Nat) (v : Word) : ∃ g sp, x.setReg r v = { x with g := g, sp := sp } := by
  unfold Core.setReg
  split
  · exact ⟨x.g, x.sp, rfl⟩
  · split
    · exact ⟨x.g, _, rfl⟩
    · exact ⟨_, x.sp, rfl⟩

theorem onlyReg_refl : OnlyReg s s c rd := ⟨⟨_, _, rfl⟩, fun _ _ => rfl, fun _ _ => rfl, _, rfl⟩

theorem onlyReg_setReg {v : Word} (h : (s.core c).st ≠ 0) : OnlyReg s (s.setReg c rd.toNat v) c rd := by
  have he := setReg_eq (s.core c) rd.toNat v
  have hc : (s.setReg c rd.toNat v).core c = (s.core c).setReg rd.toNat v := core_modCore (by
    obtain ⟨g, sp, e⟩ := he
    exact e ▸ h)
  exact ⟨hc ▸ he, fun r hr => hc ▸ rv_setReg_ne hr, fun d hd => core_modCore_ne hd, _, rfl⟩

/-- An operation that writes at most `rd` and completes. -/
def CompletesWith (s : State) (c : Nat) (rd : BitVec 5) (o : Outcome) : Prop :=
  ∃ u n, OnlyReg s u c rd ∧ o = .next (u.complete c n)

theorem completesWith_writesBack {v : Word} {o : Outcome} (h : s.ready c = true) (ho : o = .next (s.writesBack c rd v)) :
    CompletesWith s c rd o := ⟨_, _, onlyReg_setReg (ready_st h), ho⟩

theorem completesWith_condMove {ra rb : BitVec 5} {func : Nat} {zero : Bool} (h : s.ready c = true) :
    CompletesWith s c rd (done (condMove c func rd ra rb zero s)) := by
  by_cases hz : ((s.core c).rv rb = 0) = (zero = true)
  · exact completesWith_writesBack h (condMove_moves h hz)
  · exact ⟨_, _, onlyReg_refl, condMove_stays h hz⟩

variable {ra rb : BitVec 5} {w : Bool}

theorem completesWith_intOp {func : Nat} {useB : Bool} {f : (n : Nat) → BitVec n → BitVec n → IntRes n} (h : s.ready c = true)
    (hl : (useB || decide (rb = 0)) = true) (hf : ∀ n a b, (f n a b).v = false ∧ (f n a b).dz = false) :
    CompletesWith s c rd (done (intOp c func rd ra rb w useB f s)) := by
  have plain {n : Nat} (a b : BitVec n) : f n a b = ⟨(f n a b).val, false, false⟩ := by
    obtain ⟨hv, hdz⟩ := hf n a b
    calc f n a b = ⟨(f n a b).val, (f n a b).v, (f n a b).dz⟩ := rfl
      _ = _ := by rw [hv, hdz]
  exact completesWith_writesBack h (intOp_next h hl (plain _ _) (plain _ _))

theorem completesWith_intOp64 {func : Nat} {useB : Bool} {f : Word → Word → Word} (h : s.ready c = true)
    (hl : (useB || decide (rb = 0)) = true) : CompletesWith s c rd (done (intOp64 c func rd ra rb useB f s)) :=
  completesWith_writesBack h (intOp64_next h hl)

theorem completesWith_immOp {major : Nat} {imm : BitVec 16} {legal : Bool} {f : Word → Word} (h : s.ready c = true) (hl : legal = true) :
    CompletesWith s c rd (done (immOp c major rd ra imm legal f s)) :=
  completesWith_writesBack h (immOp_next h hl)

end

section
variable {s : State} {c : Nat} {n : Word}

theorem complete_core (hs : (s.core c).stopping = false) :
    ∃ pc l, (s.complete c n).core c = { (s.core c).tick with pc := pc, loops := l, ds := none } := by
  obtain ⟨pc, l, h⟩ := complete_counted (n := n) hs
  exact ⟨pc, l, (h.core c).trans (core_setCore (show (1 : Nat) ≠ 0 by decide))⟩

theorem complete_core_ne {d : Nat} (hs : (s.core c).stopping = false) (hd : d ≠ c) : (s.complete c n).core d = s.core d := by
  obtain ⟨pc, l, h⟩ := complete_counted (n := n) hs
  exact (h.core d).trans (core_setCore_ne hd)

theorem complete_rest (hs : (s.core c).stopping = false) : ∃ v r, s.complete c n = { s with vc := v, regs := r } := by
  obtain ⟨pc, l, r, h⟩ := complete_counted (n := n) hs
  exact ⟨_, r, h⟩

end

/-- The operations of O55 write at most rd and complete. -/
theorem completesWith_of_mem {s : State} {c : Nat} {rd ra rb : BitVec 5} {imm : BitVec 16} {cnt : BitVec 8} {w : Bool} (h : s.ready c = true) :
    ∀ i ∈ ([.add c rd ra rb w, .sub c rd ra rb w, .mul c rd ra rb w, .mulh c rd ra rb, .mulhu c rd ra rb, .and c rd ra rb, .or c rd ra rb,
      .xor c rd ra rb, .sll c rd ra rb w, .srl c rd ra rb w, .sra c rd ra rb w, .ror c rd ra rb w, .slt c rd ra rb, .sltu c rd ra rb,
      .seq c rd ra rb, .min c rd ra rb, .max c rd ra rb, .clz c rd ra 0, .ctz c rd ra 0, .popc c rd ra 0, .bswap c rd ra 0, .sextb c rd ra 0,
      .sexth c rd ra 0, .zextw c rd ra 0, .cmovz c rd ra rb, .cmovn c rd ra rb, .addi c rd ra imm, .addiw c rd ra imm, .andi c rd ra imm,
      .ori c rd ra imm, .xori c rd ra imm, .slti c rd ra imm, .sltiu c rd ra imm, .lui c rd 0 imm, .slli c rd ra cnt w, .srli c rd ra cnt w,
      .srai c rd ra cnt w, .rori c rd ra cnt w] : List Instr), CompletesWith s c rd (exec i s) := by
  have flagless {rb : BitVec 5} {func : Nat} {f : (n : Nat) → BitVec n → BitVec n → IntRes n}
      (hf : ∀ n a b, (f n a b).v = false ∧ (f n a b).dz = false) : CompletesWith s c rd (done (intOp c func rd ra rb w true f s)) :=
    completesWith_intOp h rfl hf
  simp only [List.forall_mem_cons, List.not_mem_nil, false_implies, implies_true, and_true]
  exact ⟨(flagless fun _ _ _ => ⟨rfl, rfl⟩), (flagless fun _ _ _ => ⟨rfl, rfl⟩), (flagless fun _ _ _ => ⟨rfl, rfl⟩), completesWith_intOp64 h rfl,
    completesWith_intOp64 h rfl, completesWith_intOp64 h rfl, completesWith_intOp64 h rfl, completesWith_intOp64 h rfl,
    (flagless fun _ _ _ => ⟨rfl, rfl⟩), (flagless fun _ _ _ => ⟨rfl, rfl⟩), (flagless fun _ _ _ => ⟨rfl, rfl⟩), (flagless fun _ _ _ => ⟨rfl, rfl⟩),
    completesWith_intOp64 h rfl, completesWith_intOp64 h rfl, completesWith_intOp64 h rfl, completesWith_intOp64 h rfl,
    completesWith_intOp64 h rfl, completesWith_intOp64 h rfl, completesWith_intOp64 h rfl, completesWith_intOp64 h rfl,
    completesWith_intOp64 h rfl, completesWith_intOp64 h rfl, completesWith_intOp64 h rfl, completesWith_intOp64 h rfl,
    completesWith_condMove h, completesWith_condMove h, completesWith_immOp h rfl, completesWith_immOp h rfl,
    completesWith_immOp h rfl, completesWith_immOp h rfl, completesWith_immOp h rfl, completesWith_immOp h rfl,
    completesWith_immOp h rfl, completesWith_immOp h rfl, completesWith_immOp h rfl, completesWith_immOp h rfl,
    completesWith_immOp h rfl, completesWith_immOp h rfl⟩

/-- Settles O55: the operation writes at most rd, and its completion changes PC, the loop counts and the counters of the core only. -/
theorem integerOperationsChangeOnlyTheirRegister : Obligations.IntegerOperationsChangeOnlyTheirRegister := by
  unfold Obligations.IntegerOperationsChangeOnlyTheirRegister
  intro s t c rd ra rb imm cnt w i h hstop hi ht x y
  obtain ⟨u, n, hu, hn⟩ := completesWith_of_mem h i hi
  obtain rfl : u.complete c n = t := Host.Outcome.next.inj (hn.symm.trans ht)
  obtain ⟨g, sp, hcore⟩ := hu.core
  have hs : (u.core c).stopping = false := by rw [hcore]; exact hstop
  obtain ⟨pc, l, hy⟩ := complete_core (n := n) hs
  obtain ⟨v, r, hrest⟩ := complete_rest (n := n) hs
  obtain ⟨v', hu'⟩ := hu.rest
  have hrv : ∀ r : BitVec 5, y.rv r = (u.core c).rv r := fun r => (congrArg (Core.rv · r) hy).trans rfl
  refine ⟨fun r hr => (hrv r).trans (hu.rv r hr), rfl, ?_⟩
  have hy' : y = { x.tick with pc := pc, loops := l, ds := none, g := g, sp := sp } := hy.trans (by rw [hcore]; rfl)
  rw [hy', hrest, hu']
  refine ⟨rfl, rfl, rfl, rfl, rfl, rfl, rfl, rfl, rfl, rfl, rfl, fun d hd => ?_, fun a => rfl, rfl, rfl, rfl, rfl, rfl, rfl, rfl, rfl, rfl, rfl⟩
  rw [← hu', ← hrest, complete_core_ne hs hd, hu.others d hd]

end Sys2Proof.Machine
end

section
/-!
PROOFS. The lane state machine and the commands of a lane (O1, O2).
-/
namespace Sys2Proof.Machine

theorem bit31_storeCoeffs (s : State) (n : Nat) (tx rx : Reg) (hs : s.canon) :
    (s.storeCoeffs n tx rx).fld (lnReg n 0x0C) 31 31 = s.fld (lnReg n 0x0C) 31 31 :=
  (fld_setFld_ne _ _ _ _ _ _ _ (canon_regs (State.canon_wr hs _ _)) (.inl (by omega))).trans (fld_wr_ne _ _ _ _ _ _ (by simp))

/-- The transmit coefficients stored read back without the bits the register does not have (R70). -/
theorem rd_storeCoeffs (s : State) (n : Nat) (tx rx : Reg) (hs : s.canon) :
    (s.storeCoeffs n tx rx).rd (lnReg n 0x08) = tx &&& 0x3F3F3F :=
  (rd_setFld_ne _ _ _ _ _ _ (by simp)).trans (rd_wr _ _ _ (canon_regs hs))

theorem lnState_storeCoeffs (s : State) (n : Nat) (tx rx : Reg) : (s.storeCoeffs n tx rx).lnState n = s.lnState n :=
  (fld_setFld_other _ _ _ _ _ _ _ _ (by simp)).trans (fld_wr_ne _ _ _ _ _ _ (by simp))

theorem canon_storeCoeffs (s : State) (n : Nat) (tx rx : Reg) (hs : s.canon) : (s.storeCoeffs n tx rx).canon :=
  State.canon_setFld (State.canon_wr hs _ _) _ _ _ _

theorem rd_setLnState (s : State) (n v off : Nat) (h : off ≠ 4) : (s.setLnState n v).rd (lnReg n off) = s.rd (lnReg n off) :=
  rd_setFld_ne _ _ _ _ _ _ (by simpa using h)

theorem rd_setLnFlag (s : State) (n b off : Nat) (x : Bool) (h : off ≠ 4) : (s.setLnFlag n b x).rd (lnReg n off) = s.rd (lnReg n off) :=
  rd_setFld_ne _ _ _ _ _ _ (by simpa using h)

theorem governs_of_portOf {s : State} {n : Nat} (h : s.portOf n = n) : s.governs n = true := decide_eq_true h

theorem canon_setLnFlag {s : State} (hs : s.canon) (n b : Nat) (x : Bool) : (s.setLnFlag n b x).canon := State.canon_setFld hs _ _ _ _

/-- Signal lock without training takes the lane to ALIGN. -/
theorem lnState_signalLock (s : State) (n : Nat) (hs : s.canon) :
    (((s.setLnFlag n 4 true).setLnFlag n 5 true).setLnState n 3).lnState n = 3 :=
  lnState_setLnState _ _ _ (canon_regs (canon_setLnFlag (canon_setLnFlag hs _ _ _) _ _ _)) (by omega)

/-- The flags that stop with FAULT's ordered sets are LOCAL_FAULT and REMOTE_FAULT alone (R66). -/
theorem faultCease (s : State) (n : Nat) (hs : s.canon) :
    ((s.setLnFlag n 10 false).setLnFlag n 9 false).lnFlag n 9 = false ∧ ((s.setLnFlag n 10 false).setLnFlag n 9 false).lnFlag n 10 = false ∧
    ((s.setLnFlag n 10 false).setLnFlag n 9 false).lnState n = s.lnState n := by
  have h10 := canon_regs (canon_setLnFlag hs n 10 false)
  refine ⟨lnFlag_setLnFlag _ _ _ _ h10 (by omega), ?_, ?_⟩
  · rw [lnFlag_setLnFlag_ne _ _ _ _ _ h10 (by omega), lnFlag_setLnFlag _ _ _ _ (canon_regs hs) (by omega)]
  · rw [lnState_setLnFlag _ _ _ _ h10 (by omega), lnState_setLnFlag _ _ _ _ (canon_regs hs) (by omega)]

theorem canon_modLane {s : State} (hs : s.canon) (n : Nat) (f : Lane → Lane) : (s.modLane n f).canon := hs

/-- A lane whose locks are reached is UP. -/
theorem lnState_laneLocked (s : State) (n : Nat) (hs : s.canon) : (s.laneLocked n).lnState n = 4 := by
  unfold State.laneLocked
  extract_lets s1 s2 s3 s4
  have h1 : s1.canon := canon_setLnFlag hs _ _ _
  have h2 : s2.canon := State.canon_ite (canon_setLnFlag h1 _ _ _) h1
  have h3 : s3.canon := State.canon_ite (canon_setLnFlag h2 _ _ _) h2
  have h4 : s4.canon := State.canon_ite (canon_modLane (canon_setLnFlag h3 _ _ _) _ _) h3
  exact lnState_setLnState s4 n 4 (canon_regs h4) (by omega)

/-- Settles O1: each event is one branch of its command; what the lane's registers hold after it follows from the field laws. -/
theorem laneEventsFollowTheLaneStates : Obligations.LaneEventsFollowTheLaneStates := by
  intro s n hs
  refine ⟨fun h => congrArg done (if_pos h), fun h hcfg => ⟨_, congrArg done (if_pos h), ?_⟩,
    fun tx rx h => ⟨_, congrArg done (if_pos h), ?_, ?_⟩, fun h => congrArg done (if_pos h),
    fun tx rx h => ⟨_, congrArg done (if_pos h), ?_, ?_, ?_⟩, fun hk h => congrArg done (if_pos ⟨hk, .inr h⟩),
    fun h => congrArg done (if_pos h), fun h => congrArg done (if_pos (.inl h)), fun h h8 => ⟨_, congrArg done (if_pos ⟨h, by simp [h8]⟩), ?_⟩,
    fun remote h hb => congrArg done ((if_pos h).trans (if_neg (by simp [hb]))), ⟨_, rfl, faultCease s n hs⟩,
    fun bad h => congrArg done (if_neg (by simp [h])), fun hp h => ?_, fun bad bits syms hp h => ?_,
    fun h => ⟨congrArg done (if_pos h), lnState_laneLocked s n hs⟩⟩
  · dsimp only
    rw [lnCfg_setLnFlag, lnCfg_setLnFlag, hcfg, Bool.false_and, if_neg (by simp)]
    exact lnState_signalLock s n hs
  · exact lnState_setLnState _ _ _ (canon_regs (canon_setLnFlag (canon_storeCoeffs s n tx rx hs) _ _ _)) (by omega)
  · rw [rd_setLnState _ _ _ _ (by decide), rd_setLnFlag _ _ _ _ _ (by decide), rd_storeCoeffs s n tx rx hs]
  · rw [lnState_storeCoeffs, h]
  · exact rd_storeCoeffs s n tx rx hs
  · exact bit31_storeCoeffs s n tx rx hs
  · exact lnState_setLnState _ _ _ (canon_regs hs) (by omega)
  · exact congrArg (fun p => done ((s.setLnFlag n 5 false).linkLoss p)) hp
  · exact congrArg done (if_pos (by simp [governs_of_portOf hp, h]))


/-! ### The register writes of a lane and the commands of LN_CMD (O2) -/

theorem electMaster_clk (s : State) : s.electMaster.clk = s.clk := by
  have master (r : Nat) : (s.setMaster r).clk = s.clk := by
    unfold State.setMaster
    dsimp only
    split <;> simp [State.setCrStat]
  unfold State.electMaster
  split
  · split
    · exact master _
    · split <;> simp [State.setCrStat]
  · rfl

/-- Outside the ring's LOOP the clock's loss elects nobody. -/
theorem electMaster_idle (s : State) (h : s.ringState ≠ 2) : s.electMaster.regs = s.regs ∧ s.electMaster.mem = s.mem := by
  rw [show s.electMaster = s from if_neg h]
  exact ⟨rfl, rfl⟩

/-- A port mode bit all of whose lanes are off is written (R35). -/
theorem fld_portmodeBit (s : State) (d k : Nat) (v : Reg) (hs : s.canon) (hk : k < 4)
    (off : ∀ i < 4, s.lnState (16 * d + 4 * k + i) = 0) :
    (portmodeBit d v s k).fld (ra tLN d 0xF00) k k = getField v k k := by
  have bit : getField v k k % 2 ^ (k + 1 - k) = getField v k k := Nat.mod_eq_of_lt (natField_lt v.toNat k k)
  unfold portmodeBit
  dsimp only
  split
  · assumption
  · rw [if_pos (by simpa using off), fld_setFld _ _ _ _ _ (canon_regs hs) (by omega), bit]

/-- A first configuration of a lane that is off is stored as it is, when it asks for one of the two training forms at most (R69). -/
theorem lnCfgWrite_off (s : State) (n : Nat) (v : Reg) (hp : s.portOf n = n) (h0 : s.rd (lnReg n 0x00) = 0) (hst : s.lnState n = 0)
    (hv : v &&& 0x18 ≠ 0x18) : s.lnCfgWrite n v = (s.wr (lnReg n 0x00) (v &&& 0xFD)).took (lanePage n) := by
  have notBoth : (bitAt (v &&& lnCfgMask) 3 && bitAt (v &&& lnCfgMask) 4) = false := by
    by_contra both
    obtain ⟨h3, h4⟩ : v.getLsbD 3 = true ∧ v.getLsbD 4 = true := by simpa [bitAt, lnCfgMask] using both
    refine hv (BitVec.eq_of_getLsbD_eq fun i hi => ?_)
    have mask : ∀ i < 32, (0x18 : Reg).getLsbD i = decide (i = 3 ∨ i = 4) := by decide
    rw [BitVec.getLsbD_and, mask i hi]
    by_cases h : i = 3 ∨ i = 4
    · obtain rfl | rfl := h <;> simp [h3, h4]
    · simp [h]
  have old : bitAt (0 : Reg) 0 = false := by decide
  simp only [State.lnCfgWrite, h0, governs_of_portOf hp, if_true, old, Bool.false_and, Bool.false_eq_true, if_false, hst, hp, ne_eq,
    not_true_eq_false, and_false, notBoth]
  rfl

/-- An operation of LN_CMD that a governing lane of the page asks for. -/
theorem lnCommand_op (s : State) (n b : Nat) (v : Reg) (hp : s.portOf n = n) (hop : lnCmdOp v = some b) (h3 : bitAt v 3 = false) :
    s.lnCommand n v = State.took
      (if b = 1 then (s.portOff n).lnStatus n 0
      else if b = 4 then (if s.lnState n = 0 then s.lnStatus n 0x102 else (s.laneTest n).lnStatus n 0)
      else if b = 0 then
        (if s.lnState n = 0 ∧ s.lnCfg n 0 ∧ (n < 1024 → s.domOn (n / 16)) then (s.acquire n).lnStatus n 0 else s.lnStatus n 0x102)
      else if s.lnState n = 4 then (s.train n).lnStatus n 0 else s.lnStatus n 0x102) (lanePage n) := by
  simp only [State.lnCommand, hop, governs_of_portOf hp, h3, Bool.not_true, Bool.false_eq_true, if_false]

/-- Settles O2: each write and command in the branch its clause names. -/
theorem laneCommandsTakeEffect : Obligations.LaneCommandsTakeEffect := by
  intro s n v
  refine ⟨⟨_, rfl, ?_, ?_, fun h => ?_⟩, fun d hl => ⟨_, congrArg done (pageWrite_live _ _ _ hl), rfl⟩,
    fun d k hs hk off => fld_portmodeBit s d k v hs hk off,
    fun hl hp h0 hst hv => congrArg done ((pageWrite_live _ _ _ hl).trans (lnCfgWrite_off s n v hp h0 hst hv)),
    fun hl hsum hmain => exec_lnTxeqWrite_stored s n v hl (by rintro (h | h) <;> omega),
    fun hl hp => ⟨max 64 (min 16128 (getField v 13 0)), by omega, by omega, by omega,
      congrArg done ((pageWrite_live _ _ _ hl).trans (if_pos (governs_of_portOf hp)))⟩,
    fun hl hp h0 hcfg hdom => ?_, fun hl hp => ?_, fun hl hp h0 => ?_, fun hl hp h4 => ?_, fun hl => ?_,
    fun hn hcfg hp h4 hslot => ?_, fun w hn hcfg hp h4 h15 hslot => ?_⟩
  · rw [electMaster_clk]
  · rw [electMaster_clk]
  · exact electMaster_idle { s with clk := { s.clk with held := true } } h
  · refine congrArg done ((pageWrite_live _ _ _ hl).trans ((lnCommand_op s n 0 _ hp (by decide) (by decide)).trans ?_))
    rw [if_neg (by decide), if_neg (by decide), if_pos rfl, if_pos ⟨h0, hcfg, hdom⟩]
  · refine congrArg done ((pageWrite_live _ _ _ hl).trans ((lnCommand_op s n 1 _ hp (by decide) (by decide)).trans ?_))
    rw [if_pos rfl]
  · refine congrArg done ((pageWrite_live _ _ _ hl).trans ((lnCommand_op s n 4 _ hp (by decide) (by decide)).trans ?_))
    rw [if_neg (by decide), if_pos rfl, if_neg h0]
  · refine congrArg done ((pageWrite_live _ _ _ hl).trans ((lnCommand_op s n 2 _ hp (by decide) (by decide)).trans ?_))
    rw [if_neg (by decide), if_neg (by decide), if_neg (by decide), if_pos h4]
  · exact congrArg done (pageWrite_live _ _ _ hl)
  · exact congrArg done ((if_pos ⟨hn, hcfg, governs_of_portOf hp, .inr (.inr (.inl h4))⟩).trans (if_pos hslot))
  · exact congrArg done ((if_pos ⟨hn, hcfg, governs_of_portOf hp, .inr (.inr (.inl h4))⟩).trans ((if_pos h15).trans (if_neg (by omega))))

end Sys2Proof.Machine
end

section
/-!
PROOFS. Frames on their way through a port (O3).
-/
namespace Sys2Proof.Machine

/-- Settles O3: each event in the branch its clause names. -/
theorem frameEventsTakeEffect : Obligations.FrameEventsTakeEffect := by
  intro s n k f d
  refine ⟨fun hn hp h4 hcur hdrop hskip hlock hopen het hprot => congrArg done ?_, fun rest err hcur hf hlen => congrArg done ?_,
    fun hcur => congrArg done ?_, fun hf hpl hlock hfirst => congrArg done ?_,
    fun l hf hpl hprot hgang hfree hlock => congrArg done ?_, fun hf hsrc hprot hgang hicv hend hrecv => congrArg done ?_,
    fun hf hsrc hprot htr hicv hend hearly => congrArg done ?_,
    fun hf hsrc hprot htr hicv hend hearly hkey hsuite hsci hre => congrArg done ?_,
    fun hf htr hkn => congrArg done ?_, fun l hcur hf hend => ⟨fun hkn => congrArg done ?_, fun hkn => congrArg done ?_⟩,
    fun l hl hp h4 h9 h10 hcur hlock _ hcfg' hst hcut hprot => congrArg done ?_⟩
  · have governs : s.governs n = true := decide_eq_true hp
    simp [hn, governs, h4, hcur, hdrop, hskip, hlock, hopen, het, hprot]
  · simp only [hcur]
    have kept : (s.modLane n fun x => { x with rxCur := none, rxDrop := 0, rxDropData := [], rxSkip := false }).frame k = some f := hf
    simp only [kept, Nat.not_lt.2 hlen, if_false]
  · simp only [hcur]
  · simp only [hf, hpl, hlock, hfirst, Bool.not_false, Bool.and_self, if_true]
  · simp [hf, hpl, hprot, hgang, hfree, hlock]
  · simp [hf, hsrc, hprot, hgang, hicv, hend, hrecv]
  · simp [hf, hsrc, hprot, htr, hicv, hend, hearly]
  · simp [hf, hsrc, hprot, htr, hicv, hend, hearly, hkey, hsuite, hsci, hre]
  · simp [hf, htr, hkn]
  · simp [hcur, hf, hend, hkn]
  · simp [hcur, hf, hend, hkn]
  · have governs : s.governs l = true := decide_eq_true hp
    simp [hl, governs, h4, h9, h10, hcur, hlock, hcfg', hst, hcut, hprot]

end Sys2Proof.Machine
end

section
/-!
PROOFS. Classification, the forwarding table, the queues and the arbiters (O5, O6).
-/
namespace Sys2Proof.Machine

/-- Settles O5: each command in the branch its clause names. -/
theorem queueCommandsTakeEffect : Obligations.QueueCommandsTakeEffect := by
  intro s n q o f v
  refine ⟨fun p c hf hpl hsrc hprot hply hsvc hroute => congrArg done ?_, fun hop hport hcount => congrArg done ?_,
    fun x hop hx => congrArg done ?_, fun x hop hx => ⟨_, _, congrArg done ?_, rfl, rfl⟩, fun c hc => ⟨_, rfl, congrArg done ?_⟩,
    fun b => rfl, fun hl hq => congrArg done ((pageWrite_live _ _ _ hl).trans (if_neg hq)),
    fun hl hv => congrArg done ((pageWrite_live _ _ _ hl).trans (if_neg hv)), fun hf hpl hq => congrArg done ?_,
    fun ns hq hf htag hprot => congrArg done ?_, fun hf hend hnoted hfwd hpl => congrArg done ?_,
    fun ns hq hf hlo hus ht => congrArg done ?_⟩
  · simp [hf, hpl, Nat.not_le.2 hsrc, hprot, hply, hsvc, hroute]
  · simp [State.ftCommand, hop, Nat.not_lt.2 hport, Nat.not_le.2 hcount]
  · simp [State.ftCommand, hop, hx]
  · simp [State.ftCommand, hop, hx]
  · simp only [hc]
  · simp only [hf, hpl, Nat.not_lt.2 hq, false_and, if_false]
    rfl
  · simp [hq, hf, htag, hprot]
  · simp [hf, hend, hnoted, hfwd, hpl]
  · simp [hq, hf, Nat.not_lt.2 hlo, hus, ht]

/-- Settles O6: each grant in the branch its clause names. -/
theorem arbitersAndLinksTakeEffect : Obligations.ArbitersAndLinksTakeEffect := by
  intro s l n a b ch f
  refine ⟨fun hl hnom => congrArg done ?_, fun hl hnom hcand => congrArg done ?_, fun h => congrArg done ?_,
    fun h hpl hsrc hoz => congrArg done ?_, fun h hpl => congrArg done ?_, fun hcr hdown hpick hleft => congrArg done ?_,
    rfl, fun hfl hch => congrArg done ?_, fun hbuf => congrArg done ?_⟩
  · simp only [hnom, hl, if_true]
  · simp [hnom, hcand]
  · simp only [h]
  · simp [h, hpl, Nat.not_lt.2 hsrc, hoz]
  · simp only [h, hpl]
  · simp [hcr, hdown, hpick, Nat.not_le.2 hleft]
  · simp [hfl, hch]
  · simp [hbuf]

end Sys2Proof.Machine
end

section
/-!
PROOFS. The messages of the control virtual lane (O7).
-/
namespace Sys2Proof.Machine

theorem rxListens {s : State} {n : Nat} (hn : n < 1024) (hp : s.portOf n = n) (hcfg : s.lnCfg n 7 = true) (h4 : s.lnState n = 4) :
    (!(decide (n < 1024) && s.governs n && s.lnCfg n 7 && (decide (s.lnState n = 4) || decide (s.lnState n = 5)))) = false := by
  have governs : s.governs n = true := decide_eq_true hp
  simp [hn, governs, hcfg, h4]

/-- An untagged message of one word is counted, owes its two slots and acts. -/
theorem cvlReceive_untagged (s : State) (n type : Nat) (w : Word) (k : State → State) (hn : n < 1024) (hp : s.portOf n = n)
    (hcfg : s.lnCfg n 7 = true) (h4 : s.lnState n = 4) (ht : cvlUntagged type = true) :
    s.cvlReceive n type 1 1 0 [w] 0 k = k ((s.dqBump n 7).modLane n fun x => { x with cvlOwed := x.cvlOwed + (1 + 1) }) := by
  unfold State.cvlReceive
  dsimp only
  rw [rxListens hn hp hcfg h4, if_neg (by decide), if_neg (by simp), if_pos ht]
  rfl

/-- A tagged message whose length, tag and counter hold is counted, owes its slots and acts. -/
theorem cvlReceive_tagged (s : State) (n type lo hi ctr : Nat) (pay : List Word) (tag : Word) (k : State → State) (hn : n < 1024)
    (hp : s.portOf n = n) (hcfg : s.lnCfg n 7 = true) (h4 : s.lnState n = 4) (hlo : lo ≤ pay.length) (hhi : pay.length ≤ hi)
    (ht : cvlUntagged type = false) (hkey : (s.lane n).cvlKey ≠ [])
    (htag : tag = cvlTag (s.lane n).cvlKey (cvlHeader type pay.length ctr :: pay)) (hctr : (s.lane n).cvlRxCtr < ctr) :
    s.cvlReceive n type lo hi ctr pay tag k = k (((s.modLane n fun x => { x with cvlOwed := x.cvlOwed + (2 + pay.length) }).modLane n
      fun x => { x with cvlRxCtr := ctr }).dqBump n 7) := by
  have length : ¬ (pay.length < lo ∨ hi < pay.length) := by omega
  have auth : ¬ ((s.lane n).cvlKey = [] ∨ tag ≠ cvlTag (s.lane n).cvlKey (cvlHeader type pay.length ctr :: pay) ∨ ctr ≤ (s.lane n).cvlRxCtr) := by
    simp [hkey, ← htag, hctr]
  unfold State.cvlReceive
  dsimp only
  rw [rxListens hn hp hcfg h4, if_neg (by decide), if_neg length, if_neg (by simp [ht]), if_neg auth]

/-- Writes to registers leave the fabric. -/
theorem foldl_wr64_fab (f g : Nat → Nat) (l : List Nat) (s : State) : (l.foldl (fun s k => s.wr64 (f k) (g k)) s).fab = s.fab := by
  induction l generalizing s with
  | nil => rfl
  | cons k l ih => exact (ih _).trans (State.wr64_fab ..)

/-- Settles O7: each message through the reception all of them share, each command in the branch its clause names. -/
theorem controlLaneMessagesTakeEffect : Obligations.ControlLaneMessagesTakeEffect := by
  intro s n d ctr pay tag v
  refine ⟨fun type lo hi k hn hp hcfg h4 hlo hhi ht hkey htag hctr =>
      cvlReceive_tagged s n type lo hi ctr pay tag k hn hp hcfg h4 hlo hhi ht hkey htag hctr,
    rfl, fun w hn hp hcfg h4 => ⟨_, rfl, fun room => congrArg done ?_, congrArg done ?_⟩, rfl, rfl, rfl,
    fun i hval hq hstop htim => congrArg done ?_, fun hl hnp hroom => congrArg done ((pageWrite_live _ _ _ hl).trans ?_),
    fun len hl hlen hlo hhi hcfg hbm hrst hfence hroom => congrArg done ((pageWrite_live _ _ _ hl).trans ?_),
    fun hl hlock => congrArg done ((pageWrite_live _ _ _ hl).trans ((if_neg (by simp [hlock])).trans rfl)),
    fun e rest lost hl hq => ⟨_, congrArg done (if_pos hl), ?_, ?_⟩⟩
  · exact (cvlReceive_untagged s n 2 w _ hn hp hcfg h4 rfl).trans (if_pos room)
  · exact cvlReceive_untagged s n 3 w _ hn hp hcfg h4 rfl
  · simp [hval, hq, hstop, htim]
  · have room (b : Bool) : ¬ 256 < (s.lane (16 * d + getField v 3 0)).cvlUsed + 1 + (if b then 0 else 1) := by split <;> omega
    simp only [hnp, Nat.min_zero, List.range_zero, List.map_nil, List.length_singleton, room, if_false]
  · have length : ¬ (len < 60 ∨ 16124 < len) := by omega
    simp only [← hlen, length, hcfg, hbm, hrst, hfence, Nat.not_le.2 hroom, Bool.not_true, Bool.false_eq_true, or_false, if_false]
  · simp only [hq]
    rw [foldl_wr64_fab (fun k => ra tDQ d (0x700 + 8 * k)) (fun k => (nth (0 : Word) e.data k).toNat)]
  · simp only [hq]

end Sys2Proof.Machine
end

section
/-!
PROOFS. The frames of the inter-device links (O9).
-/
namespace Sys2Proof.Machine

/-- Settles O9: each frame in the branch its clause names. -/
theorem linkFramesTakeEffect : Obligations.LinkFramesTakeEffect := by
  intro s n i seq b pay u
  refine ⟨fun h4 hlink htype hlen hmax hmod => congrArg done ?_, fun ty fl hin hseq hre => congrArg done ?_,
    fun ty fl hin => congrArg done ?_, fun hup hre => congrArg done ?_, fun hup hre => congrArg done ?_⟩
  · simp [h4, hlink, htype, hlen, hmax, hmod]
  · simp only [hin, hseq, hre, if_true, if_false]
  · simp only [hin]
  · simp [hup, hre]
  · simp [hup, hre]

end Sys2Proof.Machine
end

section
/-!
PROOFS. The verdict pipeline (O8).
-/
namespace Sys2Proof.Machine

/-- No dialect is enabled by a write of 0. -/
theorem dialectsEnabled_zero (ok : Nat → Bool) : bitsOf ((List.range 32).map fun i => bitAt (0 : Reg) i && ok i) = 0 := by
  have none : ((List.range 32).map fun i => bitAt (0 : Reg) i && ok i) = (List.range 32).map fun _ => false := by simp [bitAt]
  rw [none]
  decide

/-- The frame in which the active partner parses a forwarded message (R184). -/
def State.forwardedFrame (s : State) (b : List Byte) : Frame :=
  { src := 1024, data := [], body := beBytes 2 (s.vpEtype 2) ++ sliceBytes b 48 (beAt b 10 2), trust := .pass, known := .pass, ended := 1,
    committed := true, ctx := beAt b 4 4 % 2 ^ 17, place := .parsing 2, isVerdict := true, isFwd := true, fwdId := beAt b 12 4,
    fwdPort := beAt b 8 2, rxTime := beAt b 16 8, tagged := decide (beAt b 41 1 % 2 = 1) }

/-- Settles O8: each event in the branch its clause names. -/
theorem verdictPipelineTakesEffect : Obligations.VerdictPipelineTakesEffect := by
  intro s n o v i f x w
  refine ⟨fun hf hpl henv hlen hbad => congrArg done ?_, rfl, fun hen => congrArg done ?_, fun h => congrArg done ?_,
    fun m st u hf hpl henv hend htr hsb hbad hmsg hplace => congrArg done ?_, fun hv hfill => ⟨_, rfl, congrArg done ?_⟩,
    fun hv htr hheld => congrArg done ?_, fun r hv hr htmo => congrArg done ?_, fun e he htmo => congrArg done ?_,
    fun hoff => ⟨congrArg done ?_, congrArg done ?_⟩, fun piece u b u2 htake hjoin hact h1 => ⟨(u2.vmBump 2 13).forwardedFrame b, congrArg done ?_, rfl, rfl, rfl, rfl, rfl⟩,
    fun piece u b u2 e htake hjoin he => ⟨_, rfl, congrArg done ?_⟩⟩
  · simp [hf, hpl, henv, hbad, Nat.not_lt.2 hlen]
  · simp [hen]
  · simp only [dialectsEnabled_zero]
    rfl
  · simp [hf, hpl, henv, hend, htr, hsb, hbad, hmsg, hplace]
  · simp [hv, hfill]
  · simp [hv, htr, hheld]
  · simp [hv, hr, htmo]
  · simp [he, htmo]
  · simp [hoff]
  · simp [hoff, serviceMask]
  · simp [htake, hjoin, hact, h1, State.forwardedFrame]
  · simp [htake, hjoin, he]

end Sys2Proof.Machine
end

section
/-!
PROOFS. Requests and registers of the key facilities (O11).
-/
namespace Sys2Proof.Machine

theorem rwlWrite_live {s : State} {p : Nat} (f : State → State) (hl : s.pageLive p = true) (hlock : s.lockInForce = false) :
    s.rwlWrite p f = f s :=
  (pageWrite_live _ _ _ hl).trans (if_neg (by simp [hlock]))

/-- Settles O11: each command in the branch its clause names. -/
theorem keyEngineCommandsTakeEffect : Obligations.KeyEngineCommandsTakeEffect := by
  intro s o e v
  refine ⟨fun r ks u hready hhold hdom hself hfree hchecks => congrArg done ?_, fun x hx hcomp hout => congrArg done ?_,
    fun hfree hdom => ⟨congrArg done ?_, congrArg done ?_⟩,
    fun hl hlock hv => congrArg done ((rwlWrite_live _ hl hlock).trans (if_neg (by omega))), rfl⟩
  · simp only [hready, hhold, hdom, hself, hfree, hchecks, Bool.not_true, Bool.or_self, Bool.false_eq_true, if_false]
  · simp [hx, hcomp, hout]
  · simp [hfree, hdom]
  · simp [hfree, hdom]

end Sys2Proof.Machine
end

section
/-!
PROOFS. The memory operations of a ready core (O15).
-/
namespace Sys2Proof.Machine

/-- The sizes of the loads and stores (Table 7.7). -/
theorem subSize_eq (sub : BitVec 4) (h : sub.toNat ≤ 6) : subSize sub = [1, 1, 2, 2, 4, 4, 8].getD sub.toNat 8 := by
  revert sub
  decide

/-- How a loaded value of each size is extended (Table 7.7). -/
theorem loadExtend_eq (sub : BitVec 4) (v : Nat) : loadExtend sub v =
    if sub = 0 then (BitVec.ofNat 8 v).signExtend 64 else if sub = 2 then (BitVec.ofNat 16 v).signExtend 64
      else if sub = 4 then (BitVec.ofNat 32 v).signExtend 64 else BitVec.ofNat 64 v := by
  obtain ⟨i, rfl⟩ : ∃ i : Fin 16, sub = BitVec.ofFin i := ⟨sub.toFin, rfl⟩
  fin_cases i <;> rfl

theorem areaOf_data {a n : Nat} (h : a + n ≤ 0x40000) : areaOf a n = .data := if_pos h

theorem areaOf_cluster {a n : Nat} (hlo : 0x1000000 ≤ a) (hhi : a + n ≤ 0x2000000) : areaOf a n = .cluster := by
  rw [areaOf, if_neg (by omega), if_neg (by omega), if_pos ⟨hlo, hhi⟩]

section
variable {s : State} {c a n : Nat}

theorem loadAt_ok {k : List Byte → State → CoreRes} (ha : a % n = 0) (har : areaOf a n ≠ .none)
    (hf : s.coreFence c (clsRing (s.core c).ring) accR a n = none) : s.loadAt c a n k = k (s.coreBytes c a n) s := by
  unfold State.loadAt
  simp only [ha, har, hf, ne_eq, not_true_eq_false, if_false]

theorem loadAt_misaligned {k : List Byte → State → CoreRes} (ha : a % n ≠ 0) :
    s.loadAt c a n k = .trap s 4 0 (BitVec.ofNat 64 a) := if_pos ha

theorem storeAt_data {bs : List Byte} (ha : a % bs.length = 0) (hhi : a + bs.length ≤ 0x40000)
    (hf : s.fenceFail c (clsRing (s.core c).ring) accW a bs.length = none) : s.storeAt c a bs = .ok (s.setBytes (spData c + a) bs) := by
  unfold State.storeAt
  simp only [ha, areaOf_data hhi, areaAt, hf, ne_eq, not_true_eq_false, if_false]

theorem storeAt_cluster {bs : List Byte} (ha : a % bs.length = 0) (hlo : 0x1000000 ≤ a) (hhi : a + bs.length ≤ 0x2000000)
    (hroom : (s.core c).sbuf.length < 8) :
    s.storeAt c a bs = .ok (s.modCore c fun x => { x with sbuf := x.sbuf ++ [(a, bs, x.ring)] }) := by
  unfold State.storeAt
  simp only [ha, areaOf_cluster hlo hhi, Nat.not_le.2 hroom, ne_eq, not_true_eq_false, if_false]

theorem drained_quiet {k : State → CoreRes} (h : s.drains c = true) : drained c s k = k (s.drain c) := by
  have late : ((s.drain c).core c).late.isSome = false := by
    cases hl : ((s.drain c).core c).late <;> simp_all [State.drains]
  exact if_neg (by simp [late])

/-- An atomic operation whose address is an aligned cell of the cluster memory that the fence lets it read and write. -/
theorem atomicAt_ok {rd : Nat} {f : Word → Option Word × Word} (hd : s.drains c = true) (ha : a % 8 = 0) (hlo : 0x1000000 ≤ a)
    (hhi : a + 8 ≤ 0x2000000) (hmb : inMailbox (a - 0x1000000) = false)
    (hf : ∀ i < 8, (s.drain c).fenceByte (256 + c / 32) (clsRing ((s.drain c).core c).ring) accR (a - 0x1000000 + i) = true ∧
      (s.drain c).fenceByte (256 + c / 32) (clsRing ((s.drain c).core c).ring) accW (a - 0x1000000 + i) = true) :
    s.atomicAt c rd a f =
      .ok ((match (f (BitVec.ofNat 64 ((s.drain c).leAt (spCluster (c / 32) + (a - 0x1000000)) 8))).1 with
        | none => s.drain c
        | some v => (s.drain c).setLe (spCluster (c / 32) + (a - 0x1000000)) 8 v.toNat).setReg c rd
          (f (BitVec.ofNat 64 ((s.drain c).leAt (spCluster (c / 32) + (a - 0x1000000)) 8))).2) := by
  have allowed : (List.range 8).find? (fun i => !((s.drain c).fenceByte (256 + coreOunce c) (clsRing ((s.drain c).core c).ring) accR
      (a - 0x1000000 + i) && (s.drain c).fenceByte (256 + coreOunce c) (clsRing ((s.drain c).core c).ring) accW (a - 0x1000000 + i))) = none := by
    rw [List.find?_eq_none]
    intro i hi
    obtain ⟨hr, hw⟩ := hf i (List.mem_range.1 hi)
    simp only [coreOunce, hr, hw]
    decide
  have cell : ¬ (areaOf a 8 ≠ .cluster ∨ inMailbox (a - 0x1000000) = true) := by simp [areaOf_cluster hlo hhi, hmb]
  unfold State.atomicAt
  rw [drained_quiet hd]
  simp only [ha, cell, allowed, ne_eq, not_true_eq_false, if_false]
  rfl

/-- A buffered store of cluster memory that the fence allows, below the engines' doorbells or above them, reaches memory. -/
theorem storeArrives_cluster {bs : List Byte} {r off : Nat} (ho : off = a - 0x1000000) (hmb : inMailbox off = false)
    (hdb : off < 0x97F000 ∨ 0x97F048 ≤ off) (hf : s.fenceFail (256 + c / 32) (clsRing r) accW off bs.length = none) :
    s.storeArrives c a bs r = s.setBytes (spCluster (c / 32) + off) bs := by
  have doorbell : ¬ (0x97F000 ≤ off ∧ off < 0x97F020 ∧ bs.length = 8) := by omega
  have watchdog : ¬ (off = 0x97F040 ∧ bs.length = 8) := by omega
  unfold State.storeArrives
  extract_lets o off' f
  have same : off' = off := ho.symm
  clear_value off'
  subst same
  rw [show s.fenceFail f (clsRing r) accW off' bs.length = none from hf, hmb]
  exact (if_neg (by decide)).trans ((if_neg doorbell).trans (if_neg watchdog))

end

/-- A late store that is due is reported as an asynchronous exception at the instruction to come (R284). -/
theorem raise_late {s : State} {c p k : Nat} (hst : (s.core c).st ≠ 0) (hds : (s.core c).ds = none) (hsb : (s.core c).sbuf = [])
    (hl : (s.core c).late = some (p, k)) :
    (s.raise c cLATE 0 0 true).core c =
      ({ s.core c with late := none } : Core).entered cLATE k (BitVec.ofNat 64 p) (s.core c).pc.toNat false true := by
  have self : (s.setCore c (s.core c)).core c = s.core c := core_setCore hst
  have drained : (s.setCore c (s.core c)).drain c = s.setCore c (s.core c) := drain_of_sbuf_nil (by rw [self, hsb])
  unfold State.raise State.takeLate
  rw [backOut_of_ds_none hds]
  dsimp only
  rw [drained, self, hl]
  simp only [Option.isSome_some, if_true]
  rw [enterExc_core, core_modCore (by rw [self]; exact hst), self]

/-- Settles O15: each operation ends the way its address, its fence and the store buffer allow. -/
theorem coreMemoryOperationsTakeEffect : Obligations.CoreMemoryOperationsTakeEffect := by
  intro s c rd ra rb sub off x size a u m cell old atomic
  have stores (word : Nat) (f : Core → Word → Option Word × Word) (v : Word) (h : atomic) (hf : f x old = (some v, old)) :
      s.issue c word true false (fun x s => s.atomicAt c rd.toNat (x.rv ra).toNat (f x)) =
        ((u.setLe cell 8 v.toNat).setReg c rd.toNat old).complete c (x.pc + 4) := by
    obtain ⟨hr, hd, ha, hlo, hhi, hmb, hfence⟩ := h
    refine issue_ok hr ((atomicAt_ok hd ha hlo hhi hmb hfence).trans ?_)
    rw [show f (s.core c) (BitVec.ofNat 64 ((s.drain c).leAt (spCluster (c / 32) + (((s.core c).rv ra).toNat - 0x1000000)) 8)) = (some v, old) from hf]
  have keeps (word : Nat) (f : Core → Word → Option Word × Word) (h : atomic) (hf : f x old = (none, old)) :
      s.issue c word true false (fun x s => s.atomicAt c rd.toNat (x.rv ra).toNat (f x)) = (u.setReg c rd.toNat old).complete c (x.pc + 4) := by
    obtain ⟨hr, hd, ha, hlo, hhi, hmb, hfence⟩ := h
    refine issue_ok hr ((atomicAt_ok hd ha hlo hhi hmb hfence).trans ?_)
    rw [show f (s.core c) (BitVec.ofNat 64 ((s.drain c).leAt (spCluster (c / 32) + (((s.core c).rv ra).toNat - 0x1000000)) 8)) = (none, old) from hf]
  refine ⟨fun hr hsub ha har hf v hv => congrArg done ?_, fun hr hsub heven ha hhi hf => congrArg done ?_,
    fun hr hsub heven ha hlo hhi hroom => congrArg done ?_, fun hr hsub ha => congrArg done ?_,
    fun p bs r rest hlock hsb hmb hdb hf => congrArg done ?_, fun p k hruns hl hds hexl hdxl hsb => ⟨_, congrArg done (if_pos ?_), ?_⟩,
    fun h heq => congrArg done (stores _ (fun x old => (if old = x.rv rd then some (x.rv rb) else none, old)) (x.rv rb) h ?_),
    fun h hne => congrArg done (keeps _ (fun x old => (if old = x.rv rd then some (x.rv rb) else none, old)) h ?_),
    fun h => congrArg done (stores _ (fun x old => (some (old + x.rv rb), old)) (old + x.rv rb) h rfl),
    fun h => congrArg done (stores _ (fun x old => (some (x.rv rb), old)) (x.rv rb) h rfl),
    fun hr hd => ⟨congrArg done (issue_ok hr (drained_quiet hd)), congrArg done (issue_ok hr (drained_quiet hd))⟩,
    fun hr => congrArg done (issue_trap hr rfl)⟩
  · have hsize : subSize sub = size := subSize_eq sub hsub
    rw [← hsize] at ha har hf hv
    rw [hv, ← loadExtend_eq, decide_eq_true hsub]
    exact issue_ok hr (loadAt_ok ha har hf)
  · have hsize : subSize sub = size := subSize_eq sub hsub
    rw [← hsize] at ha hhi hf ⊢
    rw [decide_eq_true hsub, decide_eq_true heven]
    exact issue_ok hr (storeAt_data (by rwa [leBytes_length]) (by rwa [leBytes_length]) (by rwa [leBytes_length]))
  · have hsize : subSize sub = size := subSize_eq sub hsub
    rw [← hsize] at ha hhi ⊢
    rw [decide_eq_true hsub, decide_eq_true heven]
    exact issue_ok hr (storeAt_cluster (by rwa [leBytes_length]) hlo (by rwa [leBytes_length]) hroom)
  · have hsize : subSize sub = size := subSize_eq sub hsub
    rw [← hsize] at ha
    rw [decide_eq_true hsub]
    exact issue_trap hr (loadAt_misaligned ha)
  · rw [if_neg (by simp [hlock]), State.drainOne]
    rw [show (s.core c).sbuf = (p, bs, r) :: rest from hsb]
    exact storeArrives_cluster rfl hmb hdb hf
  · rw [hruns, show (s.core c).late = _ from hl, show (s.core c).ds = none from hds]
    rfl
  · have hst : (s.core c).st ≠ 0 := by
      simp only [State.coreRuns, Bool.and_eq_true, decide_eq_true_eq] at hruns
      omega
    rw [raise_late hst hds hsb hl]
    have hexl' : (s.core c).exl = false := hexl
    have hdxl' : (s.core c).dxl = false := hdxl
    simp only [Core.entered, hexl', hdxl', Bool.false_eq_true, if_false]
    exact ⟨rfl, rfl, trivial, trivial, trivial, rfl⟩
  · rw [if_pos heq]
  · rw [if_neg hne]

end Sys2Proof.Machine
end

section
/-!
PROOFS. The control transfers of a ready core outside a delay slot (O16).
-/
namespace Sys2Proof.Machine

section
variable {s : State} {c : Nat}

/-- A branch whose condition is `p` of its operand. -/
theorem branch_transfers {major : Nat} {ra : BitVec 5} {off : BitVec 21} {cond : Word → Bool} {p : Prop} [Decidable p] (h : s.ready c = true)
    (hd : (s.core c).ds = none) (hc : cond ((s.core c).rv ra) = decide p) :
    branch c major ra off cond s =
      s.transfers c (s.core c).pc (if p then (s.core c).pc + 4 * off.signExtend 64 else (s.core c).pc + 8) 0 0 := by
  refine (issue_xfer h hd rfl).trans ?_
  rw [hc, branchTarget, BitVec.mul_comm (4 : Word)]
  simp only [decide_eq_true_eq]

theorem eq_zero_iff_toInt (a : Word) : decide (a = 0) = decide (a.toInt = 0) := by
  rw [decide_eq_decide]
  exact ⟨fun h => h ▸ rfl, fun h => BitVec.eq_of_toInt_eq h⟩

/-- The words of a gate's frame read back (R266). -/
theorem gateFrame_words (ret r n : Nat) (hret : ret < 2 ^ 17) (hr : r < 4) (hn : n < 2 ^ 16) :
    ofLe ((gateFrame ret r n).take 8) = ret ∧ ofLe ((gateFrame ret r n).drop 8) = r + n * 2 ^ 16 + 0x47415445 * 2 ^ 32 := by
  have low : (gateFrame ret r n).take 8 = leBytes 8 ret := rfl
  have high : (gateFrame ret r n).drop 8 = leBytes 8 (r + n * 2 ^ 16 + 0x47415445 * 2 ^ 32) := rfl
  rw [low, high, ofLe_leBytes, ofLe_leBytes]
  exact ⟨Nat.mod_eq_of_lt (by omega), Nat.mod_eq_of_lt (by omega)⟩

/-- The fields of the second word of a gate's frame: its mark, its unused bits and the ring it came from. -/
theorem gateMark_fields (r n : Nat) (hr : r < 4) (hn : n < 2 ^ 16) :
    natField (r + n * 2 ^ 16 + 0x47415445 * 2 ^ 32) 63 32 = 0x47415445 ∧ natField (r + n * 2 ^ 16 + 0x47415445 * 2 ^ 32) 15 2 = 0 ∧
      (r + n * 2 ^ 16 + 0x47415445 * 2 ^ 32) % 4 = r := by
  simp only [natField, Nat.shiftRight_eq_div_pow]
  omega

/-- A transfer outside a delay slot that raises an exception. -/
theorem issue_ctl_trap {word cause sub : Nat} {v : Word} {t : State} {body : Core → State → CoreRes} (h : s.ready c = true)
    (hd : (s.core c).ds = none) (hb : body (s.core c) s = .trap t cause sub v) :
    s.issue c word true true body = t.raise c cause sub v false := by
  rw [issue_ready h, if_neg (by decide), if_neg (by simp [hd]), hb]

/-- A gate that is open to the ring, with a frame that fits the target ring's stack (R266). -/
theorem exec_gate {imm : BitVec 16} {w : List Nat} {t f : Nat} {u : State} (hu : u = s.drain c) (hr : s.ready c = true) (hds : (s.core c).ds = none)
    (hdr : s.drains c = true) (hn : imm.toNat < (s.core c).gatecount) (hbase : (s.core c).gatebase + 32 * imm.toNat + 32 ≤ 0x40000)
    (hw : w = u.gateWords c ((s.core c).gatebase + 32 * imm.toNat)) (hok : gateOk w = true) (ht : t = nth 0 w 0 % 4)
    (hring : (nth 0 w 0).testBit (4 + (s.core c).ring) = true) (hlt : t < (s.core c).ring) (hargs : u.gateArgs c (s.core c) w = none)
    (hf : f = (nth 0 (s.core c).sp t - 16).toNat) (hsp : (nth 0 (s.core c).sp t).toNat % 16 = 0) (hroom : f + 16 ≤ 0x40000)
    (hfence : u.fenceFail c (clsRing t) accW f 16 = none) :
    exec (.gate c 0 0 imm) s = .next (((u.setBytes (spData c + f) (gateFrame (((s.core c).pc.toNat + 4) % 2 ^ 17) (s.core c).ring imm.toNat)).modCore c
          fun y => { y with sp := setNth y.sp t (BitVec.ofNat 64 f), ring := t }).complete c (BitVec.ofNat 64 (nth 0 w 1))) := by
  refine congrArg done (issue_goto hr hds ((drained_quiet hdr).trans ?_))
  rw [← hu]
  dsimp only
  rw [← hw, ← ht, BitVec.ofNat_toNat, BitVec.setWidth_eq, ← hf]
  rw [if_neg (Nat.not_le.2 hn), if_neg (by simp [hok]; omega), if_neg (by simp [hring]; omega), hargs,
    if_neg (not_or.2 ⟨not_not.2 hsp, not_or.2 ⟨Nat.not_lt.2 hroom, by simp [hfence]⟩⟩)]

/-- A return through a gate frame that a less privileged ring left on the stack (R267). -/
theorem exec_retg {p ret r n : Nat} {u : State} (hu : u = s.drain c) (hr : s.ready c = true) (hds : (s.core c).ds = none)
    (hdr : s.drains c = true) (hp : p = (nth 0 (s.core c).sp (s.core c).ring).toNat) (hal : p % 16 = 0) (hroom : p + 16 ≤ 0x40000)
    (hfence : u.fenceFail c (clsRing (s.core c).ring) accR p 16 = none) (hret : ret < 2 ^ 17) (hr4 : r < 4) (hn : n < 2 ^ 16)
    (hup : (s.core c).ring < r) (hbs : u.bytes (spData c + p) 16 = gateFrame ret r n) :
    exec (.retg c 0 0 0) s = .next ((u.modCore c fun y => { y with
      sp := setNth y.sp (s.core c).ring (BitVec.ofNat 64 (p + 16)), ring := r }).complete c (BitVec.ofNat 64 ret)) := by
  obtain ⟨hlow, hhigh⟩ := gateFrame_words ret r n hret hr4 hn
  obtain ⟨hmark, hzero, hring⟩ := gateMark_fields r n hr4 hn
  have low : ret / 2 ^ 17 = 0 := Nat.div_eq_of_lt hret
  refine congrArg done (issue_goto hr hds ((drained_quiet hdr).trans ?_))
  rw [← hu]
  dsimp only
  rw [← hp, hbs, hlow, hhigh, if_pos ⟨hal, hroom, by rw [hfence]; rfl, low, hmark, hzero, by rw [hring]; exact hup⟩, hring]

theorem exec_eret {u : State} (hu : u = s.drain c) (hr : s.ready c = true) (hds : (s.core c).ds = none) (hdr : s.drains c = true)
    (hring : (s.core c).ring = 0 ∨ (s.core c).ring = 1 ∧ (s.core c).pring ≠ 0) :
    exec (.eret c 0 0 0) s = .next ((u.setCore c { u.core c with
      loops := (u.core c).xloops, ring := (u.core c).pring, exl := false, dxl := false }).complete c (BitVec.ofNat 64 (u.core c).epc)) := by
  have may : ¬ (1 < (s.core c).ring ∨ (s.core c).ring = 1 ∧ (s.core c).pring = 0) := by omega
  exact congrArg done (issue_goto hr hds ((if_neg may).trans ((drained_quiet hdr).trans (by rw [hu]))))

/-- LOOP on level 0 with an immediate count, while level 1 is idle (R248). -/
theorem exec_loop {cnt : BitVec 10} {len : BitVec 14} {le : Nat} (hr : s.ready c = true) (hds : (s.core c).ds = none)
    (hle : le = (s.core c).pc.toNat + 4 * len.toNat) (hlen : len ≠ 0) (hmax : le < 2 ^ 17) (hlc : (s.core c).loops.lc1 = 0)
    (hend : s.loopEndBad c le (decide (2 ≤ len.toNat)) = false) :
    exec (.loop c false true cnt len) s = .next ((s.modCore c fun y => { y with
      loops := { (s.core c).loops with ls0 := (s.core c).pc.toNat + 4, le0 := le, lc0 := cnt.toNat } }).complete c
        (BitVec.ofNat 64 (if cnt.toNat = 0 then le + 4 else (s.core c).pc.toNat + 4))) := by
  refine congrArg done (issue_goto hr hds ?_)
  dsimp only
  rw [← hle, if_neg (not_or.2 ⟨hlen, not_or.2 ⟨Nat.not_le.2 hmax, not_or.2 ⟨by simp [hend], fun h => h.1 hlc⟩⟩⟩), if_pos rfl, if_neg (by have := cnt.isLt; omega)]
  rfl

theorem exec_mfs {rd : BitVec 5} {imm : BitVec 16} (hr : s.ready c = true) (hacc : 2 ≤ specialAccess imm.toNat (s.core c).ring) :
    exec (.mfs c rd 0 imm) s = .next (s.writesBack c rd (s.specialValue c imm.toNat)) := by
  refine congrArg done (issue_ok hr ?_)
  generalize specialAccess imm.toNat (s.core c).ring = k at hacc
  match k, hacc with
  | k + 2, _ => rfl

theorem exec_mts {ra : BitVec 5} {imm : BitVec 16} (hr : s.ready c = true) (hacc : specialAccess imm.toNat (s.core c).ring = 3)
    (hbad : s.mtsLoopBad c (s.core c) imm.toNat ((s.core c).rv ra).toNat = none) (hser : mtsSerial imm.toNat = false) :
    exec (.mts c 0 ra imm) s =
      .next ((s.modCore c fun y => y.mts imm.toNat ((s.core c).rv ra)).complete c ((s.core c).pc + 4)) := by
  refine congrArg done (issue_ok hr ?_)
  simp only [hacc, hbad, hser, Bool.false_eq_true, if_false]

theorem exec_mts_serial {ra : BitVec 5} {imm : BitVec 16} (hr : s.ready c = true) (hacc : specialAccess imm.toNat (s.core c).ring = 3)
    (hbad : s.mtsLoopBad c (s.core c) imm.toNat ((s.core c).rv ra).toNat = none) (hser : mtsSerial imm.toNat = true)
    (hdr : s.drains c = true) : exec (.mts c 0 ra imm) s =
      .next (((s.drain c).modCore c fun y => y.mts imm.toNat ((s.core c).rv ra)).complete c ((s.core c).pc + 4)) := by
  refine congrArg done (issue_ok hr ?_)
  simp only [hacc, hbad, hser, if_true, drained_quiet hdr]

end

/-- Settles O16: each operation ends as a transfer, a jump, a plain completion or the exception its clause names. -/
theorem controlTransfersTakeEffect : Obligations.ControlTransfersTakeEffect := by
  intro s c rd ra off far imm hr hds
  dsimp only
  have far4 : (s.core c).pc + 4 * far.signExtend 64 = jumpTarget (s.core c).pc far := by rw [jumpTarget, BitVec.mul_comm]
  refine ⟨congrArg done (branch_transfers hr hds (eq_zero_iff_toInt _)), congrArg done (branch_transfers hr hds ?_),
    congrArg done (branch_transfers hr hds rfl), congrArg done (branch_transfers hr hds ?_), congrArg done (branch_transfers hr hds rfl),
    congrArg done (branch_transfers hr hds ?_), congrArg done ((issue_xfer hr hds rfl).trans ?_),
    congrArg done ((issue_xfer hr hds rfl).trans ?_),
    fun ha => ⟨congrArg done (issue_xfer hr hds (if_neg (by simpa using ha))), congrArg done (issue_xfer hr hds (if_neg (by simpa using ha)))⟩,
    fun ha => ⟨congrArg done ?_, congrArg done ?_⟩,
    fun w t f hdr hn hbase hw hok ht hring hlt hargs hf hsp hroom hfence =>
      exec_gate rfl hr hds hdr hn hbase hw hok ht hring hlt hargs hf hsp hroom hfence,
    fun hdr hn => congrArg done ?_, fun p ret r n hdr hp hal hroom hfence hret hr4 hn hup hbs =>
      exec_retg rfl hr hds hdr hp hal hroom hfence hret hr4 hn hup hbs,
    fun hdr hring => exec_eret rfl hr hds hdr hring, fun hring => congrArg done ?_,
    fun cnt len le hle hlen hmax hlc hend => exec_loop hr hds hle hlen hmax hlc hend, fun hacc => exec_mfs hr hacc,
    fun hacc hbad hser => exec_mts hr hacc hbad hser, fun hacc hbad hser hdr => exec_mts_serial hr hacc hbad hser hdr,
    fun hacc => ⟨congrArg done ?_, congrArg done ?_⟩⟩
  · exact (decide_not (p := (s.core c).rv ra = 0)).trans ((congrArg not (eq_zero_iff_toInt _)).trans decide_not.symm)
  · exact decide_not.symm.trans (decide_eq_decide.2 Int.not_lt)
  · exact decide_not.symm.trans (decide_eq_decide.2 Int.not_lt)
  · rw [far4]
  · rw [far4]
  · exact issue_ctl_trap hr hds (if_pos (by simpa using ha))
  · exact issue_ctl_trap hr hds (if_pos (by simpa using ha))
  · exact issue_ctl_trap hr hds ((drained_quiet hdr).trans (if_pos hn))
  · exact issue_ctl_trap hr hds (if_pos hring)
  · exact issue_trap hr (by simp only [hacc]; rfl)
  · exact issue_trap hr (by simp only [hacc]; rfl)

end Sys2Proof.Machine
end

section
/-!
PROOFS. The requests a ready core hands to the other blocks (O17).
-/
namespace Sys2Proof.Machine

section
variable {s : State} {c : Nat}

/-- 255 names no slot, which the rings 0 and 1 may ask for. -/
theorem slotOperand_none {k : Word} (hk : k = 255) (hring : (s.core c).ring ≤ 1) : s.slotOperand c k = .ok none := by
  have h2 : (s.core c).ring ≠ 2 := by omega
  have h3 : (s.core c).ring ≠ 3 := by omega
  subst hk
  simp [State.slotOperand, h2, h3]

theorem bytes_ne_nil (s : State) (a n : Nat) : s.bytes a (n + 1) ≠ [] := by
  simp [State.bytes]

/-- What is read of memory depends on memory alone. -/
theorem bytes_congr {s t : State} (h : t.mem = s.mem) (a n : Nat) : t.bytes a n = s.bytes a n := by
  induction n generalizing a with
  | zero => rfl
  | succ n ih => rw [State.bytes, State.bytes, ih, State.byte, State.byte, h]

theorem exec_japp {rd ra rb : BitVec 5} (hr : s.ready c = true) (hring : (s.core c).ring ≤ 1) (hk : (s.core c).rv rb = 255)
    (harea : s.dataArea c ((s.core c).rv ra).toNat 160 16 accR = true) (hjn : s.jnEnabled (c / 32) = true)
    (hroom : s.ringRoom (strandOf c) = true) (hqueue : (s.strand (strandOf c)).queue.length < 64) :
    exec (.japp c rd ra rb) s = .next (((s.giveApp (strandOf c) { kind := 2, core := c, record := s.bytes (spData c + ((s.core c).rv ra).toNat) 160 }).setReg
      c rd.toNat (BitVec.ofNat 64 0)).complete c ((s.core c).pc + 4)) := by
  refine congrArg done (issue_ok hr ?_)
  simp only [slotOperand_none hk hring, harea, coreOunce, hjn, hroom, Nat.not_le.2 hqueue, Bool.not_true, Bool.false_eq_true, if_false]
  rfl

theorem exec_lread {rd ra : BitVec 5} {t : Nat} (hr : s.ready c = true) (hring : (s.core c).ring ≤ 2)
    (harea : s.dataArea c ((s.core c).rv ra).toNat 32 8 accR = true)
    (hok : s.leaseOk c (s.bytes (spData c + ((s.core c).rv ra).toNat) 32) false = true) (ht : (s.core c).freeTicket 2 4 = some t) :
    exec (.lread c rd ra 0) s =
      .next (((s.takeTicket c t rd).leaseIssue c t (s.bytes (spData c + ((s.core c).rv ra).toNat) 32)).complete c ((s.core c).pc + 4)) := by
  have h3 : (s.core c).ring ≠ 3 := by omega
  refine congrArg done (issue_ok hr ?_)
  simp only [h3, harea, State.dataBytes, hok, ht, Bool.not_true, Bool.or_self, Bool.false_eq_true, if_false]

theorem exec_lwrite {rd ra rb : BitVec 5} {t : Nat} (hr : s.ready c = true) (hring : (s.core c).ring ≤ 1) (hk : (s.core c).rv rb = 255)
    (harea : s.dataArea c ((s.core c).rv ra).toNat 32 8 accR = true)
    (hok : s.leaseOk c (s.bytes (spData c + ((s.core c).rv ra).toNat) 32) true = true) (ht : (s.core c).freeTicket 2 4 = some t) :
    exec (.lwrite c rd ra rb) s =
      .next (((s.takeTicket c t rd).leaseIssue c t (s.bytes (spData c + ((s.core c).rv ra).toNat) 32)).complete c ((s.core c).pc + 4)) := by
  refine congrArg done (issue_ok hr ?_)
  simp only [slotOperand_none hk hring, harea, State.dataBytes, hok, ht, Option.bind_none, Bool.not_true, Bool.or_self, Bool.false_eq_true,
    if_false]

theorem exec_ctxupd {rd ra rb : BitVec 5} {t : Nat} {b : List Byte} (hr : s.ready c = true) (hring : (s.core c).ring ≤ 1)
    (hk : (s.core c).rv rb = 255) (hb : b = s.bytes (spData c + ((s.core c).rv ra).toNat) 48)
    (harea : s.dataArea c ((s.core c).rv ra).toNat 48 16 accR = true) (hok : ctxupdBad b true = false) (hread : ofLe (b.take 1) ≠ 3)
    (ht : (s.core c).freeTicket 10 2 = some t) :
    exec (.ctxupd c rd ra rb) s =
      .next (((s.takeTicket c t rd).ctxOp (ofLe (sliceBytes b 4 4)) c t b).complete c ((s.core c).pc + 4)) := by
  refine congrArg done (issue_ok hr ?_)
  subst hb
  simp [slotOperand_none hk hring, harea, State.dataBytes, hok, hread, ht]

theorem exec_respond {rd ra rb : BitVec 5} {v n : Nat} {y : Verdict} (hr : s.ready c = true) (hring : (s.core c).ring ≤ 2)
    (hn : n = getField ((s.core c).rv rb) 13 0) (h1 : 1 ≤ n) (hmask : (s.core c).rv rb &&& 0xFFFFFFFFF8E0C000 = 0)
    (hv : s.slotVerdictOf c (getField ((s.core c).rv rb) 26 24) = some v) (hy : s.verdict v = some y)
    (harea : s.dataArea c ((s.core c).rv ra).toNat n 1 accR = true) (hmax : n ≤ 8192) (htr : y.trust ≠ .fail) (hresp : y.responded = false)
    (happ : y.appends ≠ 0) (hunits : cget 0 s.vp.units (c / 32) + respUnits n ≤ 8192) :
    exec (.respond c rd ra rb) s = .next ((((({ s with vp := { s.vp with
        units := cput 0 (cget 0 s.vp.units (c / 32) + respUnits n) (c / 32) s.vp.units } } : State).modVerdict v fun y => { y with
        resp := some { data := s.bytes (spData c + ((s.core c).rv ra).toNat) n, cls := getField ((s.core c).rv rb) 20 16, at_ := s.clk.ns },
        responded := true }).tryRelease v).setReg c rd.toNat (BitVec.ofNat 64 0)).complete c ((s.core c).pc + 4)) := by
  have h3 : (s.core c).ring ≠ 3 := by omega
  have h0 : n ≠ 0 := by omega
  refine congrArg done (issue_ok hr ?_)
  have kept (vp : Pipeline) : ({ s with vp := vp } : State).dataBytes c ((s.core c).rv ra).toNat n =
      s.bytes (spData c + ((s.core c).rv ra).toNat) n := bytes_congr (s := s) (t := { s with vp := vp }) rfl _ _
  subst hn
  simp only [kept, h3, hv, Option.bind_some, hy, hmask, h0, harea, htr, hresp, Nat.not_lt.2 hmax, happ, coreOunce, Nat.not_lt.2 hunits, ne_eq,
    not_true_eq_false, Bool.not_true, Bool.false_eq_true, or_self, if_false]
  rfl

theorem exec_respond_failed {rd ra rb : BitVec 5} {v n : Nat} {y : Verdict} (hr : s.ready c = true) (hring : (s.core c).ring ≤ 2)
    (hn : n = getField ((s.core c).rv rb) 13 0) (h1 : 1 ≤ n) (hmask : (s.core c).rv rb &&& 0xFFFFFFFFF8E0C000 = 0)
    (hv : s.slotVerdictOf c (getField ((s.core c).rv rb) 26 24) = some v) (hy : s.verdict v = some y)
    (harea : s.dataArea c ((s.core c).rv ra).toNat n 1 accR = true) (htr : y.trust = .fail) :
    exec (.respond c rd ra rb) s = .next ((s.setReg c rd.toNat (BitVec.ofNat 64 0x316)).complete c ((s.core c).pc + 4)) := by
  have h3 : (s.core c).ring ≠ 3 := by omega
  have h0 : n ≠ 0 := by omega
  refine congrArg done (issue_ok hr ?_)
  subst hn
  simp only [h3, hv, Option.bind_some, hy, hmask, h0, harea, htr, ne_eq, not_true_eq_false, Bool.not_true, Bool.false_eq_true, or_self,
    if_false, if_true]
  rfl

theorem exec_dma {rd ra : BitVec 5} {t : Nat} {b : List Byte} {u : State} (hr : s.ready c = true) (hring : (s.core c).ring ≤ 2)
    (hb : b = s.bytes (spData c + ((s.core c).rv ra).toNat) 32) (harea : s.dataArea c ((s.core c).rv ra).toNat 32 8 accR = true)
    (hok : dmaOk b = true) (ht : (s.core c).freeTicket 6 4 = some t) (hu : u = s.takeTicket c t rd) :
    exec (.dma c rd ra 0) s = .next (State.complete { u with vc := { u.vc with dma := cput [] (cget [] u.vc.dma (c / 32) ++
      [{ core := c, tkt := t, daddr := ((s.core c).rv ra).toNat, toHbm := ofLe (sliceBytes b 0 4) = 1, len := ofLe (sliceBytes b 4 4),
         haddr := ofLe (sliceBytes b 8 8), laddr := ofLe (sliceBytes b 0x10 4) }]) (c / 32) u.vc.dma } } c ((s.core c).pc + 4)) := by
  have h3 : (s.core c).ring ≠ 3 := by omega
  refine congrArg done (issue_ok hr ?_)
  subst hb hu
  simp only [h3, harea, State.dataBytes, hok, ht, Bool.not_true, Bool.or_self, Bool.false_eq_true, if_false]
  rfl

/-- A PIN translation asked for by ring 0 or 1 on no slot's behalf (R187). -/
theorem exec_kop {rd ra : BitVec 5} {t : Nat} {b : List Byte} (hr : s.ready c = true) (hring : (s.core c).ring ≤ 1)
    (hhead : s.dataArea c ((s.core c).rv ra).toNat 16 16 accR = true) (harea : s.dataArea c ((s.core c).rv ra).toNat 64 16 accR = true)
    (hb : b = s.bytes (spData c + ((s.core c).rv ra).toNat) 64)
    (hlen : ofLe (sliceBytes (s.bytes (spData c + ((s.core c).rv ra).toNat) 16) 2 2) = 64) (hfn : ofLe (sliceBytes b 0 1) = 0x10)
    (hslot : ofLe (sliceBytes b 4 1) = 255) (ht : (s.core c).freeTicket 0 2 = some t) :
    exec (.kop c rd ra 0) s = .next (((s.takeTicket c t rd).keyEnqueue { core := c, tkt := t, ring := (s.core c).ring, block := b }).complete c
      ((s.core c).pc + 4)) := by
  have h2 : (s.core c).ring ≠ 2 := by omega
  have h3 : (s.core c).ring ≠ 3 := by omega
  subst hb
  refine congrArg done (issue_ok hr ?_)
  simp [ht, hhead, State.dataBytes, hlen, harea, bytes_ne_nil, KReq.slot, KReq.fn, hslot, hfn, h2, h3, opPlen]

end

/-- Settles O17: each request is taken in the branch its clause names. -/
theorem coreRequestsTakeEffect : Obligations.CoreRequestsTakeEffect := by
  intro s c rd ra rb hr
  dsimp only
  refine ⟨fun hn htaken hdone => congrArg done (issue_ok hr ?_), fun hn htaken => congrArg done (issue_ok hr ?_),
    fun hdr hm => congrArg done (issue_ok hr ((drained_quiet hdr).trans (if_neg hm))), congrArg done (issue_ok hr rfl),
    fun hring hk harea hjn hroom hq => exec_japp hr hring hk harea hjn hroom hq,
    fun t hring harea hok ht => exec_lread hr hring harea hok ht, fun t hring hk harea hok ht => exec_lwrite hr hring hk harea hok ht,
    fun v y n hring hn h1 hmax hmask hv hy harea htr hresp happ hunits =>
      exec_respond hr hring hn h1 hmask hv hy harea hmax htr hresp happ hunits,
    fun v y n hring hn h1 hmask hv hy harea htr => exec_respond_failed hr hring hn h1 hmask hv hy harea htr,
    fun t b hring hk hb harea hok hread ht => exec_ctxupd hr hring hk hb harea hok hread ht,
    fun t b u hring hb harea hok ht hu => exec_dma hr hring hb harea hok ht hu,
    fun hring => congrArg done (issue_ok hr (if_neg (by omega))),
    fun t b hring hhead harea hb hlen hfn hslot ht => exec_kop hr hring hhead harea hb hlen hfn hslot ht⟩
  · simp only [Nat.not_le.2 hn, htaken, hdone, Bool.not_true, Bool.false_eq_true, or_self, if_false]
    rfl
  · simp only [Nat.not_le.2 hn, htaken, decide_false, Bool.not_true, Bool.false_or, b2n]
    rfl

end Sys2Proof.Machine
end

section
/-!
PROOFS. The events of a core and the writes to VC_CTL (O18).
-/
namespace Sys2Proof.Machine

theorem coreRuns_st {s : State} {c : Nat} (h : s.coreRuns c = true) : (s.core c).st ≠ 0 := by
  simp only [State.coreRuns, Bool.and_eq_true, decide_eq_true_eq] at h
  omega

theorem bitsOf_testBit_four : ∀ b₀ b₁ b₂ b₃ b₄ b₅ : Bool, (bitsOf [b₀, b₁, b₂, b₃, b₄, b₅]).testBit 4 = b₄ := by decide

/-- IPEND.TIMER is the comparison of the cycle count with TMCMP (R261). -/
theorem ipend_timer (x : Core) : x.ipend.testBit 4 = decide (x.tmcmp ≠ 0 ∧ x.tmcmp ≤ x.cycle) := by
  unfold Core.ipend
  exact bitsOf_testBit_four ..

theorem coreCounts_core (s : State) (c d : Nat) (x : Core) : (s.coreCounts c x).core d = s.core d :=
  (coreCounts_counted s c x).core d

theorem boundary_interrupt {s : State} {c k : Nat} (hi : (s.core c).interrupt = some k) (hds : (s.core c).ds = none)
    (hl : (s.core c).late = none) (hw : (s.core c).wdog = false) : s.boundary c = some (s.raise c cINTR k 0 true) := by
  unfold State.boundary
  simp only [hds, hl, hw, hi, Option.isSome_none, Bool.false_eq_true, if_false]

/-- A write to VC_CTL leaves the core as it is. -/
theorem core_vcCtl (s : State) (d a v p : Nat) : ((s.setFld a 0 0 v).took p).core d = s.core d :=
  core_congr (by simp)

/-- A transfer to HBM whose every byte both fences allow (R281). -/
theorem exec_dmaComplete {s : State} {n k : Nat} {d : DmaOp} (hk : k < 8) (hd : (cget [] s.vc.dma n)[k]? = some d) (hdir : d.toHbm = true)
    (hlen : d.laddr + d.len ≤ 0x40000)
    (hf : ∀ i < d.len, s.fenceByte d.core clsDma accR (d.laddr + i) = true ∧ s.fenceByte 260 clsDma accW (d.haddr + i) = true) :
    exec (.dmaComplete n k) s = .next (((State.dmaCopy { s with vc := { s.vc with dma := cput [] ((cget [] s.vc.dma n).eraseIdx k) n s.vc.dma } }
      d.core (spData d.core) d.laddr 260 spHbm d.haddr d.len).setLe (spData d.core + d.daddr + 0x14) 2 0).completeTicket d.core d.tkt 0) := by
  have allowed : (List.range d.len).find? (fun i => !(s.fenceByte d.core clsDma accR (d.laddr + i) &&
      s.fenceByte 260 clsDma accW (d.haddr + i))) = none := by
    rw [List.find?_eq_none]
    intro i hi
    obtain ⟨hr, hw⟩ := hf i (List.mem_range.1 hi)
    simp [hr, hw]
  have fences (v : Cores) : ({ s with vc := v } : State).fenceByte = s.fenceByte := rfl
  refine congrArg done ?_
  rw [State.dmaAt, if_pos hk, hd]
  simp only [areaOf_data hlen, areaAt, hdir, if_true, fences, allowed]

/-- Settles O18: each event in the branch its clause names. -/
theorem coreEventsTakeEffect : Obligations.CoreEventsTakeEffect := by
  intro s c k n code
  dsimp only
  refine ⟨fun ht hd => congrArg done (if_pos (by simp [ht, hd])), fun ht => congrArg done (if_neg (by simp [ht])),
    fun d hk hd hdir hlen _ hf => ⟨_, rfl, exec_dmaComplete hk hd hdir hlen hf⟩,
    fun hruns hi hds hl hw => congrArg done ?_, fun hruns h0 hlt => ⟨_, congrArg done (if_pos ⟨hruns, h0⟩), ?_⟩,
    fun v y hv hy hfill hb hhit => congrArg done ?_, fun hc hst => congrArg done (if_pos ⟨hc, hst⟩),
    fun hc hst => ⟨_, rfl, congrArg done (if_pos ⟨hc, hst⟩)⟩,
    fun hl hst => ⟨_, congrArg done (pageWrite_live _ _ _ hl), ?_⟩, fun hl h1 h3 hds => ⟨_, rfl, congrArg done ((pageWrite_live _ _ _ hl).trans ?_)⟩,
    fun hl hst => congrArg done ((pageWrite_live _ _ _ hl).trans (if_neg (by simp; omega))),
    fun hl => congrArg done ((pageWrite_live _ _ _ hl).trans (if_pos (.inl rfl)))⟩
  · rw [if_pos ⟨hruns, by rw [hi]; rfl⟩, boundary_interrupt hi hds hl hw]
    rfl
  · have reached : (s.setCore c { s.core c with cycle := max (s.core c).cycle (s.core c).tmcmp }).core c =
        { s.core c with cycle := max (s.core c).cycle (s.core c).tmcmp } := core_setCore (coreRuns_st hruns)
    rw [coreCounts_core, reached, ipend_timer]
    exact ⟨Nat.le_max_right _ _, decide_eq_true ⟨h0, Nat.le_max_right _ _⟩⟩
  · simp only [hv, hy, hfill, hb, hhit, ne_eq, not_false_eq_true, and_self, if_true]
  · dsimp only
    rw [if_pos rfl, core_vcCtl, if_pos (.inl hst), core_setCore (by simp)]
  · dsimp only
    rw [core_vcCtl, if_neg (by decide), if_pos ⟨h1, h3⟩, hds, if_neg (by decide)]
    rfl

end Sys2Proof.Machine
end

section
/-!
PROOFS. Fills and key commands of a vault (O19).
-/
namespace Sys2Proof.Machine

section
variable {s : State} {o h : Nat}

/-- A key command of an ounce that is not busy, for a slot of a served zone, acts and leaves its status. -/
theorem keyCmd_acts {f : Nat → State → Nat × State} {code : Nat} {t : State}
    (ht : h = (s.rd (kvReg o 0x204)).toNat ∧ s.fld (kvReg o 0x208) 31 31 = 0 ∧ s.zoneServed (handleZone h) = true ∧
      1 ≤ handleSlot h ∧ handleSlot h < (s.zone (handleZone h)).count) (hf : f h s = (code, t)) :
    s.keyCmd o f = t.keyStat o code (code = 0) := by
  obtain ⟨hh, hbusy, hserved, hlo, hhi⟩ := ht
  have slot : ¬ (handleSlot h = 0 ∨ (s.zone (handleZone h)).count ≤ handleSlot h) := by omega
  unfold State.keyCmd
  rw [← hh]
  simp only [hbusy, hserved, slot, hf, Bool.not_true, Bool.false_eq_true, if_false, Nat.zero_ne_one]

theorem keyWriteRefusal_open (ho : s.keyHold = false ∧ s.isStandby = false) : s.keyWriteRefusal h = 0 := by
  obtain ⟨hhold, hsb⟩ := ho
  simp [State.keyWriteRefusal, hhold, hsb]

theorem kvReg_inj (o a b : Nat) : kvReg o a = kvReg o b ↔ a = b := by simp [kvReg, ra]

theorem rd_keyStat_ne (s : State) (o code off : Nat) (busy : Bool) (hoff : off ≠ 0x208) :
    (s.keyStat o code busy).rd (kvReg o off) = s.rd (kvReg o off) :=
  (rd_setFld_ne _ _ _ _ _ _ (by simpa [kvReg_inj])).trans (rd_setFld_ne _ _ _ _ _ _ (by simpa [kvReg_inj]))

/-- The count of a key's holders depends on memory and on the address of the records alone. -/
theorem refcnt_wrn (s : State) (o off n h : Nat) (hoff : 0x10C < off ∧ off < 0x1000) :
    (s.wrn (kvReg o off) n).refcnt h = s.refcnt h := by
  obtain ⟨hlo, hhi⟩ : kvReg 0 0x108 ≠ kvReg o off ∧ kvReg 0 0x108 + 4 ≠ kvReg o off := by unfold kvReg ra; omega
  have addr : (s.wrn (kvReg o off) n).recAddr h = s.recAddr h := by
    simp only [State.recAddr, State.rd64, rd_wrn_ne _ _ _ _ hlo, rd_wrn_ne _ _ _ _ hhi]
    rfl
  rw [State.refcnt, State.refcnt, addr, State.leAt, State.leAt, bytes_congr (State.wrn_mem s _ n)]

theorem canon_keyStat (hs : s.canon) (code : Nat) (busy : Bool) : (s.keyStat o code busy).canon :=
  State.canon_setFld (State.canon_status hs _ _) _ _ _ _

/-- What READ_ATTR leaves of a record that opens: its state, zone and epoch, its attributes and its count of holders. -/
def State.attrRead (s : State) (o h : Nat) (k : KeyVal) : State :=
  let t := s.wrn (kvReg o 0x210) (recState (s.recBytes h) + 4 * handleZone h + 2 ^ 16 * recEpoch (s.recBytes h))
  let t := (List.range 3).foldl (fun s i => s.wrn (kvReg o (0x214 + 4 * i)) (ofLe (sliceBytes k.attr (4 * i) 4))) t
  t.wrn (kvReg o 0x220) (t.refcnt h)

theorem attrRead_eq (s : State) (o h : Nat) (k : KeyVal) : s.attrRead o h k =
    (((((s.wrn (kvReg o 0x210) (recState (s.recBytes h) + 4 * handleZone h + 2 ^ 16 * recEpoch (s.recBytes h))).wrn
      (kvReg o 0x214) (ofLe (sliceBytes k.attr 0 4))).wrn (kvReg o 0x218) (ofLe (sliceBytes k.attr 4 4))).wrn
      (kvReg o 0x21C) (ofLe (sliceBytes k.attr 8 4))).wrn (kvReg o 0x220) (s.refcnt h)) := by
  unfold State.attrRead
  simp only [List.range, List.range.loop, List.foldl_cons, List.foldl_nil]
  rw [refcnt_wrn _ _ _ _ _ (by omega), refcnt_wrn _ _ _ _ _ (by omega), refcnt_wrn _ _ _ _ _ (by omega), refcnt_wrn _ _ _ _ _ (by omega)]

theorem attrRead_fields (k : KeyVal) (hs : s.canon) (busy : Bool) (code : Nat) :
    ((s.attrRead o h k).keyStat o code busy).fld (kvReg o 0x208) 31 31 = b2n busy ∧
    ((s.attrRead o h k).keyStat o code busy).rd (kvReg o 0x220) = BitVec.ofNat 32 (s.refcnt h) ∧
    ((s.attrRead o h k).keyStat o code busy).rd (kvReg o 0x210) =
      BitVec.ofNat 32 (recState (s.recBytes h) + 4 * handleZone h + 2 ^ 16 * recEpoch (s.recBytes h)) := by
  have c0 := State.canon_wrn hs (kvReg o 0x210) (recState (s.recBytes h) + 4 * handleZone h + 2 ^ 16 * recEpoch (s.recBytes h))
  have c3 := State.canon_wrn (State.canon_wrn (State.canon_wrn c0 (kvReg o 0x214) (ofLe (sliceBytes k.attr 0 4)))
    (kvReg o 0x218) (ofLe (sliceBytes k.attr 4 4))) (kvReg o 0x21C) (ofLe (sliceBytes k.attr 8 4))
  have c4 := State.canon_wrn c3 (kvReg o 0x220) (s.refcnt h)
  rw [attrRead_eq]
  refine ⟨?_, ?_, ?_⟩
  · refine (fld_setFld _ _ _ _ _ (canon_regs (State.canon_status c4 _ _)) (by omega)).trans ?_
    cases busy <;> rfl
  · rw [rd_keyStat_ne _ _ _ _ _ (by omega)]
    exact rd_wr _ _ _ (canon_regs c3)
  · rw [rd_keyStat_ne _ _ _ _ _ (by omega), rd_wrn_ne, rd_wrn_ne, rd_wrn_ne, rd_wrn_ne]
    · exact rd_wr _ _ _ (canon_regs hs)
    all_goals simp [kvReg_inj]

end

/-- Settles O19: each command through what all key commands share, then its own branch. -/
theorem keyCommandsTakeEffect : Obligations.KeyCommandsTakeEffect := by
  intro s o h
  dsimp only
  refine ⟨fun hserved hdom hlo hhi hhold hres hfills => congrArg done ?_, fun hfills hdom hhold => congrArg done ?_,
    fun ht hr => congrArg done ((keyCmd_acts ht (if_pos hr)).trans (by simp)), fun ht hr => ?_,
    fun ht ho hr hgen => congrArg done ?_, fun ht ho hr href => congrArg done ?_, fun ht ho hr href => congrArg done ?_,
    fun ht => congrArg done (keyCmd_acts ht rfl), fun hret => congrArg done ?_⟩
  · simp [hserved, hdom, hlo, hhi, hhold, hres, State.filling, hfills]
  · have dom (v : Vault) : ({ s with vlt := v } : State).domOn (68 + o) = true := hdom
    have hold (v : Vault) : ({ s with vlt := v } : State).keyHold = false := hhold
    simp [hfills, dom, hold]
  · cases hopen : s.openRecord h (s.recBytes h) with
    | none => exact ⟨_, congrArg done ((keyCmd_acts ht ((if_neg hr).trans (by rw [hopen]))).trans rfl), fun _ => rfl, fun k _ hk => by simp at hk⟩
    | some k =>
      refine ⟨(s.attrRead o h k).keyStat o 0 true, congrArg done (keyCmd_acts ht ((if_neg hr).trans ?_)), fun h => by simp at h,
        fun k' hs hk => ?_⟩
      · rw [hopen]
        rfl
      · obtain rfl : k = k' := by simpa using hk
        exact attrRead_fields k hs true 0
  · have e : s.keyWriteRefusal h = 0 := keyWriteRefusal_open ho
    cases hopen : s.openRecord h (s.recBytes h) with
    | none => exact (keyCmd_acts (code := 0x404) (t := s) ht (by simp [e, hr, hopen])).trans rfl
    | some k =>
      by_cases hk : k.retired
      · exact (keyCmd_acts (code := 0) (t := s) ht (by simp [e, hr, hopen, hk])).trans (by simp [hk])
      · exact (keyCmd_acts (code := 0) (t := s.retireKey h k) ht (by simp [e, hr, hopen, hk, hgen])).trans (by simp [hk])
  · exact (keyCmd_acts (code := 0x405) (t := s) ht (by simp [keyWriteRefusal_open ho, hr, href])).trans rfl
  · exact (keyCmd_acts (code := 0) (t := (s.putRecord h (emptyRecord h)).zeroiseKey h) ht
      (by simp [keyWriteRefusal_open ho, hr, href])).trans rfl
  · simp only [hret]

end Sys2Proof.Machine
end

section
/-!
PROOFS. Zone commands and the configuration of a vault (O20).
-/
namespace Sys2Proof.Machine

section
variable {s : State} {o z : Nat}

/-- A zone command of a device that may serve it, with status 0. -/
theorem zoneCmd_done {f : Nat → State → Nat × State} {t : State}
    (ho : z = s.fld (kvReg o 0x140) 5 0 ∧ s.keyHold = false ∧ s.isStandby = false) (hf : f z s = (0, t)) :
    s.zoneCmd o f = t.zoneDone 0 t.zoneBusy := by
  obtain ⟨hz, hhold, hsb⟩ := ho
  unfold State.zoneCmd
  rw [← hz]
  simp only [hhold, hsb, hf, Bool.false_eq_true, false_and, if_false, if_true]

theorem zoneDone_mem (s : State) (code : Nat) (busy : Bool) : (s.zoneDone code busy).mem = s.mem := rfl

theorem zoneDone_vlt (s : State) (code : Nat) (busy : Bool) : (s.zoneDone code busy).vlt = s.vlt := rfl

theorem zone_zoneDone (s : State) (z code : Nat) (busy : Bool) : (s.zoneDone code busy).zone z = s.zone z := by
  rw [State.zone, zoneDone_vlt, State.zone]

theorem zone_haddr (s : State) (z a : Nat) : ({ s with vlt := { s.vlt with haddr := a } } : State).zone z = s.zone z := rfl

/-- A zone that is busy with a transfer reads back as it was written: it is no unused zone. -/
theorem busy_setZone {x : Zone} (h : x.busy ≠ 0) : ((s.setZone z x).zone z).busy = x.busy := by
  have read : (s.setZone z x).zone z = x := tget_tput_new _ _ _ _ (fun e => h (by rw [e]))
  rw [read]

/-- The bases may be written while no zone is started and no context is valid (R362). -/
theorem kvBaseWrite_idle {off : Nat} {v : Reg} (hl : s.pageLive (kvPage o) = true) (hlock : s.lockInForce = false)
    (hst : s.vlt.zones.any (fun e => e.2.started) = false) (hctx : s.validCtxs = [])
    (hv : (if off = 0x108 then decide (getField v 15 0 ≠ 0) else if off = 0x110 then decide (2 ^ 25 < getField v 25 0)
      else if off = 0x118 then decide (getField v 26 0 ≠ 0) else false) = false) :
    s.rwlWrite (kvPage o) (fun s =>
      let bad := if off = 0x108 then decide (getField v 15 0 ≠ 0) else if off = 0x110 then decide (2 ^ 25 < getField v 25 0)
        else if off = 0x118 then decide (getField v 26 0 ≠ 0) else false
      if bad || s.vlt.zones.any (fun e => e.2.started) || s.validCtxs != [] then s.kvRefuse o
      else (s.wrAll tKV off (if off = 0x110 then BitVec.ofNat 32 (getField v 25 0) else v)).took (kvPage o)) =
      (s.wrAll tKV off (if off = 0x110 then BitVec.ofNat 32 (getField v 25 0) else v)).took (kvPage o) := by
  refine (rwlWrite_live _ hl hlock).trans (if_neg ?_)
  simp only [hv, hst, hctx]
  decide

end

/-- Settles O20: each zone command through what all of them share, the rest in the branch its clause names. -/
theorem zoneCommandsTakeEffect : Obligations.ZoneCommandsTakeEffect := by
  intro s o z v
  dsimp only
  refine ⟨fun ho hlc hcount hst hep => congrArg done (zoneCmd_done ho ?_), fun ho hst => congrArg done (zoneCmd_done ho ?_),
    fun ho hbusy hserved hep => congrArg done (zoneCmd_done ho ?_),
    fun ho hbusy hserved => ⟨_, congrArg done (zoneCmd_done (t := { s.setZone z { s.zone z with busy := 4 } with vlt :=
      { (s.setZone z { s.zone z with busy := 4 }).vlt with haddr := s.rd64 (kvReg o 0x158) } }) ho ?_), ?_, congrArg Vault.haddr (zoneDone_vlt _ _ _), zoneDone_mem _ _ _⟩,
    fun ho hbusy hst => ⟨_, congrArg done (zoneCmd_done (t := { s.setZone z { s.zone z with busy := 5 } with vlt :=
      { (s.setZone z { s.zone z with busy := 5 }).vlt with haddr := s.rd64 (kvReg o 0x158) } }) ho ?_), ?_, congrArg Vault.haddr (zoneDone_vlt _ _ _), zoneDone_mem _ _ _⟩,
    fun hre hst hhold hused => ⟨_, rfl, congrArg done ?_⟩, fun hbusy hbm hhold => ⟨_, rfl, fun hused => congrArg done ?_⟩,
    fun ⟨hl, hlock⟩ hz hok => congrArg done ((rwlWrite_live _ hl hlock).trans ?_),
    fun ⟨hl, hlock⟩ hz hok => congrArg done ((rwlWrite_live _ hl hlock).trans ?_),
    fun ⟨hl, hlock⟩ hst hctx => ⟨fun hv => congrArg done (kvBaseWrite_idle hl hlock hst hctx (by simp [hv])),
      fun hv => congrArg done (kvBaseWrite_idle hl hlock hst hctx (by simpa using hv))⟩,
    fun hlock hlo hhi hclr => congrArg done ?_⟩
  · have lc : ¬ (s.zoneLc z ≠ 1 ∧ s.zoneLc z ≠ 2) := by omega
    simp only [lc, hcount, hst, Nat.not_le.2 hep, Bool.false_eq_true, if_false]
  · simp only [hst, Bool.not_true, Bool.false_eq_true, if_false]
  · simp only [hbusy, hserved, Nat.not_le.2 hep, Bool.not_true, Bool.false_eq_true, if_false]
  · simp only [hbusy, hserved, Bool.not_true, Bool.false_eq_true, if_false]
  · exact (congrArg Zone.busy ((zone_zoneDone _ _ _ _).trans (zone_haddr _ _ _))).trans (busy_setZone (x := { s.zone z with busy := 4 }) (by simp))
  · simp only [hbusy, hst, Bool.false_eq_true, if_false]
  · exact (congrArg Zone.busy ((zone_zoneDone _ _ _ _).trans (zone_haddr _ _ _))).trans (busy_setZone (x := { s.zone z with busy := 5 }) (by simp))
  · simp only [hre, hst, hhold, hused, Bool.not_false, and_self, if_true, List.map_nil, List.foldl_nil, List.any_nil, Bool.false_eq_true, if_false]
    rfl
  · have busy : ¬ ((s.zone z).busy = 0 ∨ !s.busMaster ∨ s.keyHold) := by simp [hbusy, hbm, hhold]
    refine (if_neg busy).trans ((if_pos hbusy).trans ?_)
    simp only [hused, List.foldl_nil]
    rfl
  · subst hz
    exact if_pos hok
  · subst hz
    exact if_pos hok
  · have range : ¬ (getField v 4 0 < 10 ∨ 30 < getField v 4 0) := by omega
    simp only [hlock, range, hclr, Bool.false_eq_true, if_false]

end Sys2Proof.Machine
end

section
/-!
PROOFS. Commands on endpoint contexts (O21).
-/
namespace Sys2Proof.Machine

/-- A context with its count of updates stepped (R391). -/
def Ctx.counted (c : Ctx) : Ctx := c.put 12 4 ((c.fld 12 4 + 1) % 2 ^ 32)

/-- A context with the bytes of a STORE block `b` laid over its application part. -/
def Ctx.overlaid (b : List Byte) (c : Ctx) : Ctx :=
  { c with hdr := spliceBytes c.hdr (0x50 + ofLe (sliceBytes b 2 1)) (sliceBytes b 0x10 (ofLe (sliceBytes b 1 1))) }

section
variable {s : State} {o i : Nat}

/-- A context command of an ounce that is not busy leaves its status. -/
theorem ctxCmd_acts {f : State → Nat × State} {code : Nat} {t : State} (hfree : s.fld (kvReg o 0x304) 31 31 = 0) (hf : f s = (code, t)) :
    s.ctxCmd o f = t.ctxStat o code (code = 0) := by
  unfold State.ctxCmd
  simp only [hfree, hf, Nat.zero_ne_one, if_false]

/-- A context of no port clashes with none. -/
theorem bindClash_host {c : Ctx} (h : c.port = 1024) : s.bindClash i c = false := by simp [State.bindClash, h]

theorem ctx_dropCtxOp (s : State) (x : CtxOp) (i : Nat) : (s.dropCtxOp x).ctx i = s.ctx i := rfl

theorem ctxOpOf_single {c t op : Nat} {x : CtxOp} (hops : s.cxs.ops = [x]) (hc : x.core = c) (ht : x.tkt = t)
    (hop : ofLe (x.block.take 1) = op) : s.ctxOpOf c t op = some x := by
  simp [State.ctxOpOf, hops, hc, ht, hop]

section
variable {b : List Byte} (hsb : s.isStandby = false) (hval : (s.ctx i).valid = true)
include hsb hval

theorem ctxUpdate_store (hop : ofLe (sliceBytes b 0 1) = 1) : s.ctxUpdate i b =
    (0, (((s.reachCtx i).modCtx i fun c => (c.overlaid b).counted).ctxDelta i).kvBump (cacheOunce (s.ctx i).cacheOf) 6) := by
  unfold State.ctxUpdate
  simp only [hsb, hval, hop, Bool.not_true, Bool.false_eq_true, if_false, if_true]
  rfl

theorem ctxUpdate_add {n : Nat} {sum : Int} (hop : ofLe (sliceBytes b 0 1) = 2) (hn : n = 0x50 + ofLe (sliceBytes b 2 1))
    (hsum : sum = toSigned64 (((s.reachCtx i).ctx i).fld n 8) + toSigned64 (ofLe (sliceBytes b 0x10 8)))
    (hlo : -(2 ^ 63 : Int) ≤ sum) (hhi : sum < 2 ^ 63) :
    s.ctxUpdate i b = (0, (((s.reachCtx i).modCtx i fun c => (c.put n 8 (ofSigned64 sum)).counted).ctxDelta i).kvBump
      (cacheOunce (s.ctx i).cacheOf) 6) := by
  have range : ¬ (sum < -(2 ^ 63 : Int) ∨ (2 ^ 63 : Int) ≤ sum) := not_or.2 ⟨not_lt.2 hlo, not_le.2 hhi⟩
  unfold State.ctxUpdate
  simp only [hsb, hval, hop, ← hn, ← hsum, range, Bool.not_true, Bool.false_eq_true, if_false, OfNat.ofNat_ne_one]
  rfl

end

end

/-- Settles O21: each context command through what all of them share, then its own branch. -/
theorem contextCommandsTakeEffect : Obligations.ContextCommandsTakeEffect := by
  intro s o i c t x
  dsimp only
  refine ⟨fun hfree hval hport hsb hhost hverd => congrArg done ((ctxCmd_acts (code := 0) hfree ?_).trans rfl),
    fun hfree hval => congrArg done ((ctxCmd_acts (code := 0x408) hfree (if_pos hval)).trans rfl),
    fun hfree hval hport hsci hzone hverd hclash hsb => congrArg done ((ctxCmd_acts (code := 0) hfree ?_).trans rfl),
    fun hfree hval => ⟨_, rfl, congrArg done ((ctxCmd_acts (code := 0) hfree (if_neg (by simp [hval]))).trans rfl)⟩,
    fun hfree hval hsa => congrArg done ((ctxCmd_acts (code := 0) hfree ((if_neg (by simp [hval])).trans (if_neg (by simp [hsa])))).trans rfl),
    fun hfree hval hsa => congrArg done ((ctxCmd_acts (code := 0x40E) hfree ((if_neg (by simp [hval])).trans (if_pos hsa))).trans rfl),
    fun hfree hval => congrArg done ((ctxCmd_acts (code := 0) hfree (if_neg (by simp [hval]))).trans rfl), rfl,
    ⟨_, rfl, rfl, rfl⟩, fun e he hch => congrArg done ?_, fun hops hc ht hsb hval => ⟨_, rfl, fun hop => congrArg done ?_,
      fun hop => congrArg done ?_, fun n hop hn hlo hhi => congrArg done ?_⟩⟩
  · have port : ¬ 1024 < (s.staged o).port := by omega
    simp only [hval, port, hsb, hverd, bindClash_host hhost, hhost, Nat.lt_irrefl, false_and, Bool.false_eq_true, if_false]
  · simp only [hval, hport, hsci, hzone, hverd, hclash, hsb, ne_eq, not_true_eq_false, or_self, Bool.not_true, Bool.false_eq_true,
      false_and, if_false]
  · simp only [he, hch, if_true]
  · simp only [ctxOpOf_single hops hc ht hop]
    rw [ctxUpdate_store (s := s.dropCtxOp x) hsb hval hop, ctx_dropCtxOp]
    simp only [Ctx.counted, Ctx.overlaid]
  · simp only [ctxOpOf_single hops hc ht hop]
    rw [if_neg (by rw [show (s.dropCtxOp x).isStandby = s.isStandby from rfl, hsb]; decide),
      if_neg (by rw [show ((s.dropCtxOp x).ctx x.ctx).valid = (s.ctx x.ctx).valid from rfl, hval]; decide), ctx_dropCtxOp]
  · simp only [ctxOpOf_single hops hc ht hop]
    rw [ctxUpdate_add (s := s.dropCtxOp x) hsb hval hop hn rfl hlo hhi, ctx_dropCtxOp]
    simp only [Ctx.counted]

end Sys2Proof.Machine
end

section
/-!
PROOFS. The operations of the public-key engines (O22).
-/
namespace Sys2Proof.Machine

/-! ### Modular exponentiation -/

/-- Square and multiply computes a power: the running product is below the modulus all the way. -/
theorem modPowLoop_eq (m : Nat) (n b e r : Nat) (he : e < 2 ^ n) (hr : r < m) : modPowLoop m n b e r = r * b ^ e % m := by
  induction n generalizing b e r with
  | zero =>
    obtain rfl : e = 0 := by omega
    simp [modPowLoop, Nat.mod_eq_of_lt hr]
  | succ n ih =>
    have half : e / 2 < 2 ^ n := by omega
    have square (x : Nat) : x * (b * b % m) ^ (e / 2) % m = x * b ^ (2 * (e / 2)) % m := by
      rw [Nat.mul_mod, ← Nat.pow_mod, ← Nat.mul_mod, pow_mul, pow_two]
    rw [modPowLoop]
    split
    · rw [ih _ _ _ half (Nat.mod_lt _ (by omega)), square, Nat.mod_mul_mod, mul_assoc, ← pow_succ']
      congr 3
      omega
    · rw [ih _ _ _ half hr, square]
      congr 3
      omega

theorem modPow_eq (b e m : Nat) (hm : 0 < m) : modPow b e m = b ^ e % m := by
  rw [modPow, modPowLoop_eq _ _ _ _ _ Nat.lt_log2_self (Nat.mod_lt _ hm), Nat.mod_mul_mod, one_mul, ← Nat.pow_mod]

/-! ### Engines, random bytes and blobs -/

section
variable {s t u : State} {o e fn : Nat} {x : PkRun} {f : PkRun → State → PkRes × State}

theorem pkCompute_runs (h : s.pkRun o e = some x ∧ x.fn = fn ∧ x.ready = true ∧ x.computed = false) :
    s.pkCompute o e fn f = match f x s with
      | (.ok out pub, s) => s.setPkRun o e { x with computed := true, status := 0, out := out, pub := pub }
      | (.invalid, s) => s.setPkRun o e { x with computed := true, status := 0x501 }
      | (.unverified, s) => s.setPkRun o e { x with computed := true, status := 0x502 }
      | (.wait, s) => s := by
  obtain ⟨hrun, hfn, hready, hcomp⟩ := h
  unfold State.pkCompute
  simp only [hrun, hfn, hready, hcomp, ne_eq, not_true_eq_false, Bool.true_eq_false, Bool.false_eq_true, or_self, if_false] <;>
    rfl

section
variable (h : s.pkRun o e = some x ∧ x.fn = fn ∧ x.ready = true ∧ x.computed = false)
include h

theorem pkCompute_ok {out pub : List Byte} (hf : f x s = (.ok out pub, t)) :
    s.pkCompute o e fn f = t.setPkRun o e { x with computed := true, status := 0, out := out, pub := pub } := by
  rw [pkCompute_runs h, hf]

theorem pkCompute_invalid (hf : f x s = (.invalid, t)) :
    s.pkCompute o e fn f = t.setPkRun o e { x with computed := true, status := 0x501 } := by
  rw [pkCompute_runs h, hf]

theorem pkCompute_wait (hf : f x s = (.wait, t)) : s.pkCompute o e fn f = t := by
  rw [pkCompute_runs h, hf]

theorem pkCompute_verdict {ok : Bool} (hf : f x s = (verdictOf ok, t)) :
    s.pkCompute o e fn f = if ok = true then t.setPkRun o e { x with computed := true, status := 0, out := [], pub := [] }
      else t.setPkRun o e { x with computed := true, status := 0x502 } := by
  rw [pkCompute_runs h, hf]
  cases ok <;> rfl

end

theorem pkRandom_drawn {n : Nat} {r : List Byte} {k : List Byte → State → PkRes × State} (hd : (s.draw o ((n + 15) / 16)).1 ≠ none)
    (hr : (r, u) = (s.draw o ((n + 15) / 16)).2.freeBytes n) : s.pkRandom o n k = k r u := by
  unfold State.pkRandom
  generalize s.draw o ((n + 15) / 16) = drawn at hd hr ⊢
  obtain ⟨bits, v⟩ := drawn
  cases bits with
  | none => exact absurd rfl hd
  | some bits =>
    dsimp only at hr ⊢
    rw [← hr]

/-- A draw touches the random number service alone. -/
theorem draw_rng (s : State) (i n : Nat) : ∃ d, (s.draw i n).2 = { s with rng := d } := by
  unfold State.draw
  dsimp only
  split
  · exact ⟨s.rng, rfl⟩
  · generalize (if (s.drbg i).buf.length < n then (s.drbg i).fill (if i = 4 then 16 * n else 4096) else s.drbg i) = d
    split
    · exact ⟨s.rng, rfl⟩
    · exact ⟨_, rfl⟩

theorem genReady_draw (s : State) (i n m z : Nat) : ((s.draw i n).2.freeBytes m).2.genReady z = s.genReady z := by
  obtain ⟨d, hd⟩ := draw_rng s i n
  rw [hd]
  rfl

theorem pkBlob_sealed {k : PkKey} {pub : List Byte} (hg : s.genReady x.zone = true) (hl : 48 + k.text.length ≤ x.l 3) :
    s.pkBlob x k pub = (.ok ((s.nextGen x.zone).2.blobSeal x.zone (s.nextGen x.zone).1 k) pub, (s.nextGen x.zone).2) := by
  unfold State.pkBlob
  simp only [hg, Nat.not_lt.2 hl, Bool.not_true, Bool.false_eq_true, if_false]

theorem pkBlob_invalid {k : PkKey} {pub : List Byte} (hg : s.genReady x.zone = true) (hl : x.l 3 < 48 + k.text.length) :
    s.pkBlob x k pub = (.invalid, s) := by
  unfold State.pkBlob
  simp only [hg, hl, Bool.not_true, Bool.false_eq_true, if_false, if_true]

end

/-- The widths of the three curves. -/
theorem curveOf_fw (c : Nat) (hlo : 1 ≤ c) (hhi : c ≤ 3) : 3 * (curveOf c).fw + 1 = blobText (curveKind c) c 0 := by
  obtain rfl | rfl | rfl : c = 1 ∨ c = 2 ∨ c = 3 := by omega
  · rfl
  · rfl
  · rfl

theorem curveKind_nist {c : Nat} (hlo : 1 ≤ c) (hhi : c ≤ 3) : curveKind c = 2 := by
  rw [curveKind, if_neg (by omega), if_pos hhi]

@[simp] theorem beBytes_length (n v : Nat) : (beBytes n v).length = n := by simp [beBytes]

theorem encode_length (c : Curve) (q : EcPoint) : (c.encode q).length = 2 * c.fw + 1 := by
  cases q with
  | none => simp [Curve.encode]
  | some p =>
    simp [Curve.encode]
    omega

theorem nist_of {x : PkRun} (h : 1 ≤ x.curve ∧ x.curve ≤ 3 ∧ x.nbits = 0) : x.nist = true := by
  obtain ⟨hlo, hhi, hbits⟩ := h
  simp [PkRun.nist, hlo, hhi, hbits]

/-- A public key that is read has an odd modulus. -/
theorem rsaPublic_pos {nbits n y : Nat} {b : List Byte} (h : rsaPublic nbits b = some (n, y)) : 0 < n := by
  unfold rsaPublic at h
  dsimp only at h
  split at h
  · rename_i hodd
    obtain ⟨-, hmod, -⟩ := hodd
    obtain ⟨rfl, -⟩ : ofBe (b.take (nbits / 8)) = n ∧ _ := by simpa using h
    omega
  · simp at h

section
variable {s u : State} {o e : Nat} {x : PkRun}

/-- The key that PKGEN makes of 72 random bytes: for a NIST curve the encoded scalar and point, for the others seed and point (R341). -/
theorem exec_pkgen_nist (h : s.pkRun o e = some x ∧ x.fn = 0x40 ∧ x.ready = true ∧ x.computed = false) (hlo : 1 ≤ x.curve)
    (hhi : x.curve ≤ 3) (hbits : x.nbits = 0) (hsize : x.l 2 = 2 * (curveOf x.curve).fw + 1)
    (hroom : 48 + blobText (curveKind x.curve) x.curve 0 ≤ x.l 3) (hg : s.genReady x.zone = true) (hd : (s.draw o 5).1 ≠ none)
    {r priv pub : List Byte} {d : Nat} (hr : (r, u) = (s.draw o 5).2.freeBytes 72) (hdd : d = 1 + ofLe r % ((curveOf x.curve).n - 1))
    (hpriv : priv = beBytes (curveOf x.curve).fw d) (hpub : pub = (curveOf x.curve).encode ((curveOf x.curve).mul d (curveOf x.curve).g)) :
    exec (.pkgen o e) s = .next ((u.nextGen x.zone).2.setPkRun o e { x with
      computed := true, status := 0, pub := pub, out := (u.nextGen x.zone).2.blobSeal x.zone (u.nextGen x.zone).1
        { kind := curveKind x.curve, curve := x.curve, use := if x.pad = 1 then 1 else 4, text := priv ++ pub } }) := by
  have ready : u.genReady x.zone = true := by
    rw [show u = ((s.draw o 5).2.freeBytes 72).2 from congrArg Prod.snd hr, genReady_draw, hg]
  have length : 48 + (priv ++ pub).length ≤ x.l 3 := by
    have text := curveOf_fw x.curve hlo hhi
    rw [hpriv, hpub, List.length_append, beBytes_length, encode_length]
    omega
  have valid : ¬ (x.curve = 0 ∨ 5 < x.curve ∨ x.nbits ≠ 0 ∨ x.l 2 ≠ (if x.curve ≤ 3 then 2 * (curveOf x.curve).fw + 1 else 32) ∨
      x.l 3 < 48 + blobText (curveKind x.curve) x.curve 0) := by
    rw [if_pos hhi]
    omega
  refine congrArg done (pkCompute_ok h ((if_neg valid).trans ((if_neg (by simp [hg])).trans ((pkRandom_drawn (n := 72) hd hr).trans ((if_pos hhi).trans ?_)))))
  dsimp only
  rw [← hdd, ← hpub, ← hpriv, ← curveKind_nist hlo hhi]
  exact pkBlob_sealed ready length

theorem exec_pkgen_25519 (h : s.pkRun o e = some x ∧ x.fn = 0x40 ∧ x.ready = true ∧ x.computed = false) (hlo : 4 ≤ x.curve)
    (hhi : x.curve ≤ 5) (hbits : x.nbits = 0) (hsize : x.l 2 = 32)
    (hroom : 48 + blobText (curveKind x.curve) x.curve 0 ≤ x.l 3) (hg : s.genReady x.zone = true) (hd : (s.draw o 5).1 ≠ none)
    {r pub : List Byte} (hr : (r, u) = (s.draw o 5).2.freeBytes 72)
    (hpub : pub = if x.curve = 4 then edPublic (r.take 32) else x25519Public (r.take 32)) :
    exec (.pkgen o e) s = .next ((u.nextGen x.zone).2.setPkRun o e { x with
      computed := true, status := 0, pub := pub, out := (u.nextGen x.zone).2.blobSeal x.zone (u.nextGen x.zone).1
        { kind := curveKind x.curve, curve := x.curve, use := if x.curve = 4 then 1 else 4, text := r.take 32 ++ pub } }) := by
  have ready : u.genReady x.zone = true := by
    rw [show u = ((s.draw o 5).2.freeBytes 72).2 from congrArg Prod.snd hr, genReady_draw, hg]
  have length : 48 + (r.take 32 ++ pub).length ≤ x.l 3 := by
    have text : blobText (curveKind x.curve) x.curve 0 = 64 := by
      obtain hc | hc : x.curve = 4 ∨ x.curve = 5 := by omega
      · rw [hc]; rfl
      · rw [hc]; rfl
    have drawn : r.length = 72 := by
      rw [show r = ((s.draw o 5).2.freeBytes 72).1 from congrArg Prod.fst hr]
      simp [State.freeBytes]
    have key : pub.length = 32 := by
      rw [hpub]
      split
      · simp [edPublic, edEncode]
      · simp [x25519Public, x25519]
    rw [List.length_append, List.length_take, drawn, key]
    omega
  have valid : ¬ (x.curve = 0 ∨ 5 < x.curve ∨ x.nbits ≠ 0 ∨ x.l 2 ≠ (if x.curve ≤ 3 then 2 * (curveOf x.curve).fw + 1 else 32) ∨
      x.l 3 < 48 + blobText (curveKind x.curve) x.curve 0) := by
    rw [if_neg (by omega)]
    omega
  refine congrArg done (pkCompute_ok h ((if_neg valid).trans ((if_neg (by simp [hg])).trans ((pkRandom_drawn (n := 72) hd hr).trans
    ((if_neg (by omega)).trans ?_)))))
  dsimp only
  rw [← hpub]
  exact pkBlob_sealed ready length

end

/-- Settles O22: each operation on the operands its row allows, in each way its blob and its result can turn out. -/
theorem publicKeyOperationsCompute : Obligations.PublicKeyOperationsCompute := by
  intro s o e x
  dsimp only
  refine ⟨fun n b y h hcurve hlo hhi hmod hl0 hl1 hl2 hl2' hl3 hn hb hy hodd htop hb1 hbn hy1 => congrArg done (pkCompute_ok h ?_),
    fun n y h hkey hcurve hsize hl1 hl2 hs1 hsn => congrArg done ((pkCompute_verdict (t := s) (ok := if x.pad = 0 then
      beBytes (x.nbits / 8) (modPow (ofBe (x.arg 2)) y n) = emsaPkcs1 (x.nbits / 8) (x.arg 1) else
      pssVerify (x.nbits / 8) (x.arg 1) (beBytes (x.nbits / 8) (modPow (ofBe (x.arg 2)) y n))) h ?_).trans ?_),
    fun h hcurve hsize hl1 hl3 hpad => congrArg done ?_,
    fun h hcurve hsize hl1 hl3 hpad hd => ⟨_, _, Prod.mk.eta, ?_⟩,
    fun n y h hkey hcurve hsize hlen hl3 hd => ⟨_, _, Prod.mk.eta, congrArg done (pkCompute_ok h ?_)⟩,
    fun h hcurve hsize hl1 hl3 hc => congrArg done ?_,
    fun q r t h hec hdig hl2 hq hr ht hr1 hrn ht1 htn => congrArg done (pkCompute_verdict h ?_),
    fun h hec hdig hl3 hd => ⟨_, _, Prod.mk.eta, ?_⟩, fun h hec hl3 => congrArg done ?_,
    fun ok h hcurve hbits hl0 hl1 hl2 hok => congrArg done (pkCompute_verdict h ?_),
    fun h hcurve hbits hl1 hl3 => congrArg done ?_, fun h hcurve hbits hl1 hl3 => congrArg done ?_,
    fun h hlo hhi hbits hsize hroom hg hd => ?_, fun h hlo hhi hg => congrArg done ?_, fun h hcurve hrsa hbits hg => congrArg done ?_⟩
  · subst hn hb hy
    have pos : 0 < ofBe (x.arg 0) := by omega
    refine (if_neg ?_).trans (by rw [modPow_eq _ _ _ pos])
    simp only [htop, Bool.not_true, Bool.false_eq_true, false_or]
    omega
  · simp only [hkey]
    exact if_neg (by simp only [hsize, Bool.not_true, Bool.false_eq_true, false_or]; omega)
  · rw [modPow_eq _ _ _ (rsaPublic_pos hkey)]
    by_cases hpad : x.pad = 0
    · simp [hpad]
    · simp [hpad]
  · have valid : ¬ (x.curve ≠ 0 ∨ !rsaSize x.nbits false ∨ x.l 1 ≠ x.hlen ∨ x.l 3 < x.nbits / 8) := by
      simp only [hsize, Bool.not_true, Bool.false_eq_true, false_or]
      omega
    cases hb : s.blobOpen (x.arg 0) x.zone 0 x.nbits 1 with
    | none => exact pkCompute_invalid h (by simp only [hb])
    | some key => exact pkCompute_ok h (by simp only [hb, valid, hpad, if_true, if_false])
  · have valid : ¬ (x.curve ≠ 0 ∨ !rsaSize x.nbits false ∨ x.l 1 ≠ x.hlen ∨ x.l 3 < x.nbits / 8) := by
      simp only [hsize, Bool.not_true, Bool.false_eq_true, false_or]
      omega
    generalize hr : (s.draw o ((x.hlen + 15) / 16)).2.freeBytes x.hlen = p
    obtain ⟨salt, u⟩ := p
    refine congrArg done ?_
    cases hb : s.blobOpen (x.arg 0) x.zone 0 x.nbits 1 with
    | none => exact pkCompute_invalid h (by simp only [hb])
    | some key =>
      dsimp only
      cases hem : emsaPss (x.nbits / 8) (x.arg 1) salt with
      | none => exact pkCompute_invalid h (by simp only [hb, valid, hpad, if_false, pkRandom_drawn hd hr.symm, hem])
      | some em => exact pkCompute_ok h (by simp only [hb, valid, hpad, if_false, pkRandom_drawn hd hr.symm, hem])
  · have valid : ¬ (x.curve ≠ 0 ∨ !rsaSize x.nbits false ∨ x.nbits / 8 < x.l 1 + 2 * x.hlen + 2 ∨ x.l 3 < x.nbits / 8) := by
      simp only [hsize, Bool.not_true, Bool.false_eq_true, false_or]
      omega
    simp only [hkey, valid, if_false, pkRandom_drawn hd Prod.mk.eta]
  · have valid : ¬ (x.curve ≠ 0 ∨ !rsaSize x.nbits false ∨ x.l 1 ≠ x.nbits / 8 ∨ x.l 3 < x.nbits / 8 - 2 * x.hlen - 2 ∨ ofBe (x.arg 1) = 0) := by
      simp only [hsize, Bool.not_true, Bool.false_eq_true, false_or]
      omega
    cases hb : s.blobOpen (x.arg 0) x.zone 0 x.nbits 2 with
    | none => exact pkCompute_invalid h (by simp only [hb])
    | some key =>
      dsimp only
      by_cases hmod : nth 0 (rsaParts key) 5 ≤ ofBe (x.arg 1)
      · rw [if_pos hmod]
        exact pkCompute_invalid h (by simp only [hb, hmod, or_true, if_true])
      · rw [if_neg hmod]
        simp only [← or_assoc] at valid
        cases hm : oaepDecode (x.nbits / 8) x.hlen (beBytes (x.nbits / 8) (rsaPrivate key (ofBe (x.arg 1)))) with
        | none => exact pkCompute_invalid h (by simp only [hb, ← or_assoc, valid, hmod, or_self, if_false, hm])
        | some m => exact pkCompute_ok h (by simp only [hb, ← or_assoc, valid, hmod, or_self, if_false, hm])
  · have valid : ¬ (!x.nist ∨ !digestLen (x.l 1) ∨ x.l 2 ≠ 2 * (curveOf x.curve).fw) := by simp [nist_of hec, hdig, hl2]
    have range : ¬ (r = 0 ∨ (curveOf x.curve).n ≤ r ∨ t = 0 ∨ (curveOf x.curve).n ≤ t) := by omega
    subst hr ht
    simp only [valid, hq, range, if_false]
  · have valid : ¬ (!x.nist ∨ !digestLen (x.l 1) ∨ x.l 3 < 2 * (curveOf x.curve).fw) := by
      simp [nist_of hec, hdig, Nat.not_lt.2 hl3]
    generalize hr : (s.draw o 2).2.freeBytes 32 = p
    obtain ⟨extra, u⟩ := p
    refine congrArg done ?_
    cases hb : s.blobOpen (x.arg 0) x.zone x.curve 0 1 with
    | none => exact pkCompute_invalid h (by simp only [valid, hb, if_false])
    | some key =>
      dsimp only
      cases hsig : (curveOf x.curve).sign key.d (x.arg 1) extra with
      | none => exact pkCompute_wait h (by simp only [valid, hb, if_false, pkRandom_drawn (n := 32) hd hr.symm, hsig])
      | some rt => exact pkCompute_ok h (by simp only [valid, hb, if_false, pkRandom_drawn (n := 32) hd hr.symm, hsig])
  · have valid : ¬ (!x.nist ∨ x.l 3 < (curveOf x.curve).fw) := by simp [nist_of hec, Nat.not_lt.2 hl3]
    cases hb : s.blobOpen (x.arg 0) x.zone x.curve 0 4 with
    | none => exact pkCompute_invalid h (by simp only [valid, hb, if_false])
    | some key =>
      cases hq : (curveOf x.curve).decode (x.arg 1) with
      | none => exact pkCompute_invalid h (by simp only [valid, hb, hq, if_false])
      | some q =>
        dsimp only
        cases hm : (curveOf x.curve).mul key.d (some q) with
        | none => exact pkCompute_invalid h (by simp only [valid, hb, hq, hm, if_false])
        | some p => exact pkCompute_ok h (by simp only [valid, hb, hq, hm, if_false])
  · have valid : ¬ (x.curve ≠ 4 ∨ x.nbits ≠ 0 ∨ x.l 0 ≠ 32 ∨ 65536 < x.l 1 ∨ x.l 2 ≠ 64) := by omega
    simp only [valid, hok, if_false]
  · have valid : ¬ (x.curve ≠ 4 ∨ x.nbits ≠ 0 ∨ 65536 < x.l 1 ∨ x.l 3 < 64) := by omega
    cases hb : s.blobOpen (x.arg 0) x.zone 4 0 1 with
    | none => exact pkCompute_invalid h (by simp only [valid, hb, if_false])
    | some key => exact pkCompute_ok h (by simp only [valid, hb, if_false])
  · have valid : ¬ (x.curve ≠ 5 ∨ x.nbits ≠ 0 ∨ x.l 1 ≠ 32 ∨ x.l 3 < 32) := by omega
    cases hb : s.blobOpen (x.arg 0) x.zone 5 0 4 with
    | none => exact pkCompute_invalid h (by simp only [valid, hb, if_false])
    | some key =>
      dsimp only
      by_cases hz : (x25519 (key.text.take 32) (x.arg 1)).all (· = 0) = true
      · rw [if_pos hz]
        exact pkCompute_invalid h (by simp only [valid, hb, hz, if_false, if_true])
      · rw [if_neg hz]
        exact pkCompute_ok h (by simp only [valid, hb, hz, Bool.false_eq_true, if_false])
  · obtain hc | hc | hc : x.curve ≤ 3 ∨ x.curve = 4 ∨ x.curve = 5 := by omega
    · rw [if_pos hc] at hsize
      exact ⟨_, _, _, _, _, _, _, _, Prod.mk.eta, Prod.mk.eta, rfl, fun _ => ⟨rfl, rfl, rfl⟩, fun h4 => by omega, fun h5 => by omega,
        exec_pkgen_nist h hlo hc hbits hsize hroom hg hd Prod.mk.eta rfl rfl rfl⟩
    · rw [if_neg (by omega)] at hsize
      exact ⟨_, _, _, _, _, _, 1, _, Prod.mk.eta, Prod.mk.eta, rfl, fun h3 => by omega, fun _ => ⟨rfl, rfl, rfl⟩, fun h5 => by omega,
        (exec_pkgen_25519 h (by omega) hhi hbits hsize hroom hg hd Prod.mk.eta (if_pos hc).symm).trans (by rw [if_pos hc])⟩
    · rw [if_neg (by omega)] at hsize
      exact ⟨_, _, _, _, _, _, 4, _, Prod.mk.eta, Prod.mk.eta, rfl, fun h3 => by omega, fun h4 => by omega, fun _ => ⟨rfl, rfl, rfl⟩,
        (exec_pkgen_25519 h (by omega) hhi hbits hsize hroom hg hd Prod.mk.eta (if_neg (by omega)).symm).trans (by rw [if_neg (by omega)])⟩
  · have valid : ¬ (x.l 1 < 16 ∨ 4096 < x.l 1) := by omega
    cases hk : pkImportKey x with
    | none => exact pkCompute_invalid h (by simp only [valid, hk, if_false])
    | some key =>
      by_cases hl : x.l 3 < 48 + key.text.length
      · exact (pkCompute_invalid h (by simp only [valid, hk, if_false, pkBlob_invalid hg hl])).trans (if_pos hl).symm
      · exact (pkCompute_ok h (by simp only [valid, hk, if_false, pkBlob_sealed hg (Nat.not_lt.1 hl)])).trans (if_neg hl).symm
  · have valid : ¬ (5 < x.curve ∨ (x.curve = 0 ∧ !rsaSize x.nbits false) ∨ (x.curve ≠ 0 ∧ x.nbits ≠ 0)) := by
      rintro (h5 | ⟨h0, hs⟩ | ⟨h0, hb⟩)
      · omega
      · simp [hrsa h0] at hs
      · exact hb (hbits h0)
    cases hb : s.blobOpen (x.arg 0) x.zone x.curve x.nbits 7 with
    | none => exact pkCompute_invalid h (by simp only [valid, hb, if_false])
    | some key =>
      by_cases hl : x.l 3 < 48 + key.text.length
      · exact (pkCompute_invalid h (by simp only [valid, hb, if_false, pkBlob_invalid hg hl])).trans (if_pos hl).symm
      · exact (pkCompute_ok h (by simp only [valid, hb, if_false, pkBlob_sealed hg (Nat.not_lt.1 hl)])).trans (if_neg hl).symm

end Sys2Proof.Machine
end

section
/-!
PROOFS. The queues, engines and configuration of the public-key engines (O23).
-/
namespace Sys2Proof.Machine

theorem pkProd_holds {s : State} {o q n : Nat}
    (hroom : (n % 65536 + 65536 - s.fld (pkQ o q 0x14) 15 0) % 65536 ≤ 2 ^ s.fld (pkQ o q 0) 7 4) :
    s.pkProd o q n = s.setFld (pkQ o q 0x10) 15 0 n :=
  if_neg (Nat.not_lt.2 hroom)

/-- A doorbell is the store of eight bytes at its offset of the cluster's window. -/
theorem storeArrives_doorbell {s : State} {c a r k off : Nat} {bs : List Byte} (hoff : a - 0x1000000 = off) (hmb : inMailbox off = false)
    (hk : k < 4) (hat : off = 0x97F000 + 8 * k) (hlen : bs.length = 8)
    (hf : s.fenceFail (256 + c / 32) (clsRing r) accW off 8 = none) :
    s.storeArrives c a bs r = s.pkProd (c / 32) (4 + k) (ofLe bs) := by
  have inside : 0x97F000 ≤ off ∧ off < 0x97F020 ∧ bs.length = 8 := by omega
  have index : (off - 0x97F000) / 8 = k := by omega
  unfold State.storeArrives
  extract_lets o off' f
  have same : off' = off := hoff
  clear_value off'
  subst same
  rw [show s.fenceFail f (clsRing r) accW off' bs.length = none from hlen ▸ hf, hmb]
  exact (if_neg (by decide)).trans ((if_pos inside).trans (by rw [index]; rfl))

theorem pkChecks_noShape {s : State} {o : Nat} {x : PkRun} (h : pkShape x.fn = none) : s.pkChecks o x = (.error 0x507, s) := by
  unfold State.pkChecks
  rw [h]

/-- Settles O23: each command in the branch its clause names. -/
theorem publicKeyEnginesTakeCommands : Obligations.PublicKeyEnginesTakeCommands := by
  intro s o e q k n v w x
  dsimp only
  refine ⟨fun hroom => congrArg (fun t => done (State.took t _)) (pkProd_holds hroom), fun hk hruns hf => congrArg done ?_,
    fun t key u hhold hdom hretry hon hq hx hsp hchecks hassign hu => congrArg done ?_,
    fun u hhold hdom hretry hon hq hx hsp hshape hu => congrArg done ?_,
    fun arg hrun hready hbm harg => congrArg done ?_, fun hrun hcomp => congrArg done ?_,
    fun hrun hcomp hretried he2 htest => ⟨_, rfl, congrArg done ?_⟩, fun hdom hseal htest => congrArg done ?_,
    fun hdom hlen => congrArg done ?_, fun hdom hlen hfind => congrArg done ?_,
    fun htest hbusy => ⟨_, rfl, congrArg done ?_, congrArg done ?_⟩, fun hlock h31 h1 => congrArg done ?_,
    fun hoff hlo hhi hsp => congrArg done ?_, fun hoff => ⟨congrArg done ?_, congrArg done ?_⟩,
    fun z hl hlock hz hepoch => congrArg done ((rwlWrite_live _ hl hlock).trans ?_)⟩
  · rw [hruns, if_pos rfl]
    have window : inMailbox (0x97F000 + 8 * k) = false := decide_eq_false (by unfold mbOffset; omega)
    rw [storeArrives_doorbell (a := 0x1000000 + 0x97F000 + 8 * k) (by omega) window hk rfl (by simp) hf, ofLe_leBytes]
    exact congrArg _ (Nat.mod_eq_of_lt w.isLt)
  · subst hu
    simp only [hhold, hdom, hretry, hon, hq, ← hx, hsp, hchecks, hassign, Bool.not_true, Bool.or_self, Bool.false_eq_true, if_false,
      List.find?_nil, decide_false, Bool.false_and, one_ne_zero]
    simp [State.pkStart]
  · subst hu
    simp only [hhold, hdom, hretry, hon, hq, ← hx, hsp, pkChecks_noShape hshape, Bool.not_true, Bool.or_self, Bool.false_eq_true, if_false,
      List.find?_nil, decide_false, Bool.false_and, one_ne_zero]
    simp [hretry]
  · have bus : (((List.range 4).any fun i => decide (x.a i / 2 ^ 62 = 1)) && !s.busMaster) = false := by
      rcases hbm with hbm | hno
      · rw [hbm, Bool.not_true, Bool.and_false]
      · rw [List.any_eq_false.2 fun i hi => by simpa using hno i (List.mem_range.1 hi), Bool.false_and]
    simp only [hrun, hready, bus, Bool.or_self, Bool.false_eq_true, if_false, ← harg]
    rfl
  · simp only [hrun, hcomp, Bool.not_true, Bool.false_eq_true, if_false, if_true]
  · simp only [hrun, hcomp, hretried, he2, Bool.not_true, Bool.false_eq_true, if_false, if_true, true_or]
    simp [State.pkBump, htest]
  · simp only [hdom, hseal, htest, Bool.not_true, Bool.false_eq_true, if_false, if_true]
  · simp only [hdom, hlen, Bool.not_true, Bool.false_eq_true, if_false, if_true]
  · simp only [hdom, Nat.not_lt.2 hlen, hfind, Bool.not_true, Bool.false_eq_true, if_false]
  · simp only [htest, hbusy, Bool.not_true, Bool.or_self, Bool.false_eq_true, if_false, if_true]
  · simp only [htest, hbusy, Bool.not_true, Bool.or_self, Bool.false_eq_true, if_false]
  · have allowed : (bitAt v 1 && decide (s.silicon ≠ 0) && decide (s.silicon ≠ 1)) = false := by
      rcases h1 with h | h | h <;> simp [h]
    have silicon : ((s.setFld (pkReg o 0x100) 0 0 (getField v 0 0)).took (pkPage o)).silicon = s.silicon := by simp [State.silicon]
    simp only [hlock, h31, Bool.false_eq_true, if_false, silicon, allowed]
  · simp only [hoff, if_true, zero_ne_one, false_and, false_or]
    rw [if_neg (by omega)]
  · simp [hoff]
  · simp [hoff]
  · subst hz
    exact if_neg (Nat.not_lt.2 hepoch)

end Sys2Proof.Machine
end

section
/-!
PROOFS. The mirror stream and checkpoints (O25).
-/
namespace Sys2Proof.Machine

section
variable {s u : State} {b : List Byte}

theorem acceptEntry_next {x : Strand} (hk : beAt b 2 1 < 16) (hx : x = u.strand (beAt b 2 1)) (hseq : beAt b 4 8 = x.seq + 1) :
    u.acceptEntry b = (u.setStrand (beAt b 2 1)
      { x with seq := x.seq + 1, toVerify := x.toVerify ++ [b],
               genesisSeen := x.genesisSeen || decide (beAt b 1 1 = 4) && decide (beAt b 0x30 1 = 1) }).linkSend 0 2 0 [] := by
  subst hx
  unfold State.acceptEntry
  rw [Nat.mod_eq_of_lt hk, hseq]
  exact if_pos ⟨hk, rfl⟩

theorem acceptEntry_gap (hk : beAt b 2 1 < 16) (hseq : beAt b 4 8 ≠ (u.strand (beAt b 2 1)).seq + 1) : u.acceptEntry b = u.mirrorFault := by
  unfold State.acceptEntry
  rw [Nat.mod_eq_of_lt hk]
  exact if_neg fun h => hseq h.2

theorem verifyOne_chained {k : Nat} {e : List Byte} {es : List (List Byte)} (hv : (s.strand k).toVerify = e :: es)
    (hchain : sha384 (s.chainAt k (s.strand k).verified ++ e.take 0xD0) = e.drop 0xD0) :
    s.verifyOne k = ((s.setBytes (s.entryAddr k (beAt e 4 8)) e).setStrand k
      { s.strand k with toVerify := es, chain := e.drop 0xD0, verified := beAt e 4 8,
                        heads := ((beAt e 4 8, e.drop 0xD0) :: (s.strand k).heads).take 64 }).ringLeave k := by
  unfold State.verifyOne
  simp only [hv, hchain, if_true]

/-- What the seal record of a fresh seal leaves: the record is the seal's next, and it goes out on the export ring. -/
def sealAccepted (u : State) (o : Nat) (b : List Byte) : State :=
  (List.range 4).foldl (fun s k => s.setStrand (4 * o + k) { s.strand (4 * o + k) with genesisSeen := false })
    ((u.setSeal o { u.sealOf o with no := beAt b 4 8, prev := u.sealDigest (b.take 0x70), out := (u.sealOf o).out ++ [b],
                                    fresh := false }).wr64 (jnReg o 0x300) (beAt b 4 8))

theorem seals_setStrands (f : Nat → State → Strand) (g : Nat → Nat) (l : List Nat) (s : State) :
    (l.foldl (fun s k => s.setStrand (g k) (f k s)) s).jn.seals = s.jn.seals := by
  induction l generalizing s with
  | nil => rfl
  | cons k l ih => exact ih _

theorem sealOf_setSeal {o : Nat} {x : Seal} (hx : x ≠ {}) : (s.setSeal o x).sealOf o = x := tget_tput_new _ _ _ _ hx

theorem sealOf_sealAccepted (o : Nat) : (sealAccepted u o b).sealOf o =
    { u.sealOf o with no := beAt b 4 8, prev := u.sealDigest (b.take 0x70), out := (u.sealOf o).out ++ [b], fresh := false } := by
  have seals : (sealAccepted u o b).jn.seals = _ := seals_setStrands _ _ _ _
  rw [State.sealOf, seals]
  exact sealOf_setSeal fun h => by simpa using congrArg Seal.out h

theorem acceptSeal_fresh {o : Nat} (ho : o = beAt b 2 1 % 4) (hfresh : (u.sealOf o).fresh = true)
    (hheads : ∀ i < 4, beAt b (0x20 + 8 * i) 8 ≤ (u.strand (4 * o + i)).seq) :
    u.acceptSeal b = (sealAccepted u o b).linkSend 0 2 0 [] := by
  have heads : ((List.range 4).all fun k => decide (beAt b (0x20 + 8 * k) 8 ≤ (u.strand (4 * o + k)).seq)) = true :=
    List.all_eq_true.2 fun i hi => decide_eq_true (hheads i (List.mem_range.1 hi))
  unfold State.acceptSeal
  simp only [← ho, hfresh, heads, Bool.true_or, Bool.and_self, if_true]
  rfl

/-- A step that changes no part of the journal. It has a name because the kernel would unfold a journal that is written out as a field. -/
def KeepsJournal (s t : State) : Prop := t.jn = s.jn

theorem KeepsJournal.applyStone (i : Nat) : KeepsJournal s (s.applyStone i b) := by
  unfold State.applyStone
  split
  · exact rfl
  · exact rfl

theorem KeepsJournal.zeroiseKey (h : Nat) (hu : KeepsJournal s u) : KeepsJournal s (u.zeroiseKey h) := hu

theorem KeepsJournal.applyKey (i : Nat) : KeepsJournal s (s.applyKey i b) := by
  have e : State.applyKey = State.applyKey := rfl
  conv at e => rhs; delta State.applyKey
  rw [e]
  beta_reduce
  extract_lets a r
  have kept : KeepsJournal s r := State.setBytes_jn ..
  clear_value r
  split
  · exact kept.zeroiseKey _
  · exact kept

/-- A delta of a stone, a key or a ceiling changes no part of the journal. -/
theorem KeepsJournal.applyDelta (h : beAt b 8 1 ≠ 3) : KeepsJournal s (s.applyDelta b) := by
  unfold State.applyDelta
  split
  · exact .applyStone _
  · exact .applyKey _
  · contradiction
  · exact rfl
  · exact rfl

end

/-- Settles O25: each frame in the branch its clause names. -/
theorem mirrorAndCheckpointsTakeEffect : Obligations.MirrorAndCheckpointsTakeEffect := by
  intro s u k t q w b m ms
  dsimp only
  refine ⟨fun hin hun => congrArg done ?_, fun x hin hopen hkind hk hx hseq => congrArg done ?_,
    fun hin hopen hkind hk hseq => congrArg done ?_, fun e es x hst hx hv hchain => congrArg done ?_,
    fun o x hin hopen hkind ho hx hfresh hheads => ⟨sealAccepted u o b, congrArg done ?_, congrArg done ?_, hx ▸ sealOf_sealAccepted o⟩,
    fun r hin hopen hrec hkind hseq hact => congrArg done ?_, fun hst hper => congrArg done (if_pos ⟨hst, hper⟩),
    fun hin hkind hopen hact hseg hnext hepoch => congrArg done ?_, fun hin hkind hopen hact hseg hnext => congrArg done ?_,
    fun y hin hkind hopen hact hepoch hseg hlen hsha hy => congrArg done ?_⟩
  · simp only [hin, hun]
  · simp only [hin, hopen, hkind, Bool.not_true, Bool.false_eq_true, if_false]
    exact acceptEntry_next hk hx hseq
  · simp only [hin, hopen, hkind, Bool.not_true, Bool.false_eq_true, if_false]
    exact acceptEntry_gap hk hseq
  · subst hx
    exact (if_pos hst).trans (verifyOne_chained hv hchain)
  · subst hx
    simp only [hin, hopen, hkind, if_true]
    exact acceptSeal_fresh ho hfresh hheads
  · subst hx
    simp only [hin, hopen, hkind, Bool.not_true, Bool.false_eq_true, if_false, if_true]
    exact acceptSeal_fresh ho hfresh hheads
  · simp only [hin, hopen, hrec, hkind, hseq, Bool.not_true, Bool.false_eq_true, if_false, if_true, List.any_cons, List.any_nil,
      decide_false, Bool.false_and, Bool.or_self, List.foldl_cons, List.foldl_nil]
    have kept (v : State) (h : v.jn.rx = u.jn.rx) : (v.applyDelta r).jn.rx.active = false := by
      have same : (v.applyDelta r).jn = v.jn := KeepsJournal.applyDelta hkind
      rw [same, h, hact]
    have quiet : (State.applyDelta (State.wr64 { u with jn := { u.jn with dseq := beAt r 0 8 } } (twReg 0x120) (beAt r 0 8)) r).jn.rx.active =
        false := kept _ rfl
    rw [if_neg fun h => Bool.false_ne_true (quiet.symm.trans h.1)]
    rfl
  · simp [hin, hkind, hopen, hact, hnext, hepoch, Nat.one_le_iff_ne_zero.1 hseg]
  · simp [hin, hkind, hopen, hact, hnext, Nat.one_le_iff_ne_zero.1 hseg]
  · subst hy
    simp [hin, hkind, hopen, hact, hepoch, hseg, hlen, hsha]

end Sys2Proof.Machine
end

section
/-!
PROOFS. How the partners meet and lose each other (O26).
-/
namespace Sys2Proof.Machine

section
variable {s : State} {act same : Bool}

/-- A standby that waits for the partner's stream from its start. -/
def State.idles (s : State) : State := State.setTwState { s with jn := { s.jn with rx := {}, shadow := [] } } 8

theorem twState_jn (v : Journal) : ({ s with jn := v } : State).twState = s.twState := rfl

theorem afterProbe_synced (answered : Bool) (hst : s.twState = 10 ∨ s.twState = 11) :
    s.afterProbe answered act same =
      if act then (State.verifyAll { s with jn := { s.jn with probing := false } }).idles
      else State.promote { s with jn := { s.jn with probing := false } } := by
  unfold State.afterProbe
  simp only [twState_jn, hst, if_true]
  rfl

theorem afterProbe_silent (hst : s.twState = 8 ∨ s.twState = 9) :
    s.afterProbe false act same = (State.idles { s with jn := { s.jn with probing := false } }).twStatus 0x60B := by
  have unsynced : ¬ (s.twState = 10 ∨ s.twState = 11) := by omega
  unfold State.afterProbe
  simp only [twState_jn, unsynced, hst, if_true, if_false, Bool.false_eq_true]
  rfl

end

/-- Settles O26: each event in the branch its clause names. -/
theorem partnersMeetAndLoseEachOther : Obligations.PartnersMeetAndLoseEachOther := by
  intro s u t q w st k b p
  dsimp only
  refine ⟨fun hup hlock hcut hprep => congrArg done (if_pos ⟨hup, by simp [hlock], by simp [hcut], by simp [hprep]⟩),
    fun hlock => congrArg done (if_neg fun h => by simp [hlock] at h),
    fun hin hgone hup hact => congrArg done ?_, fun hin hgone hup hlo hhi hwas1 hwas2 hst => congrArg done ?_,
    fun hup hgone => congrArg done (if_pos ⟨hup, by simp [hgone]⟩),
    fun hprobe hst => congrArg done ((if_pos hprobe).trans ?_),
    fun hprobe hst => congrArg done ((if_pos hprobe).trans ?_),
    fun e g y r hin hprobe hsrc hy hst hrole hlocked => congrArg done ?_,
    fun hup hwidth hlost hkey => congrArg done (if_neg ?_),
    fun y hin hop hy hlo hhi => ⟨fun hrole hgen => congrArg done ?_, fun hrole hst => congrArg done ?_⟩⟩
  · have inactive (v : Journal) : ({ u with jn := v } : State).twActive = false := hact
    simp [hin, hgone, hup, inactive]
  · have twSt (v : Journal) : ({ u with jn := v } : State).twState = u.twState := rfl
    have active (v : Journal) : ({ u with jn := v } : State).twActive = true := decide_eq_true ⟨hlo, by rw [twSt]; omega⟩
    have ready : u.twState ≠ 4 := by omega
    have left : 9 ≤ u.jn.partState ∧ u.jn.partState ≤ 11 ∧ ¬ (9 ≤ st ∧ st ≤ 11) := by omega
    have heard : ¬ (u.jn.gone = true ∨ (!u.jn.link.up) = true) := by simp [hgone, hup]
    simp only [hin, if_neg heard, active, twSt, ready, Bool.not_true, Bool.false_eq_true, or_self, if_false, if_pos left]
  · rw [afterProbe_synced _ hst, if_neg Bool.false_ne_true]
  · rw [afterProbe_silent hst]
    rfl
  · have synced (v : Journal) : State.twState { u with jn := v } = 10 ∨ State.twState { u with jn := v } = 11 := hst
    have acts : (decide (beAt (ringBody r) 0 1 = 1) && !decide (beAt (ringBody r) 2 1 % 2 = 1)) = true := by simp [hrole, hlocked]
    have heard : ¬ ((!u.jn.probing) = true ∨ ringSrc r ≠ u.partner) := by simp [hprobe, hsrc]
    simp only [hin, if_neg heard]
    rw [afterProbe_synced _ (synced _), if_pos acts, ← hy]
    rfl
  · simp [hup, hlost, hkey]
    omega
  · have active : y.twState = 1 ∨ y.twState = 2 ∨ y.twState = 3 := by omega
    simp only [hin, hop, ne_eq, not_true_eq_false, if_false, ← hy]
    rw [if_pos active, if_pos hrole]
    rcases Nat.lt_or_eq_of_le hgen with h | h
    · rw [if_pos h]
    · rw [if_neg (by omega), if_pos h]
  · have active : y.twState = 1 ∨ y.twState = 2 ∨ y.twState = 3 := by omega
    simp only [hin, hop, ne_eq, not_true_eq_false, if_false, ← hy]
    rw [if_pos active, if_neg (by omega), if_pos ⟨hrole, hst⟩]

end Sys2Proof.Machine
end

section
/-!
PROOFS. The frame of a swap that ends (O27): its interrupt is a message, which a device whose vector is not masked writes to the memory of
the host.
-/
namespace Sys2Proof.Machine

/-- A fold whose steps leave the state or bring `P` about leaves the state or brings `P` about. -/
theorem foldl_stays {β : Type} {P : State → Prop} {f : State → β → State} (hf : ∀ s b, f s b = s ∨ P (f s b)) (l : List β) (s : State) :
    l.foldl f s = s ∨ P (l.foldl f s) := by
  induction l generalizing s with
  | nil => exact .inl rfl
  | cons b l ih =>
    rw [List.foldl_cons]
    rcases hf s b with stays | brought
    · rw [stays]
      exact ih s
    · rcases ih (f s b) with stays | brought'
      · rw [stays]
        exact .inr brought
      · exact .inr brought'

theorem oput_ne_nil {α : Type} (v : α) (k : Nat) (t : Tbl α) : oput v k t ≠ [] := by
  cases t with
  | nil => simp [oput]
  | cons e t =>
    rw [oput]
    split_ifs <;> simp

/-- A standby that forwards a queued message has an entry for it, or a full table. -/
theorem forwardQueued_stays (s : State) : s.forwardQueued = s ∨ s.forwardQueued.vp.fwd ≠ [] := by
  refine foldl_stays (P := fun t => t.vp.fwd ≠ []) (fun t o => foldl_stays (P := fun t => t.vp.fwd ≠ []) (fun t m => ?_) _ t) _ s
  split
  · right
    dsimp only
    split
    · next full =>
      have taken := List.find?_eq_none.1 full 0 (by simp)
      simp only [State.errInfo_vp, State.vmBump, State.bump_vp]
      intro empty
      rw [empty] at taken
      exact taken rfl
    · simp only [State.vmBump, State.bump_vp, State.sendFwd]
      exact oput_ne_nil _ _ _
  · exact .inl rfl

/-- A device that drains for a swap of generation 0, its partner's DONE at the head of the link; the vector of the twin's page is not masked
and writes 1 to address 0 of the host. -/
def swapEnding : State :=
  { State.reset with
    regs := [(ra tTW 0 0x014, 0x20), (twReg 0x104, 4), (ra tHI 0 0x100, 0x200), (bar4 + 16 * pageVector twPage + 8, 1),
             (bar4 + 16 * pageVector twPage + 12, 0)]
    dom := [(72, 2)]
    mem := []
    jn := { swapG := some 0, link := { inbox := [(6, 0, 0, [4])] } } }

/-- Refutes O27: the end of the swap writes the message of its interrupt into memory. -/
theorem not_swapsAndTwinCommandsTakeEffect : ¬ Obligations.SwapsAndTwinCommandsTakeEffect := by
  unfold Obligations.SwapsAndTwinCommandsTakeEffect
  intro h
  obtain ⟨u, taken, hst, hswap, hmem⟩ : ∃ u, swapEnding.takeSwap 4 = some ((0, 0), u) ∧ u.twState = 4 ∧ u.jn.swapG = some 0 ∧ u.mem = [] :=
    ⟨_, rfl, by decide +kernel, by decide +kernel, rfl⟩
  obtain ⟨t, ht, hfwd, hwritten⟩ : ∃ t, exec .swapDoneRx swapEnding = .next t ∧ t.vp.fwd.isEmpty = true ∧ t.mem ≠ [] :=
    ⟨_, rfl, by decide +kernel, by decide +kernel⟩
  obtain ⟨-, -, -, -, -, ended, -⟩ := h swapEnding u 0 0 0
  obtain ⟨y, hy, -, -, -, -, same⟩ := ended taken hst hswap
  obtain rfl : t = y.forwardQueued := by simpa using ht.symm.trans hy
  have stays : y.forwardQueued = y := (forwardQueued_stays y).resolve_right fun full => full (List.isEmpty_iff.1 hfwd)
  rw [stays, same, hmem] at hwritten
  exact hwritten rfl

end Sys2Proof.Machine
end

section
/-!
PROOFS. The states of the ring, its keys and its presence (O28).
-/
namespace Sys2Proof.Machine

section
variable {s : State} {b : Nat}

/-! ### What an interrupt of a later page leaves alone -/

theorem rd_irqFollow_below (p old : Nat) (h : b < pra p 0x40) (hb : b < bar4 + 0x8000) : (s.irqFollow p old).rd b = s.rd b :=
  rd_ite ((rd_sendVector _ _ _ hb).trans (rd_event_below _ _ _ _ _ _ _ h)) rfl

theorem rd_irq_below (p bit : Nat) (h : b < pra p 0x010) (hb : b < bar4 + 0x8000) : (s.irq p bit).rd b = s.rd b := by
  have raw : b ≠ pra p 0x010 := Nat.ne_of_lt h
  have events : b < pra p 0x40 := h.trans (by unfold pra; omega)
  refine rd_ite ?_ rfl
  rw [State.rawSet, rd_irqFollow_below _ _ events hb, rd_event_below _ _ _ _ _ _ _ events, rd_setFld_ne _ _ _ _ _ _ raw]

/-- The ring's state lies in the ring's page. -/
theorem rd_setRingState_below (v : Nat) (h : b < ra tCR 0 0) : (s.setRingState v).rd b = s.rd b := by
  have own : b ≠ crReg 0x104 := by unfold crReg ra at *; omega
  have page : b < pra crPage 0x010 := h.trans (by decide)
  have bars : b < bar4 + 0x8000 := h.trans (by decide)
  have stored : (((s.setFld (crReg 0x104) 3 0 v).setCrStat 4 (decide (1 ≤ v ∧ v ≤ 3)))).rd b = s.rd b :=
    (rd_setFld_ne _ _ _ _ _ _ own).trans (rd_setFld_ne _ _ _ _ _ _ own)
  exact rd_ite stored ((rd_irq_below _ _ page bars).trans stored)

theorem lnState_setRingState (v n : Nat) (hn : n = 1032 ∨ n = 1033) : (s.setRingState v).lnState n = s.lnState n := by
  have below : lnReg n 0x04 < ra tCR 0 0 := by rcases hn with rfl | rfl <;> decide
  rw [State.lnState, State.fld, rd_setRingState_below _ below]
  rfl

end

/-- Settles O28: each command and event in the branch its clause names. -/
theorem ringStatesFollowTheirTable : Obligations.RingStatesFollowTheirTable := by
  intro s u l p m
  dsimp only
  refine ⟨fun hst hkey h0 h1 => congrArg done ?_, fun hst hkey => congrArg done ?_, fun hst => congrArg done (if_pos hst),
    fun hst => congrArg done (if_neg hst), rfl, fun hst => congrArg done (if_pos hst), fun hst => congrArg done (if_pos hst),
    fun hst h0 h1 => congrArg done (if_pos ⟨hst, h0, h1⟩), fun harm => congrArg done (if_pos harm),
    fun harm hsw => ⟨_, congrArg done (if_pos ⟨harm, hsw⟩), rfl, rfl, rfl, rfl, fun hc => ⟨?_, ?_⟩⟩,
    fun hst hcfg hsync hup => congrArg done (if_pos ⟨hst, hcfg, by simp [hsync], ?_⟩),
    fun hsync h9 h8 => congrArg done (if_pos ⟨hsync, by simp [h9], by simp [h8]⟩), fun h8 => congrArg done (if_pos h8),
    fun hst hl hseg => congrArg done (if_pos ⟨hst, hl, by simp [hseg]⟩), fun hst => congrArg done (if_pos hst),
    fun hin hsrc hleave hknown => congrArg done ?_, fun hin hsrc hleave => congrArg done ?_, rfl⟩
  · have off : ¬ (1 ≤ s.ringState ∧ s.ringState ≤ 3) := by omega
    have waits (n : Nat) (hn : n = 1032 ∨ n = 1033) :
        (State.setRingState { s with cr := { s.cr with gotSync := false } } 1).lnState n ≠ 4 := by
      rw [lnState_setRingState _ _ hn]
      rcases hn with rfl | rfl
      · exact h0
      · exact h1
    rw [if_neg off, if_neg hkey]
    simp only [List.range_succ, List.range_zero, List.nil_append, List.cons_append, List.foldl_cons, List.foldl_nil, Nat.add_zero,
      Nat.reduceAdd, waits 1032 (.inl rfl), waits 1033 (.inr rfl), false_and, if_false]
  · have off : ¬ (1 ≤ s.ringState ∧ s.ringState ≤ 3) := by omega
    rw [if_neg off, if_pos hkey]
  · have apart : crReg 0x110 ≠ crReg 0x114 := by decide
    exact (rd_wr_ne _ _ _ _ apart).trans (rd_wr _ _ _ (canon_regs hc))
  · exact rd_wr _ _ _ (canon_regs (State.canon_wr hc _ _))
  · have known : (oget u.cr.present (ringSrc m)).isNone = false := by rw [← Option.not_isSome, hknown, Bool.not_true]
    simp only [hin, hsrc, hleave, known, Bool.false_eq_true, if_false]
  · simp [hin, hsrc, hleave]
  · exact hup.imp Decidable.not_not.1 Decidable.not_not.1

end Sys2Proof.Machine
end

section
/-!
PROOFS. The frame of a delivered ring frame (O29): the frame is counted, and an event counter of the ring's page that counts the event is a
register that changes.
-/
namespace Sys2Proof.Machine

/-- Device 1 sends a broadcast presence frame; the ring's first event counter counts the frames that are delivered. -/
def ringFrame : List Byte := [8, 0, 0, 1, 3, 0xFF, 0, 0, 0, 0, 0, 0, 0, 0, 0, 1]

/-- A joined ring with that frame at the head of lane 0. -/
def ringFrameWaiting : State :=
  { State.reset with
    regs := [(pra crPage 0x40, 0x1FF0141), (crReg 0x104, 2)]
    cr := { State.reset.cr with lanes := [(0, { link := { inbox := [(0x23, 0, 0, ringFrame)] } })] } }

/-- Refutes O29: the delivery of a frame of another device changes an event counter, a register. -/
theorem not_ringFramesAndTimeTakeEffect : ¬ Obligations.RingFramesAndTimeTakeEffect := by
  unfold Obligations.RingFramesAndTimeTakeEffect
  intro h
  obtain ⟨u, taken, hring, hsrc, hwin, hregs⟩ : ∃ u,
      ringFrameWaiting.linkTake 1 [0x23, 0x24, 0x25, 0x26, 0x27, 0x28, 0x29, 0x2A, 0x2B, 0x2C, 0x2D] = some ((0x23, 0, 0, ringFrame), u) ∧
        u.onRing = true ∧ 1 ≠ u.position ∧ (cget {} u.cr.wins 1).accept 1 = ({} : MsgWin).accept 1 ∧ u.regs = ringFrameWaiting.regs :=
    ⟨_, rfl, by decide +kernel, by decide +kernel, rfl, rfl⟩
  obtain ⟨t, ht, hcounted⟩ : ∃ t, exec (.ringFrameRx 0) ringFrameWaiting = .next t ∧ t.regs ≠ ringFrameWaiting.regs :=
    ⟨_, rfl, by decide +kernel⟩
  obtain ⟨w, hw⟩ : ∃ w, ({} : MsgWin).accept 1 = some w := ⟨_, rfl⟩
  obtain ⟨-, -, delivers, -⟩ := h ringFrameWaiting u 0 0 0 0 0 0 0 ringFrame []
  obtain ⟨y, hy, -, same, -⟩ := delivers 0x23 w _ taken (by decide) hring (by decide) (by decide) (by decide) hsrc (by decide) rfl
    (hwin.trans hw) (by decide)
  obtain rfl : t = y.ringQueue 1 false 0x23 _ := by simpa using ht.symm.trans hy
  exact hcounted (same.trans hregs)

end Sys2Proof.Machine
end

section
/-!
PROOFS. Leases at the home, their mirror and leases at the requester (O30).
-/
namespace Sys2Proof.Machine

section
variable {s u : State} {l n : Nat} {p : List Byte}

/-! ### Requests at the home -/

theorem leaseRequest_new {wop k : Nat} (f : Nat → List Byte → State → State) (htake : s.ringTake [0x27] = some ((k, l, p), u))
    (hwop : beAt (ringBody p) 0 1 = wop) (hserves : u.servesLeases = true) (hans : u.cr.answers = []) (hmir : u.cr.mirrors = []) :
    s.leaseRequest wop f = f (ringSrc p) (ringBody p) u := by
  unfold State.leaseRequest
  simp only [htake, hwop, hserves, hans, hmir, ne_eq, not_true_eq_false, Bool.not_true, Bool.false_eq_true, if_false, List.find?_nil, List.any_nil]

section
variable {b : List Byte} {req : Nat} {add : Bool} {x : Lease} {k : Int} (hx : x = u.lease (beAt b 16 8 % 65536))
  (hctr : u.leaseCounter (beAt b 4 4) = .ok n) (hmir : u.cr.mirrors = [])
  (howns : x.used = true ∧ x.gen = natField (beAt b 16 8) 31 16 ∧ x.idx = n ∧ x.req = req ∧ u.clk.tim < x.expiry)
include hx hctr hmir howns

/-- A write of the lease's owner: a SET needs the version it read, and the sum has to fit. -/
theorem leaseWrite_owned (hk : k = if add then u.ctrValue n + toSigned64 (beAt b 24 8) else toSigned64 (beAt b 24 8)) :
    u.leaseWrite req b add =
      if !add ∧ u.ctrVersion n ≠ x.version then u.leaseRefuse req (beAt b 8 4) 0x722
      else if k < -(2 ^ 63 : Int) ∨ (2 ^ 63 : Int) ≤ k then u.leaseRefuse req (beAt b 8 4) 0x723
      else u.leaseCommit
        { idx := n, write := true, value := ofSigned64 k, version := (u.ctrVersion n + 1) % 2 ^ 64, entry := beAt b 16 8 % 65536,
          lease := { x with used := false },
          ans := { req := req, tag := beAt b 8 4, body := leaseBody 0 (beAt b 8 4) (ofSigned64 k) ((u.ctrVersion n + 1) % 2 ^ 64) 0 0 } } := by
  obtain ⟨hused, hgen, hidx, hreq, hlive⟩ := howns
  have owner : ¬ ((!x.used) = true ∨ x.gen ≠ natField (beAt b 16 8) 31 16 ∨ x.idx ≠ n ∨ x.req ≠ req ∨ x.expiry ≤ u.clk.tim) := by
    simp [hused, hgen, hidx, hreq, hlive]
  subst hx hk
  unfold State.leaseWrite
  simp only [hctr, if_neg owner, hmir, List.any_nil, Bool.false_eq_true, if_false]

end

/-! ### The mirror of the leases -/

/-- What a standby keeps of a mirror message that writes no counter. -/
def leaseMirrored (u : State) (m : LeaseMirror) : State :=
  { u.setLease m.entry m.lease with
    cr := { (u.setLease m.entry m.lease).cr with
      mseqRx := m.mseq
      answers := u.cr.answers.filter (fun (x : LeaseAns) => !(x.req = m.ans.req && x.tag = m.ans.tag)) ++ [{ m.ans with at_ := u.clk.ns }] } }

theorem toSigned64_range {v : Nat} (hv : v < 2 ^ 64) : ¬ (toSigned64 v < -(2 ^ 63 : Int) ∨ (2 ^ 63 : Int) ≤ toSigned64 v) := by
  unfold toSigned64
  split <;> omega

end

/-- Settles O30: each request, answer and deadline in the branch its clause names. -/
theorem leaseCommandsTakeEffect : Obligations.LeaseCommandsTakeEffect := by
  intro s u l a n e tag p q m
  dsimp only
  refine ⟨fun ⟨htake, hwop, hserves, hans, hmir, hctr⟩ h7 hfree => congrArg done ?_, fun ⟨htake, hwop, hserves, hans, hmir, hctr⟩ h7 => congrArg done ?_,
    fun ⟨htake, hwop, hserves, hans, hmir, hctr⟩ howns hver hv => congrArg done ?_,
    fun ⟨htake, hwop, hserves, hans, hmir, hctr⟩ howns hver => congrArg done ?_,
    fun ⟨htake, hwop, hserves, hans, hmir, hctr⟩ howns hlo hhi => congrArg done ?_,
    fun ⟨htake, hwop, hserves, hans, hmir, hctr⟩ howns hhi => congrArg done ?_, fun hused hdue => congrArg done (if_pos ⟨hused, hdue⟩),
    ⟨_, rfl, fun z hz => ?_, fun z hz hne => ?_, rfl, rfl⟩,
    fun htake hreq hst h20 hseq hw => ⟨leaseMirrored u (mirrorOf (ringBody p)), congrArg done ?_, hseq, rfl, ?_⟩, fun htake hreq hst h20 hseq => congrArg done ?_,
    fun htake hreq hmir hseq hdes hlt => congrArg done ?_, fun hmir hdes hsb => ⟨_, rfl, fun hw => congrArg done ?_⟩,
    fun htake hreq hst hop hn => congrArg done ?_, fun htake hq hwop => congrArg done ?_, fun hq hlt => congrArg done ?_,
    fun hq hwop => congrArg done ?_, fun hq hwop => ⟨_, rfl, congrArg done ?_⟩⟩
  · rw [leaseRequest_new _ htake hwop hserves hans hmir]
    simp only [hctr, h7, hfree, Bool.not_true, Bool.false_eq_true, if_false]
  · rw [leaseRequest_new _ htake hwop hserves hans hmir]
    simp only [hctr, h7, Bool.not_false, if_true]
  · rw [leaseRequest_new _ htake hwop hserves hans hmir, leaseWrite_owned rfl hctr hmir howns rfl]
    exact (if_neg fun h => h.2 hver).trans (if_neg (toSigned64_range hv))
  · rw [leaseRequest_new _ htake hwop hserves hans hmir, leaseWrite_owned rfl hctr hmir howns rfl]
    exact if_pos ⟨rfl, hver⟩
  · rw [leaseRequest_new _ htake hwop hserves hans hmir, leaseWrite_owned rfl hctr hmir howns rfl]
    exact (if_neg (by simp)).trans (if_neg (not_or.2 ⟨not_lt.2 hlo, not_le.2 hhi⟩))
  · rw [leaseRequest_new _ htake hwop hserves hans hmir, leaseWrite_owned rfl hctr hmir howns rfl]
    exact (if_neg (by simp)).trans (if_pos (.inr hhi))
  · simpa [imp_iff_not_or] using (List.mem_filter.1 hz).2
  · exact List.mem_filter.2 ⟨hz, by simpa [imp_iff_not_or] using hne⟩
  · have expected : ¬ (ringSrc p ≠ u.partner ∨ (!u.asStandby) = true) := by simp [hreq, hst]
    simp only [htake, if_neg expected, hseq, ne_eq, not_true_eq_false, and_false, if_false, hw, Bool.false_eq_true]
    rw [leaseMirrored, hseq]
    rfl
  · simp [leaseMirrored]
  · have expected : ¬ (ringSrc p ≠ u.partner ∨ (!u.asStandby) = true) := by simp [hreq, hst]
    simp only [htake, if_neg expected, if_pos (And.intro h20 hseq)]
    rfl
  · have counted : m.mseq ≠ ackDesync ∧ m.mseq ≠ ackSynced := by unfold ackDesync ackSynced; omega
    simp [htake, hreq, hmir, ← hseq, counted, hdes]
  · simp [hmir, hdes, hw]
  · simp [htake, hreq, hst, hop, hn]
  · simp only [htake, hq, hwop, false_and, if_false]
  · simp only [hq, if_pos hlt]
  · simp [State.leaseGiveUp, hq, hwop]
  · simp [State.leaseGiveUp, hq, hwop, State.crBump]

end Sys2Proof.Machine
end

section
/-!
PROOFS. The counters of a stone (O31).
-/
namespace Sys2Proof.Machine

section
variable {s : State} {a n : Nat}

theorem ofLe_lt (bs : List Byte) : ofLe bs < 256 ^ bs.length := by
  induction bs with
  | nil => simp [ofLe]
  | cons b bs ih =>
    have := b.isLt
    rw [ofLe, List.length_cons, pow_succ]
    omega

theorem length_bytes (s : State) (a n : Nat) : (s.bytes a n).length = n := by
  induction n generalizing a with
  | zero => rfl
  | succ n ih => rw [State.bytes, List.length_cons, ih]

theorem leAt_lt (s : State) (a n : Nat) : s.leAt a n < 256 ^ n := by
  have := ofLe_lt (s.bytes a n)
  rwa [length_bytes] at this

/-- Two registers read back a value of 64 bits that was written to them. -/
theorem rd64_wr64 (hs : s.canon) (hn : n < 2 ^ 64) : (s.wr64 a n).rd64 a = n := by
  have low : (s.wr64 a n).rd a = BitVec.ofNat 32 n :=
    (rd_wrn_ne _ _ _ _ (by omega)).trans (rd_wr _ _ _ (canon_regs hs))
  have high : (s.wr64 a n).rd (a + 4) = BitVec.ofNat 32 (n >>> 32) := rd_wr _ _ _ (canon_regs (State.canon_wrn hs _ _))
  rw [State.rd64, low, high, BitVec.toNat_ofNat, BitVec.toNat_ofNat, Nat.shiftRight_eq_div_pow]
  omega

theorem rd64_wrn_ne {b : Nat} (h : a ≠ b) (h' : a + 4 ≠ b) : (s.wrn b n).rd64 a = s.rd64 a := by
  rw [State.rd64, State.rd64, rd_wrn_ne _ _ _ _ h, rd_wrn_ne _ _ _ _ h']

theorem rd64_wr64_ne {b : Nat} (h : a ≠ b) (h' : a + 4 ≠ b) (h'' : a ≠ b + 4) : (s.wr64 b n).rd64 a = s.rd64 a :=
  (rd64_wrn_ne h'' (by omega)).trans (rd64_wrn_ne h h')

theorem ctrCmd_free {f : State → State} (h : s.fld (crReg 0x170) 31 31 = 0) : s.ctrCmd f = (f s).took crPage :=
  if_neg (by omega)

theorem ctrCmd_busy {f : State → State} (h : s.fld (crReg 0x170) 31 31 = 1) : s.ctrCmd f = s.crStatus 0x704 := if_pos h

theorem rd_took_crReg (off : Nat) (h : 0x100 ≤ off) : (s.took crPage).rd (crReg off) = s.rd (crReg off) :=
  rd_event _ _ _ _ _ _ _ (by unfold pra crPage crReg ra pageNo tCR; omega)

theorem rd64_took_crReg (off : Nat) (h : 0x100 ≤ off) : (s.took crPage).rd64 (crReg off) = s.rd64 (crReg off) := by
  have next : crReg off + 4 = crReg (off + 4) := by unfold crReg ra; omega
  rw [State.rd64, State.rd64, next, rd_took_crReg _ h, rd_took_crReg _ (by omega)]

/-- What CTR_READ leaves of the counter `i`. -/
def ctrShown (s : State) (i : Nat) : State :=
  ((s.wr64 (crReg 0x160) (s.leAt (s.ctrAddr i) 8)).wr64 (crReg 0x168) (s.ctrVersion i)).ctrStatus 0 (s.ctrKnown i)

theorem ctrShown_value (hs : s.canon) (i : Nat) : (ctrShown s i).rd64 (crReg 0x160) = s.leAt (s.ctrAddr i) 8 := by
  refine Eq.trans ?_ (rd64_wr64 (a := crReg 0x160) hs (leAt_lt s (s.ctrAddr i) 8))
  exact (rd64_wrn_ne (by decide) (by decide)).trans (rd64_wr64_ne (by decide) (by decide) (by decide))

theorem ctrShown_version (hs : s.canon) (i : Nat) : (ctrShown s i).rd64 (crReg 0x168) = s.ctrVersion i := by
  refine Eq.trans ?_ (rd64_wr64 (a := crReg 0x168) (State.canon_wr64 hs (crReg 0x160) (s.leAt (s.ctrAddr i) 8)) (leAt_lt s (s.ctrAddr i + 8) 8))
  exact rd64_wrn_ne (by decide) (by decide)

theorem ctrShown_known (hs : s.canon) (i : Nat) : (ctrShown s i).fld (crReg 0x170) 16 16 = b2n (s.ctrKnown i) := by
  refine (fld_wr _ _ _ _ _ (canon_regs (State.canon_wr64 (State.canon_wr64 hs _ _) _ _))).trans ?_
  cases s.ctrKnown i <;> decide

end

/-- Settles O31: each command in the branch its clause names. -/
theorem counterCommandsTakeEffect : Obligations.CounterCommandsTakeEffect := by
  intro s off v
  dsimp only
  refine ⟨fun hfree hi => ⟨_, congrArg done ((ctrCmd_free hfree).trans (congrArg (State.took · crPage) (if_neg (Nat.not_le.2 hi)))), ?_,
      fun hc => ⟨?_, ?_, ?_⟩⟩,
    fun hfree hi => ⟨congrArg done ?_, congrArg done ?_⟩, fun hfree hi => congrArg done ?_, fun hfree => congrArg done (ctrCmd_free hfree),
    fun hbusy => ⟨congrArg done (ctrCmd_busy hbusy), congrArg done (ctrCmd_busy hbusy), congrArg done (ctrCmd_busy hbusy)⟩,
    fun hl hlock h31 hpos => congrArg done ?_, fun hlo hhi hm hg hg' => congrArg done ?_,
    fun hl hlock hst hlo hhi h4 => congrArg done ?_, fun hl hlock hst hv => congrArg done ?_⟩
  · obtain ⟨r, hr⟩ := event_counted (ctrShown s s.ctrSel) crPage 0x03 0 1 1
    exact (congrArg State.mem hr).trans rfl
  · exact (rd64_took_crReg _ (by decide)).trans (ctrShown_value hc _)
  · exact (rd64_took_crReg _ (by decide)).trans (ctrShown_version hc _)
  · exact (congrArg (getField · 16 16) (rd_took_crReg _ (by decide))).trans (ctrShown_known hc _)
  · rw [ctrCmd_free hfree, if_pos hi]
  · rw [ctrCmd_free hfree, if_pos hi]
  · rw [ctrCmd_free hfree, if_neg (Nat.not_le.2 hi)]
  · have allowed : ¬ ((!s.lockInForce) = true ∧ getField v 9 0 ≠ s.position ∧ s.ringState ≠ 0) := by
      rcases hpos with h | h <;> simp [h]
    simp only [if_true, if_neg allowed, h31, Bool.false_eq_true, if_false]
    exact rwlWrite_live _ hl hlock
  · exact (if_neg (by decide)).trans ((if_pos rfl).trans (if_neg (by omega)))
  · have here : 0x144 ≤ off ∧ off ≤ 0x154 ∧ off % 4 = 0 := by omega
    have above : off ≠ 0x144 := by omega
    exact (if_neg (by omega)).trans ((if_neg (by omega)).trans ((if_pos here).trans ((rwlWrite_live _ hl hlock).trans (if_neg (by omega)))))
  · exact (if_neg (by decide)).trans ((if_neg (by decide)).trans ((if_pos (by decide)).trans ((rwlWrite_live _ hl hlock).trans
      (if_neg (by omega)))))

end Sys2Proof.Machine
end

section
/-!
PROOFS. The host interface: its resets, its rings and the frames that cross them (O32).
-/
namespace Sys2Proof.Machine

/-! ### A reset of the host interface -/

/-- The device holds no request of the host, and it is in reset when the link went down. -/
structure HostIdle (down : Bool) (s : State) : Prop where
  rx : s.hi.rx = []
  tx : s.hi.tx = []
  held : down = true → s.st.pcieReset = true

section
variable {down : Bool} {s t : State}

theorem HostIdle.congr (h : HostIdle down s) (hrx : t.hi.rx = s.hi.rx) (htx : t.hi.tx = s.hi.tx) (hst : t.st.pcieReset = s.st.pcieReset) :
    HostIdle down t :=
  ⟨hrx.trans h.rx, htx.trans h.tx, fun hd => hst.trans (h.held hd)⟩

theorem HostIdle.reports (h : HostIdle down s) (hr : s.Reports t) : HostIdle down t :=
  h.congr (by rw [hr.hi_eq]) (by rw [hr.hi_eq]) (by rw [hr.st_eq])

theorem HostIdle.wake (h : HostIdle down s) (d src : Nat) : HostIdle down (s.wake d src) := by
  unfold State.wake
  dsimp only
  split_ifs
  · exact h
  · refine HostIdle.reports ?_ (rawSet_reports ..)
    exact h.congr rfl rfl rfl
  · refine HostIdle.reports ?_ (bump_reports ..)
    exact h.congr rfl rfl rfl

theorem HostIdle.mbNotify (h : HostIdle down s) (ch e : Nat) : HostIdle down (s.mbNotify ch e) := by
  unfold State.mbNotify
  dsimp only
  split_ifs
  · exact h.reports (sendVector_reports ..)
  · exact (h.wake 72 2).reports (sendVector_reports ..)
  · exact h.congr rfl rfl rfl
  · exact (h.wake _ 1).congr rfl rfl rfl
  · exact h

theorem HostIdle.mbDoTake (h : HostIdle down s) (ch : Nat) : HostIdle down (s.mbDoTake ch) := by
  unfold State.mbDoTake
  dsimp only
  split_ifs
  · refine HostIdle.mbNotify ?_ ch _
    exact h.congr rfl rfl rfl
  · refine HostIdle.mbNotify ?_ ch _
    exact h.congr rfl rfl rfl
  · exact h.congr rfl rfl rfl

theorem HostIdle.foldl {f : State → Nat → State} (hf : ∀ s i, HostIdle down s → HostIdle down (f s i)) (l : List Nat) (h : HostIdle down s) :
    HostIdle down (l.foldl f s) := by
  induction l generalizing s with
  | nil => exact h
  | cons i l ih => exact ih (hf s i h)

theorem HostIdle.endGrant (h : HostIdle down s) : HostIdle down s.endGrant := by
  unfold State.endGrant
  split
  · refine HostIdle.reports ?_ (irq_reports ..)
    exact h.congr rfl rfl rfl
  · exact h

theorem HostIdle.takeMail (h : HostIdle down s) (ch : Nat) : HostIdle down (if (s.mbox ch).full then s.mbDoTake ch else s) := by
  split
  · exact h.mbDoTake ch
  · exact h

theorem HostIdle.hostReset : HostIdle down (s.hostReset down) := by
  unfold State.hostReset
  extract_lets s1 frames s2 h3 s4 s5 s6 st7 s7 s8
  have idle : HostIdle false s6 := ⟨rfl, rfl, fun h => absurd h (by decide)⟩
  have h7 : HostIdle down s7 := by
    cases down with
    | false => exact idle
    | true => exact ⟨idle.rx, idle.tx, fun _ => rfl⟩
  have h8 : HostIdle down s8 := HostIdle.foldl (fun w i hw => hw.takeMail (8 + i)) _ h7
  exact (h8.reports (rawSet_reports ..)).endGrant

theorem endGrant_grant : s.endGrant.cus.grant = none := by
  unfold State.endGrant
  split
  · rw [State.irq_cus]
  · next h => exact Option.not_isSome_iff_eq_none.1 h

end

/-! ### Transmission -/

theorem find?_single {α : Type} {p : α → Bool} {x : α} (h : p x = true) : [x].find? p = some x := by
  rw [List.find?_cons, h]

/-- The frame that the descriptor `d` sends straight to its port. -/
def directFrame (s : State) (d frame : List Byte) : Frame :=
  { src := 1024, trust := .pass, known := .pass, ended := 1, endNoted := true, committed := true, fwd := true, dmac := frame.take 6,
    smac := sliceBytes frame 6 6, body := frame.drop 12, cls := descField d 0xA 1 % 32,
    place := .noticed (queueOf (descField d 0xC 2) (descField d 0xA 1 % 32)), rxTime := s.clk.tim }

theorem hostFrame_direct {s : State} {r : Nat} {d frame : List Byte} (hdirect : (descField d 0xB 1).testBit 0 = true)
    (hport : s.portConfigured (descField d 0xC 2) = true)
    (hcong : s.congested 1 (descField d 0xC 2) (descField d 0xA 1 % 32) = false) :
    s.hostFrame r d frame = (s.newFrame (directFrame s d frame)).txComplete r 0 := by
  unfold State.hostFrame
  simp only [hdirect, hport, hcong, if_true, Bool.false_eq_true, if_false]
  rfl

/-- Settles O32: each command in the branch its clause names. -/
theorem hostInterfaceCommandsTakeEffect : Obligations.HostInterfaceCommandsTakeEffect := by
  intro s r n width speed v f t x rest
  dsimp only
  refine ⟨fun down => ⟨_, rfl, HostIdle.hostReset.rx, HostIdle.hostReset.tx, HostIdle.hostReset.held, endGrant_grant⟩,
    fun hr => congrArg done (if_pos hr), fun hn => congrArg done (if_pos hn), fun hroom => congrArg done (if_neg (Nat.not_lt.2 hroom)),
    fun hroom => congrArg done (if_pos hroom), fun hbad h31 => congrArg done ?_, fun hwait => congrArg done (if_pos hwait),
    fun hdma hports hr hturn hready hroom => congrArg done ?_, fun htx hring hfree hbad => congrArg done ?_,
    fun htx hring hfree hok => congrArg done ?_, fun htx hring hfree hok hmac hdirect hport hcong =>
      ⟨directFrame s t.desc _, congrArg done ?_, rfl, rfl, rfl, rfl, rfl⟩,
    fun hdma hleast => ⟨_, rfl, congrArg done ?_⟩, fun u g hpulls hf hu hg hdma hended hknown => congrArg done ?_,
    fun hpulls hf => congrArg done ?_⟩
  · simp only [hbad, h31, Bool.false_eq_true, if_false]
  · have turn : (s.hi.txTurn + 1 + 0) % 128 = r := by omega
    have first : (List.range 128).find? (fun i => s.txReady ((s.hi.txTurn + 1 + i) % 128)) = some 0 := by
      rw [List.range_succ_eq_map, List.find?_cons, turn, hready]
    simp only [hdma, hports, Bool.not_true, Bool.or_self, Bool.false_eq_true, if_false, first, turn]
    exact if_neg (Nat.not_lt.2 hroom)
  · have found : s.hi.tx.find? (fun t => decide (t.ring = r)) = some t := by rw [htx, find?_single (by simp [hring])]
    simp only [found, hfree, Option.isSome_none, Bool.false_eq_true, if_false, hbad, if_true]
  · have found : s.hi.tx.find? (fun t => decide (t.ring = r)) = some t := by rw [htx, find?_single (by simp [hring])]
    simp only [found, hfree, Option.isSome_none, Bool.false_eq_true, if_false, hok, if_true]
  · have found : s.hi.tx.find? (fun t => decide (t.ring = r)) = some t := by rw [htx, find?_single (by simp [hring])]
    simp only [found, hfree, Option.isSome_none, Bool.false_eq_true, if_false, hok]
    exact (if_neg hmac).trans (hostFrame_direct hdirect hport hcong)
  · simp only [hdma, hleast, Bool.not_true, Bool.false_eq_true, if_false]
  · subst hu
    simp only [hpulls, hf, hg, hdma, hended, hknown, Bool.not_true, decide_false, Bool.or_self, Bool.false_eq_true, if_false]
  · simp only [hpulls, hf]

end Sys2Proof.Machine
end

section
/-!
PROOFS. The mailbox channels (O33).
-/
namespace Sys2Proof.Machine

section
variable {s : State} {ch who off : Nat} {v : Reg}

/-! ### Who may make which access -/

theorem mbRefusal_send (hen : s.mbEn ch = true) (hwho : s.mbSend ch = who) (hoff : off ≤ 0x80) :
    s.mbRefusal ch who off = if (s.mbox ch).full then 0xA01 else 0 := by
  have data : off < 0x80 ∨ off = 0x80 := by omega
  unfold State.mbRefusal
  simp only [hen, Bool.not_true, Bool.false_eq_true, if_false, if_pos data, hwho, ne_eq, not_true_eq_false]

theorem mbRefusal_clear (hen : s.mbEn ch = true) (hwho : s.mbSend ch = who) : s.mbRefusal ch who 0x84 = 0 := by
  unfold State.mbRefusal
  simp [hen, hwho]

theorem mbRefusal_take (hen : s.mbEn ch = true) (hwho : s.mbRecv ch = who) (hch : ch < 48 ∨ 56 ≤ ch) : s.mbRefusal ch who 0x88 = 0 := by
  have other : ¬ (48 ≤ ch ∧ ch < 56) := by omega
  unfold State.mbRefusal
  simp [hen, hwho, other]

theorem mbRefusal_ack (hen : s.mbEn ch = true) :
    s.mbRefusal ch who 0x8C = if who ≠ endCust ∨ ch < 48 ∨ 56 ≤ ch then 0xA02 else 0 := by
  unfold State.mbRefusal
  simp [hen]

/-! ### Which function an access reaches -/

theorem mbWrite_host (hdom : s.domOn 72 = true) (hst : s.st.pcieReset = false) :
    s.mbWrite false ch off v = s.mbHostWrite ch off (leBytes 4 v.toNat) :=
  (if_neg Bool.false_ne_true).trans (if_pos ⟨hdom, by simp [hst]⟩)

theorem mbWrite_custody : s.mbWrite true ch off v = s.mbCustWrite ch off (leBytes 4 v.toNat) := if_pos rfl

theorem mbSend_of_le (hch : 56 ≤ ch) : s.mbSend ch = endCust := if_pos hch

end

/-- Settles O33: each access in the branch its clause names. -/
theorem mailboxCommandsTakeEffect : Obligations.MailboxCommandsTakeEffect := by
  intro s ch k v
  dsimp only
  refine ⟨fun ⟨hdom, hst, hen⟩ hsend hfull hovf hk => congrArg done ?_, fun hen hch hfull hk => congrArg done ?_,
    fun ⟨hdom, hst, hen⟩ hsend hfull hovf hlo hhi => congrArg done ?_, fun hen hch hfull hlo hhi => congrArg done ?_,
    fun ⟨hdom, hst, hen⟩ hsend hfull hovf => ⟨_, congrArg done ?_, rfl⟩, fun ⟨hdom, hst, hen⟩ hrecv hch => congrArg done ?_,
    fun hen hlo hhi hfull => congrArg done ?_, fun ⟨hdom, hst, hen⟩ => congrArg done ?_, fun ⟨hdom, hst, hen⟩ hsend => congrArg done ?_,
    fun hfull hch hends => congrArg done ?_, fun hbad => congrArg done (if_pos ?_)⟩
  · rw [if_pos hk, mbWrite_host hdom hst]
    have allowed : s.mbRefusal ch endHost (4 * k) = 0 := by
      simp [mbRefusal_send (who := endHost) hen hsend (by omega : 4 * k ≤ 0x80), hfull]
    have inside : ¬ 0x90 ≤ 4 * k ∧ 4 * k < 0x80 := by omega
    unfold State.mbHostWrite
    simp only [if_neg inside.1, hovf, Bool.false_eq_true, and_false, if_false, allowed, ne_eq, not_true_eq_false, if_pos inside.2]
    exact if_neg (by decide)
  · rw [if_pos hk, mbWrite_custody]
    have allowed : s.mbRefusal ch endCust (4 * k) = 0 := by
      simp [mbRefusal_send hen (mbSend_of_le hch) (by omega : 4 * k ≤ 0x80), hfull]
    have inside : ¬ 0x90 ≤ 4 * k ∧ 4 * k < 0x80 := by omega
    unfold State.mbCustWrite
    simp only [if_neg inside.1, allowed, ne_eq, not_true_eq_false, if_false, if_pos inside.2]
  · rw [mbWrite_host hdom hst]
    have allowed : s.mbRefusal ch endHost 0x80 = 0 := by simp [mbRefusal_send (who := endHost) hen hsend le_rfl, hfull]
    unfold State.mbHostWrite
    simp [allowed, hovf]
    omega
  · rw [mbWrite_custody]
    have allowed : s.mbRefusal ch endCust 0x80 = 0 := by simp [mbRefusal_send hen (mbSend_of_le hch) le_rfl, hfull]
    unfold State.mbCustWrite
    simp [allowed]
    omega
  · rw [mbWrite_host hdom hst]
    have full : s.mbRefusal ch endHost 0x80 = 0xA01 := by simp [mbRefusal_send (who := endHost) hen hsend le_rfl, hfull]
    unfold State.mbHostWrite
    simp [full, hovf]
  · rw [mbWrite_host hdom hst]
    unfold State.mbHostWrite
    simp [mbRefusal_take (who := endHost) hen hrecv hch]
  · rw [mbWrite_custody]
    have allowed : s.mbRefusal ch endCust 0x8C = 0 := (mbRefusal_ack hen).trans (if_neg (by simp [hlo, hhi]))
    unfold State.mbCustWrite
    simp [allowed, hfull]
  · rw [mbWrite_host hdom hst]
    have refused : s.mbRefusal ch endHost 0x8C = 0xA02 := (mbRefusal_ack hen).trans (if_pos (.inl (by decide)))
    unfold State.mbHostWrite
    simp [refused]
  · rw [mbWrite_host hdom hst]
    have bit : (ofLe (leBytes 4 512)).testBit 9 = true := by decide
    unfold State.mbHostWrite
    simp [mbRefusal_clear (who := endHost) hen hsend, bit]
  · have other : ¬ (48 ≤ ch ∧ ch < 56) ∧ ¬ 56 ≤ ch := by omega
    simp [hfull, hends, other]
  · simpa using hbad

end Sys2Proof.Machine
end

section
/-!
PROOFS. Accesses to registers by the host and by custody (O34).
-/
namespace Sys2Proof.Machine

section
variable {s : State} {cust : Bool} {a : Nat} {v : Reg}

/-- A write that its requester may make, of all bytes, to a register behind an open fence. -/
theorem arrive_passes (f : State → State) (hmay : cust = true ∨ s.hostUp = true ∧ s.warmBlocked a = false)
    (hfence : s.regFence cust accW a = none) : s.arrive cust 15 a f = f s := by
  unfold State.arrive
  rcases hmay with rfl | ⟨hup, hwarm⟩
  · simp [hfence]
  · simp [hup, hwarm, hfence]

theorem fencedRead_open (hmay : cust = true ∨ s.warmBlocked a = false) (hfence : s.regFence cust accR a = none) :
    s.fencedRead cust a = (none, s.readReg a) := by
  have passes : (!cust && s.warmBlocked a) = false := by rcases hmay with h | h <;> simp [h]
  unfold State.fencedRead
  simp only [passes, Bool.false_eq_true, if_false, hfence]

theorem ra_split (a : Nat) : ra (a / 0x100000) (a / 0x1000 % 0x100) (a % 0x1000) = a := by
  unfold ra
  omega

/-- A register that software may write takes the bits of its mask. -/
theorem writeReg_rw {m : Reg} (h4 : a % 4 = 0) (hbar : a < bar2) (hpage : a / 0x1000 % 0x100 < pageCount (a / 0x100000))
    (hoff : 0x100 ≤ a % 0x1000) (hlive : s.pageLive (pageNo (a / 0x100000) (a / 0x1000 % 0x100)) = true)
    (hacc : access (a / 0x100000) (a / 0x1000 % 0x100) (a % 0x1000) = some (.rw, m)) :
    s.writeReg cust a v =
      (s.wr a ((s.rd a &&& ~~~m) ||| (v &&& m))).took (pageNo (a / 0x100000) (a / 0x1000 % 0x100)) := by
  unfold State.writeReg State.writePage
  rw [if_neg (not_not.2 h4), if_pos hbar, if_neg (Nat.not_le.2 hpage), if_neg (Nat.not_lt.2 hoff), hlive, if_neg (by decide), hacc, ra_split]
  rfl

/-- A power request names a direction, and its result is its answer. -/
theorem powerAnswer {d mask : Nat} (hd : d = 1 ∨ d = 2) :
    plainResult (if d = 1 then s.pwRequest mask true true else if d = 2 then s.pwRequest mask false true else (0x886, s.pwRefuse 0 0x886)) =
      plainResult (s.pwRequest mask (decide (d = 1)) true) := by
  rcases hd with h | h
  · rw [if_pos h, decide_eq_true h]
  · rw [if_neg (by omega), if_pos h, decide_eq_false (by omega)]

theorem custAck_plainResult (ch code : Nat) (r : Nat × State) :
    (plainResult r).2.custAck ch code (plainResult r).1.1 (plainResult r).1.2 = r.2.custAck ch code r.1 [] := rfl

end

/-- Settles O34: each access in the branch its clause names. -/
theorem pageCommandsTakeEffect : Obligations.PageCommandsTakeEffect := by
  intro s cust a p n ch w v
  dsimp only
  refine ⟨fun ⟨hmay, hfence⟩ => congrArg done (arrive_passes _ hmay hfence), fun be hup h0 h15 ha => congrArg done ?_,
    fun b hcust hfence => congrArg done ?_,
    fun m h4 hbar ⟨hmay, hfence⟩ hpage hoff hlive hacc => congrArg done ((arrive_passes _ hmay hfence).trans (writeReg_rw h4 hbar hpage hoff hlive hacc)),
    fun hup hwarm hfence => congrArg done ?_, fun hfence => congrArg done ?_,
    fun ⟨hmay, hfence⟩ hwide hbar hpage hlive => congrArg done ((arrive_passes _ hmay hfence).trans (if_pos ⟨hwide, hbar, hpage, hlive⟩)), rfl,
    fun hp => ⟨congrArg done (if_pos hp), congrArg done (if_pos hp), congrArg done (if_pos hp), congrArg done (if_pos hp),
      congrArg done (if_pos hp), congrArg done (if_pos hp)⟩, fun hp hn => congrArg done (if_pos ⟨hp, hn⟩), rfl,
    fun hserves ha h4 hfence => congrArg done ?_, fun hserves ha h4 hv hfence => congrArg done ?_, fun hserves hdir => congrArg done ?_⟩
  · unfold State.arrive
    simp only [hup, ha, Bool.not_false, Bool.not_true, Bool.true_and, Bool.false_or, beq_iff_eq, if_neg h0, bne_iff_ne, ne_eq, h15,
      not_false_eq_true, decide_true, Bool.and_true, if_true]
  · subst hcust
    unfold State.arrive
    simp [hfence]
  · rw [fencedRead_open (.inr hwarm) hfence, hup]
    rfl
  · rw [fencedRead_open (.inl rfl) hfence]
    rfl
  · rw [custServe_serves _ hserves (by decide)]
    have valid : ¬ (2 ^ 28 ≤ nth 0 w 1 ∨ nth 0 w 1 % 4 ≠ 0) := by omega
    simp only [if_neg valid, fencedRead_open (cust := true) (.inl rfl) hfence]
  · rw [custServe_serves _ hserves (by decide)]
    have valid : ¬ (2 ^ 28 ≤ nth 0 w 1 ∨ nth 0 w 1 % 4 ≠ 0 ∨ 2 ^ 32 ≤ nth 0 w 2) := by omega
    simp only [if_neg valid, hfence]
    rfl
  · refine (custServe_serves _ hserves (by decide)).trans ?_
    dsimp only
    rw [powerAnswer hdir, custAck_plainResult]

end Sys2Proof.Machine
end

section
/-!
PROOFS. The frame of a temperature sample (O37): the interrupt of an ounce that is throttled is a message, which a device whose vector is not
masked writes to the memory of the host.
-/
namespace Sys2Proof.Machine

/-- A device whose management page interrupts at a throttle; its vector is not masked and writes 1 to address 0 of the host. -/
def throttleWatched : State :=
  { State.reset with
    regs := [(pra glPage 0x014, 8), (ra tHI 0 0x100, 0x200), (bar4 + 16 * pageVector glPage + 8, 1), (bar4 + 16 * pageVector glPage + 12, 0)]
    dom := [(72, 2)]
    mem := [] }

/-- Refutes O37: a sample of 105 degrees in ounce 0 writes the message of its interrupt into memory. -/
theorem not_powerEventsTakeEffect : ¬ Obligations.PowerEventsTakeEffect := by
  unfold Obligations.PowerEventsTakeEffect
  intro h
  obtain ⟨t, ht, hwritten⟩ : ∃ t, exec (.thermalSample [105]) throttleWatched = .next t ∧ t.mem ≠ throttleWatched.mem :=
    ⟨_, rfl, by decide +kernel⟩
  obtain ⟨⟨y, hy, -, same, -⟩, -⟩ := h throttleWatched 0 0 0 [105] false 0
  obtain rfl : t = y := by simpa using ht.symm.trans hy
  exact hwritten same

end Sys2Proof.Machine
end

section
/-!
PROOFS. Noise sources, seed blocks, the generators and the raw capture (O44).
-/
namespace Sys2Proof.Machine

/-! ### What the health tests leave of a source -/

section
variable {s t : State} {k : Nat} {b : Bool} {x : Noise}

theorem rct_keeps : (x.rct b).2.bits = x.bits ∧ (x.rct b).2.taint = x.taint ∧ (x.rct b).2.lfsr = x.lfsr := by
  unfold Noise.rct
  dsimp only
  generalize (if x.runLen ≠ 0 ∧ x.runVal = b then x.runLen + 1 else 1) = n
  split <;> exact ⟨rfl, rfl, rfl⟩

theorem apt_keeps : (x.apt b).2.bits = x.bits ∧ (x.apt b).2.taint = x.taint ∧ (x.apt b).2.lfsr = x.lfsr := ⟨rfl, rfl, rfl⟩

/-- The source after both tests of a sample. -/
def Noise.tested (x : Noise) (b : Bool) : Noise := ((x.rct b).2.apt b).2

theorem tested_bits : (x.tested b).bits = x.bits := apt_keeps.1.trans rct_keeps.1
theorem tested_taint : (x.tested b).taint = x.taint := apt_keeps.2.1.trans rct_keeps.2.1
theorem tested_lfsr : (x.tested b).lfsr = x.lfsr := apt_keeps.2.2.trans rct_keeps.2.2

/-- What follows a sample: the capture, the failures of the tests and the start-up test. -/
def State.sampleReported (s : State) (k : Nat) (b f1 f2 : Bool) : State :=
  let s := if s.rng.tap && decide (s.rng.tapSrc = k) && decide (s.rng.tapBits.length < 8192) then
    { s with rng := { s.rng with tapBits := s.rng.tapBits ++ [b] } } else s
  let s := if f1 then s.rnBump 0 k else s
  let s := if f2 then s.rnBump 1 k else s
  let s := if f1 || f2 then s.rateCheck k (b2n f1 + b2n f2) else s
  s.startTest k (f1 || f2)

/-- The bit that a source gives: its own, or the pattern's. -/
def State.sampledBit (s : State) (k : Nat) (raw : Bool) : Bool := if s.tpOn k then (s.noise k).lfsr.testBit 63 else raw

/-- The source after both tests of its bit, before the bit waits for the conditioner. -/
def State.testedNoise (s : State) (k : Nat) (raw : Bool) : Noise :=
  (if s.tpOn k then { s.noise k with lfsr := lfsrStep (s.noise k).lfsr } else s.noise k : Noise).tested (s.sampledBit k raw)

def State.sampledNoise (s : State) (k : Nat) (raw : Bool) : Noise :=
  let y := s.testedNoise k raw
  if s.feeding.contains k && decide (y.bits.length < 3072) then
    { y with bits := y.bits ++ [s.sampledBit k raw], taint := y.taint || s.tpOn k } else y

/-- A sample of a powered source. -/
theorem exec_noiseSourceSample (raw : Bool) (hk : k < 4) (hdom : s.domOn 76 = true) : ∃ f1 f2,
    exec (.noiseSourceSample k raw) s =
      .next ((s.setNoise k (s.sampledNoise k raw)).sampleReported k (s.sampledBit k raw) f1 f2) := by
  have live : ¬ (4 ≤ k ∨ (!s.domOn 76) = true) := by simp [hk, hdom]
  exact ⟨_, _, congrArg done (if_neg live)⟩

theorem sampledNoise_raw {raw : Bool} (htp : s.tpOn k = false) (hfeed : s.feeding.contains k = true) (hlen : (s.noise k).bits.length < 3072) :
    (s.sampledNoise k raw).bits = (s.noise k).bits ++ [raw] ∧ (s.sampledNoise k raw).taint = (s.noise k).taint := by
  have tested : s.testedNoise k raw = (s.noise k).tested raw := by
    unfold State.testedNoise State.sampledBit
    rw [htp]
    rfl
  have room : (s.feeding.contains k && decide ((s.noise k).bits.length < 3072)) = true := by
    rw [hfeed, Bool.true_and, decide_eq_true hlen]
  unfold State.sampledNoise State.sampledBit
  simp only [tested, htp, Bool.false_eq_true, if_false, tested_bits, tested_taint, Bool.or_false, if_pos room, and_self]

theorem sampledNoise_pattern {raw : Bool} (htp : s.tpOn k = true) : (s.sampledNoise k raw).lfsr = lfsrStep (s.noise k).lfsr := by
  have tested : (s.testedNoise k raw).lfsr = lfsrStep (s.noise k).lfsr := by
    unfold State.testedNoise
    rw [tested_lfsr, if_pos htp]
  unfold State.sampledNoise
  dsimp only
  split
  · exact tested
  · exact tested

theorem noise_setNoise (hx : x ≠ {}) : (s.setNoise k x).noise k = x := tget_tput_new _ _ _ _ hx

/-- Source `k` holds these bits, and its generator of patterns has this value. -/
structure Holds (k : Nat) (bits : List Bool) (taint : Bool) (lfsr : Nat) (pool : List (List Byte × Bool)) (s : State) : Prop where
  bits : (s.noise k).bits = bits
  taint : (s.noise k).taint = taint
  lfsr : (s.noise k).lfsr = lfsr
  pool : s.rng.pool = pool

section
variable {bits : List Bool} {taint : Bool} {lfsr : Nat} {pool : List (List Byte × Bool)}

theorem Holds.congr (h : Holds k bits taint lfsr pool s) (hr : t.rng = s.rng) : Holds k bits taint lfsr pool t := by
  have noise : t.noise k = s.noise k := by rw [State.noise, State.noise, hr]
  exact ⟨by rw [noise, h.bits], by rw [noise, h.taint], by rw [noise, h.lfsr], by rw [hr, h.pool]⟩

theorem Holds.ite {c : Prop} [Decidable c] (h : Holds k bits taint lfsr pool s) (h' : Holds k bits taint lfsr pool t) :
    Holds k bits taint lfsr pool (if c then s else t) := by
  split
  · exact h
  · exact h'

/-- Bits that wait, or a pattern that runs, are not those of a source at rest. -/
theorem holds_setNoise (hp : s.rng.pool = pool) (hne : x.bits ≠ [] ∨ x.lfsr ≠ 1) : Holds k x.bits x.taint x.lfsr pool (s.setNoise k x) := by
  have fresh : x ≠ {} := by
    rintro rfl
    rcases hne with hne | hne
    · exact hne rfl
    · exact hne rfl
  have same := noise_setNoise (s := s) (k := k) fresh
  exact ⟨by rw [same], by rw [same], by rw [same], hp⟩

variable (hne : bits ≠ [] ∨ lfsr ≠ 1)
include hne

theorem Holds.setNoise (h : Holds k bits taint lfsr pool s) (hx : x.bits = (s.noise k).bits ∧ x.taint = (s.noise k).taint ∧
    x.lfsr = (s.noise k).lfsr) : Holds k bits taint lfsr pool (s.setNoise k x) := by
  obtain ⟨hb, ht, hl⟩ := hx
  have := holds_setNoise (k := k) (x := x) h.pool (by rwa [hb, hl, h.bits, h.lfsr])
  rwa [hb, ht, hl, h.bits, h.taint, h.lfsr] at this

/-- A test that fails or ends leaves the bits and the pattern of the source. -/
theorem Holds.rateCheck (h : Holds k bits taint lfsr pool s) (n : Nat) : Holds k bits taint lfsr pool (s.rateCheck k n) := by
  unfold State.rateCheck
  dsimp only
  split
  · refine Holds.congr ?_ (State.irq_rng ..)
    refine Holds.congr (s := s.setNoise k _) ?_ rfl
    exact h.setNoise hne ⟨rfl, rfl, rfl⟩
  · exact h.setNoise hne ⟨rfl, rfl, rfl⟩

theorem Holds.startTest (h : Holds k bits taint lfsr pool s) (fail : Bool) : Holds k bits taint lfsr pool (s.startTest k fail) := by
  unfold State.startTest
  dsimp only
  split
  · exact h
  · split
    · split
      · refine Holds.congr ?_ (State.irq_rng ..)
        refine Holds.congr (s := s.setNoise k _) ?_ rfl
        exact h.setNoise hne ⟨rfl, rfl, rfl⟩
      · refine Holds.congr (s := s.setNoise k _) ?_ rfl
        exact h.setNoise hne ⟨rfl, rfl, rfl⟩
    · exact h.setNoise hne ⟨rfl, rfl, rfl⟩

/-- What follows a sample leaves the bits and the pattern of the source. -/
theorem Holds.reported {raw f1 f2 : Bool} (h : Holds k bits taint lfsr pool s) : Holds k bits taint lfsr pool (s.sampleReported k raw f1 f2) := by
  unfold State.sampleReported
  extract_lets g s1 s2 s3 s4
  have h1 : Holds k bits taint lfsr pool s1 := .ite ⟨h.bits, h.taint, h.lfsr, h.pool⟩ h
  have h2 : Holds k bits taint lfsr pool s2 := .ite (h1.congr (State.bump_rng ..)) h1
  have h3 : Holds k bits taint lfsr pool s3 := .ite (h2.congr (State.bump_rng ..)) h2
  have h4 : Holds k bits taint lfsr pool s4 := .ite (h3.rateCheck hne _) h3
  exact h4.startTest hne _

end

section
variable {j : Nat}

/-- The end of a window of a minute for one source. -/
def State.windowEnds (s : State) (k : Nat) : State :=
  (if (s.noise k).winFails ≤ (s.rd (rnReg 0x110)).toNat then s.setFld (rnReg 0x104) k k 0 else s).setNoise k
    { s.noise k with winFails := 0, reported := false }

theorem windowEnds_src : (s.windowEnds k).rng.src = cput {} { s.noise k with winFails := 0, reported := false } k s.rng.src := by
  unfold State.windowEnds
  split <;> rfl

theorem noise_windowEnds (hwf : tblWf (fun _ => ({} : Noise)) s.rng.src) : (s.windowEnds k).noise j =
    if j = k then { s.noise k with winFails := 0, reported := false } else s.noise j := by
  rw [State.noise, windowEnds_src]
  exact tget_tput _ _ _ _ hwf _

theorem windowEnds_wf (hwf : tblWf (fun _ => ({} : Noise)) s.rng.src) : tblWf (fun _ => ({} : Noise)) (s.windowEnds k).rng.src := by
  rw [windowEnds_src]
  exact tput_wf _ _ _ _ hwf

theorem windowEnds_pool : (s.windowEnds k).rng.pool = s.rng.pool := by
  unfold State.windowEnds
  split <;> rfl

theorem windowEnds_mem : (s.windowEnds k).mem = s.mem := by
  unfold State.windowEnds
  split <;> rfl

theorem exec_healthRateWindow : exec .healthRateWindow s = .next ((List.range 4).foldl State.windowEnds s) := congrArg done rfl

theorem foldl_four (f : State → Nat → State) : (List.range 4).foldl f s = f (f (f (f s 0) 1) 2) 3 := rfl

theorem setNoises_pool (f : Nat → State → Noise) (l : List Nat) (s : State) :
    (l.foldl (fun s k => s.setNoise k (f k s)) s).rng.pool = s.rng.pool := by
  induction l generalizing s with
  | nil => rfl
  | cons k l ih => exact ih _

/-- The seed block of the oldest bits of the sources `ks`, `share` of each. -/
def State.seedBlock (s : State) (ks : List Nat) (share : Nat) : List Byte :=
  sha384 (interleave (share / 8) (ks.map fun k => packBits ((s.noise k).bits.take share)))

/-- What a completed seed block leaves. -/
def State.seedCompleted (s : State) (ks : List Nat) (share : Nat) : State :=
  let block := sha384 (interleave (share / 8) (ks.map fun k => packBits ((s.noise k).bits.take share)))
  let taint := ks.any fun k => (s.noise k).taint
  let s := (List.range 4).foldl (fun s k =>
    let x := s.noise k
    let rest := if ks.contains k then x.bits.drop share else []
    s.setNoise k { x with bits := rest, taint := x.taint && decide (rest ≠ []) }) s
  let s := s.rnBump 2 0
  let s := if s.rng.pool.length < 16 then { s with rng := { s.rng with pool := s.rng.pool ++ [(block, taint)] } } else s.rnBump 3 0
  { s with rng := { s.rng with mask := s.fld (rnReg 0x100) 3 0 } }

theorem exec_seedBlockComplete {share : Nat} (hshare : share = 3072 / s.feeding.length) (hdom : s.domOn 76 = true) (hfeed : 2 ≤ s.feeding.length)
    (hbits : ∀ j ∈ s.feeding, share ≤ (s.noise j).bits.length) : exec .seedBlockComplete s = .next (s.seedCompleted s.feeding share) := by
  have shared : (if s.feeding.length = 0 then 0 else 3072 / s.feeding.length) = share := by rw [if_neg (by omega), hshare]
  have ready : (!s.domOn 76 || decide (s.feeding.length < 2) || s.feeding.any fun k => decide ((s.noise k).bits.length < share)) = false := by
    rw [hdom, decide_eq_false (by omega)]
    simpa using hbits
  refine congrArg done ?_
  extract_lets ks share'
  have same : share' = share := shared
  clear_value share'
  subst same
  rw [show (!s.domOn 76 || decide (ks.length < 2) || ks.any fun k => decide ((s.noise k).bits.length < share')) = false from ready,
    if_neg Bool.false_ne_true, State.seedCompleted]

theorem seedCompleted_pool {ks : List Nat} {share : Nat} (hpool : s.rng.pool.length < 16) :
    (s.seedCompleted ks share).rng.pool = s.rng.pool ++ [(s.seedBlock ks share, ks.any fun j => (s.noise j).taint)] := by
  unfold State.seedCompleted
  extract_lets block taint u1 u2 r3 u3 r4
  have same : u2.rng.pool = s.rng.pool := (congrArg Rng.pool (State.bump_rng ..)).trans (setNoises_pool _ _ _)
  have added : u3.rng.pool = u2.rng.pool ++ [(block, taint)] := by
    unfold u3
    rw [if_pos (by rwa [same])]
  show u3.rng.pool = s.rng.pool ++ [(block, taint)]
  rw [added, same]

end

end

/-- Settles O44: each command in the branch its clause names. -/
theorem randomNumberServiceTakesEffect : Obligations.RandomNumberServiceTakesEffect := by
  intro s k i raw taint v block rest
  dsimp only
  refine ⟨fun hk hdom htp hfeed hlen => ?_, fun hk hdom htp hl => ?_, ⟨_, exec_healthRateWindow, ?_, ?_, fun hwf => ?_⟩,
    fun hdom hfeed hbits hpool => ?_, fun hi hready hbuf hgen hdom => congrArg done (if_pos ⟨hi, hready, hbuf, hgen, hdom⟩),
    fun hi hready hbuf hgen => congrArg done ?_, fun hi hready => congrArg done (if_pos ⟨hi, hready⟩),
    fun hnext hpool hwait => ⟨_, rfl, congrArg done ?_⟩, fun hnext hpool hwait hi => ⟨_, rfl, congrArg done ?_⟩,
    fun href hready => congrArg done ?_, fun href => congrArg done ?_, fun hsil hk hfeed htap => congrArg done ?_, rfl,
    fun htap hlen => congrArg done ?_, fun hlock h31 hsel => congrArg done ?_, fun hlock hl hv => congrArg done ?_,
    fun hlock hl hsil hv => congrArg done ?_⟩
  · obtain ⟨f1, f2, hexec⟩ := exec_noiseSourceSample raw hk hdom
    obtain ⟨hb, ht⟩ := sampledNoise_raw (raw := raw) htp hfeed hlen
    have waits : (s.sampledNoise k raw).bits ≠ [] ∨ (s.sampledNoise k raw).lfsr ≠ 1 := .inl (by simp [hb])
    have all := Holds.reported waits (holds_setNoise (s := s) (k := k) rfl waits) (raw := s.sampledBit k raw) (f1 := f1) (f2 := f2)
    exact ⟨_, hexec, all.bits.trans hb, all.taint.trans ht, all.pool⟩
  · obtain ⟨f1, f2, hexec⟩ := exec_noiseSourceSample raw hk hdom
    have step := sampledNoise_pattern (raw := raw) htp
    have runs : (s.sampledNoise k raw).bits ≠ [] ∨ (s.sampledNoise k raw).lfsr ≠ 1 := .inr (by rwa [step])
    have all := Holds.reported runs (holds_setNoise (s := s) (k := k) rfl runs) (raw := s.sampledBit k raw) (f1 := f1) (f2 := f2)
    exact ⟨_, hexec, all.lfsr.trans step, all.pool⟩
  · simp only [foldl_four, windowEnds_pool]
  · simp only [foldl_four, windowEnds_mem]
  · have wf1 := windowEnds_wf (k := 0) hwf
    have wf2 := windowEnds_wf (k := 1) wf1
    have wf3 := windowEnds_wf (k := 2) wf2
    simp [foldl_four, noise_windowEnds, hwf, wf1, wf2, wf3]
  · exact ⟨_, _, exec_seedBlockComplete rfl hdom hfeed hbits, seedCompleted_pool hpool, rfl⟩
  · rw [if_pos hi]
    have enough : ¬ (s.drbg i).buf.length < 1 := by omega
    have going : ¬ (s.drbg i).gen > drbgStop := Nat.not_lt.2 hgen
    unfold State.draw
    simp only [hready, Bool.not_true, Bool.false_eq_true, if_false, if_neg enough, if_neg going]
  · simp only [hnext, hpool, hwait, Bool.false_eq_true, if_false]
  · simp only [hnext, hpool, hwait, if_true, Bool.false_eq_true, if_false, hi]
    rfl
  · simp only [href, hready, ne_eq, not_true_eq_false, if_false, Bool.not_true, Bool.false_eq_true]
  · simp only [href, ne_eq, not_true_eq_false, if_false]
  · have allowed : ¬ (s.silicon ≠ 0 ∧ s.silicon ≠ 1) := by omega
    simp only [if_neg allowed, if_neg (Nat.not_lt.2 hfeed), htap, Bool.false_eq_true, if_false, Nat.mod_eq_of_lt hk]
  · simp [htap, hlen]
  · simp only [hlock, h31, Bool.false_eq_true, if_false, if_neg (Nat.not_lt.2 hsel)]
  · refine (rwlWrite_live _ hl hlock).trans ?_
    have zero (j : Nat) (hj : j < 4) : bitAt v j = false := by
      have := congrArg (·.testBit j) hv
      simpa [getField_testBit, bitAt, show j < 4 from hj] using this
    have none : ¬ (s.silicon ≠ 0 ∧ getField v 3 0 ≠ 0) := fun h => h.2 hv
    rw [if_neg none]
    dsimp only
    rw [foldl_four]
    simp only [zero 0 (by decide), zero 1 (by decide), zero 2 (by decide), zero 3 (by decide), Bool.false_and, Bool.false_eq_true, if_false]
  · refine (rwlWrite_live _ hl hlock).trans ?_
    exact if_pos ⟨hsil, hv⟩

end Sys2Proof.Machine
end

section
/-!
PROOFS. Monitors, alarms and the latch (O38): an alarm sets the sticky detect before anything else, and nothing that it brings about undoes it.
-/
namespace Sys2Proof.Machine

/-! ### The fabric has no part in custody -/

section
variable {s t : State}

theorem refillHead_cus (d k : Nat) (ns : List Nat) : (refillHead d ns k s).cus = s.cus := by
  induction ns generalizing k s with
  | nil => rfl
  | cons n ns ih =>
    unfold refillHead
    refine (ih _).trans ?_
    split <;> rfl

theorem freeCells_cus (d k : Nat) : (s.freeCells d k).cus = s.cus := by
  unfold State.freeCells
  split
  · rfl
  · exact refillHead_cus ..

theorem releaseRoom_cus (n : Nat) (f : Frame) : (s.releaseRoom n f).cus = s.cus := by
  unfold State.releaseRoom
  extract_lets s1 s2
  have h1 : s1.cus = s.cus := by
    unfold s1
    split
    · exact freeCells_cus ..
    · rfl
  have h2 : s2.cus = s1.cus := by
    unfold s2
    split <;> rfl
  exact h2.trans h1

theorem releaseAll_cus (n : Nat) (f : Frame) : (s.releaseAll n f).cus = s.cus := by
  unfold State.releaseAll
  extract_lets s1 s2 s3
  have h2 : s2.cus = s1.cus := by
    unfold s2
    split <;> rfl
  have h3 : s3.cus = s2.cus := by
    unfold s3
    split
    · split <;> rfl
    · split <;> rfl
    · rfl
  exact (h3.trans h2).trans (releaseRoom_cus ..)

theorem endFrame_cus (n : Nat) : (s.endFrame n).cus = s.cus := by
  unfold State.endFrame
  split
  · rfl
  · next f _ =>
    split
    · dsimp only
      split
      · exact releaseRoom_cus n f
      · exact releaseAll_cus n f
    · exact releaseAll_cus n f

theorem qBump_cus (q k n : Nat) : (s.qBump q k n).cus = s.cus := by
  unfold State.qBump
  split
  · exact State.bump_cus ..
  · split
    · exact State.bump_cus ..
    · exact State.bump_cus ..
    · exact State.bump_cus ..
    · rfl

theorem popFailed_cus (q n : Nat) : (popFailed q n s).cus = s.cus := by
  induction n generalizing s with
  | zero => rfl
  | succ n ih =>
    unfold popFailed
    split
    · rfl
    · split
      · exact ih
      · split
        · exact ih.trans ((qBump_cus ..).trans (endFrame_cus ..))
        · rfl

theorem dropQueued_cus (q n k : Nat) : (s.dropQueued q n k).cus = s.cus :=
  (popFailed_cus ..).trans ((qBump_cus ..).trans (endFrame_cus ..))

theorem foldl_cus {β : Type} {f : State → β → State} (hf : ∀ s b, (f s b).cus = s.cus) (l : List β) : (l.foldl f s).cus = s.cus := by
  induction l generalizing s with
  | nil => rfl
  | cons b l ih => exact ih.trans (hf s b)

theorem lockFlush_cus : s.lockFlush.cus = s.cus := by
  refine foldl_cus (fun s n => ?_) _
  split
  · rfl
  · split
    · split
      · exact dropQueued_cus ..
      · rfl
    · exact dropQueued_cus ..
    · exact dropQueued_cus ..
    · rfl

theorem lockFollow_cus (was : Bool) : (s.lockFollow was).cus = s.cus := by
  unfold State.lockFollow
  split
  · exact lockFlush_cus
  · rfl

/-! ### What sessions and presentations leave of custody -/

/-- Custody is as `c` says, but for the session and the grant. -/
def HoldsButSession (c : Custody) (s : State) : Prop := s.cus = { c with session := s.cus.session, grant := s.cus.grant }

variable {c : Custody}

theorem HoldsButSession.same (h : HoldsButSession c s) (ht : t.cus = s.cus) : HoldsButSession c t := by
  unfold HoldsButSession
  rw [ht]
  exact h

theorem HoldsButSession.endSession (h : HoldsButSession c s) (status : Nat) : HoldsButSession c (s.endSession status) := by
  unfold State.endSession
  extract_lets s1 s2
  have h1 : HoldsButSession c s1 := (congrArg (fun x : Custody => { x with session := {} }) h :)
  have h2 : HoldsButSession c s2 := by
    unfold s2
    split
    · exact h1
    · exact h1.same (State.bump_cus ..)
  exact h2.same (State.irq_cus ..)

theorem HoldsButSession.failSession (h : HoldsButSession c s) : HoldsButSession c s.failSession := by
  unfold State.failSession
  split
  · exact h.endSession _
  · exact h

theorem HoldsButSession.endGrant (h : HoldsButSession c s) : HoldsButSession c s.endGrant := by
  unfold State.endGrant
  split
  · refine HoldsButSession.same ?_ (State.irq_cus ..)
    exact (congrArg (fun x : Custody => { x with grant := none }) h :)
  · exact h

theorem cardEnd_cus (status : Nat) (counted : Bool) : (s.cardEnd status counted).cus = s.cus := by
  unfold State.cardEnd State.modCard
  dsimp only
  split
  · exact State.irq_cus ..
  · exact State.irq_cus ..

theorem cardGone_cus (status : Nat) : (s.cardGone status).cus = s.cus := by
  unfold State.cardGone
  extract_lets x s1
  have h1 : s1.cus = s.cus := by
    unfold s1
    split
    · exact State.bump_cus ..
    · rfl
  split
  · refine (cardEnd_cus ..).trans ?_
    split
    · exact (State.irq_cus ..).trans h1
    · exact h1
  · rfl

theorem badgeEnd_cus (status : Nat) (counted : Bool) : (s.badgeEnd status counted).cus = s.cus := by
  unfold State.badgeEnd
  extract_lets x _
  split
  · rfl
  · extract_lets s1 s2 s3 s4
    have h2 : s2.cus = s.cus := (State.bump_cus ..).trans (State.irq_cus ..)
    have h3 : s3.cus = s2.cus := by
      unfold s3
      split
      · exact State.wrn_cus ..
      · exact rfl
    have h4 : s4.cus = s3.cus := State.irq_cus ..
    split
    · exact (h4.trans h3).trans h2
    · exact (h4.trans h3).trans h2

theorem readerStop_cus : s.readerStop.cus = s.cus := by
  unfold State.readerStop State.modRdr
  dsimp only
  split
  · exact badgeEnd_cus ..
  · rfl

theorem cus_custodianAlarm : s.custodianAlarm.cus = s.cus := by
  unfold State.custodianAlarm
  extract_lets s1
  have h1 : s1.cus = s.cus := readerStop_cus.trans (cardGone_cus _)
  split
  · exact h1
  · exact h1

/-! ### The alarm -/

theorem lockInForce_sticky (h : s.cus.sticky = true) : s.lockInForce = true := by
  unfold State.lockInForce
  rw [h, Bool.or_true, Bool.true_or]

theorem lockInForce_latch (h : s.cus.latch = 0xC3A5) : s.lockInForce = true := by
  unfold State.lockInForce
  rw [h]
  rfl

/-- An alarm of a device that has its keep supply: custody keeps all but the sticky detect, the waiting alarms and the session. -/
theorem holds_alarm (hk : s.cus.keepOff = false) (src unit : Nat) :
    HoldsButSession { s.cus with sticky := true, alarmWait := s.cus.alarmWait ++ [(src, unit, 0, s.clk.tim)] } (s.alarm src unit) := by
  have battery : ¬ (!s.batteryAlarm src unit) = true := by simp [State.batteryAlarm, hk]
  unfold State.alarm
  extract_lets _ was e s1 s2
  have e_eq : e = (src, unit, 0, s.clk.tim) := by simp [e, hk, b2n]
  have h1 : HoldsButSession { s.cus with sticky := true, alarmWait := s.cus.alarmWait ++ [(src, unit, 0, s.clk.tim)] } s1 := by
    rw [← e_eq]
    rfl
  have h2 : HoldsButSession { s.cus with sticky := true, alarmWait := s.cus.alarmWait ++ [(src, unit, 0, s.clk.tim)] } s2 :=
    h1.same ((State.irq_cus ..).trans (State.bump_cus ..))
  have powered : ¬ s1.cus.keepOff = true := by simp [s1, State.modCus, hk]
  rw [if_neg battery, if_neg powered]
  refine HoldsButSession.same ?_ (lockFollow_cus _)
  split
  · exact h2.failSession.same cus_custodianAlarm
  · exact h2

theorem sticky_alarm (hk : s.cus.keepOff = false) (src unit : Nat) : (s.alarm src unit).cus.sticky = true := by
  rw [holds_alarm hk src unit]

theorem invalid_alarm (hk : s.cus.keepOff = false) (src unit : Nat) : (s.alarm src unit).cus.invalid = s.cus.invalid := by
  rw [holds_alarm hk src unit]

/-- What an alarm's clause says of it. -/
theorem locks_alarm (hk : s.cus.keepOff = false) (src unit : Nat) :
    (s.alarm src unit).lockInForce = true ∧ (s.alarm src unit).cus.sticky = true :=
  ⟨lockInForce_sticky (sticky_alarm hk ..), sticky_alarm hk ..⟩

/-! ### Invalid state -/

theorem zeroiseZones_cus (zs : List Nat) : (zs.foldl (fun s z => s.zeroiseZone z) s).cus = s.cus :=
  foldl_cus (f := fun s z => s.zeroiseZone z) (fun _ _ => rfl) zs

/-- A block's state found invalid, for a device that has its keep supply. -/
theorem locks_execStateAlarm (hk : s.cus.keepOff = false) (m : Nat) : ∃ t : State, execStateAlarm m s = .next t ∧ t.lockInForce = true ∧
    t.cus.sticky = true ∧ m ∈ t.cus.invalid := by
  have supplied : ¬ (s.cus.keepOff = true ∧ m ≠ 1) := by simp [hk]
  unfold execStateAlarm
  rw [if_neg supplied]
  extract_lets was s1 s2
  have h1 : s1.cus.keepOff = false ∧ m ∈ s1.cus.invalid := by
    refine ⟨hk, ?_⟩
    change m ∈ (if s.cus.invalid.contains m then s.cus.invalid else s.cus.invalid ++ [m])
    split
    · next hm => exact List.contains_iff_mem.1 hm
    · exact List.mem_append_right _ (List.mem_singleton_self m)
  have h2 : HoldsButSession s1.cus s2 := by
    have start : HoldsButSession s1.cus s1 := rfl
    unfold s2
    split
    · exact start.failSession
    · split
      · exact start.endGrant
      · split
        · exact start.same (zeroiseZones_cus _)
        · exact start
  have h3 : HoldsButSession s1.cus (s2.lockFollow was) := h2.same (lockFollow_cus _)
  have kept : (s2.lockFollow was).cus.keepOff = false := by rw [h3, h1.1]
  have invalid : m ∈ (s2.lockFollow was).cus.invalid := by rw [h3]; exact h1.2
  exact ⟨_, rfl, (locks_alarm kept 4 m).1, (locks_alarm kept 4 m).2, (invalid_alarm kept 4 m).symm ▸ invalid⟩

/-! ### The latch -/

/-- The alarms are recorded, and the latch is set. -/
theorem execAonAlarmLatch_latches (h : s.cus.sticky = true) : ∃ t : State, execAonAlarmLatch s = .next t ∧ t.cus.latch = 0xC3A5 ∧
    t.cus.sticky = false ∧ t.cus.alarmWait = [] ∧ t.lockInForce = true := by
  have due : ¬ (!s.cus.sticky) = true := by simp [h]
  suffices H : ∃ (c : Custody) (t : State), execAonAlarmLatch s = .next t ∧
      HoldsButSession { c with sticky := false, alarmWait := [], latch := 0xC3A5 } t by
    obtain ⟨c, t, ht, hc⟩ := H
    have latched : t.cus.latch = 0xC3A5 := by rw [hc]
    exact ⟨t, ht, latched, by rw [hc], by rw [hc], lockInForce_latch latched⟩
  unfold execAonAlarmLatch
  rw [if_neg due]
  extract_lets from_ es s1 s2 s3
  have h2 : HoldsButSession { s1.cus with sticky := false, alarmWait := [], latch := 0xC3A5 } s2 := rfl
  have h3 : HoldsButSession { s1.cus with sticky := false, alarmWait := [], latch := 0xC3A5 } s3 := by
    unfold s3
    split
    · exact h2
    · exact h2.same (State.irq_cus ..)
  split
  · exact ⟨s1.cus, s2, rfl, h2⟩
  · exact ⟨s1.cus, _, rfl, h3.endGrant.same rfl⟩

/-! ### The loss of supply -/

/-- The domains are off, and the monitors of a supply that failed stand below. -/
theorem execPowerLossClassify_below {m : Nat} (hm : m < 4) : ∃ t : State, execPowerLossClassify m s = .next t ∧ t.dom = [] ∧
    t.cus.latch = s.cus.latch ∧ t.cus.sticky = s.cus.sticky ∧ t.mem = s.mem ∧ (t.monitor 0).below = true ∧ (t.monitor 3).below = true := by
  have set0 (k : Nat) (h : k ≠ 0) (u : State) : (u.setMonitor k { below := true }).monitor 0 = u.monitor 0 :=
    tget_tput_ne _ _ _ _ _ h.symm
  have same (u : State) (k : Nat) : (u.setMonitor k { below := true }).monitor k = { below := true } := tget_tput_new _ _ _ _ (by decide)
  refine ⟨_, congrArg done (if_pos hm), rfl, rfl, rfl, rfl, ?_, ?_⟩
  · exact congrArg Monitor.below (((set0 3 (by decide) _).trans ((set0 2 (by decide) _).trans (set0 1 (by decide) _))).trans (same s 0))
  · exact congrArg Monitor.below (same _ 3)

end

/-- Settles O38: an alarm sets the sticky detect first, and what it brings about keeps it. -/
theorem alarmsBringLockAndReachTheLatch : Obligations.AlarmsBringLockAndReachTheLatch := by
  intro s m mv high v
  dsimp only
  have departs (hx : (s.monitor m).armed = true) (hk : s.cus.keepOff = false) (hm : m ≠ 5) :
      ¬ (!(s.monitor m).armed || (m == 5 && !high && !s.cus.keepOff) || (s.cus.keepOff && m != 5)) = true := by simp [hx, hk, hm]
  refine ⟨fun hm => ?_, fun hx hk hm => congrArg done (if_neg (departs hx hk hm)), fun hk => congrArg done (if_pos ?_), fun hx hk => ?_,
    fun hx hk hm => ?_, execPowerLossClassify_below, fun hx hm hk => ?_, fun hk => locks_execStateAlarm hk m,
    fun hk => ⟨_, rfl, locks_alarm hk ..⟩, fun hk hv hs => ?_, fun hv => congrArg done (if_neg ?_), execAonAlarmLatch_latches, fun hk hmv => ?_,
    fun hk hmv => ?_⟩
  · exact congrArg (fun x : State => done x.sessionCheck) (if_neg hm)
  · simp [hk]
  · refine ⟨_, congrArg done (if_neg hx), locks_alarm ?_ ..⟩
    exact hk
  · refine ⟨_, congrArg done (if_neg (departs hx hk hm)), locks_alarm ?_ ..⟩
    exact hk
  · have armed : ¬ (!(s.monitor m).armed) = true := by simp [hx]
    have below : m ≠ 4 := Nat.ne_of_lt hm
    refine ⟨_, congrArg done ((if_neg armed).trans ((if_neg fun h => below h.1).trans (if_neg below))), locks_alarm ?_ ..⟩
    exact hk
  · exact ⟨_, congrArg done (if_pos ⟨hv, hs⟩), locks_alarm ((congrArg Custody.keepOff (State.took_cus ..)).trans hk) ..⟩
  · rintro ⟨h1, h2⟩
    exact hv.elim (absurd h1) (Nat.not_lt.2 h2)
  · exact ⟨_, rfl, congrArg done ((if_neg (by simp [hk])).trans (if_pos hmv))⟩
  · exact congrArg done ((if_neg (by simp [hk])).trans (if_neg (Nat.not_lt.2 hmv)))

end Sys2Proof.Machine
end

section
/-!
PROOFS. Custody sessions and the silicon life cycle (O39).
-/
namespace Sys2Proof.Machine

section
variable {s : State} {code ch : Nat} {w : List Nat}

/-- Custody serves a command that answers no words. -/
theorem custServe_plain {g : Nat → List Nat → State → Nat × State} {st : Nat} {t : State} (h : s.custodyServes code ch w = true)
    (hc : custCodes.contains code = true) (hg : g ch w s = (st, t)) :
    s.custServe code (fun ch w s => plainResult (g ch w s)) = t.custAck ch code st [] := by
  rw [custServe_serves _ h hc, hg]
  rfl

theorem natField_low (n hi : Nat) (h : n < 2 ^ (hi + 1)) : natField n hi 0 = n := by
  unfold natField
  rw [Nat.shiftRight_zero, Nat.sub_zero, Nat.mod_eq_of_lt h]

/-- The two counts of a ROOT_GENERATE. -/
theorem rootCounts {m n : Nat} (hm : m ≤ 8) (hn : n ≤ 16) :
    natField (m + 16 * n) 3 0 = m ∧ natField (m + 16 * n) 8 4 = n ∧ m + 16 * n < 2 ^ 9 := by
  unfold natField
  simp only [Nat.shiftRight_eq_div_pow]
  omega

/-! ### The life cycle -/

theorem silicon_otp (hi : s.cus.invalid.contains 2 = false) (ho : s.cus.otp = 0x3FFFF) : s.silicon = 2 := by
  unfold State.silicon
  rw [hi, ho]
  decide

theorem invalid_of_silicon (h : s.silicon = 1) : s.cus.invalid.contains 2 = false := by
  by_contra hi
  rw [Bool.not_eq_false] at hi
  unfold State.silicon at h
  rw [if_pos hi] at h
  exact absurd h (by decide)

/-- The device that moved on to state `t` of its life: it locks and waits for a cold start. -/
def State.lcMoved (s : State) (t : Nat) : State := (s.endGrant.modCus fun c => { c with otp := lcWord t, coldDue := true }).lockFlush

theorem lcMoved_cus (t : Nat) : HoldsButSession { s.cus with otp := lcWord t, coldDue := true } (s.lcMoved t) := by
  refine HoldsButSession.same ?_ lockFlush_cus
  have h : HoldsButSession s.cus s.endGrant := HoldsButSession.endGrant rfl
  exact (congrArg (fun c : Custody => { c with otp := lcWord t, coldDue := true }) h :)

theorem lcMoved_locks (t : Nat) : (s.lcMoved t).lockInForce = true := by
  unfold State.lockInForce
  rw [lcMoved_cus t, Bool.or_true, Bool.true_or, Bool.true_or]

/-- A command to move on, in a state that allows it. -/
theorem execLcAdvance_allowed {t : Nat} (hserve : s.custodyServes 0x40 ch w = true) (ht : nth 0 w 1 = t) (h4 : s.silicon < 4)
    (hnext : t = s.silicon + 1) (h3 : t ≠ 3) (hlock : s.lockInForce = false) (hfails : s.cus.tokenFails < 8)
    (hdig : t = 2 → s.cus.digest1 ≠ [] ∧ s.cus.digest2 ≠ []) :
    exec .lcAdvance s = .next (if sha384 (wordBytes w 2 4) = s.lcDigest t then ((s.lcMoved t).irq (cdPage 2) 0).custAck ch 0x40 0 []
      else s.tokenFail.custAck ch 0x40 0x804 []) := by
  have digests : ¬ (t = 2 ∧ (s.cus.digest1 = [] ∨ s.cus.digest2 = [])) := fun ⟨h2, hno⟩ => hno.elim (hdig h2).1 (hdig h2).2
  have answer (st : Nat) (u : State) (hu : (if sha384 (wordBytes w 2 4) ≠ s.lcDigest t then (0x804, s.tokenFail)
      else (0, (s.lcMoved t).irq (cdPage 2) 0)) = (st, u)) : exec .lcAdvance s = .next (u.custAck ch 0x40 st []) := by
    refine congrArg done (custServe_plain hserve (by decide) (Eq.trans ?_ hu))
    dsimp only
    rw [ht, if_neg (by omega), if_neg (by omega), if_neg (by simp [hlock]), if_neg (by omega), if_neg digests, if_neg h3]
    rfl
  split
  · next hsha => exact answer 0 _ (if_neg (not_not.2 hsha))
  · next hsha => exact answer 0x804 _ (if_pos hsha)

end

/-- Settles O39: each command in the branch its clause names. -/
theorem custodySessionsAndLifeCycle : Obligations.CustodySessionsAndLifeCycle := by
  intro s ch k t w r u
  dsimp only
  refine ⟨fun hserve hk h16 => congrArg done ?_, fun hserve hlatch => ?_, fun hserve hlatch => ?_, fun hserve hopen => ?_,
    fun hserve => congrArg done (custServe_plain hserve (by decide) rfl), rfl, fun m n hserve hw hm2 hm8 hmn hn hsil hdraw => ?_,
    fun hserve ht h8 hnext h5 h2 h3 hlock hfails => ⟨_, rfl, ?_⟩, fun hserve ht hsil hlock hfails hd1 hd2 hsha => ?_,
    fun hserve ht hsil hlock hfails hd1 hd2 hsha => ?_, fun hserve ht hsil hd => ?_, fun hserve ht hsil hd => ?_⟩
  · rw [custServe_serves _ hserve (by decide), hk, if_neg (Nat.not_le.2 h16)]
  · exact congrArg done (custServe_plain hserve (by decide) (if_neg (by simp [State.latchOpen, hlatch])))
  · exact congrArg done (custServe_plain hserve (by decide) (if_pos (by simp [State.latchOpen, hlatch])))
  · exact congrArg done (custServe_plain hserve (by decide) (if_neg (by simp [hopen])))
  · obtain ⟨hfm, hfn, h512⟩ := rootCounts hm8 hn
    refine ⟨_, congrArg done (custServe_plain hserve (by decide) ?_), rfl⟩
    dsimp only
    rw [hw, hfm, hfn, if_neg (by omega), if_neg (by simp [hsil]), hdraw]
  · exact execLcAdvance_allowed hserve ht (by omega) hnext h3 hlock hfails fun h => absurd h h2
  · refine ⟨_, (execLcAdvance_allowed hserve ht (by omega) (by omega) (by decide) hlock hfails fun _ => ⟨hd1, hd2⟩).trans
      (congrArg done (if_pos hsha)), silicon_otp ?_ ?_, lcMoved_locks 2⟩
    · rw [lcMoved_cus 2]
      exact invalid_of_silicon hsil
    · rw [lcMoved_cus 2]
      rfl
  · exact (execLcAdvance_allowed hserve ht (by omega) (by omega) (by decide) hlock hfails fun _ => ⟨hd1, hd2⟩).trans
      (congrArg done (if_neg hsha))
  · refine congrArg done (custServe_plain hserve (by decide) ?_)
    dsimp only
    rw [ht, if_neg (by decide), if_neg (by simp [hsil]), if_pos ⟨rfl, hd⟩]
  · refine congrArg done (custServe_plain hserve (by decide) ?_)
    dsimp only
    rw [ht, if_neg (by decide), if_neg (by simp [hsil]), if_neg (by simp), if_pos ⟨rfl, hd⟩]

end Sys2Proof.Machine
end

section
/-!
PROOFS. The commands on fences and on the log of violations (O41).
-/
namespace Sys2Proof.Machine

/-! ### The first word of FENCE_WRITE -/

/-- A number of 26 bits that leaves the gaps of the word clear passes the check of its unused bits. -/
theorem fenceWord_and {v : Nat} (hv : v < 2 ^ 26) (h9 : v / 2 ^ 9 % 2 ^ 7 = 0) (h20 : v / 2 ^ 20 % 2 ^ 4 = 0) :
    v &&& (2 ^ 64 - 1 - 0x30F01FF) = 0 := by
  refine Nat.eq_of_testBit_eq fun i => ?_
  rw [Nat.testBit_and, Nat.zero_testBit]
  rcases Nat.lt_or_ge i 26 with hi | hi
  · have hgap : (9 ≤ i ∧ i < 16) ∨ (20 ≤ i ∧ i < 24) ∨ (2 ^ 64 - 1 - 0x30F01FF).testBit i = false := by
      interval_cases i <;> decide
    rcases hgap with h | h | h
    · have : v.testBit i = false := by
        rw [Nat.testBit_eq_decide_div_mod_eq, decide_eq_false_iff_not]
        obtain ⟨hlo, hhi⟩ := h
        interval_cases i <;> omega
      rw [this, Bool.false_and]
    · have : v.testBit i = false := by
        rw [Nat.testBit_eq_decide_div_mod_eq, decide_eq_false_iff_not]
        obtain ⟨hlo, hhi⟩ := h
        interval_cases i <;> omega
      rw [this, Bool.false_and]
    · rw [h, Bool.and_false]
  · rw [Nat.testBit_lt_two_pow (hv.trans_le (Nat.pow_le_pow_right (by decide) hi)), Bool.false_and]

/-- The fields of a word that writes region `r` of fence `f`. -/
theorem fenceWord_region {f r : Nat} {en : Bool} (hf : f ≤ 278) (hr : r ≤ 15) {v : Nat} (hv : v = f + 2 ^ 16 * r + 2 ^ 24 * b2n en) :
    v &&& (2 ^ 64 - 1 - 0x30F01FF) = 0 ∧ v % 512 = f ∧ natField v 19 16 = r ∧ v.testBit 25 = false ∧ v.testBit 24 = en := by
  have hen : b2n en ≤ 1 := by cases en <;> decide
  refine ⟨fenceWord_and (by omega) (by omega) (by omega), by omega, ?_, ?_, ?_⟩
  · unfold natField
    rw [Nat.shiftRight_eq_div_pow]
    omega
  · rw [Nat.testBit_lt_two_pow]
    omega
  · have hdiv : v / 2 ^ 24 % 2 = b2n en := by omega
    rw [Nat.testBit_eq_decide_div_mod_eq, hdiv]
    cases en <;> rfl

/-- The fields of a word that writes the default of fence `f`. -/
theorem fenceWord_default {f : Nat} (hf : f ≤ 278) {v : Nat} (hv : v = f + 2 ^ 25) :
    v &&& (2 ^ 64 - 1 - 0x30F01FF) = 0 ∧ v % 512 = f ∧ v.testBit 25 = true := by
  refine ⟨fenceWord_and (by omega) (by omega) (by omega), by omega, ?_⟩
  have hdiv : v / 2 ^ 25 % 2 = 1 := by omega
  rw [Nat.testBit_eq_decide_div_mod_eq, hdiv]
  rfl

/-! ### The commands of the fence page -/

section
variable {s t : State} {cust : Bool} {st f r : Nat}

/-- A command that the fence of the page allows leaves its status. -/
theorem fnCmd_passes {g : State → Nat × State} (h : s.fenceFail (261 + tCD) (if cust then clsCust else clsHost) accW 0x3120 4 = none)
    (hg : g s = (st, t)) : s.fnCmd cust g = (t.wrn (fnReg 0x124) st).took (cdPage 3) := by
  unfold State.fnCmd
  dsimp only
  rw [show s.fenceFail (261 + tCD) (if cust then clsCust else clsHost) accW (3 * 0x1000 + 0x120) 4 = none from h]
  dsimp only
  rw [hg]

theorem fenceWrite_region {en : Bool} {start last perm : Nat} (hf : f ≤ 278) (hr : r ≤ 15) (hsl : start ≤ last)
    (hsize : last + 16 ≤ fenceSize f) (hperm : perm < 2 ^ 24) : s.fenceWrite f r false en start last perm =
    (0, s.modCus fun c => { c with regions := cput {} ⟨start, last, en, perm⟩ (f * 16 + r) c.regions }) := by
  unfold State.fenceWrite
  rw [if_neg (by omega), if_neg (by decide), if_neg (by omega), Nat.mod_eq_of_lt hperm]

theorem fenceWrite_default {en : Bool} {start last perm : Nat} (hf : f ≤ 278) (hperm : perm < 2 ^ 24) :
    s.fenceWrite f r true en start last perm = (0, s.modCus fun c => { c with defaults := tput fenceDefault perm f c.defaults }) := by
  unfold State.fenceWrite
  rw [if_neg (by omega), if_pos rfl, Nat.mod_eq_of_lt hperm]

theorem fnSel_eq (h : s.fnSel = (f, r)) : s.fnSel.1 = f ∧ s.fnSel.2 = r ∧ r ≤ 15 := by
  have hr : s.fnSel.2 < 2 ^ 4 := natField_lt ..
  rw [h] at hr
  exact ⟨congrArg Prod.fst h, congrArg Prod.snd h, Nat.le_of_lt_succ hr⟩

end

/-- Settles O41: each command in the branch its clause names. -/
theorem fenceCommandsTakeEffect : Obligations.FenceCommandsTakeEffect := by
  intro s cust ch f r start last perm en w
  dsimp only
  have perm_lt : s.fld (fnReg 0x118) 23 0 < 2 ^ 24 := natField_lt ..
  refine ⟨fun hserve hch hf hr hsl hsize hs16 hl16 hperm hw1 hw2 hw3 hw4 => ?_, fun hserve hch hf hperm hw1 hw4 => ?_,
    fun hpass hsel hf hstart hlast hsl hsize => ⟨_, rfl, congrArg done (fnCmd_passes hpass ?_)⟩,
    fun hpass hsel hf => congrArg done (fnCmd_passes hpass ?_), fun hpass hsel hf => congrArg done (fnCmd_passes hpass ?_),
    fun hpass hsel hf => congrArg done (fnCmd_passes hpass ?_), fun hpass => congrArg done (fnCmd_passes hpass rfl),
    fun a hfail => congrArg done ?_⟩
  · obtain ⟨hand, hmod, hfield, hb25, hb24⟩ := fenceWord_region hf hr hw1
    refine congrArg done (custServe_plain hserve (by decide) ?_)
    have hstart : start / 16 * 16 = start := by omega
    have hlast : last / 16 * 16 = last := by omega
    rw [if_neg (by omega), if_neg (by simp only [hand, hw4]; omega), hmod, hfield, hb25, hb24, hw2, hw3, hw4, hstart, hlast]
    exact fenceWrite_region hf hr hsl hsize hperm
  · obtain ⟨hand, hmod, hb25⟩ := fenceWord_default hf hw1
    refine congrArg done (custServe_plain hserve (by decide) ?_)
    rw [if_neg (by omega), if_neg (by simp only [hand, hw4]; omega), hmod, hb25, hw4]
    exact fenceWrite_default hf hperm
  · obtain ⟨hf1, hr1, hr15⟩ := fnSel_eq hsel
    rw [hf1, hr1, hstart, hlast]
    exact fenceWrite_region hf hr15 hsl hsize perm_lt
  · obtain ⟨hf1, hr1, -⟩ := fnSel_eq hsel
    dsimp only
    rw [hf1, hr1]
    exact if_neg (Nat.not_lt.2 hf)
  · obtain ⟨hf1, -⟩ := fnSel_eq hsel
    rw [hf1]
    exact fenceWrite_default hf perm_lt
  · obtain ⟨hf1, -⟩ := fnSel_eq hsel
    rw [hf1]
    exact if_neg (Nat.not_lt.2 hf)
  · unfold State.fnCmd
    dsimp only
    rw [show s.fenceFail (261 + tCD) (if false then clsCust else clsHost) accW (3 * 0x1000 + 0x120) 4 = some a from hfail]
    rfl

end Sys2Proof.Machine
end

section
/-!
PROOFS. The page port of the flash (O42).
-/
namespace Sys2Proof.Machine

section
variable {s : State} {op first regions n : Nat}

theorem flBusy_idle (h : s.fl.op = none) : ¬ s.flBusy = true := by
  unfold State.flBusy
  rw [h]
  decide

theorem flMalformed_inRange (h1 : 1 ≤ s.flCount) (h64 : s.flCount ≤ 64) (hend : s.flAddr + s.flCount ≤ 2 ^ 21) : ¬ s.flMalformed = true := by
  unfold State.flMalformed
  rw [decide_eq_false (by omega), decide_eq_false (by omega)]
  decide

theorem flRegionBad_of (h1 : 1 ≤ s.fld (flReg 0x110) 16 8) (hend : s.fld (flReg 0x110) 7 0 + s.fld (flReg 0x110) 16 8 ≤ 256) :
    s.flRegionBad = false := by
  unfold State.flRegionBad
  rw [decide_eq_false (by omega), decide_eq_false (by omega)]
  rfl

/-- A command on the protection that nothing refuses. -/
theorem flProtCmd_taken {region unlocked : Bool} (hop : s.fl.op = none) (hstart : s.startRuns = false) (hregion : region = true → s.flRegionBad = false)
    (hlock : unlocked = true → s.flUnlocked = true) : s.flProtCmd op region unlocked =
      s.flTake { op := op, pass := BitVec.ofNat 64 (s.rd64 (flReg 0x118)), first := s.fld (flReg 0x110) 7 0, regions := s.fld (flReg 0x110) 16 8 } := by
  unfold State.flProtCmd
  have inRegion : ¬ (region && s.flRegionBad) = true := by
    cases region with
    | false => simp
    | true => simp [hregion rfl]
  have open_ : ¬ (unlocked && !s.flUnlocked) = true := by
    cases unlocked with
    | false => simp
    | true => simp [hlock rfl]
  rw [if_neg (flBusy_idle hop), if_neg (by simp [hstart]), if_neg inRegion, if_neg open_]

/-- The erase of a sector whose group is not due to move its gap. -/
theorem eraseSector_notDue {l : Nat} (h : (s.wear (l / 256)).erases ≠ 63) : (s.eraseSector l).1 = false := by
  unfold State.eraseSector
  have stays : ((s.erasePhys (s.phys l)).wear (l / 256)).erases = (s.wear (l / 256)).erases := rfl
  extract_lets t k g
  rw [if_neg]
  change ((s.erasePhys (s.phys l)).wear (l / 256)).erases + 1 ≠ 64
  omega

end

/-- Settles O42: each command and each end of one in the branch its clause names. -/
theorem flashCommandsTakeEffect : Obligations.FlashCommandsTakeEffect := by
  intro s x corr uncorr k
  dsimp only
  refine ⟨fun hop ⟨h1, h64, hend⟩ hpriv => congrArg (fun t : State => done (t.took flPage)) ?_,
    fun ⟨hop, hstart⟩ ⟨h1, h64, hend⟩ hrefuse hblank => ⟨_, rfl, congrArg (fun t : State => done (t.took flPage)) ?_⟩,
    fun ⟨hop, hstart⟩ ⟨h1, h64, hend⟩ hrefuse hblank => congrArg (fun t : State => done (t.took flPage)) ?_,
    fun ⟨hop, hstart⟩ hrefuse => congrArg (fun t : State => done (t.took flPage)) ?_,
    fun ⟨hop, hstart⟩ ⟨h1, hend⟩ => congrArg (fun t : State => done (t.took flPage)) (flProtCmd_taken hop hstart (fun _ => flRegionBad_of h1 hend) nofun),
    fun ⟨hop, hstart⟩ ⟨h1, hend⟩ hun =>
      congrArg (fun t : State => done (t.took flPage)) (flProtCmd_taken hop hstart (fun _ => flRegionBad_of h1 hend) fun _ => hun),
    fun ⟨hop, hstart⟩ h8 => congrArg (fun t : State => done (t.took flPage)) ?_,
    fun ⟨hop, hstart⟩ => congrArg (fun t : State => done (t.took flPage)) (flProtCmd_taken hop hstart nofun nofun),
    fun ⟨hop, hstart⟩ hun => congrArg (fun t : State => done (t.took flPage)) (flProtCmd_taken hop hstart nofun fun _ => hun),
    fun ⟨hop, hmove⟩ hx => congrArg done ?_, fun ⟨hop, hmove⟩ hx => congrArg done ?_, fun ⟨hop, hmove⟩ hx hdue => congrArg done ?_,
    fun ⟨hop, hmove⟩ hx => congrArg done ?_, fun ⟨hop, hmove⟩ hx hpass => congrArg done ?_, fun ⟨hop, hmove⟩ hx => congrArg done ?_,
    fun ⟨hop, hmove⟩ hx => congrArg done ?_, fun hmove hop hx => congrArg done ?_⟩
  · rw [if_neg (flBusy_idle hop), if_neg (flMalformed_inRange h1 h64 hend), if_neg]
    rw [List.any_eq_true]
    rintro ⟨r, hr, hp⟩
    rw [hpriv r hr] at hp
    exact absurd hp (by decide)
  · rw [if_neg (flBusy_idle hop), if_neg (by simp [hstart]), if_neg (flMalformed_inRange h1 h64 hend), if_neg (not_not.2 hrefuse), if_neg]
    simpa using hblank
  · rw [if_neg (flBusy_idle hop), if_neg (by simp [hstart]), if_neg (flMalformed_inRange h1 h64 hend), if_neg (not_not.2 hrefuse), if_pos]
    simpa using hblank
  · rw [if_neg (flBusy_idle hop), if_neg (by simp [hstart]), if_neg (not_not.2 hrefuse)]
  · rw [if_neg (flBusy_idle hop), if_neg (by simp [hstart]), if_neg (Nat.not_le.2 h8)]
    exact flProtCmd_taken hop hstart nofun nofun
  · simp only [hop, hmove, Option.isSome_none, Bool.false_eq_true, if_false]
    rw [if_pos hx]
  · simp only [hop, hmove, Option.isSome_none, Bool.false_eq_true, if_false]
    rw [if_neg (by omega), if_pos hx]
    rfl
  · simp only [hop, hmove, Option.isSome_none, Bool.false_eq_true, if_false]
    rw [if_neg (by omega), if_neg (by omega), if_pos hx, if_neg (by simp [eraseSector_notDue hdue])]
  · simp only [hop, hmove, Option.isSome_none, Bool.false_eq_true, if_false]
    rw [if_neg (by omega), if_neg (by omega), if_neg (by omega), if_pos hx]
  · simp only [hop, hmove, Option.isSome_none, Bool.false_eq_true, if_false]
    rw [if_neg (by omega), if_neg (by omega), if_neg (by omega), if_neg (by omega), if_neg (by omega), if_pos hx, if_pos hpass]
  · simp only [hop, hmove, Option.isSome_none, Bool.false_eq_true, if_false]
    rw [if_neg (by omega), if_neg (by omega), if_neg (by omega), if_neg (by omega), if_neg (by omega), if_neg (by omega), if_pos hx]
  · simp only [hop, hmove, Option.isSome_none, Bool.false_eq_true, if_false]
    rw [if_neg (by omega), if_neg (by omega), if_neg (by omega), if_neg (by omega), if_neg (by omega), if_neg (by omega), if_neg (by omega)]
  · simp only [hop, hmove]
    rw [if_neg (by omega)]

end Sys2Proof.Machine
end

section
/-!
PROOFS. The commands that go to the card (O45).
-/
namespace Sys2Proof.Machine

section
variable {s t u : State} {i : Nat} {r : List Byte}

/-- The argument of card command `i`. -/
def Card.arg (c : Card) (i : Nat) : Nat := if i = 40 ∨ i = 43 ∨ i = 44 then c.txn % 2 ^ 32 else 0

/-- The 48-bit frame of card command `i` with an argument. -/
def cardCommand (i arg : Nat) : Nat := (3 * 2 ^ 38 + arg * 2 ^ 6 + i) * 2 ^ 7 + crc7 (3 * 2 ^ 38 + arg * 2 ^ 6 + i)

/-- The card's command `i` draws a nonce or a key. -/
abbrev Card.draws (c : Card) (i : Nat) : Prop := i = 24 ∨ (i = 41 ∧ c.tries = 0)

/-- The presentation after command `i` of card `c` was sent with the drawn bytes `r`. -/
def Card.sending (x c : Card) (i : Nat) (r : List Byte) : Card :=
  { x with next := if i = 21 then 22 else 0, sent := i, await := if i = 21 then 0 else 1, ext := 0,
           nd := if i = 24 then r else x.nd, key := if i = 41 ∧ c.draws i then r else x.key, open_ := x.open_ || i == 40,
           commit := x.commit || i == 43, tx := ⟨cardCommand i (c.arg i), []⟩ }

/-- Command `i` is due. -/
abbrev Card.due (c : Card) (i : Nat) : Prop := c.phase = 4 ∧ c.next = i ∧ c.await = 0 ∧ c.rawOut = false

theorem cardSend_due (hdue : s.cb.card.due i) (hdraw : (if s.cb.card.draws i then s.draw 4 2 else (some [], s)) = (some r, u)) :
    s.cardSend i = (u.modCard fun x => x.sending s.cb.card i r).cbBump 1 := by
  obtain ⟨h4, hnext, hawait, hraw⟩ := hdue
  have goes : ¬ (s.cb.card.phase ≠ 4 ∨ s.cb.card.next ≠ i ∨ s.cb.card.await ≠ 0 ∨ s.cb.card.rawOut = true) := by simp [h4, hnext, hawait, hraw]
  unfold State.cardSend
  dsimp only
  rw [if_neg goes, hdraw]
  rfl

/-- Of `s`, the random number service alone may differ in `u`. -/
structure DrawnFrom (s u : State) : Prop where
  cb : u.cb = s.cb
  cus : u.cus = s.cus
  pending : u.pending = s.pending

theorem drawnFrom_draw {k n : Nat} {d : Option (List Byte)} (h : s.draw k n = (d, u)) : DrawnFrom s u := by
  obtain ⟨g, hg⟩ := draw_rng s k n
  rw [h] at hg
  change u = _ at hg
  subst hg
  exact ⟨rfl, rfl, rfl⟩

/-- What the device holds after it sent command `i`, with `g` as the state of its generators. -/
structure Sent (s t : State) (i : Nat) (r : List Byte) (g : Rng) : Prop where
  card : t.cb.card = s.cb.card.sending s.cb.card i r
  rdr : t.cb.rdr = s.cb.rdr
  cus : t.cus = s.cus
  pending : t.pending = s.pending
  rng : t.rng = g

theorem sent_cardSend (hdue : s.cb.card.due i) (hdraw : (if s.cb.card.draws i then s.draw 4 2 else (some [], s)) = (some r, u))
    (hu : DrawnFrom s u) : Sent s (s.cardSend i) i r u.rng := by
  have card (v : State) : (v.cbBump 1).cb = v.cb := State.bump_cb ..
  rw [cardSend_due hdue hdraw]
  refine ⟨(congrArg Custodian.card (card _)).trans ?_, (congrArg Custodian.rdr (card _)).trans ?_, (State.bump_cus ..).trans hu.cus,
    (State.bump_pending ..).trans hu.pending, State.bump_rng ..⟩
  · exact congrArg (fun x : Custodian => x.card.sending s.cb.card i r) hu.cb
  · exact (congrArg Custodian.rdr hu.cb :)

/-- A command that draws nothing. -/
theorem sent_plain (hdue : s.cb.card.due i) (hno : ¬ s.cb.card.draws i) : Sent s (s.cardSend i) i [] s.rng :=
  sent_cardSend hdue (if_neg hno) ⟨rfl, rfl, rfl⟩

/-- A command that draws: the random number generators alone change. -/
theorem sent_drawn (hdue : s.cb.card.due i) (hyes : s.cb.card.draws i) (hdraw : s.draw 4 2 = (some r, u)) : Sent s (s.cardSend i) i r u.rng :=
  sent_cardSend hdue ((if_pos hyes).trans hdraw) (drawnFrom_draw hdraw)

/-- What every command but CARD_RESET leaves. -/
theorem Sent.awaited {g : Rng} (h : Sent s t i r g) (hi : i ≠ 21) : t.cb.card.sent = i ∧ t.cb.card.await = 1 ∧ t.cb.card.next = 0 ∧
    t.cb.card.tx = ⟨cardCommand i (s.cb.card.arg i), []⟩ ∧ t.cb.rdr = s.cb.rdr ∧ t.cus = s.cus ∧ t.pending = s.pending := by
  rw [h.card]
  exact ⟨rfl, if_neg hi, if_neg hi, rfl, h.rdr, h.cus, h.pending⟩

/-- A command that draws nothing leaves the nonce, the key and the generators. -/
theorem Sent.keeps {g : Rng} (h : Sent s t i r g) (hno : ¬ s.cb.card.draws i) : t.cb.card.nd = s.cb.card.nd ∧ t.cb.card.key = s.cb.card.key ∧
    t.rng = g := by
  rw [h.card]
  exact ⟨if_neg fun h24 => hno (.inl h24), if_neg fun h41 => hno h41.2, h.rng⟩

/-- A command without an argument. -/
theorem card_arg_zero (c : Card) (hi : i ≠ 40 ∧ i ≠ 43 ∧ i ≠ 44) : c.arg i = 0 := by
  unfold Card.arg
  rw [if_neg]
  omega

theorem card_arg_txn (c : Card) (hi : i = 40 ∨ i = 43 ∨ i = 44) : c.arg i = c.txn % 2 ^ 32 := if_pos hi

/-- A command without argument and draw. -/
theorem sent_simple (hdue : s.cb.card.due i) (h21 : i ≠ 21) (hi : i ≠ 40 ∧ i ≠ 43 ∧ i ≠ 44) (hno : ¬ s.cb.card.draws i) :
    ((s.cardSend i).cb.card.sent = i ∧ (s.cardSend i).cb.card.await = 1 ∧ (s.cardSend i).cb.card.next = 0 ∧
      (s.cardSend i).cb.card.tx = ⟨cardCommand i 0, []⟩ ∧ (s.cardSend i).cb.rdr = s.cb.rdr ∧ (s.cardSend i).cus = s.cus ∧
      (s.cardSend i).pending = s.pending) ∧ (s.cardSend i).cb.card.nd = s.cb.card.nd ∧ (s.cardSend i).cb.card.key = s.cb.card.key ∧
      (s.cardSend i).rng = s.rng := by
  have h := sent_plain hdue hno
  exact ⟨card_arg_zero s.cb.card hi ▸ h.awaited h21, h.keeps hno⟩

/-- A command of a transaction. -/
theorem sent_txn (hdue : s.cb.card.due i) (hi : i = 40 ∨ i = 43 ∨ i = 44) :
    ((s.cardSend i).cb.card.sent = i ∧ (s.cardSend i).cb.card.await = 1 ∧ (s.cardSend i).cb.card.next = 0 ∧
      (s.cardSend i).cb.card.tx = ⟨cardCommand i (s.cb.card.txn % 2 ^ 32), []⟩ ∧ (s.cardSend i).cb.rdr = s.cb.rdr ∧
      (s.cardSend i).cus = s.cus ∧ (s.cardSend i).pending = s.pending) ∧ (s.cardSend i).cb.card.nd = s.cb.card.nd ∧
      (s.cardSend i).cb.card.key = s.cb.card.key ∧ (s.cardSend i).rng = s.rng := by
  have hno : ¬ s.cb.card.draws i := by rintro (h | ⟨h, -⟩) <;> omega
  have h := sent_plain hdue hno
  exact ⟨card_arg_txn s.cb.card hi ▸ h.awaited (by omega), h.keeps hno⟩

end

/-- Settles O45: each command is sent when it is due. -/
theorem cardCommandsAreSent : Obligations.CardCommandsAreSent := by
  intro s r u
  dsimp only
  have enrols (h : s.cb.card.tries ≠ 0) : ¬ s.cb.card.draws 41 := by simp [Card.draws, h]
  refine ⟨fun hdue => ⟨_, rfl, ?_⟩, fun hdue => ⟨_, rfl, sent_simple hdue (by decide) (by decide) (by simp [Card.draws])⟩, fun hdue hdraw => ⟨_, rfl, ?_⟩,
    fun hdue => ⟨_, rfl, sent_simple hdue (by decide) (by decide) (by simp [Card.draws])⟩,
    fun hdue => ⟨_, rfl, sent_simple hdue (by decide) (by decide) (by simp [Card.draws])⟩,
    fun hdue => ⟨_, rfl, sent_simple hdue (by decide) (by decide) (by simp [Card.draws])⟩,
    fun hdue => ⟨_, rfl, sent_txn hdue (by decide), ?_⟩, fun hdue htries hdraw => ⟨_, rfl, ?_⟩,
    fun hdue htries => ⟨_, rfl, sent_simple hdue (by decide) (by decide) (enrols htries)⟩,
    fun hdue => ⟨_, rfl, sent_simple hdue (by decide) (by decide) (by simp [Card.draws])⟩,
    fun hdue => ⟨_, rfl, sent_txn hdue (by decide), ?_⟩, fun hdue => ⟨_, rfl, sent_txn hdue (by decide)⟩⟩
  · rw [(sent_plain hdue (by simp [Card.draws])).card]
    exact ⟨rfl, rfl, rfl, rfl⟩
  · have h := sent_drawn hdue (.inl rfl) hdraw
    refine ⟨h.awaited (by decide), ?_, h.rng⟩
    rw [h.card]
    rfl
  · rw [(sent_plain hdue (by simp [Card.draws])).card]
    exact Bool.or_true _
  · have h := sent_drawn hdue (.inr ⟨rfl, htries⟩) hdraw
    refine ⟨h.awaited (by decide), ?_, h.rng⟩
    rw [h.card]
    exact if_pos ⟨rfl, .inr ⟨rfl, htries⟩⟩
  · rw [(sent_plain hdue (by simp [Card.draws])).card]
    exact Bool.or_true _

end Sys2Proof.Machine
end

section
/-!
PROOFS. What happens in the card slot, and the commands on it (O46).
-/
namespace Sys2Proof.Machine

section
variable {s : State} {frame : BitVec 48} {b : Byte}

/-- A good response of the card, to the command that was sent. -/
theorem execCardResponseRx_good (h4 : s.cb.card.phase = 4) (hawait : s.cb.card.await = 1) (hgood : getField frame 47 45 = 1 ∧
    getField frame 6 0 = crc7 (frame.toNat / 2 ^ 7) ∧ getField frame 12 7 = s.cb.card.sent ∧ bitAt frame 43 = false ∧ bitAt frame 44 = false) :
    exec (.cardResponseRx frame) s = .next (
      if s.cb.card.sent = 22 ∨ s.cb.card.sent = 25 ∨ s.cb.card.sent = 28 then s.modCard fun x => { x with await := 2 }
      else if s.cb.card.sent = 24 ∨ s.cb.card.sent = 26 ∨ s.cb.card.sent = 41 ∨ s.cb.card.sent = 42 then
        s.cardOut.2.modCard fun x => { x with await := 3, tx := { x.tx with block := padTo 512 s.cardOut.1 } }
      else s.cardDone) := by
  obtain ⟨hstart, hcrc, hsent, herr, hcode⟩ := hgood
  have awaited : ¬ (s.cb.card.phase ≠ 4 ∨ (s.cb.card.await ≠ 1 ∧ s.cb.card.await ≠ 4)) := by simp [h4, hawait]
  have first : s.cb.card.await ≠ 4 := by omega
  have sound : ¬ (getField frame 6 0 ≠ crc7 (frame.toNat / 2 ^ 7) ∨ getField frame 12 7 ≠ (if s.cb.card.await = 4 then 63 else s.cb.card.sent)) := by
    rw [if_neg first]
    simp [hcrc, hsent]
  refine congrArg done ?_
  dsimp only
  rw [if_neg awaited, if_neg (not_not.2 hstart), if_neg sound, if_neg (by simp [herr]), if_neg (by simp [hcode]), if_neg first]

theorem awaiting (h : s.cb.card.phase = 4 ∧ (s.cb.card.await = 1 ∨ s.cb.card.await = 4)) :
    ¬ (s.cb.card.phase ≠ 4 ∨ (s.cb.card.await ≠ 1 ∧ s.cb.card.await ≠ 4)) := by omega

/-- A command on the slot while neither a card nor a badge is served. -/
theorem cbCmd_free {f : State → Nat × State} {st : Nat} {t : State} (hl : s.pageLive cbPage = true) (hbusy : s.cbBusy = false)
    (hf : f s = (st, t)) : s.cbCmd f = (t.cbStatus st).took cbPage := by
  unfold State.cbCmd
  rw [pageWrite_live _ _ _ hl, if_neg (by simp [hbusy]), hf]

/-- The badge that a REVOKE moves to the revoked ones bears the number asked for. -/
theorem revoked_uid (u : Nat) : ((s.badge u).getD ((s.revokedBadge u).getD { uid := u })).uid = u := by
  cases hb : s.badge u with
  | some b =>
    have := List.find?_some hb
    exact of_decide_eq_true this
  | none =>
    cases hr : s.revokedBadge u with
    | some r =>
      have := List.find?_some hr
      exact of_decide_eq_true this
    | none => rfl

end

/-- Settles O46: each event and command in the branch its clause names. -/
theorem cardSlotEventsTakeEffect : Obligations.CardSlotEventsTakeEffect := by
  intro s frame b data crc out g v
  dsimp only
  refine ⟨fun hfilt hacted hout => ⟨_, congrArg done (if_pos ?_), rfl⟩, fun h => congrArg done (if_pos h), fun h3 => congrArg done ?_,
    fun h4 hawait hgood hsent => (execCardResponseRx_good h4 hawait hgood).trans (congrArg done (if_pos hsent)),
    fun h4 hawait hgood hsent => (execCardResponseRx_good h4 hawait hgood).trans (congrArg done ?_),
    fun h4 hawait hgood hsent => (execCardResponseRx_good h4 hawait hgood).trans (congrArg done ?_),
    fun hwaits hstart => congrArg done ((if_neg (awaiting hwaits)).trans (if_pos hstart)), fun hwaits hb hext => congrArg done ?_,
    fun hwaits hb hext => congrArg done ?_, fun hwaits => congrArg done (if_neg ?_), fun h4 hawait hcrc => congrArg done ?_,
    fun h4 hawait hcrc => congrArg done ?_, fun h4 hawait => congrArg done ((if_neg (not_not.2 h4)).trans (if_pos hawait)),
    fun h => congrArg done ?_, fun hfilt hin => ⟨_, congrArg done (if_neg ?_), rfl, rfl⟩, fun hg hphase => congrArg done ?_,
    fun hl hbusy => congrArg done ((if_pos hl).trans ?_), fun hl hbusy => congrArg done ((if_pos hl).trans ?_),
    fun ⟨hl, hbusy⟩ => congrArg done (cbCmd_free hl hbusy rfl), fun ⟨hl, hbusy⟩ hlock hrest => ?_,
    fun ⟨hl, hbusy⟩ => congrArg done (cbCmd_free hl hbusy rfl), fun hl hlock h31 hdet hlo hhi h24 h25 hst => congrArg done ((if_pos hl).trans ?_)⟩
  · simp [hfilt, hacted, hout]
  · dsimp only
    rw [if_neg (by omega), if_pos h3]
  · rw [if_neg (by omega), if_neg (by omega)]
    unfold State.cardDone
    dsimp only
    rw [if_neg (by omega), if_neg (by omega), if_pos hsent]
  · rw [if_neg (by omega), if_pos (.inl hsent)]
    unfold State.cardOut
    dsimp only
    rw [if_pos hsent]
  · exact (if_neg (awaiting hwaits)).trans ((if_neg (not_not.2 hb)).trans (if_neg (Nat.not_le.2 hext)))
  · exact (if_neg (awaiting hwaits)).trans ((if_neg (not_not.2 hb)).trans (if_pos hext))
  · omega
  · dsimp only
    rw [if_neg (by omega), if_neg (by omega), if_neg (by omega), if_neg (not_not.2 hcrc)]
  · dsimp only
    rw [if_neg (by omega), if_neg (by omega), if_neg (by omega), if_pos hcrc]
  · cases out with
    | true => rfl
    | false =>
      have none_ : s.cb.card.waiting = none := h.resolve_left (by decide)
      simp only [none_, Bool.false_eq_true, if_false]
  · simp [hfilt, hin]
  · rw [hg]
    exact if_neg (by simp [hphase])
  · exact congrArg (fun t : State => (t.modCard fun x => { x.idle with phase := 0 }).took cbPage) (if_neg (by simp [hbusy]))
  · exact congrArg (fun t : State => (t.modCard fun x => { x.idle with phase := 0 }).took cbPage) (if_pos hbusy)
  · have few : ¬ (s.cus.badges.filter fun x => x.uid != s.rd64 (cbReg 0x140) % 2 ^ 56).length < 2 := Nat.not_lt.2 hrest
    refine ⟨_, congrArg done (cbCmd_free hl hbusy ((if_neg (by simp [hlock])).trans (if_neg few))), rfl, ?_, rfl, rfl⟩
    refine List.find?_isSome.2 ⟨_, List.mem_append_right _ (List.mem_singleton_self _), ?_⟩
    exact decide_eq_true (revoked_uid _)
  · simp only [h31, hlock, h24, h25, Bool.false_eq_true, if_false, if_true, if_neg hdet, if_pos (And.intro hlo hhi)]
    exact congrArg (State.took · cbPage) (if_neg hst)

end Sys2Proof.Machine
end

section
/-!
PROOFS. The badge reader: its pings, anticollision, and the commands and answers of a presentation (O47).
-/
namespace Sys2Proof.Machine

section
variable {s t : State} {code : Nat} {data r : List Byte} {ok left : Bool}

/-- Command `code` of the presented badge is due. -/
abbrev Reader.due (x : Reader) (code : Nat) : Prop := x.st = 4 ∧ x.cur.isSome = true ∧ x.next = code ∧ x.sent = 0

/-- The answer to command `code` is awaited. -/
abbrev Reader.awaits (x : Reader) (code : Nat) : Prop := x.st = 4 ∧ x.cur.isSome = true ∧ x.sent = code

/-- A command that is due is sent, its code in front. -/
theorem badgeSend_due {f : Reader → List Byte} (h : s.cb.rdr.due code) (hc : code < 256) :
    s.badgeSend code f = s.modRdr fun y =>
      { y with next := 0, sent := (nth 0 (BitVec.ofNat 8 code :: f s.cb.rdr) 0).toNat,
               tx := (BitVec.ofNat 8 code :: f s.cb.rdr) ++ crcA (BitVec.ofNat 8 code :: f s.cb.rdr) } := by
  have front : beBytes 1 code = [BitVec.ofNat 8 code] := rfl
  have sent : (nth 0 (BitVec.ofNat 8 code :: f s.cb.rdr) 0).toNat = code := Nat.mod_eq_of_lt hc
  unfold State.badgeSend
  dsimp only
  rw [if_pos h, front, sent]
  rfl

/-- An answer that is awaited is taken. -/
theorem execBadgeResponseRx_awaits (h : s.cb.rdr.awaits code) (h0 : code ≠ 0) : exec (.badgeResponseRx data ok) s = .next (s.badgeAnswer data ok) := by
  obtain ⟨h4, hcur, hsent⟩ := h
  exact congrArg done (if_pos ⟨h4, hcur, hsent ▸ h0⟩)

/-- The command that proves the reader to the badge, and the random number that it draws. -/
theorem execAuth1_due (h : s.cb.rdr.due 0x70) (hdraw : s.draw 4 1 = (some r, t)) : exec .auth1 s = .next (t.modRdr fun y =>
    { y with nr := r, next := 0, sent := (nth 0 ([0x70] ++ r) 0).toNat, tx := ([0x70] ++ r) ++ crcA ([0x70] ++ r) }) := by
  have hu := drawnFrom_draw hdraw
  refine congrArg done ((if_pos h).trans ?_)
  rw [hdraw]
  have due : (t.modRdr fun y => { y with nr := r }).cb.rdr.due 0x70 := by
    have same : t.cb.rdr = s.cb.rdr := congrArg Custodian.rdr hu.cb
    change t.cb.rdr.st = 4 ∧ t.cb.rdr.cur.isSome = true ∧ t.cb.rdr.next = 0x70 ∧ t.cb.rdr.sent = 0
    rw [same]
    exact h
  exact badgeSend_due due (by decide)

end

/-- Settles O47: each event and command in the branch its clause names. -/
theorem badgeReaderTakesEffect : Obligations.BadgeReaderTakesEffect := by
  intro s amp uid atqa sak n data r ok left t
  dsimp only
  have filled (h : s.cb.rdr.base ≠ []) : s.cb.rdr.base.length ≠ 0 := fun h0 => h (List.length_eq_zero_iff.1 h0)
  refine ⟨fun h1 hon hbase hdiff => congrArg done ?_, fun h1 hon hbase hdiff hblocked => congrArg done ?_, fun hst hfound => congrArg done (if_pos ⟨hst, hfound⟩),
    fun h3 hretry => congrArg done ((if_neg (not_not.2 h3)).trans (if_pos hretry)), fun h2 => congrArg done (if_pos h2),
    fun h4 hcur hnext => congrArg done ?_, fun h3 hatqa hsak hlen hmem => congrArg done ?_, fun h3 hother => congrArg done ?_,
    fun hdue => congrArg done (badgeSend_due hdue (by decide)), fun hnext => congrArg done (if_neg (not_not.2 hnext)), execAuth1_due,
    fun hdue => congrArg done (badgeSend_due hdue (by decide)), fun hdue => congrArg done (badgeSend_due hdue (by decide)),
    fun hdue => congrArg done (badgeSend_due hdue (by decide)), fun hdue => congrArg done (badgeSend_due hdue (by decide)),
    fun hdue => congrArg done (badgeSend_due hdue (by decide)), fun hdue => congrArg done (badgeSend_due hdue (by decide)),
    fun h => (execBadgeResponseRx_awaits h (by decide)).trans (congrArg done ?_),
    fun h => ⟨(execBadgeResponseRx_awaits h (by decide)).trans (congrArg done ?_), (execBadgeResponseRx_awaits h (by decide)).trans (congrArg done ?_)⟩,
    fun h => (execBadgeResponseRx_awaits h (by decide)).trans (congrArg done ?_),
    fun h => (execBadgeResponseRx_awaits h (by decide)).trans (congrArg done ?_), fun ⟨q, hsent⟩ h4 hcur hleft => congrArg done ?_,
    fun ⟨h4, hcur, hsent⟩ => congrArg done ?_⟩
  · dsimp only
    rw [if_neg (by simp [h1, hon]), if_neg (filled hbase), if_pos hdiff]
  · dsimp only
    rw [if_neg (by simp [h1, hon]), if_neg (filled hbase), if_neg (Nat.not_le.2 hdiff), if_neg (by simp [hblocked])]
  · dsimp only
    rw [if_neg (by omega), if_pos (.inr ⟨h4, hcur⟩), hnext]
  · dsimp only
    rw [if_neg (not_not.2 h3), if_neg (by simp [hatqa, hsak]), if_neg]
    · rfl
    · rintro (h | h)
      · omega
      · exact hmem (List.contains_iff_mem.1 h)
  · dsimp only
    rw [if_neg (not_not.2 h3), if_pos hother]
  · exact if_pos h.2.2
  · obtain ⟨-, -, hsent⟩ := h
    unfold State.badgeAnswer
    dsimp only
    rw [if_neg (by omega), if_neg (by omega), if_pos hsent, if_pos rfl]
  · obtain ⟨-, -, hsent⟩ := h
    unfold State.badgeAnswer
    dsimp only
    rw [if_neg (by omega), if_neg (by omega), if_pos hsent, if_neg Bool.false_ne_true]
  · obtain ⟨-, -, hsent⟩ := h
    unfold State.badgeAnswer
    dsimp only
    rw [if_neg (by omega), if_neg (by omega), if_neg (by omega), if_neg (by omega), if_pos hsent]
  · obtain ⟨-, -, hsent⟩ := h
    unfold State.badgeAnswer
    dsimp only
    rw [if_neg (by omega), if_neg (by omega), if_neg (by omega), if_neg (by omega), if_neg (by omega), if_neg (by omega), if_pos hsent, if_pos rfl]
  · have answered : ¬ (s.cb.rdr.st ≠ 4 ∨ s.cb.rdr.cur = none ∨ s.cb.rdr.sent = 0) := by
      simp [h4, Option.isSome_iff_ne_none.1 hcur, hsent]
    exact (if_neg answered).trans (if_pos hleft)
  · have answered : ¬ (s.cb.rdr.st ≠ 4 ∨ s.cb.rdr.cur = none ∨ s.cb.rdr.sent = 0) := by
      simp [h4, Option.isSome_iff_ne_none.1 hcur, hsent]
    exact (if_neg answered).trans ((if_neg (by decide)).trans (if_pos hsent))

end Sys2Proof.Machine
end

section
/-!
PROOFS. Lane tests, the service of a dram and the tests of a core (O48).
-/
namespace Sys2Proof.Machine

section
variable {s : State} {d o k op : Nat} {f : State → State} {l : List Nat}

/-- The page of drams takes no command for `d` now. -/
def State.dramBusy (s : State) (d : Nat) : Bool := s.fld (ra tPW 0 0x110) 31 31 == 1 && s.st.req.contains d

theorem dramBusy_of (h : s.fld (ra tPW 0 0x110) 31 31 = 0) : s.dramBusy d = false := by
  unfold State.dramBusy
  rw [h]
  rfl

/-- A command on a dram in a state that allows it. -/
theorem dramCmd_taken (h : s.fld (ra tPW 0 0x110) 31 31 = 0 ∧ s.isoDomain d = false) (hst : s.drState d ∈ l) :
    s.dramCmd d l f = (f (s.drStatus d 0)).took (drPage d) := by
  unfold State.dramCmd
  refine if_neg ?_
  rw [show (s.fld (ra tPW 0 0x110) 31 31 == 1 && s.st.req.contains d) = false from dramBusy_of h.1, h.2, List.contains_iff_mem.2 hst]
  decide

/-- A command on a dram in another state. -/
theorem dramCmd_refused (hst : s.drState d ∉ l) : s.dramCmd d l f = (s.drStatus d 0x20B).took (drPage d) := by
  unfold State.dramCmd
  have other : l.contains (s.drState d) = false := by simpa using hst
  refine if_pos ?_
  rw [other, Bool.not_false, Bool.or_true]

/-- A test of a core that runs nothing. -/
theorem coreTest_idle (hk : k < 32) (hon : s.domOn (64 + o) = true) (hst : (s.core (32 * o + k)).st = 0 ∨ (s.core (32 * o + k)).st = 4)
    (hfail : (s.took (pageNo tTS o)).fld (ozReg o 0x818) k k = 0) (hbusy : (s.took (pageNo tTS o)).fld (tsReg o 0x104) 31 31 = 0) :
    s.coreTest o k op = ({ s.took (pageNo tTS o) with svc := { (s.took (pageNo tTS o)).svc with
      test := oput ((32 * o + k) * 4 + op) o (s.took (pageNo tTS o)).svc.test } }).wrn (tsReg o 0x104) (2 ^ 31) := by
  have hk32 : k % 32 = k := Nat.mod_eq_of_lt hk
  have hck : (32 * o + k) % 32 = k := by omega
  have on : (s.took (pageNo tTS o)).domOn (64 + o) = true := by
    unfold State.domOn State.domain
    rw [State.took_dom]
    exact hon
  unfold State.coreTest
  dsimp only
  rw [hk32, hck]
  refine if_neg ?_
  rw [on, hfail, hbusy]
  rcases hst with h | h <;> simp [h]

end

/-- Settles O48: each command and event in the branch its clause names. -/
theorem testAndServiceCommandsTakeEffect : Obligations.TestAndServiceCommandsTakeEffect := by
  intro s n d o k bits errs sram v r lock pass
  dsimp only
  refine ⟨fun hl hst hv => exec_lnTestCfgWrite_stored s n _ hl hst hv, fun hl hst hst6 => exec_lnTestCfgWrite_refused s n _ hl (fun h => absurd h hst6) (.inl hst),
    fun hl hst hmode hlocked hmax => congrArg done ((pageWrite_live _ _ _ hl).trans ((if_pos hst).trans ?_)),
    fun hl hst => congrArg done ((pageWrite_live _ _ _ hl).trans (if_neg hst)), fun hst hmode hlocked => congrArg done ?_,
    fun hfree hst => congrArg done (dramCmd_taken hfree (List.mem_singleton.2 hst)), fun hfree hst hdeps => congrArg done ?_,
    fun hfree hst => ⟨_, rfl, congrArg done (dramCmd_taken hfree (List.mem_singleton.2 hst))⟩,
    fun _ hst => congrArg done (dramCmd_refused (by simp [hst])), fun hst hcells => congrArg done (if_pos ⟨hst, hcells⟩),
    fun hst => congrArg done (if_pos hst), fun hst => congrArg done (if_pos hst), fun hst hon hrun => congrArg done ?_,
    fun hst hon hrun hlo hhi => congrArg done ?_, fun hk ho ⟨hon, hst, hfail, hbusy⟩ => ⟨_, rfl, ?_, ?_⟩,
    fun htest hv => ⟨_, rfl, congrArg done ?_⟩, fun hst => congrArg done (if_pos hst)⟩
  · have counted : s.prbsInject n = s.wrn (lnReg n 0x30) (min ((s.rd (lnReg n 0x30)).toNat + 1) 0xFFFFFFFF) := if_pos ⟨hst, hmode, hlocked⟩
    rw [counted, Nat.min_eq_left hmax]
  · have runs : ¬ (s.lnState n ≠ 6 ∨ s.testMode n = 2) := by simp [hst, hmode]
    have unlocked : ¬ s.fld (lnReg n 0x34) 0 0 = 1 := by omega
    dsimp only
    rw [if_neg runs, if_neg unlocked, if_neg fun h => unlocked h.1]
  · refine (dramCmd_taken hfree ?_).trans (congrArg (State.took · (drPage d)) (if_pos (List.all_eq_true.2 hdeps)))
    rcases hst with h | h <;> simp [h]
  · rw [if_pos (by simp [hst, hon, hrun]), if_pos rfl]
  · rw [if_pos (by simp [hst, hon, hrun]), if_neg (by omega), Nat.min_eq_right hhi]
  · exact congrArg done (coreTest_idle hk hon hst hfail hbusy)
  · exact congrArg done (coreTest_idle hk hon hst hfail hbusy)
  · rw [htest]
    have reload : v % 4 ≠ 1 := by omega
    dsimp only
    rw [if_neg reload, if_neg fun h => reload h.1]

end Sys2Proof.Machine
end

section
/-!
PROOFS. Isolation of an ounce, and the losses of clocks and links (O49).
-/
namespace Sys2Proof.Machine

section
variable {s : State} {a b : Nat}

/-- The end of causes touches the service alone. -/
theorem causesEnd_svc (cause : Nat) (os : List Nat) (s : State) : ∃ v, os.foldl (fun s o => s.causeEnds o cause) s = { s with svc := v } := by
  induction os generalizing s with
  | nil => exact ⟨s.svc, rfl⟩
  | cons o os ih => exact ih (s.causeEnds o cause)

/-- A link that is set to up in a table of links reads up. -/
theorem linkUp_up {t : Tbl Bool} (h : tblWf (fun _ => false) t = true) (k k' : Nat) (hk : k' = k) :
    cget false (cput false false k' (cput false false k t)) k = false := by
  subst hk
  have h1 : tblWf (fun _ => false) (cput false false k' t) = true := tput_wf _ _ _ _ h
  exact (tget_tput _ _ _ _ h1 _).trans (if_pos rfl)

theorem execCrossOunceLinkRestored_up (ha : a < 4) (hb : b < 4) (hab : a ≠ b) : ∃ t : State, execCrossOunceLinkRestored a b s = .next t ∧
    t.regs = s.regs ∧ t.mem = s.mem ∧ t.dom = s.dom ∧ (tblWf (fun _ => false) s.fab.linkDown = true → t.linkIsDown a b = false) := by
  have other : ¬ (a = b ∨ 4 ≤ a ∨ 4 ≤ b) := by omega
  have key : linkKey b a = linkKey a b := by
    unfold linkKey
    rw [Nat.min_comm, Nat.max_comm]
  unfold execCrossOunceLinkRestored
  rw [if_neg other]
  extract_lets _ s1 s2
  have h1 : s1.regs = s.regs ∧ s1.mem = s.mem ∧ s1.dom = s.dom ∧ (tblWf (fun _ => false) s.fab.linkDown = true → s1.linkIsDown a b = false) := by
    refine ⟨rfl, rfl, rfl, fun hwf => ?_⟩
    exact (congrArg (a != b && ·) (linkUp_up hwf (linkKey a b) (linkKey b a) key)).trans (Bool.and_false _)
  obtain ⟨v, hv⟩ := causesEnd_svc (linkCause a b) (linkIsolates a b) s1
  have h2 : s2.regs = s.regs ∧ s2.mem = s.mem ∧ s2.dom = s.dom ∧ (tblWf (fun _ => false) s.fab.linkDown = true → s2.linkIsDown a b = false) := by
    rw [show s2 = { s1 with svc := v } from hv]
    exact h1
  split
  · exact ⟨_, rfl, h2⟩
  · exact ⟨_, rfl, h2⟩

end

/-- Settles O49: each command and event in the branch its clause names. -/
theorem isolationAndClockLossesTakeEffect : Obligations.IsolationAndClockLossesTakeEffect := by
  intro s o a b k pll vck
  dsimp only
  refine ⟨fun hrun hheld hsoft hiso => congrArg done ?_, fun hrun => congrArg done (if_pos ?_), fun hrun hheld hsoft => congrArg done ?_,
    fun hrun hheld hsoft hiso => congrArg done ?_, fun hiso h3 h2 => ⟨_, rfl, congrArg done (if_neg ?_)⟩, fun hiso => congrArg done (if_pos (.inl hiso)),
    rfl, execCrossOunceLinkRestored_up, fun ho => congrArg done (if_neg (Nat.not_le.2 ho)), congrArg done ?_, rfl,
    fun ho hlost => ⟨_, rfl, congrArg done ((if_neg (Nat.not_le.2 ho)).trans ?_)⟩, fun hlost => congrArg done (if_pos (List.contains_iff_mem.2 hlost)),
    rfl, fun ho hlo hhi => congrArg done ?_, fun ho hpll => congrArg done ?_⟩
  · rw [if_neg (by simp [hrun, hheld]), if_neg (Nat.not_le.2 hsoft), if_neg (not_not.2 hiso)]
  · rw [hrun, Bool.true_or]
  · rw [if_neg (by simp [hrun, hheld]), if_pos hsoft]
  · rw [if_neg (by simp [hrun, hheld]), if_neg (Nat.not_le.2 hsoft), if_pos hiso]
  · rintro (h | h | ⟨h, -⟩)
    · exact h hiso
    · omega
    · omega
  · by_cases hk : 3 ≤ k
    · rw [if_pos (.inr hk), if_pos hk]
    · have target : nth 0 ((List.range 4).filter (· != 0)) k = k + 1 := by
        interval_cases k <;> rfl
      rw [if_neg (by omega), if_neg hk, target]
  · have same : (s.pllLoss o 0).svc.fabLost = s.svc.fabLost := congrArg Service.fabLost (State.irq_svc ..)
    have added : ¬ (s.pllLoss o 0).svc.fabLost.contains o = true := by
      rw [same, List.contains_iff_mem]
      exact hlost
    dsimp only
    rw [if_neg added, same]
  · have first : ¬ (pll = 1 ∨ pll = 2) := by omega
    rw [if_neg (by omega), if_neg (by omega)]
    dsimp only
    rw [if_neg first, if_neg (by omega)]
  · rw [if_neg (by omega), if_neg (by omega)]
    dsimp only
    rw [if_pos hpll, if_neg (by omega)]

end Sys2Proof.Machine
end

section
/-!
PROOFS. The test access port (O50).
-/
namespace Sys2Proof.Machine

section
variable {s t : State} {ir op a : Nat} {scan run : Bool} {f : Nat → State → Nat × State}

/-! ### Boundary scan -/

theorem tapBoundary_shut (h : s.jtagClasses.testBit 1 = false) : s.tapBoundary ir scan = s.tap 0xFF 0 := by
  refine if_pos ?_
  unfold State.jtagOpen
  rw [h]
  rfl

/-- Before the ports open, or in HELD, the boundary register takes the pins. -/
theorem tapBoundary_early (h : s.jtagClasses.testBit 1 = true) (he : s.portsOpen = false ∨ s.isHeld = true) :
    s.tapBoundary ir scan = { (if scan then s.tapPins ir else s.tap ir 0) with
      jtag := { (if scan then s.tapPins ir else s.tap ir 0).jtag with boundary := true } } := by
  have opened : ¬ (!s.jtagOpen 1) = true := by simp [State.jtagOpen, h]
  have early : ¬ (s.portsOpen && !s.isHeld) = true := by rcases he with h | h <;> simp [h]
  exact (if_neg opened).trans (if_neg early)

theorem tapBoundary_late (h : s.jtagClasses.testBit 1 = true) (hports : s.portsOpen = true) (hheld : s.isHeld = false) :
    s.tapBoundary ir scan = (List.range 4).foldl (fun s o => s.setFld (tsReg o 0x108) 0 0 1) s.tapBypass := by
  have opened : ¬ (!s.jtagOpen 1) = true := by simp [State.jtagOpen, h]
  exact (if_neg opened).trans (if_pos (by simp [hports, hheld]))

/-- A bit that is set in a register that resets with it clear reads set, whatever the table. -/
theorem fld_setFld_one (hreset : getField (resetWord a) 0 0 = 0) : (s.setFld a 0 0 1).fld a 0 0 = 1 := by
  have set : getField (setField (s.rd a) 0 0 1) 0 0 = 1 := getField_setField _ _ _ _ (by decide)
  have new : setField (s.rd a) 0 0 1 ≠ resetWord a := fun h => by
    rw [h, hreset] at set
    exact absurd set (by decide)
  exact (congrArg (getField · 0 0) (tget_tput_new _ _ _ _ new)).trans set

/-- The refusal shows in every ounce. -/
theorem refusal_shown (s : State) : ((List.range 4).foldl (fun s o => s.setFld (tsReg o 0x108) 0 0 1) s).fld (tsReg 2 0x108) 0 0 = 1 :=
  (fld_setFld_other _ _ _ _ _ _ _ _ (by decide)).trans (fld_setFld_one (by decide))

/-! ### CORE_ACCESS -/

theorem jtagOpen_of (h : s.jtagClasses.testBit 2 = true) : ¬ (!s.jtagOpen 2) = true := by simp [State.jtagOpen, h]

theorem coreAccess_shut (h : s.jtagClasses.testBit 2 = false) : s.coreAccess op a f = s.tap 0xFF 0 := by
  refine if_pos ?_
  unfold State.jtagOpen
  rw [h]
  rfl

theorem jtagRun_shut (h : s.jtagClasses.testBit 2 = false) : s.jtagRun run = s.tap 0xFF 0 := by
  refine if_pos ?_
  unfold State.jtagOpen
  rw [h]
  rfl

/-- An access to a core that runs is refused. -/
theorem coreAccess_running (h : s.jtagClasses.testBit 2 = true) (hst : (s.core s.jtag.sel).st = 1) :
    s.coreAccess op a f = s.tap 0x21 (accessWord 3 a 0) := by
  refine (if_neg (jtagOpen_of h)).trans (if_pos ?_)
  rw [hst]
  rfl

/-- An access to a core that stands still. -/
theorem coreAccess_acts (h : s.jtagClasses.testBit 2 = true ∧ ((s.core s.jtag.sel).st = 0 ∨ (s.core s.jtag.sel).st = 4) ∧
    s.domOn (64 + coreOunce s.jtag.sel) = true ∧ s.fld (ozReg (coreOunce s.jtag.sel) 0x818) (s.jtag.sel % 32) (s.jtag.sel % 32) = 0) :
    s.coreAccess op a f = (f s.jtag.sel s).2.tap 0x21 (accessWord op a (f s.jtag.sel s).1) := by
  obtain ⟨hopen, hst, hon, hdisp⟩ := h
  refine (if_neg (jtagOpen_of hopen)).trans (if_neg ?_)
  rw [hon, hdisp]
  rcases hst with h | h <;> simp [h]

theorem jtagRun_open (h : s.jtagClasses.testBit 2 = true) (ht : exec (.vcRun s.jtag.sel run) s = .next t) :
    s.jtagRun run = t.tap 0x21 (accessWord (2 + b2n run) 0 0) := by
  unfold State.jtagRun
  rw [if_neg (jtagOpen_of h)]
  dsimp only
  rw [show execVcRun s.jtag.sel run s = .next t from ht]

theorem vcRun_answers (s : State) (c : Nat) (run : Bool) : ∃ t, exec (.vcRun c run) s = .next t := ⟨_, rfl⟩

end

/-- Settles O50: each instruction in the branch its clause names. -/
theorem testAccessPortTakesEffect : Obligations.TestAccessPortTakesEffect := by
  intro s c a v
  dsimp only
  have generalPage (ha : a < 32) : (0x3FFF0000 + a) % 2 ^ 30 = 0x3FFF0000 + a ∧ (0x3FFF0000 + a) % 2 ^ 16 = a := by omega
  refine ⟨rfl, rfl, rfl, fun h => ⟨_, congrArg done (if_pos h), rfl, rfl, rfl, rfl⟩, fun h he => ⟨_, congrArg done (tapBoundary_early h he), rfl, rfl, rfl⟩,
    fun h he => ⟨_, congrArg done (tapBoundary_early h he), rfl, rfl, rfl⟩, fun h he => ⟨_, congrArg done (tapBoundary_early h he), rfl, rfl, rfl⟩,
    fun h he => ⟨_, rfl, congrArg done (tapBoundary_early h he)⟩, fun h he => ⟨_, rfl, congrArg done (tapBoundary_early h he)⟩,
    fun h => ⟨congrArg done (tapBoundary_shut h), congrArg done (tapBoundary_shut h), congrArg done (tapBoundary_shut h),
      congrArg done (tapBoundary_shut h), congrArg done (tapBoundary_shut h), congrArg done (if_neg ?_)⟩,
    fun h hports hheld => ⟨_, congrArg done (tapBoundary_late h hports hheld), rfl, refusal_shown _⟩,
    fun h => ⟨_, congrArg done (if_pos h), rfl, rfl, rfl⟩, fun h => congrArg done (if_neg ?_), fun h hc => ⟨_, congrArg done (if_pos h), rfl, ?_, ?_, rfl⟩,
    fun h => ⟨congrArg done (if_neg ?_), congrArg done (coreAccess_shut h), congrArg done (coreAccess_shut h), congrArg done (jtagRun_shut h),
      congrArg done (jtagRun_shut h)⟩,
    fun h ha => congrArg done ((coreAccess_acts h).trans ?_), fun h hlo hhi => congrArg done ((coreAccess_acts h).trans ?_),
    fun h ha => congrArg done ((coreAccess_acts h).trans ?_), fun h hst => ⟨congrArg done (coreAccess_running h hst), congrArg done (coreAccess_running h hst)⟩,
    fun h => ?_, fun h => ?_⟩
  · unfold State.jtagOpen
    simp [h]
  · unfold State.jtagOpen
    simp [h]
  · exact Nat.mod_eq_of_lt hc
  · exact Nat.mod_eq_of_lt hc
  · unfold State.jtagOpen
    simp [h]
  · obtain ⟨hmod, hlow⟩ := generalPage ha
    dsimp only
    rw [hmod, hlow, if_pos (by omega), if_pos ha]
  · have hmod : a % 2 ^ 30 = a := by omega
    dsimp only
    rw [hmod, if_neg (by omega), if_pos hlo]
  · obtain ⟨hmod, hlow⟩ := generalPage ha
    dsimp only
    rw [hmod, hlow, if_pos (by omega), if_pos ha]
  · obtain ⟨t, ht⟩ := vcRun_answers s s.jtag.sel false
    exact ⟨t, ht, congrArg done (jtagRun_open h ht)⟩
  · obtain ⟨t, ht⟩ := vcRun_answers s s.jtag.sel true
    exact ⟨t, ht, congrArg done (jtagRun_open h ht)⟩

end Sys2Proof.Machine
end

section
/-!
PROOFS. The sources of starts (O36): what a cold start shows in GLB_START_STAT, whatever the register table held before, and what the loss of
supply leaves of the flash.
-/
namespace Sys2Proof.Machine

/-! ### A key whose writes show -/

section
variable {α : Type}

/-- Key `k` is listed at most once, where a write to it finds it. -/
def Settled (k : Nat) : Tbl α → Prop
  | [] => True
  | (k', _) :: t => if k < k' ∨ k = k' then ∀ e ∈ t, e.1 ≠ k else Settled k t

theorem settled_absent {k : Nat} {t : Tbl α} (h : ∀ e ∈ t, e.1 ≠ k) : Settled k t := by
  induction t with
  | nil => trivial
  | cons e t ih =>
    obtain ⟨k', v'⟩ := e
    have rest : ∀ e ∈ t, e.1 ≠ k := fun e he => h e (List.mem_cons_of_mem _ he)
    unfold Settled
    split
    · exact rest
    · exact ih rest

theorem tget_absent {d : Nat → α} {k : Nat} {t : Tbl α} (h : ∀ e ∈ t, e.1 ≠ k) : tget d t k = d k := by
  induction t with
  | nil => rfl
  | cons e t ih =>
    obtain ⟨k', v'⟩ := e
    have other : k' ≠ k := h (k', v') List.mem_cons_self
    simp only [tget, if_neg other]
    exact ih fun e he => h e (List.mem_cons_of_mem _ he)

variable {d : Nat → α} {k j : Nat} {v : α} {t : Tbl α}

theorem settled_cons_le {k' : Nat} {v' : α} (h : k ≤ k') : Settled k ((k', v') :: t) ↔ ∀ e ∈ t, e.1 ≠ k := by
  rw [Settled, if_pos (by omega)]

theorem settled_cons_gt {k' : Nat} {v' : α} (h : k' < k) : Settled k ((k', v') :: t) ↔ Settled k t := by
  rw [Settled, if_neg (by omega)]

theorem absent_cons {k' : Nat} {v' : α} (hk : k' ≠ k) (h : ∀ e ∈ t, e.1 ≠ k) : ∀ e ∈ (k', v') :: t, e.1 ≠ k := fun e he =>
  (List.mem_cons.1 he).elim (fun heq => heq ▸ hk) (h e)

variable [DecidableEq α]

theorem absent_tput (h : ∀ e ∈ t, e.1 ≠ k) (hj : j ≠ k) : ∀ e ∈ tput d v j t, e.1 ≠ k := by
  induction t with
  | nil =>
    intro e he
    unfold tput at he
    split at he
    · exact absurd he List.not_mem_nil
    · rw [List.mem_singleton.1 he]
      exact hj
  | cons p t ih =>
    obtain ⟨k', v'⟩ := p
    have head : k' ≠ k := h (k', v') List.mem_cons_self
    have rest : ∀ e ∈ t, e.1 ≠ k := fun e he => h e (List.mem_cons_of_mem _ he)
    have cons {x : Nat × α} {l : Tbl α} (hx : x.1 ≠ k) (hl : ∀ e ∈ l, e.1 ≠ k) : ∀ e ∈ x :: l, e.1 ≠ k := fun e he =>
      (List.mem_cons.1 he).elim (fun heq => heq ▸ hx) (hl e)
    unfold tput
    split_ifs
    · exact h
    · exact cons hj h
    · exact rest
    · exact cons hj rest
    · exact cons head (ih rest)

/-- A write to a settled key shows. -/
theorem tget_tput_settled (h : Settled k t) : tget d (tput d v k t) k = v := by
  by_cases hv : v = d k
  · subst hv
    induction t with
    | nil => simp [tput, tget]
    | cons e t ih =>
      obtain ⟨k', v'⟩ := e
      unfold tput
      rcases Nat.lt_trichotomy k k' with hlt | rfl | hgt
      · rw [if_pos hlt, if_pos rfl]
        exact tget_absent (absent_cons (by omega) ((settled_cons_le hlt.le).1 h))
      · rw [if_neg (Nat.lt_irrefl k), if_pos rfl, if_pos rfl]
        exact tget_absent ((settled_cons_le le_rfl).1 h)
      · rw [if_neg (by omega), if_neg (by omega)]
        simp only [tget, if_neg (show k' ≠ k by omega)]
        exact ih ((settled_cons_gt hgt).1 h)
  · exact tget_tput_new _ _ _ _ hv

theorem settled_tput (h : Settled k t) : Settled k (tput d v k t) := by
  induction t with
  | nil =>
    unfold tput
    split_ifs
    · trivial
    · exact (settled_cons_le le_rfl).2 fun e he => absurd he List.not_mem_nil
  | cons e t ih =>
    obtain ⟨k', v'⟩ := e
    unfold tput
    rcases Nat.lt_trichotomy k k' with hlt | rfl | hgt
    · rw [if_pos hlt]
      split_ifs
      · exact h
      · exact (settled_cons_le le_rfl).2 (absent_cons (by omega) ((settled_cons_le hlt.le).1 h))
    · have rest := (settled_cons_le le_rfl).1 h
      rw [if_neg (Nat.lt_irrefl k), if_pos rfl]
      split_ifs
      · exact settled_absent rest
      · exact (settled_cons_le le_rfl).2 rest
    · rw [if_neg (by omega), if_neg (by omega)]
      exact (settled_cons_gt hgt).2 (ih ((settled_cons_gt hgt).1 h))

theorem settled_tput_other (hj : j ≠ k) (h : Settled k t) : Settled k (tput d v j t) := by
  induction t with
  | nil =>
    unfold tput
    split_ifs
    · trivial
    · exact settled_absent fun e he => List.mem_singleton.1 he ▸ hj
  | cons e t ih =>
    obtain ⟨k', v'⟩ := e
    rcases Nat.lt_or_ge k' k with hgt | hle
    · have rest := (settled_cons_gt hgt).1 h
      unfold tput
      split_ifs
      · exact h
      · exact (settled_cons_gt (by omega)).2 h
      · exact rest
      · exact (settled_cons_gt (by omega)).2 rest
      · exact (settled_cons_gt hgt).2 (ih rest)
    · have rest := (settled_cons_le hle).1 h
      unfold tput
      split_ifs with h1 h2 h3 h4
      · exact h
      · rcases Nat.lt_or_ge j k with hjk | hkj
        · exact (settled_cons_gt hjk).2 h
        · exact (settled_cons_le hkj).2 (absent_cons (by omega) rest)
      · exact settled_absent rest
      · exact (settled_cons_le (by omega)).2 rest
      · exact (settled_cons_le hle).2 (absent_tput rest hj)

end

/-! ### GLB_START_STAT -/

/-- GLB_START_STAT. -/
abbrev startStat : Nat := glReg 0x204

/-- GLB_START_STAT is listed at most once, where a write to it finds it. -/
structure State.StartSettled (s : State) : Prop where
  settled : Settled startStat s.regs

/-- Writes to GLB_START_STAT below its cause show: no table hides them, or the cause is that of SYS_RESET, which is not the value at reset. -/
def State.showsStart (s : State) : Prop := s.StartSettled ∨ s.startFld 31 28 = 2

section
variable {s t : State} {hi lo v : Nat}

theorem rd_setStart (h : s.showsStart) (hhi : hi < 28) : (s.setStart hi lo v).rd startStat = setField (s.rd startStat) hi lo v := by
  rcases h with h | h
  · exact tget_tput_settled h.settled
  · refine tget_tput_new _ _ _ _ fun heq => ?_
    have cause : getField (setField (s.rd startStat) hi lo v) 31 28 = 2 := (getField_setField_ne _ _ _ _ _ _ (.inl hhi)).trans h
    rw [heq] at cause
    exact absurd cause (by decide)

theorem startFld_setStart (h : s.showsStart) (hhi : hi < 28) : (s.setStart hi lo v).startFld hi lo = v % 2 ^ (hi + 1 - lo) :=
  (congrArg (getField · hi lo) (rd_setStart h hhi)).trans (getField_setField _ _ _ _ (by omega))

theorem startFld_setStart_ne (h : s.showsStart) (hhi : hi < 28) {hi' lo' : Nat} (hne : hi < lo' ∨ hi' < lo) :
    (s.setStart hi lo v).startFld hi' lo' = s.startFld hi' lo' :=
  (congrArg (getField · hi' lo') (rd_setStart h hhi)).trans (getField_setField_ne _ _ _ _ _ _ hne)

theorem State.showsStart.setStart (h : s.showsStart) (hhi : hi < 28) : (s.setStart hi lo v).showsStart := by
  rcases h with hset | hcause
  · exact .inl ⟨settled_tput hset.settled⟩
  · exact .inr ((startFld_setStart_ne (.inr hcause) hhi (.inl hhi)).trans hcause)

/-- A write of the cause of SYS_RESET shows, whatever the table. -/
theorem showsStart_sysReset : (s.setStart 31 28 2).startFld 31 28 = 2 := by
  have cause : getField (setField (s.rd startStat) 31 28 2) 31 28 = 2 := getField_setField _ _ _ _ (by decide)
  have new : setField (s.rd startStat) 31 28 2 ≠ resetWord startStat := fun heq => by
    rw [heq] at cause
    exact absurd cause (by decide)
  exact (congrArg (getField · 31 28) (tget_tput_new _ _ _ _ new)).trans cause

/-- `t` reads GLB_START_STAT as `s` does, and settles it where `s` does. -/
structure SameStart (s t : State) : Prop where
  reads : t.rd startStat = s.rd startStat
  settled : s.StartSettled → t.StartSettled

theorem sameStart_refl (s : State) : SameStart s s := ⟨rfl, id⟩
theorem SameStart.trans {u : State} (h : SameStart s t) (h' : SameStart t u) : SameStart s u := ⟨h'.reads.trans h.reads, h'.settled ∘ h.settled⟩
theorem SameStart.wr {a : Nat} {x : Reg} (h : SameStart s t) (ha : a ≠ startStat) : SameStart s (t.wr a x) :=
  ⟨(tget_tput_ne _ _ _ _ _ ha.symm).trans h.reads, fun hs => ⟨settled_tput_other ha (h.settled hs).settled⟩⟩
theorem SameStart.startFld (h : SameStart s t) (hi lo : Nat) : t.startFld hi lo = s.startFld hi lo := congrArg (getField · hi lo) h.reads
theorem SameStart.shows (h : SameStart s t) (hs : s.showsStart) : t.showsStart :=
  hs.elim (fun hset => .inl (h.settled hset)) fun hcause => .inr ((h.startFld 31 28).trans hcause)

theorem SameStart.evcStep {p e : Nat} (h : SameStart s t) (he : pra p e ≠ startStat ∧ pra p (e + 4) ≠ startStat ∧ pra p (e + 4) + 4 ≠ startStat)
    (ev unit amt edge : Nat) : SameStart s (evcStep p ev unit amt edge t e) := by
  obtain ⟨h0, h4, h8⟩ := he
  unfold Machine.evcStep
  extract_lets sel mode add n u
  split
  · have hu : SameStart s u := by
      unfold u
      split
      · exact h.wr h0
      · exact h
    exact (hu.wr h4).wr h8
  · exact h

/-- An event of the GLB page leaves GLB_START_STAT. -/
theorem SameStart.bump (h : SameStart s t) (k u n : Nat) : SameStart s (t.bump glPage k u n) := by
  unfold State.bump
  split
  · exact h
  · have h0 : SameStart s (t.addCtr glPage k u n) := ⟨h.reads, fun hs => ⟨(h.settled hs).settled⟩⟩
    unfold State.event
    exact (((h0.evcStep (by decide) _ _ _ _).evcStep (by decide) _ _ _ _).evcStep (by decide) _ _ _ _).evcStep (by decide) _ _ _ _

/-! ### What a cold start shows -/

/-- The start block after a cold start's cause is set: step 1, cold, and the failed starts `n`. -/
def State.coldShown (s : State) (n : Nat) : State := ((s.startShown 1).setStart 17 16 n).bump glPage 1 0 1

theorem glReg_ne {off off' : Nat} (h : off ≠ off') : glReg off ≠ glReg off' := fun heq => h (Nat.add_left_cancel heq)

theorem sameStart_stepTimes (s : State) (l : List Nat) (hl : ∀ k ∈ l, k < 12) :
    SameStart s (l.foldl (fun s k => s.wrn (glReg (0x220 + 4 * k)) 0) s) := by
  induction l generalizing s with
  | nil => exact sameStart_refl s
  | cons k l ih =>
    have other : 0x220 + 4 * k ≠ 0x204 := by omega
    exact ((sameStart_refl s).wr (glReg_ne other)).trans (ih _ fun j hj => hl j (List.mem_cons_of_mem _ hj))

theorem SameStart.withSt (h : SameStart s t) (x : Startup) : SameStart s { t with st := x } := ⟨h.reads, fun hs => ⟨(h.settled hs).settled⟩⟩

/-- The step times are cleared before the start is shown. -/
theorem startShown_eq (s : State) : ∃ t, s.startShown 1 = ((t.setStart 12 8 1).setStart 7 6 1).setStart 3 0 1 ∧ SameStart s t :=
  ⟨_, rfl, (sameStart_stepTimes s (List.range 12) fun _ hk => List.mem_range.1 hk).withSt _⟩

theorem coldShown_started {n : Nat} (h : s.showsStart) : (s.coldShown n).startFld 12 8 = 1 ∧ (s.coldShown n).startFld 7 6 = 1 ∧
    (s.coldShown n).startFld 3 0 = 1 ∧ (s.coldShown n).startFld 31 28 = s.startFld 31 28 := by
  obtain ⟨t, ht, hsame⟩ := startShown_eq s
  have h0 := hsame.shows h
  have h1 := h0.setStart (hi := 12) (lo := 8) (v := 1) (by decide)
  have h2 := h1.setStart (hi := 7) (lo := 6) (v := 1) (by decide)
  have h3 := h2.setStart (hi := 3) (lo := 0) (v := 1) (by decide)
  have counted := (sameStart_refl ((s.startShown 1).setStart 17 16 n)).bump 1 0 1
  unfold State.coldShown
  rw [counted.startFld, counted.startFld, counted.startFld, counted.startFld, ht]
  refine ⟨?_, ?_, ?_, ?_⟩
  · rw [startFld_setStart_ne h3 (by decide) (by decide), startFld_setStart_ne h2 (by decide) (by decide),
      startFld_setStart_ne h1 (by decide) (by decide), startFld_setStart h0 (by decide)]
    rfl
  · rw [startFld_setStart_ne h3 (by decide) (by decide), startFld_setStart_ne h2 (by decide) (by decide), startFld_setStart h1 (by decide)]
    rfl
  · rw [startFld_setStart_ne h3 (by decide) (by decide), startFld_setStart h2 (by decide)]
    rfl
  · rw [startFld_setStart_ne h3 (by decide) (by decide), startFld_setStart_ne h2 (by decide) (by decide),
      startFld_setStart_ne h1 (by decide) (by decide), startFld_setStart_ne h0 (by decide) (by decide), hsame.startFld]

theorem settled_setStart (h : s.StartSettled) : (s.setStart hi lo v).StartSettled := ⟨settled_tput h.settled⟩

theorem settled_startShown (h : s.StartSettled) : (s.startShown 1).StartSettled :=
  settled_setStart (settled_setStart (settled_setStart
    (((sameStart_stepTimes s (List.range 12) fun _ hk => List.mem_range.1 hk).withSt _).settled h)))

theorem coldShown_settled {n : Nat} (h : s.StartSettled) : (s.coldShown n).StartSettled :=
  ((sameStart_refl ((s.startShown 1).setStart 17 16 n)).bump 1 0 1).settled (settled_setStart (settled_startShown h))

/-- The start runs where the field of the hold and the start says 1. -/
theorem startRunning_of (h : s.startFld 12 8 = 1) : s.startRunning = true := by
  have bit : s.startFld 8 8 = 1 := by
    have h' : natField (s.rd startStat).toNat 12 8 = 1 := h
    change natField (s.rd startStat).toNat 8 8 = 1
    unfold natField at h' ⊢
    omega
  exact decide_eq_true bit

/-! ### What the loss of supply leaves of the flash -/

/-- The cut changes no more than the flash and the free numbers, and leaves the record of what the flash did. -/
structure FlashCutFrom (s t : State) : Prop where
  record : t.fl.opRec = s.fl.opRec
  st : t.st = s.st
  pending : t.pending = s.pending

theorem FlashCutFrom.foldl {β : Type} {f : State → β → State} (hf : ∀ u b, FlashCutFrom s u → FlashCutFrom s (f u b)) (l : List β)
    (h : FlashCutFrom s t) : FlashCutFrom s (l.foldl f t) := by
  induction l generalizing t with
  | nil => exact h
  | cons b l ih => exact ih (hf t b h)

theorem FlashCutFrom.gapMove (h : FlashCutFrom s t) (k : Nat) : FlashCutFrom s (t.gapMove k) := by
  unfold State.gapMove
  extract_lets
  exact ⟨h.record, h.st, h.pending⟩

theorem FlashCutFrom.eraseSector (h : FlashCutFrom s t) (l : Nat) : FlashCutFrom s (t.eraseSector l).2 := by
  unfold State.eraseSector
  extract_lets
  split
  · exact ⟨h.record, h.st, h.pending⟩
  · exact ⟨h.record, h.st, h.pending⟩

theorem FlashCutFrom.eraseCust (h : FlashCutFrom s t) (l : Nat) : FlashCutFrom s (t.eraseCust l) := by
  unfold State.eraseCust
  dsimp only
  split
  · exact (h.eraseSector l).gapMove _
  · exact h.eraseSector l

theorem flashCut_from (s : State) : FlashCutFrom s s.flashCut := by
  unfold State.flashCut
  extract_lets put t
  have hput (u : State) (w n : Nat) (h : FlashCutFrom s u) : FlashCutFrom s (put u w n) :=
    FlashCutFrom.foldl (f := fun s i => s.free.2.setFlWord (w + i) s.free.1) (fun _ _ h' => ⟨h'.record, h'.st, h'.pending⟩) _ h
  have start : FlashCutFrom s s := ⟨rfl, rfl, rfl⟩
  have ht : FlashCutFrom s t := by
    unfold t
    split
    · split_ifs
      · exact start
      · exact hput _ _ _ start
      · exact hput _ _ _ start
      · exact start
    · exact start
  split
  · exact hput _ _ _ (ht.foldl (fun _ _ h' => h'.eraseCust _) _)
  · exact ht

theorem flashCut_idle (hop : s.fl.op = none) (hcs : s.fl.csOp = none) : s.flashCut = s := by
  unfold State.flashCut
  dsimp only
  simp only [hop, hcs]

/-! ### Cold starts -/

/-- What the start block leaves alone. -/
structure BesideStart (s t : State) : Prop where
  sysReset : t.st.sysReset = s.st.sysReset
  cb : t.cb = s.cb
  fl : t.fl = s.fl
  cus : t.cus = s.cus
  pending : t.pending = s.pending

theorem BesideStart.trans {u : State} (h : BesideStart s t) (h' : BesideStart t u) : BesideStart s u :=
  ⟨h'.sysReset.trans h.sysReset, h'.cb.trans h.cb, h'.fl.trans h.fl, h'.cus.trans h.cus, h'.pending.trans h.pending⟩

theorem besideStart_wr (s : State) (a : Nat) (x : Reg) : BesideStart s (s.wr a x) := ⟨rfl, rfl, rfl, rfl, rfl⟩

theorem besideStart_stepTimes (s : State) (l : List Nat) : BesideStart s (l.foldl (fun s k => s.wrn (glReg (0x220 + 4 * k)) 0) s) := by
  induction l generalizing s with
  | nil => exact ⟨rfl, rfl, rfl, rfl, rfl⟩
  | cons k l ih => exact (besideStart_wr s _ _).trans (ih _)

theorem BesideStart.latest (h : BesideStart s t) (time : Nat) :
    BesideStart s { t with st := { t.st with prep := none, preOpen := false, stepT := time } } := ⟨h.sysReset, h.cb, h.fl, h.cus, h.pending⟩

theorem besideStart_coldShown (s : State) (n : Nat) : BesideStart s (s.coldShown n) := by
  have shown : BesideStart s (s.startShown 1) :=
    ((((besideStart_stepTimes s (List.range 12)).latest _).trans (besideStart_wr _ _ _)).trans (besideStart_wr _ _ _)).trans (besideStart_wr _ _ _)
  have counted (t : State) : BesideStart t (t.bump glPage 1 0 1) :=
    ⟨congrArg Startup.sysReset (State.bump_st ..), State.bump_cb .., State.bump_fl .., State.bump_cus .., State.bump_pending ..⟩
  exact (shown.trans (besideStart_wr _ _ _)).trans (counted _)

/-- What a cold start resets before its cause is set, and what of it the start block shows. -/
structure ColdFrom (s t : State) : Prop where
  regs : t.regs = s.regs.filter fun e => glKept e.1 && e.1 != glReg 0x280 && e.1 != glReg 0x284
  sysReset : t.st.sysReset = s.st.sysReset
  cb : s.cb = {} → t.cb = {}
  op : t.fl.op = none
  csOp : t.fl.csOp = none
  opRec : t.fl.opRec = s.fl.opRec
  keepOff : t.cus.keepOff = s.cus.keepOff
  retLost : t.cus.retLost = s.cus.retLost
  pending : t.pending = s.pending

/-- The registers of the start block with the cause of a cold start. -/
def State.coldCaused (s : State) (cause b : Nat) : State := (s.startCause cause).setFld (glReg 0x2A0) 9 9 b

theorem coldReset_shows (s : State) (cause : Nat) : ∃ (t : State) (b n : Nat), s.coldReset cause = (t.coldCaused cause b).coldShown n ∧
    ColdFrom s.flashCut t :=
  ⟨_, _, _, rfl, rfl, rfl, fun h => by rw [h], rfl, rfl, rfl, rfl, rfl, rfl⟩

theorem besideStart_coldCaused (s : State) (cause b : Nat) : BesideStart s (s.coldCaused cause b) :=
  ((besideStart_wr _ _ _).trans (besideStart_wr _ _ _)).trans (besideStart_wr _ _ _)

/-- The cause beside, the start block of `s.startCause cause` is that of `s.coldCaused cause b`. -/
theorem sameStart_coldCaused (s : State) (cause b : Nat) : SameStart (s.startCause cause) (s.coldCaused cause b) :=
  (sameStart_refl _).wr (glReg_ne (by decide))

end

/-- The start that SYS_RESET begins. -/
theorem sysReset_started {s : State} (hs : s.st.sysReset = true) : ∃ t : State, s.coldStart 2 = t ∧ t.st.sysReset = true ∧ t.startRunning = true ∧
    t.startFld 3 0 = 1 ∧ t.startFld 31 28 = 2 ∧ t.startFld 7 6 = 1 := by
  obtain ⟨t, b, n, hr, hfrom⟩ := coldReset_shows s 2
  have cause : (t.coldCaused 2 b).startFld 31 28 = 2 := ((sameStart_coldCaused t 2 b).startFld 31 28).trans showsStart_sysReset
  obtain ⟨hruns, hkind, hstep, hcause⟩ := coldShown_started (n := n) (.inr cause)
  have reset : ((t.coldCaused 2 b).coldShown n).st.sysReset = s.st.sysReset :=
    ((besideStart_coldCaused t 2 b).trans (besideStart_coldShown _ n)).sysReset.trans
      (hfrom.sysReset.trans (congrArg Startup.sysReset (flashCut_from s).st))
  exact ⟨_, hr, reset.trans hs, startRunning_of hruns, hstep, hcause.trans cause, hkind⟩

/-! ### Power on -/

/-- The device as its keep supply finds it again. -/
structure Powered (s : State) : Prop where
  op : s.fl.op = none
  csOp : s.fl.csOp = none
  opRec : s.fl.opRec = none
  cb : s.cb = {}
  keepOff : s.cus.keepOff = false
  retLost : s.cus.retLost = false
  absent : ∀ e ∈ s.regs, e.1 ≠ startStat

theorem settled_startCause {t : State} (h : t.StartSettled) (cause : Nat) : (t.startCause cause).StartSettled :=
  settled_setStart (settled_setStart h)

/-- The cold start of a device that was powered, with its previous cause cleared. -/
theorem powered_started {s : State} (h : Powered s) : ∃ t, (s.coldStart 1).setStart 27 24 0 = t ∧ t.cb = {} ∧ t.pending = s.pending ∧
    t.fl.op = none ∧ t.fl.csOp = none ∧ t.fl.opRec = none ∧ t.cus.keepOff = false ∧ t.cus.retLost = false ∧ t.startRunning = true := by
  obtain ⟨t, b, n, hr, hfrom⟩ := coldReset_shows s 1
  rw [flashCut_idle h.op h.csOp] at hfrom
  have settled0 : t.StartSettled := by
    refine ⟨settled_absent fun e he => ?_⟩
    rw [hfrom.regs] at he
    exact h.absent e (List.mem_filter.1 he).1
  have settled1 : (t.coldCaused 1 b).StartSettled := (sameStart_coldCaused t 1 b).settled (settled_startCause settled0 1)
  have settled2 : ((t.coldCaused 1 b).coldShown n).StartSettled := coldShown_settled settled1
  have beside : BesideStart t (((t.coldCaused 1 b).coldShown n).setStart 27 24 0) :=
    ((besideStart_coldCaused t 1 b).trans (besideStart_coldShown _ n)).trans (besideStart_wr _ _ _)
  refine ⟨_, congrArg (State.setStart · 27 24 0) hr, ?_, beside.pending.trans hfrom.pending, ?_, ?_, ?_, ?_, ?_, ?_⟩
  · rw [beside.cb, hfrom.cb h.cb]
  · rw [beside.fl, hfrom.op]
  · rw [beside.fl, hfrom.csOp]
  · rw [beside.fl, hfrom.opRec, h.opRec]
  · rw [beside.cus, hfrom.keepOff, h.keepOff]
  · rw [beside.cus, hfrom.retLost, h.retLost]
  · exact startRunning_of ((startFld_setStart_ne (.inl settled2) (by decide) (by decide)).trans (coldShown_started (.inl settled1)).1)

theorem glKept_startStat : glKept startStat = true := by decide

theorem powerOn_started {s : State} (hrec : s.fl.opRec = none) : ∃ t : State, s.powerOn true = t ∧ t.cb = {} ∧ t.pending = s.pending ∧
    t.fl.op = none ∧ t.fl.csOp = none ∧ t.cus.keepOff = false ∧ t.cus.retLost = false ∧ t.startRunning = true := by
  unfold State.powerOn
  rw [if_pos rfl]
  extract_lets lost s1 _ _ s3 s4 s5
  have h3 : Powered s3 := by
    refine ⟨rfl, rfl, (flashCut_from s).record.trans hrec, rfl, rfl, rfl, fun e he heq => ?_⟩
    have kept := (List.mem_filter.1 he).2
    rw [heq, glKept_startStat] at kept
    exact absurd kept (by decide)
  have h4 : Powered s4 ∧ s4.pending = s.pending := by
    unfold s4
    split
    · exact ⟨⟨h3.op, h3.csOp, h3.opRec, h3.cb, h3.keepOff, h3.retLost, h3.absent⟩, (flashCut_from s).pending⟩
    · exact ⟨h3, (flashCut_from s).pending⟩
  obtain ⟨t, ht, hcb, hpend, hop, hcs, hor, hkeep, hret, hrun⟩ := powered_started h4.1
  have h5 : s5 = t := ht
  rw [h5, hor]
  exact ⟨t, rfl, hcb, hpend.trans h4.2, hop, hcs, hkeep, hret, hrun⟩

theorem warmRefusal_staged (s : State) (b : List Byte) : ({ s with st := { s.st with staged := b } } : State).warmRefusal = s.warmRefusal := rfl

/-- A warm start that is not refused, with its firmware staged. -/
theorem fwLoad_loads {s : State} (h : s.warmRefusal = 0) (b : List Byte) :
    (if s.warmRefusal ≠ 0 then s.startWarm 9 else ({ s with st := { s.st with staged := b } } : State).startWarm 9) =
      ({ s with st := { s.st with staged := b } } : State).warmPrep 9 :=
  (if_neg (not_not.2 h)).trans (if_neg (not_not.2 ((warmRefusal_staged s b).trans h)))

/-- Settles O36: each start in the branch its clause names. -/
theorem startSourcesTakeEffect : Obligations.StartSourcesTakeEffect := by
  intro s c cause v w
  dsimp only
  refine ⟨rfl, fun hrec => ?_, ?_, fun hreset => congrArg done (if_pos hreset), rfl, fun hok => congrArg done ?_, fun hno => congrArg done ?_,
    fun hok => ⟨_, rfl, congrArg done (fwLoad_loads hok _)⟩, fun hprep => congrArg done ?_, fun hprep => congrArg done ?_, fun hdue => congrArg done (if_pos hdue), rfl,
    fun hwd hprep => congrArg done (if_pos ⟨hwd, by simp [hprep]⟩), fun hv => congrArg done (if_pos hv), fun hv => congrArg done (if_neg hv),
    fun hruns => congrArg done (if_pos hruns)⟩
  · obtain ⟨t, ht, hrest⟩ := powerOn_started hrec
    exact ⟨t, congrArg done ht, hrest⟩
  · obtain ⟨t, ht, hrest⟩ := sysReset_started (s := { s with st := { s.st with sysReset := true } }) rfl
    exact ⟨t, congrArg done ht, hrest⟩
  · exact if_neg (not_not.2 hok)
  · exact if_pos hno
  · rw [hprep]
  · rw [hprep]

end Sys2Proof.Machine
end

section
/-!
PROOFS. The journal (O24). What GENESIS does to a strand turns on a fact about SHA-384: a genesis value of 48 zeros is the chain of a strand
that the table does not list, so the reset strand would be taken out of the table and an entry of the same strand hidden behind another
would show. The statement is proved equivalent to that fact (`journalCommandsTakeEffect_iff`), and is not settled.
-/
namespace Sys2Proof.Machine

section
variable {s : State} {o k : Nat}

/-! ### Admission and export -/

/-- The oldest append is admitted while the bucket holds a token. -/
theorem execStrandAdmit_token {a : App} {rest : List App} {n : Nat} (hq : (s.strand k).queue = a :: rest)
    (hn : n = (s.clk.ns - (s.strand k).tokT) / 1000) (htok : 1 ≤ (s.strand k).tokens + n) : execStrandAdmit k s =
      .next ((((s.setStrand k { s.strand k with queue := rest, reserved := (s.strand k).reserved - 1,
                                                tokens := Min.min 64 ((s.strand k).tokens + n) - 1,
                                                tokT := (s.strand k).tokT + 1000 * n }).chainEntry k a).commitFollow a.vid).refillStrand k) := by
  subst hn
  unfold execStrandAdmit
  simp only [hq]
  exact congrArg done (if_neg (by omega))

/-- The export of the entry `b` with producer index `p`, before its strand or seal is told. -/
def State.exportPut (s : State) (o r p : Nat) (b : List Byte) : State :=
  (((s.setBytes (spHost + s.rd64 (jnX o r 0) + 256 * (p % 2 ^ s.fld (jnX o r 8) 4 0)) b).wrn (jnX o r 12) (p + 1)).jnBump o 4).irq (jnPage o) 0

theorem execJournalExport_room {r p : Nat} {b : List Byte} (hb : s.nextExport o r = some b) (hp : p = (s.rd (jnX o r 12)).toNat)
    (hroom : (p + 2 ^ 32 - (s.rd (jnX o r 16)).toNat) % 2 ^ 32 < 2 ^ s.fld (jnX o r 8) 4 0) (hen : s.fld (jnReg o 0x100) 1 1 = 1)
    (hbm : s.busMaster = true) : execJournalExport o r s = .next (let u := s.exportPut o r p b
      if r < 4 then
        (u.setStrand (4 * o + r) { u.strand (4 * o + r) with exported := (u.strand (4 * o + r)).exported + 1 }).ringLeave (4 * o + r)
      else u.setSeal o { u.sealOf o with out := (u.sealOf o).out.drop 1 }) := by
  subst hp
  unfold execJournalExport
  simp only [hb, hen, hbm, Nat.not_le.2 hroom, one_ne_zero, Bool.not_true, Bool.false_eq_true, or_self, if_false]
  rfl

/-- With the ring empty, no consumer index but the present one is within what was produced. -/
theorem xcons_beyond {v c : Reg} (hv : v ≠ c) : ¬(v.toNat + 2 ^ 32 - c.toNat) % 2 ^ 32 ≤ (c.toNat + 2 ^ 32 - c.toNat) % 2 ^ 32 := by
  have hne : v.toNat ≠ c.toNat := fun h => hv (BitVec.eq_of_toNat_eq h)
  have hlt := v.isLt
  have hlt' := c.isLt
  omega

/-! ### Seals -/

theorem sealOf_sealStarted {x : Seal} (hx : x ≠ {}) :
    ((List.range 4).foldl (fun s k => s.setStrand (4 * o + k) { s.strand (4 * o + k) with admitted := 0 })
      ((s.setSeal o x).setFld (jnReg o 0x308) 16 16 1)).sealOf o = x := by
  have seals := seals_setStrands (fun k s => { s.strand (4 * o + k) with admitted := 0 }) (4 * o + ·) (List.range 4)
    ((s.setSeal o x).setFld (jnReg o 0x308) 16 16 1)
  rw [State.sealOf, seals]
  exact sealOf_setSeal hx

/-- The seal that a trigger starts, over the heads of the ounce's strands. -/
theorem sealOf_sealTrigger (hst : s.isStandby = false) (hcur : (s.sealOf o).cur = none) :
    let head := sealHead o (b2n (s.pkInv o)) ((s.sealOf o).no + 1) s.clk.tim 0 s.roleGen
      ([0, 1, 2, 3].map fun i => (s.strand (4 * o + i)).seq) (s.sealOf o).prev
    (s.sealTrigger o).sealOf o =
      { s.sealOf o with cur := some (head, sha384 (head ++ [0, 1, 2, 3].flatMap fun i => s.headChain (4 * o + i))),
                        retried := false, waiting := false, asked := false } := by
  unfold State.sealTrigger
  simp only [hst, hcur, Option.isSome_none, Bool.false_eq_true, if_false]
  exact sealOf_sealStarted fun h => by simpa using congrArg Seal.cur h

theorem sealTrigger_waits (hst : s.isStandby = false) (hcur : (s.sealOf o).cur ≠ none) :
    s.sealTrigger o = s.setSeal o { s.sealOf o with waiting := true } := by
  unfold State.sealTrigger
  simp only [hst, Option.isSome_iff_ne_none.2 hcur, Bool.false_eq_true, if_false, if_true]

/-- The first return of a seal: a record if it is signed and no fault is told, else it is asked for once more. -/
theorem execSealComplete_first {c : List Byte × List Byte} (fault : Bool) (hcur : (s.sealOf o).cur = some c)
    (hasked : (s.sealOf o).asked = true) (hretried : (s.sealOf o).retried = false) (hiso : s.isoOunce o = false) :
    execSealComplete o fault s = .next (if (s.sealSign o c.2).1 = 0 ∧ fault = false
      then (s.sealSign o c.2).2.2.sealFinish o 0 c.1 c.2 (s.sealSign o c.2).2.1
      else (s.sealSign o c.2).2.2.setSeal o { s.sealOf o with retried := true, asked := false }) := by
  unfold execSealComplete
  simp only [hcur, hasked, hiso, hretried, Bool.not_true, Bool.false_and, Bool.false_eq_true, if_false, Bool.not_false, if_true]
  refine congrArg done ?_
  cases fault with
  | false => simp only [Bool.false_eq_true, and_false, if_false, and_true]
  | true => by_cases h : (s.sealSign o c.2).1 = 0 <;> simp [h]

/-! ### Strands read after a write -/

theorem strand_setStrand_new {x : Strand} (hx : x ≠ {}) : (s.setStrand k x).strand k = x := tget_tput_new _ _ _ _ hx

theorem strand_setStrand_ne {j : Nat} {x : Strand} (hj : j ≠ k) : (s.setStrand k x).strand j = s.strand j := tget_tput_ne _ _ _ _ _ hj

theorem KeepsJournal.strand {t : State} (h : KeepsJournal s t) (j : Nat) : t.strand j = s.strand j :=
  congrArg (fun jn : Journal => cget ({} : Strand) jn.strands j) h

/-! ### GENESIS -/

/-- A strand as GENESIS leaves it, with its genesis value. -/
def Strand.reset (x : Strand) (chain : List Byte) : Strand :=
  { x with seq := 0, chain := chain, left := 0, exported := 0, uncommitted := [], verified := 0, toVerify := [], heads := [] }

theorem reset_eq_default {x : Strand} {chain : List Byte} (h : x.reset chain = {}) : chain = List.replicate 48 0 := congrArg Strand.chain h

/-- GENESIS resets the strands `ks`. -/
def State.resetStrands (s : State) (id : Nat) (ks : List Nat) : State :=
  ks.foldl (fun s k => s.setStrand k ((s.strand k).reset (genesisChain id k))) s

theorem resetStrands_cons (id k : Nat) (ks : List Nat) :
    s.resetStrands id (k :: ks) = (s.setStrand k ((s.strand k).reset (genesisChain id k))).resetStrands id ks := rfl

/-- GENESIS resets the seals of the ounces `os`. -/
def State.resetSeals (s : State) (os : List Nat) : State :=
  os.foldl (fun s i => (s.setSeal i { s.sealOf i with no := 0, prev := List.replicate 48 0 }).wr64 (jnReg i 0x300) 0) s

/-- What GENESIS leaves before it writes its markers. -/
def State.genesisReset (s : State) : State := (s.resetStrands (s.rd64 (jnReg 0 0x110)) (List.range 16)).resetSeals (List.range 4)

theorem strand_resetSeals (os : List Nat) (k : Nat) : (s.resetSeals os).strand k = s.strand k := by
  induction os generalizing s with
  | nil => rfl
  | cons i os ih => exact ih

theorem mem_resetSeals (os : List Nat) : (s.resetSeals os).mem = s.mem := by
  induction os generalizing s with
  | nil => rfl
  | cons i os ih => exact ih

theorem roleGen_resetSeals (os : List Nat) : (s.resetSeals os).roleGen = s.roleGen := by
  induction os generalizing s with
  | nil => rfl
  | cons i os ih =>
    have other : twReg 0x110 ≠ jnReg i 0x300 ∧ twReg 0x110 ≠ jnReg i 0x300 + 4 := by
      unfold twReg jnReg ra tTW tJN
      omega
    exact ih.trans (congrArg BitVec.toNat (rd_wr64_ne _ _ _ _ other.1 other.2))

theorem mem_resetStrands (id : Nat) (ks : List Nat) : (s.resetStrands id ks).mem = s.mem := by
  induction ks generalizing s with
  | nil => rfl
  | cons k ks ih => exact ih

theorem roleGen_resetStrands (id : Nat) (ks : List Nat) : (s.resetStrands id ks).roleGen = s.roleGen := by
  induction ks generalizing s with
  | nil => rfl
  | cons k ks ih => exact ih

theorem mem_genesisReset : s.genesisReset.mem = s.mem := (mem_resetSeals _).trans (mem_resetStrands _ _)

theorem roleGen_genesisReset : s.genesisReset.roleGen = s.roleGen := (roleGen_resetSeals _).trans (roleGen_resetStrands _ _)

theorem execGenesis_eq : execGenesis o s = done (if (List.range 4).any s.vpOn ∨ 2 ≤ s.twState then s.status (jnReg o 0x104) 0x608
    else (s.genesisReset.markers 1 s.genesisReset.roleGen).took (jnPage o)) := rfl

theorem execGenesis_markers (hvp : ∀ i < 4, s.vpOn i = false) (htw : s.twState ≤ 1) :
    execGenesis o s = .next ((s.genesisReset.markers 1 s.roleGen).took (jnPage o)) := by
  have off : (List.range 4).any s.vpOn = false := List.any_eq_false.2 fun i hi => by simp [hvp i (List.mem_range.1 hi)]
  have free : ¬((List.range 4).any s.vpOn = true ∨ 2 ≤ s.twState) := by simp [off]; omega
  rw [execGenesis_eq, if_neg free, roleGen_genesisReset]
  rfl

/-- A strand as GENESIS has to leave it. -/
structure Strand.IsReset (x : Strand) (id k : Nat) : Prop where
  seq : x.seq = 0
  uncommitted : x.uncommitted = []
  chain : x.chain = genesisChain id k

/-- A reset strand is listed, so it shows, unless its genesis value is the chain of an unlisted strand. -/
theorem isReset_resetStrands {id : Nat} {ks : List Nat} (hne : ∀ k ∈ ks, genesisChain id k ≠ List.replicate 48 0) {i : Nat}
    (hi : i ∈ ks ∨ (s.strand i).IsReset id i) : ((s.resetStrands id ks).strand i).IsReset id i := by
  induction ks generalizing s with
  | nil => exact hi.resolve_left List.not_mem_nil
  | cons k ks ih =>
    rw [resetStrands_cons]
    refine ih (fun j hj => hne j (List.mem_cons_of_mem _ hj)) ?_
    by_cases hik : i = k
    · subst hik
      have listed : (s.strand i).reset (genesisChain id i) ≠ {} := fun h => hne i List.mem_cons_self (reset_eq_default h)
      rw [strand_setStrand_new listed]
      exact .inr ⟨rfl, rfl, rfl⟩
    · rw [strand_setStrand_ne hik]
      exact hi.imp_left fun h => (List.mem_cons.1 h).resolve_left hik

/-! ### A strand that GENESIS does not reach -/

section
variable {α : Type} {d : Nat → α}

theorem tget_append_absent {k : Nat} {t : Tbl α} (h : ∀ e ∈ t, e.1 ≠ k) (rest : Tbl α) : tget d (t ++ rest) k = tget d rest k := by
  induction t with
  | nil => rfl
  | cons e t ih =>
    simp only [List.cons_append, tget, if_neg (h e List.mem_cons_self)]
    exact ih fun e he => h e (List.mem_cons_of_mem _ he)

variable [DecidableEq α]

/-- A write below key `m` does not reach what is listed from `m` on. -/
theorem tput_append_high {j m : Nat} {v w : α} (h : j < m) (t rest : Tbl α) :
    tput d v j (t ++ (m, w) :: rest) = tput d v j t ++ (m, w) :: rest := by
  induction t with
  | nil =>
    simp only [List.nil_append, tput, if_pos h]
    split_ifs <;> rfl
  | cons e t ih =>
    simp only [List.cons_append, tput, ih]
    split_ifs <;> rfl

theorem tput_default_absent {k : Nat} {t : Tbl α} (h : ∀ e ∈ t, e.1 ≠ k) : tput d (d k) k t = t := by
  induction t with
  | nil => simp [tput]
  | cons e t ih =>
    have other : k ≠ e.1 := (h e List.mem_cons_self).symm
    simp only [tput, if_neg other, if_true, ih fun e he => h e (List.mem_cons_of_mem _ he)]
    split_ifs <;> rfl

end

/-- Strand `k` is listed only behind a key no strand has, and holds one entry. -/
structure HiddenStrand (s : State) (k : Nat) : Prop where
  behind : ∃ t : Tbl Strand, s.jn.strands = t ++ [(16, ({} : Strand)), (k, { seq := 1 })] ∧ ∀ e ∈ t, e.1 ≠ k

theorem HiddenStrand.strand (h : HiddenStrand s k) (hk : k < 16) : s.strand k = { seq := 1 } := by
  obtain ⟨t, ht, absent⟩ := h.behind
  have other : ¬16 = k := by omega
  rw [State.strand, ht]
  exact (tget_append_absent absent _).trans (by simp only [tget, if_neg other, if_true])

theorem HiddenStrand.setStrand_ne {j : Nat} (h : HiddenStrand s k) (hj : j < 16) (hjk : j ≠ k) (x : Strand) : HiddenStrand (s.setStrand j x) k := by
  obtain ⟨t, ht, absent⟩ := h.behind
  refine ⟨cput {} x j t, ?_, absent_tput absent hjk⟩
  exact (congrArg (cput {} x j) ht).trans (tput_append_high hj t _)

theorem HiddenStrand.setStrand_default (h : HiddenStrand s k) (hk : k < 16) : HiddenStrand (s.setStrand k {}) k := by
  obtain ⟨t, ht, absent⟩ := h.behind
  refine ⟨t, ?_, absent⟩
  refine (congrArg (cput {} {} k) ht).trans ((tput_append_high hk t _).trans ?_)
  exact congrArg (· ++ _) (tput_default_absent absent)

theorem HiddenStrand.resetStrands {id : Nat} {ks : List Nat} (h : HiddenStrand s k) (hk : k < 16) (hks : ∀ j ∈ ks, j < 16)
    (hzero : genesisChain id k = List.replicate 48 0) : HiddenStrand (s.resetStrands id ks) k := by
  induction ks generalizing s with
  | nil => exact h
  | cons j ks ih =>
    rw [resetStrands_cons]
    refine ih ?_ fun i hi => hks i (List.mem_cons_of_mem _ hi)
    by_cases hjk : j = k
    · subst hjk
      have unlisted : (s.strand j).reset (genesisChain id j) = {} := by
        rw [h.strand hk, Strand.reset, hzero]
      rw [unlisted]
      exact h.setStrand_default hk
    · exact h.setStrand_ne (hks j List.mem_cons_self) hjk _

/-! ### The SEQ that a marker takes -/

/-- A write of a strand with entries shows at every strand. -/
theorem seq_setStrand {j : Nat} {x : Strand} (hx : x.seq ≠ 0) : ((s.setStrand k x).strand j).seq = if j = k then x.seq else (s.strand j).seq := by
  split
  · next hj =>
    subst hj
    rw [strand_setStrand_new fun h => hx (congrArg Strand.seq h)]
  · next hj => rw [strand_setStrand_ne hj]

theorem seq_ringLeave {j : Nat} (hk : (s.strand k).seq ≠ 0) : ((s.ringLeave k).strand j).seq = (s.strand j).seq := by
  unfold State.ringLeave
  extract_lets x b1 b2
  refine (seq_setStrand (x := { x with left := max x.left (min b1 b2) }) hk).trans ?_
  split
  · next hj => rw [hj]
  · rfl

theorem KeepsJournal.commitVerdict (v : Option Nat) : KeepsJournal s (s.commitVerdict v) := by
  unfold State.commitVerdict
  split
  · exact rfl
  · exact rfl

/-- Every SEQ of `t` is that of `s`, but for strand `k`'s, which is the next. -/
structure AppendedTo (s t : State) (k : Nat) : Prop where
  seq : ∀ j, (t.strand j).seq = if j = k then (s.strand k).seq + 1 else (s.strand j).seq

theorem AppendedTo.same {t u : State} (h : AppendedTo s t k) (hu : u.jn.strands = t.jn.strands) : AppendedTo s u k :=
  ⟨fun j => (congrArg (fun l : Tbl Strand => (cget ({} : Strand) l j).seq) hu).trans (h.seq j)⟩

theorem AppendedTo.ringLeave {t : State} (h : AppendedTo s t k) : AppendedTo s (t.ringLeave k) k := by
  have listed : (t.strand k).seq ≠ 0 := by
    rw [h.seq, if_pos rfl]
    omega
  exact ⟨fun j => (seq_ringLeave listed).trans (h.seq j)⟩

theorem AppendedTo.ite {t u : State} {p : Prop} [Decidable p] (ht : AppendedTo s t k) (hu : AppendedTo s u k) :
    AppendedTo s (if p then t else u) k := by
  split
  · exact ht
  · exact hu

theorem appendedTo_chainEntry (a : App) : AppendedTo s (s.chainEntry k a) k := by
  unfold State.chainEntry
  extract_lets x o mode seq flags body chain entry was open_ y s1 s2 s3 s4 _ s5 _ s6
  have hy : y.seq = (s.strand k).seq + 1 := rfl
  have hs1 : ∀ j, s1.strand j = s.strand j := KeepsJournal.strand (State.setBytes_jn ..)
  have h1 : AppendedTo s (s1.setStrand k y) k := by
    refine ⟨fun j => ?_⟩
    rw [seq_setStrand (by omega), hy, hs1]
  have h2 : AppendedTo s s2 k := h1.same (congrArg Journal.strands (State.bump_jn ..))
  have h3 : AppendedTo s s3 k := .ite (h2.same (congrArg Journal.strands (State.irq_jn ..))) h2
  have h4 : AppendedTo s s4 k := .ite (h3.same (congrArg Journal.strands (State.bump_jn ..))) h3
  have h5 : AppendedTo s s5 k := .ite (h4.same rfl) h4
  have h6 : AppendedTo s s6 k := by
    unfold s6
    split
    · exact h5
    · exact h5.same rfl
  exact .ite h6 (h6.same (congrArg Journal.strands (KeepsJournal.commitVerdict _))).ringLeave

/-- The markers of distinct strands `ks`. -/
theorem seq_markersOf (f : State → Nat → App) {ks : List Nat} (hks : ks.Nodup) (k : Nat) :
    ((ks.foldl (fun s k => s.chainEntry k (f s k)) s).strand k).seq = (s.strand k).seq + if k ∈ ks then 1 else 0 := by
  induction ks generalizing s with
  | nil => rfl
  | cons j ks ih =>
    obtain ⟨hj, hks⟩ := List.nodup_cons.1 hks
    refine (ih hks).trans ?_
    rw [(appendedTo_chainEntry _).seq]
    by_cases hkj : k = j
    · subst hkj
      simp [hj]
    · simp [hkj]

theorem seq_markers (event gen : Nat) (hk : k < 16) : ((s.markers event gen).strand k).seq = (s.strand k).seq + 1 := by
  refine (seq_markersOf _ List.nodup_range k).trans ?_
  rw [if_pos (List.mem_range.2 hk)]

/-- A device under the JN_ID `id` whose strand `k` is listed behind a key no strand has. -/
def hidingState (id k : Nat) : State :=
  { regs := [(jnReg 0 0x110, BitVec.ofNat 32 id), (jnReg 0 0x110 + 4, BitVec.ofNat 32 (id / 2 ^ 32))],
    jn := { strands := [(16, ({} : Strand)), (k, { seq := 1 })] } }

theorem rd64_lt (s : State) (a : Nat) : s.rd64 a < 2 ^ 64 := by
  have lo := (s.rd a).isLt
  have hi := (s.rd (a + 4)).isLt
  rw [State.rd64]
  omega

theorem rd64_hiding {id : Nat} (hid : id < 2 ^ 64) (k : Nat) : (hidingState id k).rd64 (jnReg 0 0x110) = id := by
  have lo : (hidingState id k).rd (jnReg 0 0x110) = BitVec.ofNat 32 id := rfl
  have hi : (hidingState id k).rd (jnReg 0 0x110 + 4) = BitVec.ofNat 32 (id / 2 ^ 32) := rfl
  rw [State.rd64, lo, hi, BitVec.toNat_ofNat, BitVec.toNat_ofNat]
  omega

theorem hiddenStrand_hiding (id k : Nat) : HiddenStrand (hidingState id k) k := ⟨[], rfl, fun _ he => absurd he List.not_mem_nil⟩

theorem vpOn_hiding (id k : Nat) : ∀ i < 4, (hidingState id k).vpOn i = false := by
  intro i hi
  have read : (hidingState id k).rd (ozReg i 0x800) = resetWord (ozReg i 0x800) := by
    interval_cases i <;> rfl
  rw [State.vpOn, State.fld, read]
  interval_cases i <;> decide +kernel

theorem twState_hiding (id k : Nat) : (hidingState id k).twState ≤ 1 := by
  have h : (hidingState id k).twState = 0 := rfl
  omega

/-- GENESIS as its clause in JournalCommandsTakeEffect has it. -/
def GenesisTakesEffect (s : State) (o : Nat) : Prop :=
  (∀ i < 4, s.vpOn i = false) → s.twState ≤ 1 → ∃ u : State, exec (.genesis o) s = .next ((u.markers 1 s.roleGen).took (jnPage o)) ∧
    u.mem = s.mem ∧ ∀ i < 16, (u.strand i).seq = 0 ∧ (u.strand i).uncommitted = [] ∧
      (u.strand i).chain = genesisChain (s.rd64 (jnReg 0 0x110)) i

theorem genesisTakesEffect (hne : ∀ k < 16, genesisChain (s.rd64 (jnReg 0 0x110)) k ≠ List.replicate 48 0) (o : Nat) :
    GenesisTakesEffect s o := by
  refine fun hvp htw => ⟨s.genesisReset, execGenesis_markers hvp htw, mem_genesisReset, fun i hi => ?_⟩
  have read : s.genesisReset.strand i = _ := strand_resetSeals _ i
  rw [read]
  obtain ⟨hseq, hun, hchain⟩ := isReset_resetStrands (s := s) (fun k hk => hne k (List.mem_range.1 hk)) (.inl (List.mem_range.2 hi))
  exact ⟨hseq, hun, hchain⟩

theorem not_genesisTakesEffect {id : Nat} (hid : id < 2 ^ 64) (hk : k < 16) (hzero : genesisChain id k = List.replicate 48 0) (o : Nat) :
    ¬GenesisTakesEffect (hidingState id k) o := by
  intro h
  obtain ⟨u, hu, -, hreset⟩ := h (vpOn_hiding id k) (twState_hiding id k)
  have hidden : (hidingState id k).genesisReset.strand k = { seq := 1 } := by
    rw [State.genesisReset, strand_resetSeals, rd64_hiding hid]
    exact ((hiddenStrand_hiding id k).resetStrands hk (fun _ => List.mem_range.1) hzero).strand hk
  have same : ((hidingState id k).genesisReset.markers 1 (hidingState id k).roleGen).took (jnPage o) =
      (u.markers 1 (hidingState id k).roleGen).took (jnPage o) :=
    Host.Outcome.next.inj ((execGenesis_markers (vpOn_hiding id k) (twState_hiding id k)).symm.trans hu)
  have seqs := congrArg (fun t => (t.strand k).seq) same
  simp only [KeepsJournal.strand (State.took_jn ..), seq_markers _ _ hk, hidden, (hreset k hk).1] at seqs
  omega

end

/-- Each command in the branch its clause names, where no genesis value is the chain of an unlisted strand. -/
theorem journalCommandsTakeEffect_of (hne : ∀ id < 2 ^ 64, ∀ k < 16, genesisChain id k ≠ List.replicate 48 0) :
    Obligations.JournalCommandsTakeEffect := by
  intro s k o r v
  dsimp only
  refine ⟨fun a rest n hq hn htok => execStrandAdmit_token hq hn htok, fun b p u hr hb hp hroom hen hbm hu => ?_,
    fun b p u hr hb hp hroom hen hbm hu => ?_, fun hle => congrArg done (if_pos hle), fun hempty hv => congrArg done (if_neg ?_),
    fun hen hst hcur => ⟨s.sealTrigger o, congrArg done (if_pos hen), congrArg done (if_pos hen), ?_⟩,
    fun hen hst hcur => congrArg done ((if_pos hen).trans (sealTrigger_waits hst hcur)),
    fun hcur hlock hable => congrArg done (if_pos ⟨Option.isSome_iff_ne_none.2 hcur, by simp [hlock], Or.inl hable⟩),
    fun c hcur hasked hretried hiso => ?_, fun c hcur hasked hiso hretried => ?_,
    genesisTakesEffect (hne _ (rd64_lt s _)) o⟩
  · subst hu
    exact (execJournalExport_room hb hp hroom hen hbm).trans (congrArg done (if_pos hr))
  · subst hu
    have next : s.nextExport o r = some b := (if_neg (Nat.not_lt.2 hr)).trans hb
    exact (execJournalExport_room next hp hroom hen hbm).trans (congrArg done (if_neg (Nat.not_lt.2 hr)))
  · rw [hempty]
    exact xcons_beyond hv
  · rw [sealOf_sealTrigger hst hcur]
    exact ⟨rfl, rfl, rfl⟩
  · exact (execSealComplete_first true hcur hasked hretried hiso).trans (congrArg done (if_neg (by simp)))
  · refine (execSealComplete_first false hcur hasked hretried hiso).trans (congrArg done ?_)
    simp only [and_true]

/-- The journal's statement (O24) holds exactly when no strand's genesis value is 48 zeros under any JN_ID: a question about SHA-384 on
2^68 messages. -/
theorem journalCommandsTakeEffect_iff :
    Obligations.JournalCommandsTakeEffect ↔ ∀ id < 2 ^ 64, ∀ k < 16, genesisChain id k ≠ List.replicate 48 0 := by
  refine ⟨fun h id hid k hk hzero => ?_, journalCommandsTakeEffect_of⟩
  obtain ⟨-, -, -, -, -, -, -, -, -, -, genesis⟩ := h (hidingState id k) 0 0 0 0
  exact not_genesisTakesEffect hid hk hzero 0 genesis

end Sys2Proof.Machine
end
